-- ==== Sys2Proof/Word.lean ====
section
/-! DEFINITION. The byte, in which the quay line and the Local Port speak (Chapter 11), and the timers,
in which every interval of the part is kept (section 4.3). -/

namespace Sys2Proof

/-- One byte of a quay frame or of a Local Port record. -/
abbrev Byte := BitVec 8

/-- A millisecond timer (section 4.3): `none` while stopped, else the value of the internal millisecond
count at which it reaches its length. -/
abbrev Timer := Option Nat

end Sys2Proof
end

