-- ==== Sys2Proof/Config.lean ====
section
/-! DEFINITION. The fixed lengths and capacities the manual names, and the one free value it leaves
open: the figure sent for a number that does not fit its field. What one station's start block fixes
is no constant of this file: it is state (`State.cfg`). -/

namespace Sys2Proof.Config

/-- Load status stale and fault timers, in ms (R23). -/
def staleMs : Nat := 200
def faultMs : Nat := 2000
/-- Still timer of the zero run (R35). -/
def stillMs : Nat := 10000
/-- Greatest net load, kg/m (R22), and greatest excess of a zero run sample (R36). -/
def maxLoad : Nat := 1500
def maxExcess : Nat := 20
/-- Belt pulses to a cell (R28). -/
def pulsesPerCell : Nat := 16
/-- Silence and break timers of a port (R45), status and spacing timers (R52). -/
def silenceMs : Nat := 600
def breakMs : Nat := 200
def statusMs : Nat := 200
def spacingMs : Nat := 50
/-- Frames of a pass-through queue (R50); frames a transmitter passes over a waiting own frame (R56);
frames that restore a port, and own frames of its repeat hold (R59). -/
def passQueueSize : Nat := 4
def passOverMax : Nat := 4
def restoreFrames : Nat := 3
/-- Greatest value of a 16-bit count that holds there (R45, R172). -/
def countMax : Nat := 65535
/-- Stale timer of a peer entry (R67). -/
def peerStaleMs : Nat := 600
/-- Greatest rail position, jump limit of a position sample (R83), stale margin (section 5.1). -/
def railMax : Int := 1000000
def jumpMm : Nat := 300
def staleMargin : Int := 5000
/-- Encoder and settle timers, and what the brake fail timer adds to the release delay (R81). -/
def encoderMs : Nat := 100
def settleMs : Nat := 1000
def brakeFailExtraMs : Nat := 1000
/-- Claim window (R114), positioning, belt start and belt retry timers (R124). -/
def claimMs : Nat := 400
def positioningMs : Nat := 120000
def beltStartMs : Nat := 10000
def beltRetryMs : Nat := 10000
/-- Failures that withdraw a pass (R136). -/
def maxFailures : Nat := 3
/-- Dust history, sample timer, and the runs of R147, R150 and R152. -/
def historySize : Nat := 32
def dustMs : Nat := 1000
def dustMax : Nat := 4095
def clearBelow : Nat := 4
def goodRunLength : Nat := 8
def runMax : Nat := 255
/-- Bill lines of the pool (R162) and lines of one READ BILL reply (R169). -/
def poolLines : Nat := 160
def linesPerRead : Nat := 8
/-- Notice queue (R181), age timer (R183), data bytes of a reply page (R185). -/
def noticeSlots : Nat := 32
def ageMs : Nat := 500
def pageBytes : Nat := 384

/-- FREE VALUE (assumption 3). The manual gives each field its width and its form (R184) and says
what is sent when a kilogram figure is too large. For any other number that does not fit the field (a
negative edge of the permitted range in an unsigned field) it states no result: this constant, which
has no body, stands for what is sent in a field of `width` bytes for `value`. -/
opaque unfit (width : Nat) (value : Int) : Nat

end Sys2Proof.Config
end

