-- ==== Sys2Proof/Syntax.lean ====
section
/-! DEFINITION. The commands of the 2400: one constructor for each row of spec/opcode_table.json.

A row is one indivisible step of the part (95_what_each_step_holds.md): a transaction on the Local Port,
the TAKE of the request that waits in the mailbox, a sample, pulse or input change on a field line, a
frame arriving or sent on the quay line, or the expiry of a timer. The take of a request has no operand:
its fields are those of the record that POST placed in the mailbox (assumption 5). -/

namespace Sys2Proof

/-- A side of the rail, the line port that faces it, and a direction of travel: UP is upstream. -/
inductive Side where
  | up
  | down
  deriving DecidableEq, Repr

/-- A channel of the Dust Monitor (section 8). -/
inductive Channel where
  | spout
  | gallery
  deriving DecidableEq, Repr

/-- The part of a select period that a transaction command stands for (R173, R187). `whole` is a
transaction with nothing between its status byte and the end of its select period. A transaction that
other events interleave with is given as `status`, and later `finish` or, cut short, `release`. -/
inductive SpiPhase where
  | whole
  | status
  | finish
  | release
  deriving DecidableEq, Repr

/-- The commands, in the order of spec/opcode_table.json. -/
inductive Instr where
  /-- POWER_ON_RESET (R172). -/
  | powerOnReset
  /-- POST (R174) of a request record: the request kind and its fields, as bytes. -/
  | post (phase : SpiPhase) (record : List Byte)
  /-- WITHDRAW (R175). -/
  | withdraw (phase : SpiPhase)
  /-- FETCH_REPLY (R176). -/
  | fetchReply (phase : SpiPhase)
  /-- FETCH_NOTICE (R181). -/
  | fetchNotice (phase : SpiPhase)
  /-- PORT_STATE (R173). -/
  | portState
  /-- UNKNOWN_TRANSACTION (R173): a first byte that names no transaction. -/
  | unknownTransaction (first : Byte)
  /-- START_BLOCK (R178): the take of the posted START BLOCK; so for every request row below. -/
  | startBlock
  /-- RESTART (R180). -/
  | restart
  /-- SET_MASKS (R182). -/
  | setMasks
  /-- BYPASS_ON (R179). -/
  | bypassOn
  /-- BYPASS_OFF (R64). -/
  | bypassOff
  /-- OPEN_SESSION (R5). -/
  | openSession
  /-- HOLD_ENTRY (R8). -/
  | holdEntry
  /-- SET_HATCH (R9). -/
  | setHatch
  /-- PERMIT (R10). -/
  | permit
  /-- SHIFT_VESSEL (R11). -/
  | shiftVessel
  /-- SET_DRAFT_LIMIT (R12). -/
  | setDraftLimit
  /-- CLOSE_SESSION (R13). -/
  | closeSession
  /-- MOVE (R95). -/
  | move
  /-- STOP_TRAVEL (R96). -/
  | stopTravel
  /-- FAULT_CLEAR (R98). -/
  | faultClear
  /-- POUR (R114). -/
  | pour
  /-- END_POUR (R141). -/
  | endPour
  /-- ZERO_SCALE (R34). -/
  | zeroScale
  /-- DUST_ACKNOWLEDGE (R153). -/
  | dustAcknowledge
  /-- DISCARD_BILL (R170). -/
  | discardBill
  /-- READ_STATION (R177). -/
  | readStation
  /-- READ_PEERS (R79). -/
  | readPeers
  /-- READ_HOLDS (R19). -/
  | readHolds
  /-- READ_BILL (R169). -/
  | readBill
  /-- UNKNOWN_REQUEST (R177). -/
  | unknownRequest
  /-- LOAD_SAMPLE (R21): a raw count 0..65535 on the scale line. -/
  | loadSample (raw : BitVec 16)
  /-- BELT_PULSE (R27). -/
  | beltPulse
  /-- POSITION_SAMPLE (R83): a whole number of millimetres 0..1,048,575 on the encoder line. -/
  | positionSample (value : BitVec 20)
  /-- DUST_SAMPLE (R148): a value field 0..65535 and a sensor-fault flag on a dust line. -/
  | dustSample (channel : Channel) (value : BitVec 16) (faultFlag : Bool)
  /-- BRAKE_RELEASED_CHANGE (R94): the brake-released input becomes active or inactive. -/
  | brakeReleasedChange (active : Bool)
  /-- GATE_OPEN_LIMIT (R129): the gate open limit becomes active. -/
  | gateOpenLimit
  /-- GATE_CLOSED_LIMIT (R129): the gate closed limit becomes active. -/
  | gateClosedLimit
  /-- BELT_RUNNING_CHANGE (R131): the belt-running input becomes active or inactive. -/
  | beltRunningChange (active : Bool)
  /-- STATUS_FRAME (R69): a frame of kind 01h on a port. `rest` is the frame after its kind byte: origin,
  hop count, payload, check word (section 11.2). -/
  | statusFrame (port : Side) (rest : List Byte)
  /-- CLAIM_FRAME (R76): a frame of kind 02h. -/
  | claimFrame (port : Side) (rest : List Byte)
  /-- DUST_FRAME (R77): a frame of kind 03h. -/
  | dustFrame (port : Side) (rest : List Byte)
  /-- BREAK_FRAME (R72): a frame of kind 04h. -/
  | breakFrame (port : Side) (rest : List Byte)
  /-- FRAME_SENT (R57): the port's transmitter has sent its frame. -/
  | frameSent (port : Side)
  /-- LOAD_STALE_TIMER_EXPIRY (R23). -/
  | loadStaleTimerExpiry
  /-- LOAD_FAULT_TIMER_EXPIRY (R23). -/
  | loadFaultTimerExpiry
  /-- STILL_TIMER_EXPIRY (R38). -/
  | stillTimerExpiry
  /-- SILENCE_TIMER_EXPIRY (R58). -/
  | silenceTimerExpiry (port : Side)
  /-- BREAK_TIMER_EXPIRY (R60). -/
  | breakTimerExpiry (port : Side)
  /-- STATUS_TIMER_EXPIRY (R52). -/
  | statusTimerExpiry
  /-- SPACING_TIMER_EXPIRY (R52). -/
  | spacingTimerExpiry
  /-- PEER_STALE_TIMER_EXPIRY (R71) of the entry of a station. -/
  | peerStaleTimerExpiry (station : Nat)
  /-- ENCODER_TIMER_EXPIRY (R84). -/
  | encoderTimerExpiry
  /-- RELEASE_TIMER_EXPIRY (R89). -/
  | releaseTimerExpiry
  /-- BRAKE_FAIL_TIMER_EXPIRY (R89). -/
  | brakeFailTimerExpiry
  /-- SETTLE_TIMER_EXPIRY (R92). -/
  | settleTimerExpiry
  /-- CLAIM_WINDOW_EXPIRY (R116). -/
  | claimWindowExpiry
  /-- POSITIONING_TIMER_EXPIRY (R126). -/
  | positioningTimerExpiry
  /-- BELT_START_TIMER_EXPIRY (R131). -/
  | beltStartTimerExpiry
  /-- BELT_RETRY_TIMER_EXPIRY (R136). -/
  | beltRetryTimerExpiry
  /-- GATE_TIMER_EXPIRY (R129). -/
  | gateTimerExpiry
  /-- DUST_SAMPLE_TIMER_EXPIRY (R151). -/
  | dustSampleTimerExpiry (channel : Channel)
  /-- AGE_TIMER_EXPIRY (R183). -/
  | ageTimerExpiry
  /-- NOT_VALID_FRAME (R47): a frame that fails the validity test of R46 arrives on a port. -/
  | notValidFrame (port : Side)
  deriving DecidableEq, Repr

end Sys2Proof
end

