-- ==== Sys2Proof/WellFormed.lean ====
section
/-! DEFINITION. When a command is one the part can be given: the operand ranges of the manual that the
types of the operands do not already carry. -/

namespace Sys2Proof

/-- The first bytes that name a transaction (section 11.3). -/
def transactionBytes : List Byte := [0x10, 0x11, 0x20, 0x21, 0x30]

/-- A command whose operands lie in the manual's ranges. A request record is announced by a two-byte
length (section 11.3); an unknown transaction is one whose first byte names none (R173); a frame holds at
least its origin, hop count, one payload byte and check word (section 11.2); a peer's number is 1..8 (R67). -/
def Instr.WellFormed : Instr → Bool
  | .post _ record => record.length < 65536
  | .unknownTransaction first => !transactionBytes.contains first
  | .statusFrame _ rest | .claimFrame _ rest | .dustFrame _ rest | .breakFrame _ rest => 5 ≤ rest.length
  | .peerStaleTimerExpiry station => 1 ≤ station && station ≤ 8
  | _ => true

end Sys2Proof
end

