-- ==== Sys2Proof/Decode.lean ====
section
/-! DEFINITION. The command a table word spells. No row of spec/opcode_table.json gives bits ("fields" is
empty in all 65 rows and there is no "fixed"): the 2400 has no instruction words. Every word therefore
spells no command. The byte records the part does decode (request records, quay frames) are decoded in
Machine/Operands.lean. -/

namespace Sys2Proof

/-- The command spelt by `nbits` table bits `w`: none, since no row gives bits. -/
def decodeTableWord (_nbits _w : Nat) : Option Instr := none

end Sys2Proof
end

