-- ==== Sys2Proof/Machine/State.lean ====
section
/-! DEFINITION. The state of one Pelsira 2400, block by block as section 3.1 of 00_scope.md names them,
and `State.reset`, the part after a power-on reset.

Positions and distances that can be subtracted are `Int` mm; masses are `Nat`, in grams unless a name ends
in Kg; times are values of the internal millisecond count. A figure that the manual computes from others
at each use (the own on-belt mass, position-valid, the outputs) is a function, not a field. -/

namespace Sys2Proof.Machine

/-! ## Enumerated values -/

/-- Part modes (section 4.5). -/
inductive PartMode where
  | config
  | run
  | bypass
  deriving DecidableEq, Repr

/-- Berth slots (R1). -/
inductive Slot where
  | a
  | b
  deriving DecidableEq, Repr

/-- Orientation of a vessel (section 1.2). -/
inductive Orientation where
  | bowUp
  | bowDown
  deriving DecidableEq, Repr

/-- Permission of a hold (R7). PERMITTED is `opened`, RESTRICTED is `restricted`, and `withheld` is both
clear: the two flags are never both set (R6). -/
inductive Permission where
  | opened
  | restricted
  | withheld
  deriving DecidableEq, Repr

/-- Fault kinds of a translation (section 1.4). -/
inductive TransFault where
  | noPosition
  | noVessel
  | betweenHolds
  | noPlan
  | hatchClosed
  | notPermitted
  | margin
  deriving DecidableEq, Repr

/-- Result of a translation of the spout tip (section 1.4). -/
inductive Translation where
  | ok (slot : Slot) (hold : Nat)
  | fault (kind : TransFault)
  deriving DecidableEq, Repr

/-- Causes of a spill (R29, R42). -/
inductive SpillCause where
  | unbilled
  | restart
  | fault (kind : TransFault)
  deriving DecidableEq, Repr

/-- Load status (R23). -/
inductive LoadStatus where
  | ok
  | overrange
  | stale
  | fault
  deriving DecidableEq, Repr

/-- Why a zero run failed (R36, R38). -/
inductive ZeroFailure where
  | notEmpty
  | dust
  | noBelt
  | scale
  | noSamples
  deriving DecidableEq, Repr

/-- Port state (R45). -/
inductive PortState where
  | up
  | lost
  deriving DecidableEq, Repr

/-- Freshness of a peer entry (section 4.3). -/
inductive Freshness where
  | fresh
  | stale
  | cut
  | conflict
  deriving DecidableEq, Repr

/-- Travel states (R82). -/
inductive TravelState where
  | parked
  | releasing
  | moving
  | held
  | settling
  | faulted
  deriving DecidableEq, Repr

/-- Fault causes of travel (R81). -/
inductive TravelFault where
  | encoderJump
  | encoderSilent
  | encoderRange
  | brake
  deriving DecidableEq, Repr

/-- Order sources (R88). -/
inductive OrderSource where
  | host
  | position
  | returning
  deriving DecidableEq, Repr

/-- Speed steps (R81). -/
inductive SpeedStep where
  | zero
  | creep
  | slow
  | fast
  deriving DecidableEq, Repr

/-- The term that set an edge of the permitted range (R85), PEER with the peer's station number. -/
inductive EdgeTerm where
  | rail
  | peer (station : Nat)
  | noPeer
  | window
  deriving DecidableEq, Repr

/-- How a stop was marked at its entry to SETTLING (R92). -/
inductive StopMark where
  | target
  | edge
  | reversal
  | stopTravel
  deriving DecidableEq, Repr

/-- Pour states (R125). -/
inductive PourState where
  | idle
  | claiming
  | positioning
  | starting
  | pouring
  | throttled
  | suspended
  | runout
  deriving DecidableEq, Repr

/-- Start phases (R124). -/
inductive StartPhase where
  | beltWait
  | gateWait
  deriving DecidableEq, Repr

/-- Suspend causes (R133). -/
inductive SuspendCause where
  | dustOwn
  | dustPeer
  | map
  | travel
  | scale
  | gate
  | belt
  deriving DecidableEq, Repr

/-- Run-out causes (R124). -/
inductive RunoutCause where
  | target
  | stopped
  | yielded
  deriving DecidableEq, Repr

/-- Belt watch (R131). -/
inductive BeltWatch where
  | off
  | waiting
  | running
  deriving DecidableEq, Repr

/-- Gate command with its rate (R124). -/
inductive GateCommand where
  | closed
  | openFull
  | openReduced
  deriving DecidableEq, Repr

/-- Gate states (R129). -/
inductive GateState where
  | closed
  | opening
  | opened
  | closing
  | fault
  deriving DecidableEq, Repr

/-- Gate fault kinds (R129). -/
inductive GateFault where
  | openFailed
  | closeFailed
  deriving DecidableEq, Repr

/-- Classes of a dust channel (R147). -/
inductive DustClass where
  | clear
  | watch
  | alarm
  | trip
  | held
  | failed
  deriving DecidableEq, Repr

/-- Failure causes of a dust channel (R151). -/
inductive DustFailure where
  | faultFlag
  | silent
  deriving DecidableEq, Repr

/-- Phase of a claim (R101). -/
inductive ClaimPhase where
  | pending
  | active
  deriving DecidableEq, Repr

/-- Closure causes of a bill line (R163). -/
inductive ClosureCause where
  | target
  | stopped
  | yielded
  | withdrawn
  | restart
  deriving DecidableEq, Repr

/-- Withdrawal causes of a claim (R128). -/
inductive WithdrawCause where
  | positionTimeout
  | stopped
  | yielded
  deriving DecidableEq, Repr

/-- Refusal reasons of a request (R177). `stopped` is the one reason that only a CLAIM_RESULT carries
(R117, section 11.4). -/
inductive Reason where
  | unknownRequest
  | wrongMode
  | badField
  | noSession
  | slotInUse
  | overlap
  | billStoreFull
  | notRestricted
  | outOfRange
  | noPosition
  | travelFaulted
  | outOfWindow
  | notFaulted
  | brakeReleased
  | planMismatch
  | notReady
  | holdComplete
  | order
  | trim
  | draft
  | outOfReach
  | holdBusy
  | stationBusy
  | noPour
  | notTripped
  | noBill
  | notSealed
  | stopped
  deriving DecidableEq, Repr

/-! ## Configuration: the start block -/

/-- Thresholds of a dust channel (R147), mg/m³. -/
structure Thresholds where
  clear : Nat
  raise : Nat
  trip : Nat
  deriving DecidableEq, Repr

/-- The start block (R178): its 26 fields. -/
structure StartBlock where
  station : Nat
  chainEndUp : Bool
  chainEndDown : Bool
  railLower : Int
  railUpper : Int
  spoutOffset : Int
  separation : Nat
  slowDown : Nat
  creep : Nat
  tolerance : Nat
  releaseDelay : Nat
  pulseLength : Nat
  cellCount : Nat
  beltLoop : Nat
  span : Nat
  zeroBand : Nat
  gateLimit : Nat
  spout : Thresholds
  gallery : Thresholds
  allowance : Nat
  ceiling : Nat
  trigger : Nat
  deriving DecidableEq, Repr

/-! ## Requests: the mailbox's record, with each field as the number its bytes give -/

/-- START BLOCK's fields as posted, before their checks (R178). -/
structure StartFields where
  station : Nat
  chainEndUp : Nat
  chainEndDown : Nat
  railLower : Nat
  railUpper : Nat
  spoutOffset : Int
  separation : Nat
  slowDown : Nat
  creep : Nat
  tolerance : Nat
  releaseDelay : Nat
  pulseLength : Nat
  cellCount : Nat
  beltLoop : Nat
  span : Nat
  zeroBand : Nat
  gateLimit : Nat
  spout : Thresholds
  gallery : Thresholds
  allowance : Nat
  ceiling : Nat
  trigger : Nat
  deriving DecidableEq, Repr

/-- OPEN SESSION's fields as posted (R4). -/
structure SessionFields where
  slot : Nat
  planTag : Nat
  bowMark : Nat
  orientation : Nat
  length : Nat
  holdCount : Nat
  displacement : Nat
  moment : Int
  mct : Nat
  tpc : Nat
  meanDraft : Nat
  draftLimit : Nat
  bandLower : Int
  bandUpper : Int
  deriving DecidableEq, Repr

/-- HOLD ENTRY's fields as posted (R7). -/
structure HoldFields where
  slot : Nat
  hold : Nat
  fore : Nat
  aft : Nat
  margin : Nat
  lever : Int
  spoutLimit : Nat
  targets : List Nat
  permission : Nat
  deriving DecidableEq, Repr

/-- A request record whose length fits its kind (section 11.4). `unknown` keeps a record of unknown kind. -/
inductive Request where
  | startBlock (f : StartFields)
  | restart
  | setMasks (m1 m2 m3 m4 trigger : Nat)
  | bypassOn
  | bypassOff
  | openSession (f : SessionFields)
  | holdEntry (f : HoldFields)
  | setHatch (slot hold state : Nat)
  | permit (slot hold : Nat)
  | shiftVessel (slot bowMark : Nat)
  | setDraftLimit (slot limit : Nat)
  | closeSession (slot : Nat)
  | move (target : Nat)
  | stopTravel
  | faultClear
  | pour (slot hold override : Nat)
  | endPour
  | zeroScale
  | dustAcknowledge (channel : Nat)
  | discardBill (record : Nat)
  | readStation
  | readPeers
  | readHolds (slot : Nat)
  | readBill (record start : Nat)
  | unknown (record : List Byte)
  deriving DecidableEq, Repr

/-! ## Notices -/

/-- The set of suspend causes held (R124). -/
structure CauseSet where
  dustOwn : Bool
  dustPeer : Bool
  map : Bool
  travel : Bool
  scale : Bool
  gate : Bool
  belt : Bool
  deriving DecidableEq, Repr

/-- A notice's kind with its subject and its detail (R181; the kinds of section 11.5). -/
inductive NoticeBody where
  /-- R22. -/
  | loadOverrange (raw : Nat)
  /-- R23. -/
  | scaleState (status : LoadStatus)
  /-- R30, R42. -/
  | spill (cause : SpillCause) (massKg tallyKg : Nat)
  /-- R37. -/
  | zeroDone (oldTare newTare : Nat)
  /-- R36, R38. -/
  | zeroFailed (reason : ZeroFailure) (raw : Option Nat)
  /-- R47. -/
  | frameErrors (port : Side) (count : Nat)
  /-- R48, R73. -/
  | dupStation (station : Nat) (port : Side)
  /-- R50. -/
  | repeatOverflow (port : Side) (count : Nat)
  /-- R58. -/
  | portLost (port : Side)
  /-- R59. -/
  | portRestored (port : Side)
  /-- R74. -/
  | peerFresh (station : Nat) (side : Side) (distance : Nat)
  /-- R74. -/
  | peerStale (station : Nat) (freshness : Freshness) (side : Side) (distance : Nat)
  /-- R78: SET with the lowest-numbered disagreeing peer and its tag, or CLEARED. -/
  | planMismatch (slot : Slot) (disagrees : Option (Nat × Nat))
  /-- R12. -/
  | draftLimit (slot : Slot) (oldLimit newLimit : Nat)
  /-- R92. -/
  | arrived (position target : Int) (source : OrderSource)
  /-- R93. -/
  | travelHeld (term : EdgeTerm) (position target : Int)
  /-- R97. -/
  | travelFault (cause : TravelFault) (position : Option Int)
  /-- R117: GRANTED when no reason is present, else LOST. -/
  | claimResult (slot : Slot) (hold pass target : Nat) (lost : Option Reason)
  /-- R120. -/
  | lateConflict (slot : Slot) (hold : Nat) (ranked : List Nat) (limit : Nat)
  /-- R129. -/
  | gateFault (kind : GateFault) (pour : PourState)
  /-- R133. -/
  | pourSuspended (slot : Slot) (hold : Nat) (causes : CauseSet)
  /-- R128. -/
  | claimWithdrawn (slot : Slot) (hold : Nat) (cause : WithdrawCause) (pass target : Nat)
  /-- R140. -/
  | lineClosed (slot : Slot) (hold line : Nat) (cause : ClosureCause) (massKg : Nat)
      (overshoot : Option Int) (residue : Option Nat) (allowance : Nat)
  /-- R154. -/
  | dustTrip (channel : Channel) (state : DustClass) (last : Option Nat) (hold : Option (Slot × Nat))
  /-- R154. -/
  | dustAlarm (channel : Channel) (state : DustClass) (last : Option Nat) (hold : Option (Slot × Nat))
  /-- R154. -/
  | dustFailed (channel : Channel) (state : DustClass) (cause : Option DustFailure) (latchKept : Bool)
  deriving DecidableEq, Repr

/-- A queued notice (R181): the low 32 bits of the count at its event, and its merge count. -/
structure Notice where
  body : NoticeBody
  time : Nat
  merges : Nat
  deriving DecidableEq, Repr

/-! ## Local Port (section 10) -/

/-- Outcome of a reply (section 11.4). -/
inductive ReplyOutcome where
  | done
  | refused (reason : Reason) (index : Nat)
  | restarted
  deriving DecidableEq, Repr

/-- A reply in the reply slot (R176): the result fields of its pages, how many pages are fetched, and the
too-late flag. -/
structure Reply where
  outcome : ReplyOutcome
  pages : List (List Byte)
  fetched : Nat
  tooLate : Bool
  deriving DecidableEq, Repr

/-- The mailbox (R174), which is also the reply slot. In TAKEN the request has acted, and its reply, whose content was fixed
at the take (R176), waits to be placed (assumption 9). -/
inductive Mailbox where
  | empty
  | posted (request : Request)
  | taken (reply : Reply)
  | replied (reply : Reply)
  deriving DecidableEq, Repr

/-- A transaction of the SPI target (R173) that has an effect. -/
inductive Transaction where
  | post (record : List Byte)
  | withdraw
  | fetchReply
  | fetchNotice
  deriving DecidableEq, Repr

/-- A select period under way (R187): the transaction, the status it was answered with, and for FETCH
NOTICE the notice returned and the notices held back until its end. -/
structure Select where
  transaction : Transaction
  status : Byte
  notice : Option Notice
  heldBack : List (NoticeBody × Nat)
  deriving DecidableEq, Repr

/-- The Local Port's state (section 10). `spiOut` is the output pin of the SPI target: the bytes the part
sent in the last transaction. -/
structure LocalPort where
  mode : PartMode
  mailbox : Mailbox
  notices : List Notice
  overflow : Bool
  dropped : Nat
  mask2 : Bool
  mask3 : Bool
  mask4 : Bool
  trigger : Nat
  ageTimer : Timer
  ageCause : Bool
  select : Option Select
  spiOut : List Byte
  deriving DecidableEq, Repr

/-! ## Position Map (section 1) -/

/-- What HOLD ENTRY writes into a descriptor (R8). It is present exactly while EXISTS is set (R6). -/
structure HoldPlan where
  fore : Nat
  aft : Nat
  margin : Nat
  lever : Int
  spoutLimit : Nat
  targets : List Nat
  deriving DecidableEq, Repr

/-- A hold descriptor (R6). EXISTS is `plan.isSome`. -/
structure Hold where
  plan : Option HoldPlan
  hatchOpen : Bool
  permission : Permission
  touched : Bool
  token : Bool
  tokenPass : Bool
  deriving DecidableEq, Repr

/-- A vessel session record with its hold descriptors, hold 1 first (section 1.2). -/
structure Session where
  planTag : Nat
  bowMark : Int
  orientation : Orientation
  length : Nat
  holdCount : Nat
  displacement : Nat
  moment : Int
  mct : Nat
  tpc : Nat
  meanDraft : Nat
  draftLimit : Nat
  bandLower : Int
  bandUpper : Int
  bill : Nat
  holds : List Hold
  deriving DecidableEq, Repr

/-- A berth slot (R1): FREE without a session, OPEN with one. -/
structure Berth where
  mismatch : Bool
  session : Option Session
  deriving DecidableEq, Repr

/-- The two berth slots. -/
structure Berths where
  a : Berth
  b : Berth
  deriving DecidableEq, Repr

/-! ## Belt Scale and Belt Register (section 2) -/

/-- A RUNNING zero run (section 2.6). -/
structure ZeroRun where
  oldTare : Nat
  pulses : Nat
  sampleSum : Nat
  sampleCount : Nat
  deriving DecidableEq, Repr

/-- The Belt Scale (section 2.1). -/
structure Scale where
  tare : Nat
  load : Nat
  status : LoadStatus
  episode : Bool
  total : Nat
  staleTimer : Timer
  faultTimer : Timer
  zeroRun : Option ZeroRun
  stillTimer : Timer
  deriving DecidableEq, Repr

/-- A belt cell (R26). -/
structure Cell where
  mass : Nat
  marked : Bool
  deriving DecidableEq, Repr

/-- The Belt Register (section 2.5): the cells from the tail to the head, the pulse phase, and the belt
content, which the part keeps as a running figure (R26). -/
structure Belt where
  cells : List Cell
  phase : Nat
  content : Nat
  deriving DecidableEq, Repr

/-! ## Line Unit (section 3) -/

/-- The kinds an own-frame queue entry may have (R55): BREAK once per lost side. -/
inductive OwnKind where
  | status
  | claim
  | dust
  | brk (lost : Side)
  deriving DecidableEq, Repr

/-- An entry of the own-frame queue (R55) with its two sent marks. `serial` tells one issue from another
(the model's own field: R57 asks whether the entry still holds what was taken). -/
structure OwnEntry where
  kind : OwnKind
  serial : Nat
  bytes : List Byte
  upSent : Bool
  downSent : Bool
  deriving DecidableEq, Repr

/-- The frame a transmitter is SENDING, with the issue it is a copy of if it is an own frame (R56). -/
structure Sending where
  bytes : List Byte
  own : Option Nat
  deriving DecidableEq, Repr

/-- The record of a port (R45) with its pass-through queue (R50). The transmitter is IDLE while nothing is
sending. -/
structure PortRec where
  chainEnd : Bool
  state : PortState
  silenceTimer : Timer
  restoreCount : Nat
  repeatHold : Nat
  breakTimer : Timer
  errors : Nat
  overflows : Nat
  passOver : Nat
  sending : Option Sending
  queue : List (List Byte)
  deriving DecidableEq, Repr

/-- How far the entry to BYPASS has come (R63): nothing waits, the last STATUS waits for the spacing timer, or
the relay waits for the last STATUS of this serial to be sent. -/
inductive Closing where
  | none
  | spacing
  | sending (serial : Nat)
  deriving DecidableEq, Repr

/-- The Line Unit. `statusDue` (the model's own field) notes a status change of the command under way; it is
clear between commands (assumption 8). -/
structure QuayLine where
  up : PortRec
  down : PortRec
  own : List OwnEntry
  relayOpen : Bool
  statusTimer : Timer
  spacingTimer : Timer
  changePending : Bool
  closing : Closing
  serial : Nat
  statusDue : Bool
  deriving DecidableEq, Repr

/-! ## Peer Table (section 4) -/

/-- The claim of a STATUS report. -/
structure ReportClaim where
  slot : Slot
  hold : Nat
  pass : Nat
  phase : ClaimPhase
  target : Nat
  deriving DecidableEq, Repr

/-- A tally list entry (R53). -/
structure Tally where
  slot : Slot
  hold : Nat
  kg : Nat
  deriving DecidableEq, Repr

/-- A STATUS report (R53) as R186 reads it: mode, plan tags and pour state are kept as received; so is the travel state's code, listed
or not, which R186 does not say (assumption 44). -/
structure Report where
  mode : Byte
  tagA : Nat
  tagB : Nat
  position : Int
  positionValid : Bool
  travel : Byte
  target : Option Int
  pour : Byte
  claim : Option ReportClaim
  spout : DustClass
  spoutHold : Option (Slot × Nat)
  tallies : List Tally
  onBelt : Option Nat
  deriving DecidableEq, Repr

/-- A peer entry (R67). -/
structure PeerEntry where
  station : Nat
  side : Side
  distance : Nat
  report : Option Report
  lastTime : Nat
  staleTimer : Timer
  freshness : Freshness
  claimTag : Option (Slot × Nat)
  deriving DecidableEq, Repr

/-! ## Travel Controller (section 5) -/

/-- Both edges of the permitted range, each with the term that set it (R85). -/
structure Range where
  lower : Int
  lowerTerm : EdgeTerm
  upper : Int
  upperTerm : EdgeTerm
  deriving DecidableEq, Repr

/-- The travel record (R81). `edgeUp` and `edgeDown` are the lower and the upper edge of the permitted range, each with the
term that set it, absent while not computed. `sampleSince` notes a sample accepted since the entry to FAULTED with cause
BRAKE (R98); `stopMark` is the mark given at the last entry to SETTLING
(R92), dropped at PARKED, HELD and FAULTED; by R92 no later judgement reads it. -/
structure Travel where
  position : Option Int
  state : TravelState
  cause : Option TravelFault
  target : Option Int
  source : Option OrderSource
  direction : Option Side
  step : SpeedStep
  edgeUp : Option (Int × EdgeTerm)
  edgeDown : Option (Int × EdgeTerm)
  recovery : Option Int
  sampleSince : Bool
  stopMark : Option StopMark
  encoderTimer : Timer
  releaseTimer : Timer
  brakeFailTimer : Timer
  settleTimer : Timer
  deriving DecidableEq, Repr

/-! ## Fill Order Unit (section 6) -/

/-- The figures of one peer in a row (R101). -/
structure PeerFigure where
  station : Nat
  deliveredKg : Nat
  onBeltKg : Option Nat
  deriving DecidableEq, Repr

/-- An entry of a claim list (R101). -/
structure ClaimEntry where
  station : Nat
  pass : Nat
  target : Nat
  phase : ClaimPhase
  deriving DecidableEq, Repr

/-- A row of a hold table view (R101); own on-belt is computed from the Belt Register (R102). -/
structure Row where
  delivered : Nat
  peers : List PeerFigure
  claims : List ClaimEntry
  deriving DecidableEq, Repr

/-- The station's own claim (R114). -/
structure OwnClaim where
  slot : Slot
  hold : Nat
  pass : Nat
  target : Nat
  override : Bool
  phase : ClaimPhase
  yielded : Bool
  deriving DecidableEq, Repr

/-- The Fill Order Unit: the view of each slot (rows, hold 1 first), the own claim and its window timer. -/
structure Fill where
  viewA : Option (List Row)
  viewB : Option (List Row)
  claim : Option OwnClaim
  claimTimer : Timer
  deriving DecidableEq, Repr

/-! ## Pour Sequencer (section 7) -/

/-- The pour record (R124); the ceiling is the start block's. -/
structure Pour where
  state : PourState
  phase : Option StartPhase
  causes : CauseSet
  passSuspended : Bool
  failures : Nat
  runoutCause : Option RunoutCause
  runoutShifts : Nat
  reAimed : Bool
  allowance : Option Nat
  beltOn : Bool
  watch : BeltWatch
  gateCommand : GateCommand
  gate : GateState
  gateFault : Option GateFault
  positioningTimer : Timer
  beltStartTimer : Timer
  beltRetryTimer : Timer
  gateTimer : Timer
  deriving DecidableEq, Repr

/-! ## Dust Monitor (section 8) -/

/-- The record of a dust channel (R147); the thresholds are the start block's. -/
structure DustChannel where
  state : DustClass
  history : List Nat
  clearCount : Nat
  raiseRun : Nat
  tripRun : Nat
  goodRun : Nat
  acknowledged : Bool
  latchKept : Bool
  cause : Option DustFailure
  last : Option Nat
  sampleHold : Option (Slot × Nat)
  timer : Timer
  deriving DecidableEq, Repr

/-- A peer dust record (R157). -/
structure PeerDust where
  station : Nat
  spout : DustClass
  hold : Option (Slot × Nat)
  freshness : Freshness
  deriving DecidableEq, Repr

/-- The Dust Monitor. -/
structure Dust where
  spout : DustChannel
  gallery : DustChannel
  peers : List PeerDust
  deriving DecidableEq, Repr

/-! ## Bill Store (section 9) -/

/-- A bill line (R163). It is open while it has no closure cause; its estimated mass is present exactly
while above 0 g. -/
structure BillLine where
  number : Nat
  slot : Slot
  hold : Nat
  pass : Nat
  target : Nat
  start : Nat
  endTime : Option Nat
  mass : Nat
  estimated : Nat
  suspensions : Nat
  cause : Option ClosureCause
  overshoot : Option Int
  residue : Option Nat
  deriving DecidableEq, Repr

/-- The summary of a sealed bill (R168); masses in grams. -/
structure Summary where
  delivered : List Nat
  lineCount : Nat
  spill : Nat
  displacement : Nat
  allowance : Nat
  sealTime : Nat
  deriving DecidableEq, Repr

/-- A bill record that is not FREE (R160): OPEN without a summary, SEALED with one. -/
structure Bill where
  slot : Slot
  planTag : Nat
  opening : Nat
  lines : List BillLine
  snapshot : Nat
  summary : Option Summary
  deriving DecidableEq, Repr

/-- The Bill Store: records 1..4 (`none` is FREE), the pool's free count, the spill tally. -/
structure Bills where
  records : List (Option Bill)
  free : Nat
  spill : Nat
  deriving DecidableEq, Repr

/-! ## The machine -/

/-- The levels of the field inputs that the part reads as levels (R94, R131). -/
structure Inputs where
  brakeReleased : Bool
  beltRunning : Bool
  deriving DecidableEq, Repr

/-- The whole state of one 2400. -/
structure State where
  /-- The internal millisecond count (section 4.3). -/
  count : Nat
  /-- The start block, once accepted (R178). -/
  cfg : Option StartBlock
  inputs : Inputs
  port : LocalPort
  berths : Berths
  scale : Scale
  belt : Belt
  line : QuayLine
  peers : List PeerEntry
  travel : Travel
  fill : Fill
  pour : Pour
  dust : Dust
  bills : Bills
  /-- The commands that wait, first in, first out. -/
  pending : List Instr
  deriving DecidableEq, Repr

/-- Reasons for a fault. There is none: the manual defines the effect of every command in every state, an
event that cannot come about in a state changes nothing (assumption 4), and no command stops the part. -/
inductive Fault where
  deriving DecidableEq, Repr

/-- Reasons for a refusal by the model. (A request that the PART refuses is an ordinary reply: a next state.) -/
inductive Refusal where
  /-- Raised by `exec` alone, for a row of the table that has no meaning yet; safe, since the model stops. No
  arm raises it. -/
  | notModelled (mnemonic : String)
  deriving DecidableEq, Repr

/-! ## Reset values -/

/-- No suspend cause. -/
def CauseSet.empty : CauseSet := ⟨false, false, false, false, false, false, false⟩

/-- The Local Port after a power-on reset (R172). -/
def LocalPort.reset : LocalPort where
  mode := .config
  mailbox := .empty
  notices := []
  overflow := false
  dropped := 0
  mask2 := false
  mask3 := false
  mask4 := false
  trigger := 1
  ageTimer := none
  ageCause := false
  select := none
  spiOut := []

/-- A FREE slot with MISMATCH clear (R1). -/
def Berth.free : Berth := ⟨false, none⟩

/-- The Belt Scale after a power-on reset (R43). -/
def Scale.reset : Scale where
  tare := 0
  load := 0
  status := .stale
  episode := false
  total := 0
  staleTimer := none
  faultTimer := none
  zeroRun := none
  stillTimer := none

/-- The Belt Register after a power-on reset: no cells until START BLOCK (R43). -/
def Belt.reset : Belt := ⟨[], 0, 0⟩

/-- A port after a power-on reset (R45). -/
def PortRec.reset : PortRec where
  chainEnd := false
  state := .up
  silenceTimer := none
  restoreCount := 0
  repeatHold := 0
  breakTimer := none
  errors := 0
  overflows := 0
  passOver := 0
  sending := none
  queue := []

/-- The Line Unit after a power-on reset: relay closed (R44), queues empty, timers stopped. -/
def QuayLine.reset : QuayLine where
  up := PortRec.reset
  down := PortRec.reset
  own := []
  relayOpen := false
  statusTimer := none
  spacingTimer := none
  changePending := false
  closing := .none
  serial := 0
  statusDue := false

/-- The travel record after a power-on reset (R81). -/
def Travel.reset : Travel where
  position := none
  state := .parked
  cause := none
  target := none
  source := none
  direction := none
  step := .zero
  edgeUp := none
  edgeDown := none
  recovery := none
  sampleSince := false
  stopMark := none
  encoderTimer := none
  releaseTimer := none
  brakeFailTimer := none
  settleTimer := none

/-- The Fill Order Unit after a power-on reset (R123). -/
def Fill.reset : Fill := ⟨none, none, none, none⟩

/-- The pour record after a power-on reset (R124). -/
def Pour.reset : Pour where
  state := .idle
  phase := none
  causes := CauseSet.empty
  passSuspended := false
  failures := 0
  runoutCause := none
  runoutShifts := 0
  reAimed := false
  allowance := none
  beltOn := false
  watch := .off
  gateCommand := .closed
  gate := .closed
  gateFault := none
  positioningTimer := none
  beltStartTimer := none
  beltRetryTimer := none
  gateTimer := none

/-- A dust channel after a power-on reset (R147). -/
def DustChannel.reset : DustChannel where
  state := .clear
  history := []
  clearCount := 0
  raiseRun := 0
  tripRun := 0
  goodRun := 0
  acknowledged := false
  latchKept := false
  cause := none
  last := none
  sampleHold := none
  timer := none

/-- The Dust Monitor after a power-on reset (R158). -/
def Dust.reset : Dust := ⟨DustChannel.reset, DustChannel.reset, []⟩

/-- The Bill Store after a power-on reset (R160): four FREE records, the whole pool free, no spill. -/
def Bills.reset : Bills := ⟨[none, none, none, none], Config.poolLines, 0⟩

/-- The part after a power-on reset, with both field inputs inactive (assumption 7) and no command waiting. -/
def State.reset : State where
  count := 0
  cfg := none
  inputs := ⟨false, false⟩
  port := LocalPort.reset
  berths := ⟨Berth.free, Berth.free⟩
  scale := Scale.reset
  belt := Belt.reset
  line := QuayLine.reset
  peers := []
  travel := Travel.reset
  fill := Fill.reset
  pour := Pour.reset
  dust := Dust.reset
  bills := Bills.reset
  pending := []

end Sys2Proof.Machine
end

