-- ==== Sys2Proof/Machine/Encode.lean ====
section
/-! DEFINITION. How numbers and enumerated values become bytes (R184), the check word of a quay frame
(R46), and how result fields are put together and cut into pages (R185). -/

namespace Sys2Proof.Machine

/-! ## Numbers (R184: most significant byte first) -/

/-- The `width` low bytes of `n`, most significant first. -/
def bytesBE : Nat → Nat → List Byte
  | 0, _ => []
  | width + 1, n => BitVec.ofNat 8 (n / 256 ^ width) :: bytesBE width n

/-- The number that bytes sent most significant first stand for. -/
def natBE (bytes : List Byte) : Nat :=
  bytes.foldl (fun acc b => acc * 256 + b.toNat) 0

/-- The number two's complement bytes stand for. -/
def intBE (bytes : List Byte) : Int :=
  if natBE bytes < 256 ^ bytes.length / 2 then (natBE bytes : Int)
  else (natBE bytes : Int) - (256 ^ bytes.length : Nat)

/-- An unsigned field of `width` bytes; a number that does not fit is sent as a free value (assumption 3). -/
def uField (width : Nat) (x : Int) : List Byte :=
  if 0 ≤ x ∧ x < (256 ^ width : Nat) then bytesBE width x.toNat
  else bytesBE width (Config.unfit width x)

/-- A signed field of `width` bytes, two's complement. -/
def sField (width : Nat) (x : Int) : List Byte :=
  if -((256 ^ width / 2 : Nat) : Int) ≤ x ∧ x < (256 ^ width / 2 : Nat) then
    bytesBE width (if 0 ≤ x then x.toNat else (x + (256 ^ width : Nat)).toNat)
  else bytesBE width (Config.unfit width x)

/-- A mass field: whole kilograms, FFFFFFFFh for a greater figure (R184). -/
def kgField (kg : Nat) : List Byte := bytesBE 4 (min kg 0xFFFFFFFF)

/-- A mass held in grams, sent in whole kilograms, truncated (R184). -/
def gField (g : Nat) : List Byte := kgField (g / 1000)

/-- A flag (R185). -/
def flag (b : Bool) : List Byte := [if b then 1 else 0]

/-! ## Enumerations (R184) -/

/-- Slot. -/
def Slot.code : Slot → Byte
  | .a => 1
  | .b => 2

def Slot.ofCode? (n : Nat) : Option Slot :=
  if n = 1 then some .a else if n = 2 then some .b else none

/-- Side, port, direction and lost side. -/
def sideCode : Side → Byte
  | .up => 0x01
  | .down => 0x02

def sideOfCode? (n : Nat) : Option Side :=
  if n = 1 then some .up else if n = 2 then some .down else none

/-- Channel. -/
def channelCode : Channel → Byte
  | .spout => 0x01
  | .gallery => 0x02

/-- Part mode. -/
def PartMode.code : PartMode → Byte
  | .config => 0x00
  | .run => 0x01
  | .bypass => 0x02

/-- Travel state. -/
def TravelState.code : TravelState → Byte
  | .parked => 0x00
  | .releasing => 0x01
  | .moving => 0x02
  | .held => 0x03
  | .settling => 0x04
  | .faulted => 0x05

/-- Pour state. -/
def PourState.code : PourState → Byte
  | .idle => 0x00
  | .claiming => 0x01
  | .positioning => 0x02
  | .starting => 0x03
  | .pouring => 0x04
  | .throttled => 0x05
  | .suspended => 0x06
  | .runout => 0x07

/-- Dust class. -/
def DustClass.code : DustClass → Byte
  | .clear => 0x00
  | .watch => 0x01
  | .alarm => 0x02
  | .trip => 0x03
  | .held => 0x04
  | .failed => 0x05

/-- The SPOUT class a code stands for; a code not listed is taken as FAILED (R186). -/
def DustClass.ofCode (n : Nat) : DustClass :=
  if n = 0 then .clear else if n = 1 then .watch else if n = 2 then .alarm
  else if n = 3 then .trip else if n = 4 then .held else .failed

/-- Claim phase. -/
def ClaimPhase.code : ClaimPhase → Byte
  | .pending => 0x01
  | .active => 0x02

def ClaimPhase.ofCode? (n : Nat) : Option ClaimPhase :=
  if n = 1 then some .pending else if n = 2 then some .active else none

/-- Closure cause. -/
def ClosureCause.code : ClosureCause → Byte
  | .target => 0x01
  | .stopped => 0x02
  | .yielded => 0x03
  | .withdrawn => 0x04
  | .restart => 0x05

/-- Spill cause. -/
def SpillCause.code : SpillCause → Byte
  | .unbilled => 0x01
  | .restart => 0x02
  | .fault .noPosition => 0x03
  | .fault .noVessel => 0x04
  | .fault .betweenHolds => 0x05
  | .fault .noPlan => 0x06
  | .fault .hatchClosed => 0x07
  | .fault .notPermitted => 0x08
  | .fault .margin => 0x09

/-- Freshness. -/
def Freshness.code : Freshness → Byte
  | .fresh => 0x01
  | .stale => 0x02
  | .cut => 0x03
  | .conflict => 0x04

/-- Load status. -/
def LoadStatus.code : LoadStatus → Byte
  | .ok => 0x00
  | .overrange => 0x01
  | .stale => 0x02
  | .fault => 0x03

/-- Travel fault cause. -/
def TravelFault.code : TravelFault → Byte
  | .encoderJump => 0x01
  | .encoderSilent => 0x02
  | .encoderRange => 0x03
  | .brake => 0x04

/-- Order source. -/
def OrderSource.code : OrderSource → Byte
  | .host => 0x01
  | .position => 0x02
  | .returning => 0x03

/-- Edge term. -/
def EdgeTerm.code : EdgeTerm → Byte
  | .rail => 0x01
  | .peer _ => 0x02
  | .noPeer => 0x03
  | .window => 0x04

/-- The station number that goes with the term PEER. -/
def EdgeTerm.station? : EdgeTerm → Option Nat
  | .peer n => some n
  | _ => none

/-- Speed step. -/
def SpeedStep.code : SpeedStep → Byte
  | .zero => 0x00
  | .creep => 0x01
  | .slow => 0x02
  | .fast => 0x03

def Orientation.ofCode? (n : Nat) : Option Orientation :=
  if n = 1 then some .bowUp else if n = 2 then some .bowDown else none

def Permission.ofCode? (n : Nat) : Option Permission :=
  if n = 1 then some .opened else if n = 2 then some .restricted
  else if n = 3 then some .withheld else none

/-- Zero-run failure reason. -/
def ZeroFailure.code : ZeroFailure → Byte
  | .notEmpty => 0x01
  | .dust => 0x02
  | .noBelt => 0x03
  | .scale => 0x04
  | .noSamples => 0x05

/-- Withdrawal cause. -/
def WithdrawCause.code : WithdrawCause → Byte
  | .positionTimeout => 0x01
  | .stopped => 0x02
  | .yielded => 0x03

/-- Run-out cause. -/
def RunoutCause.code : RunoutCause → Byte
  | .target => 0x01
  | .stopped => 0x02
  | .yielded => 0x03

/-- Start phase. -/
def StartPhase.code : StartPhase → Byte
  | .beltWait => 0x01
  | .gateWait => 0x02

/-- Gate command. -/
def GateCommand.code : GateCommand → Byte
  | .closed => 0x00
  | .openFull => 0x01
  | .openReduced => 0x02

/-- Gate state. -/
def GateState.code : GateState → Byte
  | .closed => 0x00
  | .opening => 0x01
  | .opened => 0x02
  | .closing => 0x03
  | .fault => 0x04

/-- Gate fault kind. -/
def GateFault.code : GateFault → Byte
  | .openFailed => 0x01
  | .closeFailed => 0x02

/-- Belt watch. -/
def BeltWatch.code : BeltWatch → Byte
  | .off => 0x00
  | .waiting => 0x01
  | .running => 0x02

/-- Dust failure cause. -/
def DustFailure.code : DustFailure → Byte
  | .faultFlag => 0x01
  | .silent => 0x02

/-- Port state. -/
def PortState.code : PortState → Byte
  | .up => 0x01
  | .lost => 0x02

/-- A Boolean as the digit of a bit field. -/
def bit (b : Bool) (weight : Nat) : Nat := if b then weight else 0

/-- Cause set, one byte. -/
def CauseSet.code (c : CauseSet) : Byte :=
  BitVec.ofNat 8 (bit c.dustOwn 1 + bit c.dustPeer 2 + bit c.map 4 + bit c.travel 8
    + bit c.scale 16 + bit c.gate 32 + bit c.belt 64)

/-- Refusal reason (section 11.4). -/
def Reason.code : Reason → Byte
  | .unknownRequest => 0x01
  | .wrongMode => 0x02
  | .badField => 0x03
  | .noSession => 0x10
  | .slotInUse => 0x11
  | .overlap => 0x12
  | .billStoreFull => 0x13
  | .notRestricted => 0x14
  | .outOfRange => 0x20
  | .noPosition => 0x21
  | .travelFaulted => 0x22
  | .outOfWindow => 0x23
  | .notFaulted => 0x24
  | .brakeReleased => 0x25
  | .planMismatch => 0x30
  | .notReady => 0x31
  | .holdComplete => 0x32
  | .order => 0x33
  | .trim => 0x34
  | .draft => 0x35
  | .outOfReach => 0x36
  | .holdBusy => 0x37
  | .stationBusy => 0x40
  | .noPour => 0x48
  | .notTripped => 0x50
  | .noBill => 0x58
  | .notSealed => 0x59
  | .stopped => 0x60

/-! ## The check word (R46) -/

/-- One bit of the cyclic check with generator x^16 + x^12 + x^5 + 1, on a 16-bit register. -/
def crcBit (r : Nat) : Nat := (r * 2 % 65536) ^^^ (r / 32768 * 0x1021)

/-- One byte, most significant bit first. -/
def crcByte (r : Nat) (b : Byte) : Nat :=
  crcBit (crcBit (crcBit (crcBit (crcBit (crcBit (crcBit (crcBit (r ^^^ (b.toNat * 256)))))))))

/-- The check word of the bytes from the kind to the last byte of the payload (R46). -/
def checkWord (bytes : List Byte) : Nat := bytes.foldl crcByte 0xFFFF

/-- The bytes with their check word. -/
def withCheck (bytes : List Byte) : List Byte := bytes ++ bytesBE 2 (checkWord bytes)

/-! ## Records, lists and pages (R185) -/

/-- Presence bytes: one bit per optional field, from bit 0 of the first byte, eight to a byte. -/
def presence : List Bool → List Byte
  | [] => []
  | b0 :: b1 :: b2 :: b3 :: b4 :: b5 :: b6 :: b7 :: rest =>
    BitVec.ofNat 8 (bit b0 1 + bit b1 2 + bit b2 4 + bit b3 8 + bit b4 16 + bit b5 32 + bit b6 64 + bit b7 128)
      :: presence rest
  | bs => [BitVec.ofNat 8 (bs.foldr (fun b acc => bit b 1 + 2 * acc) 0)]

/-- A fixed optional field: absent is sent as `width` zero bytes (R184). -/
def optField {α : Type} (width : Nat) (f : α → List Byte) : Option α → List Byte
  | some x => f x
  | none => List.replicate width 0

/-- A list as a one-byte count followed by its entries (R185), each entry one piece. -/
def listPieces (entries : List (List Byte)) : List (List Byte) :=
  uField 1 entries.length :: entries

/-- Pieces cut into pages of at most 384 bytes, in order; a piece is never split (R185, assumption 17). -/
def paginateFrom (page : List Byte) : List (List Byte) → List (List Byte)
  | [] => [page]
  | piece :: rest =>
    if page.length + piece.length ≤ Config.pageBytes then paginateFrom (page ++ piece) rest
    else page :: paginateFrom piece rest

/-- The pages of a reply's result fields. A reply has at least one page (R176). -/
def paginate (pieces : List (List Byte)) : List (List Byte) := paginateFrom [] pieces

end Sys2Proof.Machine
end

