-- ==== Sys2Proof/Machine/Flags.lean ====
section
/-! DEFINITION. The notice queue with its overflow flag, dropped count and masks (R181, R182), the attention
entries, age timer and causes of the attention line (R183), and the notice record (section 11.5). -/

namespace Sys2Proof.Machine

/-- The class of a notice, fixed by its kind (R181). -/
def NoticeBody.cls : NoticeBody → Nat
  | .dupStation .. | .travelFault .. | .lateConflict .. | .gateFault .. | .dustTrip .. | .dustFailed .. => 1
  | .scaleState .. | .spill .. | .arrived .. | .travelHeld .. | .claimResult .. | .pourSuspended ..
  | .claimWithdrawn .. | .lineClosed .. | .dustAlarm .. => 2
  | .portLost .. | .portRestored .. | .peerFresh .. | .peerStale .. | .planMismatch .. => 3
  | .loadOverrange .. | .zeroDone .. | .zeroFailed .. | .frameErrors .. | .repeatOverflow ..
  | .draftLimit .. => 4

/-- The code of a notice's kind (section 11.5). -/
def NoticeBody.kind : NoticeBody → Byte
  | .loadOverrange .. => 0x01
  | .scaleState .. => 0x02
  | .spill .. => 0x03
  | .zeroDone .. => 0x04
  | .zeroFailed .. => 0x05
  | .frameErrors .. => 0x10
  | .dupStation .. => 0x11
  | .repeatOverflow .. => 0x12
  | .portLost .. => 0x13
  | .portRestored .. => 0x14
  | .peerFresh .. => 0x18
  | .peerStale .. => 0x19
  | .planMismatch .. => 0x1A
  | .draftLimit .. => 0x20
  | .arrived .. => 0x28
  | .travelHeld .. => 0x29
  | .travelFault .. => 0x2A
  | .claimResult .. => 0x30
  | .lateConflict .. => 0x31
  | .gateFault .. => 0x38
  | .pourSuspended .. => 0x39
  | .claimWithdrawn .. => 0x3A
  | .lineClosed .. => 0x3B
  | .dustTrip .. => 0x40
  | .dustAlarm .. => 0x41
  | .dustFailed .. => 0x42

/-- A byte of a subject. -/
def subjectByte (n : Nat) : Byte := BitVec.ofNat 8 n

/-- The subject of a notice: bytes 2..5 of its record (section 11.5). -/
def NoticeBody.subject : NoticeBody → List Byte
  | .dupStation n _ | .peerFresh n _ _ | .peerStale n _ _ _ => [1, subjectByte n, 0, 0]
  | .planMismatch s _ | .draftLimit s _ _ => [2, s.code, 0, 0]
  | .claimResult s h _ _ _ | .lateConflict s h _ _ | .pourSuspended s h _ | .claimWithdrawn s h _ _ _ =>
    [3, s.code, subjectByte h, 0]
  | .lineClosed s h n _ _ _ _ _ => [3, s.code, subjectByte h, subjectByte n]
  | .dustTrip c _ _ _ | .dustAlarm c _ _ _ | .dustFailed c _ _ _ => [4, channelCode c, 0, 0]
  | .frameErrors p _ | .repeatOverflow p _ | .portLost p | .portRestored p => [5, sideCode p, 0, 0]
  | .arrived .. | .travelHeld .. | .travelFault .. => [6, 0, 0, 0]
  | .gateFault .. => [7, 0, 0, 0]
  | .loadOverrange .. | .scaleState .. | .zeroDone .. | .zeroFailed .. => [8, 0, 0, 0]
  | .spill c _ _ => [9, c.code, 0, 0]

/-- Two notices of the same kind and subject, which the queue never holds together (R181). -/
def NoticeBody.sameKey (x y : NoticeBody) : Bool := x.kind == y.kind && x.subject == y.subject

/-- An optional hold (slot and hold) in a detail. -/
def holdField : Option (Slot × Nat) → List Byte :=
  optField 2 (fun h => h.1.code :: uField 1 h.2)

/-- The detail fields of a notice, in the order the raising rule lists them (section 11.5, R185). -/
def NoticeBody.detail : NoticeBody → List Byte
  | .loadOverrange raw => uField 2 raw
  | .scaleState status => [status.code]
  | .spill _ mass tally => kgField mass ++ kgField tally
  | .zeroDone oldTare newTare => uField 2 oldTare ++ uField 2 newTare
  | .zeroFailed reason raw => presence [raw.isSome] ++ [reason.code] ++ optField 2 (fun r => uField 2 r) raw
  | .frameErrors _ count | .repeatOverflow _ count => uField 2 count
  | .dupStation _ port => [sideCode port]
  | .portLost _ | .portRestored _ => []
  | .peerFresh _ side distance => sideCode side :: uField 1 distance
  | .peerStale _ fr side distance => fr.code :: sideCode side :: uField 1 distance
  | .planMismatch _ disagrees =>
    presence [disagrees.isSome, disagrees.isSome] ++ [if disagrees.isSome then 0x01 else 0x02]
      ++ optField 3 (fun d => uField 1 d.1 ++ uField 2 d.2) disagrees
  | .draftLimit _ oldLimit newLimit => uField 2 oldLimit ++ uField 2 newLimit
  | .arrived position target source => uField 4 position ++ uField 4 target ++ [source.code]
  | .travelHeld term position target =>
    presence [term.station?.isSome] ++ [term.code] ++ optField 1 (fun n => uField 1 n) term.station?
      ++ uField 4 position ++ uField 4 target
  | .travelFault cause position => presence [position.isSome] ++ [cause.code] ++ optField 4 (uField 4) position
  | .claimResult _ _ pass target lost =>
    presence [lost.isSome] ++ [if lost.isSome then 0x02 else 0x01] ++ uField 1 pass ++ kgField target
      ++ optField 1 (fun r => [r.code]) lost
  | .lateConflict _ _ ranked limit =>
    uField 1 ranked.length ++ ranked.flatMap (fun n => uField 1 n) ++ uField 1 limit
  | .gateFault kind pour => [kind.code, pour.code]
  | .pourSuspended _ _ causes => [causes.code]
  | .claimWithdrawn _ _ cause pass target => cause.code :: (uField 1 pass ++ kgField target)
  | .lineClosed _ _ _ cause mass overshoot residue allowance =>
    presence [overshoot.isSome, residue.isSome] ++ [cause.code] ++ kgField mass
      ++ optField 4 (sField 4) overshoot ++ optField 4 kgField residue ++ kgField allowance
  | .dustTrip _ state last hold | .dustAlarm _ state last hold =>
    presence [last.isSome, hold.isSome] ++ [state.code] ++ optField 2 (fun v => uField 2 v) last
      ++ holdField hold
  | .dustFailed _ state cause latchKept =>
    presence [cause.isSome] ++ [state.code] ++ optField 1 (fun c => [c.code]) cause ++ flag latchKept

/-- The notice record (section 11.5). -/
def Notice.record (n : Notice) : List Byte :=
  [n.body.kind] ++ uField 1 n.body.cls ++ n.body.subject ++ bytesBE 4 n.time ++ uField 1 n.merges
    ++ uField 1 n.body.detail.length ++ n.body.detail

/-! ## The queue -/

/-- Whether a class is masked; class 1 never is (R182). -/
def LocalPort.masked (p : LocalPort) (cls : Nat) : Bool :=
  if cls = 2 then p.mask2 else if cls = 3 then p.mask3 else if cls = 4 then p.mask4 else false

/-- The number of attention entries: the queued notices whose class is not masked (R183). -/
def LocalPort.attentionEntries (p : LocalPort) : Nat :=
  (p.notices.filter (fun n => !p.masked n.body.cls)).length

/-- The three causes of the attention line (R183): a class-1 notice is queued, the attention entries reach the
trigger level, the age cause is set. -/
def LocalPort.classOneCause (p : LocalPort) : Bool := p.notices.any (fun n => n.body.cls == 1)
def LocalPort.levelCause (p : LocalPort) : Bool := decide (p.trigger ≤ p.attentionEntries)
def LocalPort.attentionLine (p : LocalPort) : Bool := p.classOneCause || p.levelCause || p.ageCause

/-- The age timer after the number of attention entries went from `before` to what it is now (R183): it starts
when the number leaves 0, and stops, with the age cause cleared, when the number becomes 0. -/
def LocalPort.followAge (p : LocalPort) (before now : Nat) : LocalPort :=
  if p.attentionEntries = 0 then { p with ageTimer := none, ageCause := false }
  else if before = 0 then { p with ageTimer := some (now + Config.ageMs) }
  else p

/-- The newest entry of class `cls` taken out (R181 step 4). -/
def dropNewest (cls : Nat) (queue : List Notice) : List Notice :=
  (queue.reverse.eraseP (fun n => n.body.cls == cls)).reverse

/-- The lowest class among the queued notices: class 4 is the lowest (R181). -/
def lowestClass (queue : List Notice) : Nat := queue.foldl (fun c n => max c n.body.cls) 0

/-- R181: a notice whose event was at `time` is masked, merged, joined or, with the queue full, takes the place of
one of a lower class or is dropped. The removal of step 4 and the joining of the new notice are one change of the number of attention
entries: where the entry removed was the only one and the new one counts too, the number does not pass through 0, and age timer and age
cause stay (assumption 43). -/
def LocalPort.enter (p : LocalPort) (now : Nat) (body : NoticeBody) (time : Nat) : LocalPort :=
  if 3 ≤ body.cls && p.masked body.cls then { p with dropped := min (p.dropped + 1) Config.countMax }
  else if p.notices.any (fun n => n.body.sameKey body) then
    { p with notices := p.notices.map (fun n =>
        if n.body.sameKey body then ⟨body, time % 2 ^ 32, min (n.merges + 1) 255⟩ else n) }
  else if p.notices.length < Config.noticeSlots then
    ({ p with notices := p.notices ++ [⟨body, time % 2 ^ 32, 0⟩] } : LocalPort).followAge p.attentionEntries now
  else if body.cls < lowestClass p.notices then
    ({ p with
        notices := dropNewest (lowestClass p.notices) p.notices ++ [⟨body, time % 2 ^ 32, 0⟩]
        overflow := true } : LocalPort).followAge p.attentionEntries now
  else { p with overflow := true }

/-- Whether a FETCH NOTICE under way returns an entry of this kind and subject (R187). -/
def LocalPort.fetching (p : LocalPort) (body : NoticeBody) : Bool :=
  match p.select with
  | some sel => match sel.notice with
    | some n => n.body.sameKey body
    | none => false
  | none => false

/-- A block raises a notice: held back while a FETCH NOTICE under way returns its entry (R187), else entered. -/
def LocalPort.raise (p : LocalPort) (now : Nat) (body : NoticeBody) : LocalPort :=
  if p.fetching body then
    { p with select := p.select.map (fun sel => { sel with heldBack := sel.heldBack ++ [(body, now)] }) }
  else p.enter now body now

/-- The oldest notice of the highest class present, which FETCH NOTICE returns (R181). -/
def LocalPort.nextNotice (p : LocalPort) : Option Notice :=
  match p.notices.find? (fun n => n.body.cls == 1) with
  | some n => some n
  | none => match p.notices.find? (fun n => n.body.cls == 2) with
    | some n => some n
    | none => match p.notices.find? (fun n => n.body.cls == 3) with
      | some n => some n
      | none => p.notices.head?

end Sys2Proof.Machine
end

