-- ==== Sys2Proof/Machine/Ops.lean ====
section
/-! DEFINITION. The named operations over the state that every block uses: the block updates, notices, the two
sides of the rail, the slots, sessions and descriptors, the bill lines, and the translation of the spout tip
(Chapter 1). -/

namespace Sys2Proof.Machine

/-! ## Block updates -/

def State.onPort (s : State) (f : LocalPort → LocalPort) : State := { s with port := f s.port }
def State.onBerths (s : State) (f : Berths → Berths) : State := { s with berths := f s.berths }
def State.onScale (s : State) (f : Scale → Scale) : State := { s with scale := f s.scale }
def State.onBelt (s : State) (f : Belt → Belt) : State := { s with belt := f s.belt }
def State.onLine (s : State) (f : QuayLine → QuayLine) : State := { s with line := f s.line }
def State.onPeers (s : State) (f : List PeerEntry → List PeerEntry) : State := { s with peers := f s.peers }
def State.onTravel (s : State) (f : Travel → Travel) : State := { s with travel := f s.travel }
def State.onFill (s : State) (f : Fill → Fill) : State := { s with fill := f s.fill }
def State.onPour (s : State) (f : Pour → Pour) : State := { s with pour := f s.pour }
def State.onDust (s : State) (f : Dust → Dust) : State := { s with dust := f s.dust }
def State.onBills (s : State) (f : Bills → Bills) : State := { s with bills := f s.bills }

/-- A block raises a notice at the present count (R181). -/
def State.notify (s : State) (body : NoticeBody) : State := s.onPort (fun p => p.raise s.count body)

/-- A status change of R52 has come about in the command under way (assumption 8). -/
def State.markStatus (s : State) : State := s.onLine (fun l => { l with statusDue := true })

/-- The start block's values before START BLOCK is accepted: no rule reads them then. -/
def StartBlock.absent : StartBlock :=
  ⟨0, false, false, 0, 0, 0, 0, 0, 0, 0, 0, 0, 0, 0, 0, 0, 0, ⟨0, 0, 0⟩, ⟨0, 0, 0⟩, 0, 0, 0⟩

/-- The start block in force. -/
def State.block (s : State) : StartBlock := s.cfg.getD StartBlock.absent

/-- The station's own number. -/
def State.station (s : State) : Nat := s.block.station

/-- Travel, samples, pulses and timers act in RUN and BYPASS; in CONFIG they do not. -/
def State.configured (s : State) : Bool := s.port.mode != .config

/-! ## Timers -/

/-- Started or restarted now, to run `ms` milliseconds. -/
def State.timer (s : State) (ms : Nat) : Timer := some (s.count + ms)

/-- Milliseconds left on a timer. -/
def State.timeLeft (s : State) (t : Timer) : Option Nat := t.map (fun d => d - s.count)

/-- A timer's expiry is taken: time has then reached the timer's length (assumption 2). A stopped timer
produces no expiry, and nothing happens. -/
def State.expire (s : State) (t : Timer) (act : State → State) : State :=
  match t with
  | none => s
  | some d => act { s with count := max s.count d }

/-! ## Sides -/

/-- The other port, and the opposite direction. -/
def otherSide : Side → Side
  | .up => .down
  | .down => .up

def QuayLine.port (l : QuayLine) : Side → PortRec
  | .up => l.up
  | .down => l.down

def QuayLine.onPort (l : QuayLine) (p : Side) (f : PortRec → PortRec) : QuayLine :=
  match p with
  | .up => { l with up := f l.up }
  | .down => { l with down := f l.down }

/-! ## Slots, sessions, descriptors -/

def State.berth (s : State) : Slot → Berth
  | .a => s.berths.a
  | .b => s.berths.b

def State.onBerth (s : State) (x : Slot) (f : Berth → Berth) : State :=
  s.onBerths (fun bs => match x with
    | .a => { bs with a := f bs.a }
    | .b => { bs with b := f bs.b })

def Slot.other : Slot → Slot
  | .a => .b
  | .b => .a

/-- The session of an OPEN slot. -/
def State.session (s : State) (x : Slot) : Option Session := (s.berth x).session

/-- The plan tag a slot reports: 0 while FREE (R1). -/
def State.planTag (s : State) (x : Slot) : Nat :=
  match s.session x with
  | some ses => ses.planTag
  | none => 0

/-- The descriptor of hold `h`, holds being numbered from 1. -/
def Session.hold (ses : Session) (h : Nat) : Option Hold :=
  if h = 0 then none else ses.holds[h - 1]?

def State.hold (s : State) (x : Slot) (h : Nat) : Option Hold :=
  match s.session x with
  | some ses => ses.hold h
  | none => none

/-- What HOLD ENTRY gave for a hold with EXISTS set. -/
def State.plan (s : State) (x : Slot) (h : Nat) : Option HoldPlan :=
  match s.hold x h with
  | some d => d.plan
  | none => none

def State.onSession (s : State) (x : Slot) (f : Session → Session) : State :=
  s.onBerth x (fun b => { b with session := b.session.map f })

def State.onHold (s : State) (x : Slot) (h : Nat) (f : Hold → Hold) : State :=
  if h = 0 then s else s.onSession x (fun ses => { ses with holds := ses.holds.modify (h - 1) f })

/-! ## The span, the tip and the translation (R2, R14 to R17) -/

/-- The span of a session: a closed interval of rail positions (R2). -/
def Session.span (ses : Session) : Int × Int :=
  match ses.orientation with
  | .bowUp => (ses.bowMark, ses.bowMark + ses.length)
  | .bowDown => (ses.bowMark - ses.length, ses.bowMark)

/-- Two closed intervals with at least one position in common (R2). -/
def overlap (x y : Int × Int) : Bool := decide (max x.1 y.1 ≤ min x.2 y.2)

/-- A closed interval holds a position. -/
def inside (i : Int × Int) (p : Int) : Bool := decide (i.1 ≤ p ∧ p ≤ i.2)

/-- Distance from the bow of a tip coordinate (R15). -/
def Session.fromBow (ses : Session) (tip : Int) : Int :=
  match ses.orientation with
  | .bowUp => tip - ses.bowMark
  | .bowDown => ses.bowMark - tip

/-- The pour window in tip coordinates (R17). -/
def Session.pourWindow (ses : Session) (p : HoldPlan) : Int × Int :=
  match ses.orientation with
  | .bowUp => (ses.bowMark + p.fore + p.margin, ses.bowMark + p.aft - p.margin)
  | .bowDown => (ses.bowMark - p.aft + p.margin, ses.bowMark - p.fore - p.margin)

/-- The pour window of a hold with EXISTS set, in tip coordinates. -/
def State.window (s : State) (x : Slot) (h : Nat) : Option (Int × Int) :=
  match s.session x, s.plan x h with
  | some ses, some p => some (ses.pourWindow p)
  | _, _ => none

/-- The pour window in loader positions: the spout offset is subtracted from both ends (R17). -/
def State.loaderWindow (s : State) (x : Slot) (h : Nat) : Option (Int × Int) :=
  (s.window x h).map (fun w => (w.1 - s.block.spoutOffset, w.2 - s.block.spoutOffset))

/-- The spout-tip coordinate (R14), once a position has been accepted. -/
def State.tip (s : State) : Option Int := s.travel.position.map (fun p => p + s.block.spoutOffset)

/-- The checks of R16 on the hold whose window contains `d`, in their order. -/
def Hold.check (hd : Hold) (p : HoldPlan) (d : Int) : Option TransFault :=
  if p.targets.isEmpty then some .noPlan
  else if !hd.hatchOpen then some .hatchClosed
  else if !(hd.permission == .opened || (hd.permission == .restricted && hd.tokenPass)) then some .notPermitted
  else if d < p.fore + p.margin || d > p.aft - p.margin then some .margin
  else none

/-- The hold search of R16 over descriptors, the first of them numbered `h`. -/
def searchHold (x : Slot) (d : Int) (h : Nat) : List Hold → Translation
  | [] => .fault .betweenHolds
  | hd :: rest =>
    match hd.plan with
    | none => searchHold x d (h + 1) rest
    | some p =>
      if (p.fore : Int) ≤ d ∧ d ≤ p.aft then
        match hd.check p d with
        | some k => .fault k
        | none => .ok x h
      else searchHold x d (h + 1) rest

/-- Whether a slot is OPEN with the tip in its span (R15). -/
def State.found (s : State) (x : Slot) (tip : Int) : Option Session :=
  match s.session x with
  | some ses => if inside ses.span tip then some ses else none
  | none => none

/-- Translation of the spout tip with the map and the accepted position as they stand (R14 to R16). -/
def State.translate (s : State) : Translation :=
  match s.tip with
  | none => .fault .noPosition
  | some tip =>
    match s.found .a tip, s.found .b tip with
    | some ses, _ => searchHold .a (ses.fromBow tip) 1 ses.holds
    | none, some ses => searchHold .b (ses.fromBow tip) 1 ses.holds
    | none, none => .fault .noVessel

/-- The slot and hold of a translation that is OK. -/
def Translation.hold? : Translation → Option (Slot × Nat)
  | .ok x h => some (x, h)
  | .fault _ => none

/-- Readiness of a named hold in the form of eligibility check E2 (R17, R107). -/
def State.ready (s : State) (x : Slot) (h : Nat) : Bool :=
  match s.hold x h with
  | some hd => match hd.plan with
    | some p => !p.targets.isEmpty && hd.hatchOpen
        && (hd.permission == .opened || (hd.permission == .restricted && hd.token))
    | none => false
  | none => false

/-! ## Claims and pour states -/

/-- The station's own claim while it is ACTIVE. -/
def State.activeClaim (s : State) : Option OwnClaim :=
  match s.fill.claim with
  | some c => if c.phase = .active then some c else none
  | none => none

/-- The own claim, of either phase, is on this slot and hold. -/
def State.claimOn (s : State) (x : Slot) (h : Nat) : Bool :=
  match s.fill.claim with
  | some c => c.slot == x && c.hold == h
  | none => false

/-- The pour states in which a bill line is open (R125). -/
def PourState.lineOpen : PourState → Bool
  | .idle | .claiming | .positioning => false
  | .starting | .pouring | .throttled | .suspended | .runout => true

/-- A bill line is open (R125). -/
def State.lineOpen (s : State) : Bool := s.pour.state.lineOpen

/-- The pour window of the own claim's hold, in tip coordinates. -/
def State.claimWindow (s : State) : Option (Int × Int) :=
  match s.fill.claim with
  | some c => s.window c.slot c.hold
  | none => none

/-- The spout tip lies inside the pour window of the claim's hold. -/
def State.tipInside (s : State) : Bool :=
  match s.claimWindow, s.tip with
  | some w, some tip => inside w tip
  | _, _ => false

/-- A value replaced by the nearer end of an interval it lies outside. -/
def clampTo (i : Int × Int) (x : Int) : Int := if x < i.1 then i.1 else if i.2 < x then i.2 else x

/-- The pour point of the claim's hold, in loader positions (R17). -/
def State.pourPoint (s : State) : Option Int :=
  match s.claimWindow, s.tip with
  | some w, some tip => some (clampTo w tip - s.block.spoutOffset)
  | _, _ => none

/-! ## Bill lines (R162 to R166) -/

/-- The line time of an event at `now` (R161), in seconds since the opening of the bill. -/
def Bill.lineTime (b : Bill) (now : Nat) : Nat := (now - b.opening) / 1000

/-- A change of the open line, wherever it is. -/
def Bills.onOpenLine (bs : Bills) (f : Bill → BillLine → BillLine) : Bills :=
  { bs with records := bs.records.map (fun r => r.map (fun b =>
      { b with lines := b.lines.map (fun l => if l.cause.isNone then f b l else l) })) }

/-- The open line of a bill. -/
def Bill.openLine (b : Bill) : Option BillLine := b.lines.find? (fun l => l.cause.isNone)

/-- The station's open line: it has at most one (R125). -/
def Bills.openLine (bs : Bills) : Option BillLine :=
  bs.records.findSome? (fun r => match r with
    | some b => b.openLine
    | none => none)

/-- The bill in record `n`, 1..4. -/
def Bills.bill (bs : Bills) (n : Nat) : Option Bill :=
  if n = 0 then none else match bs.records[n - 1]? with
    | some r => r
    | none => none

def Bills.setRecord (bs : Bills) (n : Nat) (r : Option Bill) : Bills :=
  if n = 0 then bs else { bs with records := bs.records.set (n - 1) r }

/-- R164: the pool's line taken and appended to the session's bill for a claim. -/
def Bills.takeLine (bs : Bills) (n : Nat) (c : OwnClaim) (now : Nat) : Bills :=
  match bs.bill n with
  | some b =>
    if bs.free = 0 then bs
    else { (bs.setRecord n (some { b with lines := b.lines ++ [
        { number := b.lines.length + 1, slot := c.slot, hold := c.hold, pass := c.pass, target := c.target,
          start := b.lineTime now, endTime := none, mass := 0, estimated := 0, suspensions := 0, cause := none,
          overshoot := none, residue := none }] })) with free := bs.free - 1 }
  | none => bs

/-- R166: the open line closed with its cause and the fields set beside it. -/
def Bills.closeLine (bs : Bills) (now : Nat) (cause : ClosureCause) (overshoot : Option Int)
    (residue : Option Nat) : Bills :=
  bs.onOpenLine (fun b l => { l with
    endTime := some (b.lineTime now), cause := some cause, overshoot := overshoot, residue := residue })

/-- R165: mass of a leaving cell attributed to the open line. -/
def Bills.addMass (bs : Bills) (m : Nat) (marked : Bool) : Bills :=
  bs.onOpenLine (fun _ l => { l with
    mass := l.mass + m, estimated := if marked then l.estimated + m else l.estimated })

/-- R165: an entry to SUSPENDED counts on the open line. -/
def Bills.countSuspension (bs : Bills) : Bills :=
  bs.onOpenLine (fun _ l => { l with suspensions := min (l.suspensions + 1) 255 })

end Sys2Proof.Machine
end

