-- ==== Sys2Proof/Machine/Fill.lean ====
section
/-! DEFINITION. The Fill Order Unit's hold table views: totals, predictions and the next pass (R101 to R105), and
what peers' reports and the own claim do to a view (R103, R115, R119). -/

namespace Sys2Proof.Machine

/-! ## Views and rows -/

def State.view (s : State) : Slot → Option (List Row)
  | .a => s.fill.viewA
  | .b => s.fill.viewB

def Fill.onView (f : Fill) (x : Slot) (g : List Row → List Row) : Fill :=
  match x with
  | .a => { f with viewA := f.viewA.map g }
  | .b => { f with viewB := f.viewB.map g }

def Fill.setView (f : Fill) (x : Slot) (v : Option (List Row)) : Fill :=
  match x with
  | .a => { f with viewA := v }
  | .b => { f with viewB := v }

/-- An empty row (R101). -/
def Row.empty : Row := ⟨0, [], []⟩

/-- The row of hold `h`; no figures where there is none. -/
def State.row (s : State) (x : Slot) (h : Nat) : Row :=
  match s.view x with
  | some rows => if h = 0 then Row.empty else rows.getD (h - 1) Row.empty
  | none => Row.empty

/-- A change of the row of hold `h`. -/
def Fill.onRow (f : Fill) (x : Slot) (h : Nat) (g : Row → Row) : Fill :=
  if h = 0 then f else f.onView x (fun rows => rows.modify (h - 1) g)

/-! ## Totals (R102, R104) -/

/-- Own on-belt: the belt content on the row of the own ACTIVE claim's hold, else 0 (R102). -/
def State.ownOnBelt (s : State) (x : Slot) (h : Nat) : Nat :=
  match s.activeClaim with
  | some c => if c.slot = x ∧ c.hold = h then s.belt.content else 0
  | none => 0

/-- The kilograms of one peer in a row: delivered, and on-belt where present. -/
def PeerFigure.kg (f : PeerFigure) : Nat := f.deliveredKg + f.onBeltKg.getD 0

/-- The peer tally of a row, in grams (R104). -/
def Row.peerTally (r : Row) : Nat := (r.peers.map (fun f => f.kg * 1000)).sum

/-- The hold total, in grams (R104). -/
def State.holdTotal (s : State) (x : Slot) (h : Nat) : Nat :=
  (s.row x h).delivered + s.ownOnBelt x h + (s.row x h).peerTally

/-- The largest target among some claims, 0 for none. -/
def maxTarget (claims : List ClaimEntry) : Nat := claims.foldl (fun m c => max m c.target) 0

/-- The predicted total, in kg (R104). -/
def State.predicted (s : State) (x : Slot) (h : Nat) : Nat :=
  max (s.holdTotal x h / 1000) (maxTarget ((s.row x h).claims.filter (fun c => c.phase == .active)))

/-- The first pass, numbered from `n`, whose target taken as grams exceeds a total, with its target (R104). -/
def firstOpenPass (total n : Nat) : List Nat → Option (Nat × Nat)
  | [] => none
  | t :: rest => if total < t * 1000 then some (n, t) else firstOpenPass total (n + 1) rest

/-- The next pass of a hold with its target (R104). -/
def State.nextPass (s : State) (x : Slot) (h : Nat) : Option (Nat × Nat) :=
  match s.plan x h with
  | some p => firstOpenPass (s.holdTotal x h) 1 p.targets
  | none => none

/-! ## Trim and draft (R105) -/

/-- The results of a trim and draft computation (R105). -/
structure TrimDraft where
  cargo : Nat
  moment : Int
  trim : Int
  meanDraft : Nat
  deepest : Nat
  deriving DecidableEq, Repr

/-- Rounded toward plus infinity. -/
def ceilDiv (a b : Nat) : Nat := (a + b - 1) / b

/-- Clamped to an interval. -/
def saturate (n x : Int) : Int := max (-n) (min n x)

/-- Sums over the holds with EXISTS set, the first numbered `h`: cargo in kg and cargo moment in kg·dm. -/
def cargoSums (pred : Nat → Nat) (h : Nat) : List Hold → Nat × Int
  | [] => (0, 0)
  | hd :: rest =>
    match hd.plan with
    | some p => ((cargoSums pred (h + 1) rest).1 + pred h, (cargoSums pred (h + 1) rest).2 + pred h * p.lever)
    | none => cargoSums pred (h + 1) rest

/-- The trim of R105: cargo moment over MCT × 10,000, truncated, saturated to ±999. -/
def trimOf (ses : Session) (moment : Int) : Int :=
  saturate 999 (moment.tdiv (ses.mct * 10000))

/-- The mean draft of R105. -/
def meanDraftOf (ses : Session) (cargo : Nat) : Nat := ses.meanDraft + ceilDiv cargo (ses.tpc * 1000)

/-- The trim and draft computation of R105 on a predicted total in kg for each hold. -/
def Session.trimDraft (ses : Session) (pred : Nat → Nat) : TrimDraft :=
  let cargo := (cargoSums pred 1 ses.holds).1
  let moment := (cargoSums pred 1 ses.holds).2 + ses.moment * 10000
  { cargo := cargo, moment := moment, trim := trimOf ses moment, meanDraft := meanDraftOf ses cargo,
    deepest := meanDraftOf ses cargo + ceilDiv (trimOf ses moment).natAbs 2 }

/-- How a result fails the session's limits, if it does: TRIM is tested first (R105). -/
def Session.limits (ses : Session) (r : TrimDraft) : Option Reason :=
  if r.trim < ses.bandLower ∨ ses.bandUpper < r.trim then some .trim
  else if ses.draftLimit < r.deepest then some .draft
  else none

/-- The present figures of a session (R105). -/
def State.presentFigures (s : State) (x : Slot) (ses : Session) : TrimDraft := ses.trimDraft (s.predicted x)

/-! ## Claim lists and peer figures -/

/-- A claim entered at the place of its station number (R101). -/
def insertClaim (c : ClaimEntry) : List ClaimEntry → List ClaimEntry
  | [] => [c]
  | d :: rest => if d.station < c.station then d :: insertClaim c rest else c :: d :: rest

/-- Every claim of a station taken out of a view (R115). -/
def removeClaims (station : Nat) (rows : List Row) : List Row :=
  rows.map (fun r => { r with claims := r.claims.filter (fun c => c.station != station) })

/-- A station's claim entered on hold `h`, replacing any claim of it elsewhere in the view (R115). A hold above
the hold count has no row to enter. -/
def placeClaim (h : Nat) (c : ClaimEntry) (rows : List Row) : List Row :=
  if h = 0 then removeClaims c.station rows
  else (removeClaims c.station rows).modify (h - 1) (fun r => { r with claims := insertClaim c r.claims })

/-- A peer's figures in a row set by `g`, entered at the place of its number if the row has none (R101). -/
def setFigure (station : Nat) (g : PeerFigure → PeerFigure) : List PeerFigure → List PeerFigure
  | [] => [g ⟨station, 0, none⟩]
  | f :: rest =>
    if f.station < station then f :: setFigure station g rest
    else if f.station = station then g f :: rest
    else g ⟨station, 0, none⟩ :: f :: rest

/-- The tally a report gives for a slot and hold, 0 where it lists none (R103). Of two entries for one slot and hold the first
counts (assumption 31). -/
def Report.tallyKg (r : Report) (x : Slot) (h : Nat) : Nat :=
  match r.tallies.find? (fun t => t.slot == x && t.hold == h) with
  | some t => t.kg
  | none => 0

/-- The plan tag a report gives for a slot. -/
def Report.tag (r : Report) : Slot → Nat
  | .a => r.tagA
  | .b => r.tagB

/-- The report's claim on a slot, where it carries one. -/
def Report.claimFor (r : Report) (x : Slot) : Option ReportClaim :=
  match r.claim with
  | some c => if c.slot = x then some c else none
  | none => none

/-- The on-belt figure a report gives for a row: on the hold of its claim while ACTIVE on this slot (R103). -/
def Report.onBeltFor (r : Report) (x : Slot) (h : Nat) : Option Nat :=
  match r.claimFor x with
  | some c => if c.phase = .active ∧ c.hold = h then r.onBelt else none
  | none => none

/-- The peer's figures in every row, the first being that of hold `h` (R103). -/
def takeFigures (station : Nat) (x : Slot) (r : Report) (h : Nat) : List Row → List Row
  | [] => []
  | row :: rest =>
    { row with peers := setFigure station (fun f => { f with
        deliveredKg := if r.tag x = 0 then f.deliveredKg else r.tallyKg x h
        onBeltKg := r.onBeltFor x h }) row.peers } :: takeFigures station x r (h + 1) rest

/-- What a STATUS handed by the Peer Table does to the view of one slot (R103, R115). -/
def takeReport (station : Nat) (x : Slot) (r : Report) (rows : List Row) : List Row :=
  match r.claimFor x with
  | some c => placeClaim c.hold ⟨station, c.pass, c.target, c.phase⟩ (takeFigures station x r 1 rows)
  | none => removeClaims station (takeFigures station x r 1 rows)

/-- The end of the own claim (R119): out of the claim list, the record cleared, the token pass marker of its hold
cleared; the on-belt figure leaves the row with the claim. The end is a status change (R52). -/
def State.endClaim (s : State) : State :=
  match s.fill.claim with
  | none => s
  | some c =>
    ((s.onFill (fun f => { f.onView c.slot (removeClaims s.station) with claim := none, claimTimer := none })).onHold
      c.slot c.hold (fun hd => { hd with tokenPass := false })).markStatus

end Sys2Proof.Machine
end

