-- ==== Sys2Proof/Machine/Operands.lean ====
section
/-! DEFINITION. The byte records the part reads and writes: the request records of the mailbox (section 11.4), and
the quay frames with their validity test (R46, R186, section 11.2). -/

namespace Sys2Proof.Machine

/-! ## Request records -/

/-- Bytes cut into fields of the given widths, where they have exactly that length. -/
def cutFields : List Nat → List Byte → Option (List (List Byte))
  | [], [] => some []
  | [], _ :: _ => none
  | w :: ws, bytes =>
    if bytes.length < w then none
    else match cutFields ws (bytes.drop w) with
      | some rest => some (bytes.take w :: rest)
      | none => none

/-- The widths of START BLOCK's fields 1..26 (R178, R184). -/
def startWidths : List Nat := [1, 1, 1, 4, 4, 4, 4, 4, 4, 4, 2, 1, 2, 4, 2, 1, 1, 2, 2, 2, 2, 2, 2, 4, 4, 1]

/-- The widths of OPEN SESSION's fields (R4, R184). -/
def sessionWidths : List Nat := [1, 2, 4, 1, 4, 1, 4, 4, 2, 2, 2, 2, 2, 2]

/-- START BLOCK's fields from their bytes. -/
def readStart : List (List Byte) → Option Request
  | [f1, f2, f3, f4, f5, f6, f7, f8, f9, f10, f11, f12, f13, f14, f15, f16, f17, f18, f19, f20, f21, f22, f23,
      f24, f25, f26] =>
    some (.startBlock
      { station := natBE f1, chainEndUp := natBE f2, chainEndDown := natBE f3, railLower := natBE f4,
        railUpper := natBE f5, spoutOffset := intBE f6, separation := natBE f7, slowDown := natBE f8,
        creep := natBE f9, tolerance := natBE f10, releaseDelay := natBE f11, pulseLength := natBE f12,
        cellCount := natBE f13, beltLoop := natBE f14, span := natBE f15, zeroBand := natBE f16,
        gateLimit := natBE f17, spout := ⟨natBE f18, natBE f19, natBE f20⟩,
        gallery := ⟨natBE f21, natBE f22, natBE f23⟩, allowance := natBE f24, ceiling := natBE f25,
        trigger := natBE f26 })
  | _ => none

/-- OPEN SESSION's fields from their bytes. -/
def readSession : List (List Byte) → Option Request
  | [f1, f2, f3, f4, f5, f6, f7, f8, f9, f10, f11, f12, f13, f14] =>
    some (.openSession
      { slot := natBE f1, planTag := natBE f2, bowMark := natBE f3, orientation := natBE f4, length := natBE f5,
        holdCount := natBE f6, displacement := natBE f7, moment := intBE f8, mct := natBE f9, tpc := natBE f10,
        meanDraft := natBE f11, draftLimit := natBE f12, bandLower := intBE f13, bandUpper := intBE f14 })
  | _ => none

/-- HOLD ENTRY's fields: the count byte of the pass targets stands at offset 19 of the fields, and the record's
length must agree with it (section 11.4). -/
def readHold (bytes : List Byte) : Option Request :=
  let count := (bytes.getD 19 0).toNat
  match cutFields ([1, 1, 4, 4, 4, 4, 1, 1] ++ List.replicate count 4 ++ [1]) bytes with
  | some (f1 :: f2 :: f3 :: f4 :: f5 :: f6 :: f7 :: _ :: rest) =>
    some (.holdEntry
      { slot := natBE f1, hold := natBE f2, fore := natBE f3, aft := natBE f4, margin := natBE f5,
        lever := intBE f6, spoutLimit := natBE f7, targets := (rest.take count).map natBE,
        permission := natBE (rest.getD count []) })
  | _ => none

/-- A request record as POST places it (section 11.4): `none` is a length that does not fit the kind (MALFORMED). A
kind that is not among the codes is taken whatever its length. -/
def Request.read : List Byte → Option Request
  | [] => none
  | kind :: bytes =>
    if kind = 0x01 then (cutFields startWidths bytes).bind readStart
    else if kind = 0x02 then (if bytes = [] then some .restart else none)
    else if kind = 0x03 then
      match cutFields [1, 1, 1, 1, 1] bytes with
      | some [m1, m2, m3, m4, t] => some (.setMasks (natBE m1) (natBE m2) (natBE m3) (natBE m4) (natBE t))
      | _ => none
    else if kind = 0x04 then (if bytes = [] then some .bypassOn else none)
    else if kind = 0x05 then (if bytes = [] then some .bypassOff else none)
    else if kind = 0x10 then (cutFields sessionWidths bytes).bind readSession
    else if kind = 0x11 then readHold bytes
    else if kind = 0x12 then
      match cutFields [1, 1, 1] bytes with
      | some [x, h, st] => some (.setHatch (natBE x) (natBE h) (natBE st))
      | _ => none
    else if kind = 0x13 then
      match cutFields [1, 1] bytes with
      | some [x, h] => some (.permit (natBE x) (natBE h))
      | _ => none
    else if kind = 0x14 then
      match cutFields [1, 4] bytes with
      | some [x, bow] => some (.shiftVessel (natBE x) (natBE bow))
      | _ => none
    else if kind = 0x15 then
      match cutFields [1, 2] bytes with
      | some [x, l] => some (.setDraftLimit (natBE x) (natBE l))
      | _ => none
    else if kind = 0x16 then
      match cutFields [1] bytes with
      | some [x] => some (.closeSession (natBE x))
      | _ => none
    else if kind = 0x20 then
      match cutFields [4] bytes with
      | some [t] => some (.move (natBE t))
      | _ => none
    else if kind = 0x21 then (if bytes = [] then some .stopTravel else none)
    else if kind = 0x22 then (if bytes = [] then some .faultClear else none)
    else if kind = 0x30 then
      match cutFields [1, 1, 4] bytes with
      | some [x, h, o] => some (.pour (natBE x) (natBE h) (natBE o))
      | _ => none
    else if kind = 0x31 then (if bytes = [] then some .endPour else none)
    else if kind = 0x38 then (if bytes = [] then some .zeroScale else none)
    else if kind = 0x40 then
      match cutFields [1] bytes with
      | some [c] => some (.dustAcknowledge (natBE c))
      | _ => none
    else if kind = 0x48 then
      match cutFields [1] bytes with
      | some [n] => some (.discardBill (natBE n))
      | _ => none
    else if kind = 0x50 then (if bytes = [] then some .readStation else none)
    else if kind = 0x51 then (if bytes = [] then some .readPeers else none)
    else if kind = 0x52 then
      match cutFields [1] bytes with
      | some [x] => some (.readHolds (natBE x))
      | _ => none
    else if kind = 0x53 then
      match cutFields [1, 1] bytes with
      | some [n, l] => some (.readBill (natBE n) (natBE l))
      | _ => none
    else some (.unknown (kind :: bytes))

/-! ## Frames as sent -/

/-- A claim block of a STATUS payload. -/
def ReportClaim.bytes (c : ReportClaim) : List Byte :=
  c.slot.code :: (uField 1 c.hold ++ uField 1 c.pass ++ [c.phase.code] ++ kgField c.target)

/-- A tally entry. -/
def Tally.bytes (t : Tally) : List Byte := t.slot.code :: (uField 1 t.hold ++ kgField t.kg)

/-- A block that is left out of a frame when it is absent. -/
def block {α : Type} (f : α → List Byte) : Option α → List Byte
  | some x => f x
  | none => []

/-- The presence byte of a STATUS payload. -/
def Report.presence (r : Report) : Byte :=
  BitVec.ofNat 8 (bit r.target.isSome 1 + bit r.claim.isSome 2 + bit r.spoutHold.isSome 4
    + bit r.onBelt.isSome 8 + bit r.positionValid 16)

/-- The STATUS payload of a report (section 11.2). -/
def Report.payload (r : Report) : List Byte :=
  [r.mode, r.presence] ++ uField 2 r.tagA ++ uField 2 r.tagB ++ uField 4 r.position
    ++ [r.travel, r.pour, r.spout.code]
    ++ block (uField 4) r.target ++ block ReportClaim.bytes r.claim
    ++ block (fun h => h.1.code :: uField 1 h.2) r.spoutHold ++ block kgField r.onBelt
    ++ uField 1 r.tallies.length ++ r.tallies.flatMap Tally.bytes

/-- A frame: kind, origin, hop count, payload, check word (section 11.2). -/
def frameBytes (kind : Byte) (origin hop : Nat) (payload : List Byte) : List Byte :=
  withCheck ([kind] ++ uField 1 origin ++ uField 1 hop ++ payload)

/-! ## Frames as received -/

/-- What a valid frame carries, as R186 reads it: an unusable claim, dust hold or lost side is absent. -/
inductive Content where
  | status (report : Report)
  | claim (claim : Option (ReportClaim × Nat))
  | dust (spout : DustClass) (hold : Option (Slot × Nat))
  | brk (lost : Option Side)
  deriving DecidableEq, Repr

/-- A valid frame. -/
structure Frame where
  origin : Nat
  hop : Nat
  content : Content
  deriving DecidableEq, Repr

/-- A slot code and a hold in 1..9, or nothing usable (R186). -/
def readHoldRef (bytes : List Byte) : Option (Slot × Nat) :=
  match bytes with
  | [x, h] => match Slot.ofCode? x.toNat with
    | some s => if 1 ≤ h.toNat ∧ h.toNat ≤ 9 then some (s, h.toNat) else none
    | none => none
  | _ => none

/-- A claim block: slot, hold, pass, phase, target; absent where R186 makes it unusable. -/
def readClaim (bytes : List Byte) : Option ReportClaim :=
  match readHoldRef (bytes.take 2), ClaimPhase.ofCode? (bytes.getD 3 0).toNat with
  | some (x, h), some ph =>
    if 1 ≤ (bytes.getD 2 0).toNat ∧ (bytes.getD 2 0).toNat ≤ 6 then
      some ⟨x, h, (bytes.getD 2 0).toNat, ph, natBE (bytes.drop 4)⟩
    else none
  | _, _ => none

/-- The tally entries, 6 bytes each; an unusable one is discarded (R186). -/
def readTallies : Nat → List Byte → List Tally
  | 0, _ => []
  | n + 1, bytes =>
    match readHoldRef (bytes.take 2) with
    | some (x, h) => ⟨x, h, natBE ((bytes.take 6).drop 2)⟩ :: readTallies n (bytes.drop 6)
    | none => readTallies n (bytes.drop 6)

/-- The length of a block that the presence byte may leave out. -/
def blockLength (p : Byte) (i width : Nat) : Nat := if p.getLsbD i then width else 0

/-- A STATUS payload: `none` where its length differs from what its presence bits and tally count give, or the count
exceeds 18 (section 11.2). Mode, plan tags and pour state are recorded as received (R186); a travel code that is not listed is taken as not
MOVING (R186), and that it is kept and reported as received too is the model's choice (assumption 44). -/
def readReport (pl : List Byte) : Option Report :=
  let p := pl.getD 1 0
  let atClaim := 13 + blockLength p 0 4
  let atHold := atClaim + blockLength p 1 8
  let atBelt := atHold + blockLength p 2 2
  let atCount := atBelt + blockLength p 3 4
  let count := (pl.getD atCount 0).toNat
  if 18 < count ∨ pl.length ≠ atCount + 1 + 6 * count then none
  else some
    { mode := pl.getD 0 0
      tagA := natBE ((pl.drop 2).take 2)
      tagB := natBE ((pl.drop 4).take 2)
      position := natBE ((pl.drop 6).take 4)
      positionValid := p.getLsbD 4
      travel := pl.getD 10 0
      target := if p.getLsbD 0 then some (natBE ((pl.drop 13).take 4) : Int) else none
      pour := pl.getD 11 0
      claim := if p.getLsbD 1 then readClaim ((pl.drop atClaim).take 8) else none
      spout := DustClass.ofCode (pl.getD 12 0).toNat
      spoutHold := if p.getLsbD 2 then readHoldRef ((pl.drop atHold).take 2) else none
      tallies := readTallies count (pl.drop (atCount + 1))
      onBelt := if p.getLsbD 3 then some (natBE ((pl.drop atBelt).take 4)) else none }

/-- The payload of a frame of a kind, where its length agrees with the kind's layout (section 11.2). -/
def readContent (kind : Byte) (pl : List Byte) : Option Content :=
  if kind = 0x01 then (readReport pl).map Content.status
  else if kind = 0x02 then
    if pl.length = 9 then
      match readHoldRef (pl.take 2) with
      | some (x, h) =>
        if 1 ≤ (pl.getD 2 0).toNat ∧ (pl.getD 2 0).toNat ≤ 6 then
          some (.claim (some (⟨x, h, (pl.getD 2 0).toNat, .pending, natBE ((pl.drop 3).take 4)⟩, natBE (pl.drop 7))))
        else some (.claim none)
      | none => some (.claim none)
    else none
  else if kind = 0x03 then
    if pl.length = 4 then
      some (.dust (DustClass.ofCode (pl.getD 1 0).toNat)
        (if (pl.getD 0 0).getLsbD 0 then readHoldRef (pl.drop 2) else none))
    else none
  else if kind = 0x04 then
    if pl.length = 1 then some (.brk (sideOfCode? (pl.getD 0 0).toNat)) else none
  else none

/-- The validity test of R46 on the bytes between the line's delimiters, and what a valid frame carries. -/
def readFrame (bytes : List Byte) : Option Frame :=
  let body := bytes.take (bytes.length - 2)
  if bytes.length < 5 then none
  else if natBE (bytes.drop (bytes.length - 2)) ≠ checkWord body then none
  else if (body.getD 1 0).toNat < 1 ∨ 8 < (body.getD 1 0).toNat then none
  else match readContent (body.getD 0 0) (body.drop 3) with
    | some c => some ⟨(body.getD 1 0).toNat, (body.getD 2 0).toNat, c⟩
    | none => none

/-- The repeated copy of a frame: hop count raised by 1, a fresh check word, all other bytes as received (R49). -/
def repeatedCopy (bytes : List Byte) : List Byte :=
  let body := bytes.take (bytes.length - 2)
  withCheck (body.set 2 (body.getD 2 0 + 1))

end Sys2Proof.Machine
end

