-- ==== Sys2Proof/Machine/Line.lean ====
section
/-! DEFINITION. The Line Unit: own frames and their issue (R52 to R55), the transmitters (R56, R57), the pass-through
queues (R50), and the end of a command's status changes (R52). -/

namespace Sys2Proof.Machine

/-! ## The own-frame queue and the transmitters -/

/-- The sent mark of an entry for a port (R55). -/
def OwnEntry.sent (e : OwnEntry) : Side → Bool
  | .up => e.upSent
  | .down => e.downSent

/-- The waiting own frame of a port: the first entry whose mark for it is clear (section 3.5). -/
def QuayLine.waiting (l : QuayLine) (p : Side) : Option OwnEntry := l.own.find? (fun e => !e.sent p)

/-- The pass-over count of a port falls to 0 whenever no own frame waits for it (R56). -/
def QuayLine.settlePassOver (l : QuayLine) : QuayLine :=
  let clearAt (l : QuayLine) (p : Side) : QuayLine :=
    match l.waiting p with
    | none => l.onPort p (fun r => { r with passOver := 0 })
    | some _ => l
  clearAt (clearAt l .up) .down

/-- An IDLE transmitter takes a frame, if one is available to it (R56). A chain-end port's takes none. -/
def QuayLine.take (l : QuayLine) (p : Side) : QuayLine :=
  if (l.port p).sending.isSome || (l.port p).chainEnd then l
  else match (l.port p).queue, l.waiting p with
    | [], none => l.onPort p (fun r => { r with passOver := 0 })
    | [], some e => l.onPort p (fun r => { r with sending := some ⟨e.bytes, some e.serial⟩, passOver := 0 })
    | f :: rest, none => l.onPort p (fun r => { r with sending := some ⟨f, none⟩, queue := rest, passOver := 0 })
    | f :: rest, some e =>
      if (l.port p).passOver < Config.passOverMax then
        l.onPort p (fun r => { r with sending := some ⟨f, none⟩, queue := rest, passOver := r.passOver + 1 })
      else l.onPort p (fun r => { r with sending := some ⟨e.bytes, some e.serial⟩, passOver := 0 })

/-- Both transmitters take what has become available. -/
def QuayLine.takeBoth (l : QuayLine) : QuayLine := (l.take .up).take .down

/-- BREAK, DUST and CLAIM stand ahead of STATUS (R55). -/
def OwnKind.urgent : OwnKind → Bool
  | .status => false
  | _ => true

/-- A newly issued frame in the own-frame queue: in place of an entry of its kind, else at the back of its class;
not entered when both its marks are set at the issue (R55). -/
def enterOwn (e : OwnEntry) (queue : List OwnEntry) : List OwnEntry :=
  if e.upSent && e.downSent then queue
  else if queue.any (fun q => q.kind == e.kind) then queue.map (fun q => if q.kind == e.kind then e else q)
  else if e.kind.urgent then queue.filter (fun q => q.kind.urgent) ++ [e] ++ queue.filter (fun q => !q.kind.urgent)
  else queue ++ [e]

/-- A frame is issued (R55): its marks for the chain ends, and for a BREAK that of its own side, are set. -/
def QuayLine.issue (l : QuayLine) (kind : OwnKind) (bytes : List Byte) : QuayLine :=
  ({ l with
      serial := l.serial + 1
      own := enterOwn
        { kind := kind, serial := l.serial, bytes := bytes,
          upSent := l.up.chainEnd || kind == .brk .up, downSent := l.down.chainEnd || kind == .brk .down }
        l.own } : QuayLine).settlePassOver.takeBoth

/-- A frame offered for repeat out of a port joins its pass-through queue, or is dropped and counted (R50). -/
def PortRec.offer (r : PortRec) (bytes : List Byte) : PortRec :=
  if r.queue.length < Config.passQueueSize then { r with queue := r.queue ++ [bytes] }
  else { r with overflows := min (r.overflows + 1) Config.countMax }

/-- The own frame a transmitter has sent is marked for its port, if the queue still holds that issue; an entry with
both marks leaves the queue (R57). -/
def markSent (p : Side) (serial : Nat) (queue : List OwnEntry) : List OwnEntry :=
  (queue.map (fun e => if e.serial == serial then
      match p with
      | .up => { e with upSent := true }
      | .down => { e with downSent := true }
    else e)).filter (fun e => !(e.upSent && e.downSent))

/-- The frame-sent event at a port (R57), up to the transmitter's next take. Repeat hold falls by 1 for an own frame
(R59). -/
def QuayLine.sent (l : QuayLine) (p : Side) (sending : Sending) : QuayLine :=
  match sending.own with
  | none => (l.onPort p (fun r => { r with sending := none })).settlePassOver
  | some serial =>
    (({ l with own := markSent p serial l.own } : QuayLine).onPort p (fun r =>
      { r with sending := none, repeatHold := r.repeatHold - 1 })).settlePassOver

/-! ## Building own frames -/

/-- Position-valid (R81): a position is known and travel is not FAULTED with an encoder cause. -/
def Travel.encoderFault (t : Travel) : Bool :=
  t.state == .faulted && (t.cause == some .encoderJump || t.cause == some .encoderSilent || t.cause == some .encoderRange)

def Travel.positionValid (t : Travel) : Bool := t.position.isSome && !t.encoderFault

/-- The tally entries of one slot, the first row being that of hold `h`: own delivered above 0 g (R53). -/
def slotTallies (x : Slot) (h : Nat) : List Row → List Tally
  | [] => []
  | r :: rest =>
    if 0 < r.delivered then ⟨x, h, r.delivered / 1000⟩ :: slotTallies x (h + 1) rest else slotTallies x (h + 1) rest

/-- The tally list: slot A before slot B, in hold order (R53). -/
def State.tallies (s : State) : List Tally :=
  slotTallies .a 1 ((s.view .a).getD []) ++ slotTallies .b 1 ((s.view .b).getD [])

/-- The report of a STATUS built from the present state (R53). -/
def State.report (s : State) (mode : PartMode) : Report where
  mode := mode.code
  tagA := s.planTag .a
  tagB := s.planTag .b
  position := s.travel.position.getD 0
  positionValid := s.travel.positionValid
  travel := s.travel.state.code
  target := if s.travel.state = .moving ∨ s.travel.state = .held then s.travel.target else none
  pour := s.pour.state.code
  claim := s.fill.claim.map (fun c => ⟨c.slot, c.hold, c.pass, c.phase, c.target⟩)
  spout := s.dust.spout.state
  spoutHold := s.translate.hold?
  tallies := s.tallies
  onBelt := if s.activeClaim.isSome then some (s.belt.content / 1000) else none

/-- Own frames are issued only in RUN (section 3.4). -/
def State.inRun (s : State) : Bool := s.port.mode == .run

/-- A STATUS is built and placed in the own-frame queue: both timers restart, change-pending is cleared (R52). The
last STATUS of R63 is issued by this too, with mode BYPASS. -/
def State.issueStatusAs (s : State) (mode : PartMode) : State :=
  { s with line := { s.line.issue .status (frameBytes 0x01 s.station 0 (s.report mode).payload) with
      statusTimer := s.timer Config.statusMs, spacingTimer := s.timer Config.spacingMs,
      changePending := false, statusDue := false } }

def State.issueStatus (s : State) : State := s.issueStatusAs .run

/-- CLAIM, at the request of the Fill Order Unit (R54). -/
def State.issueClaim (s : State) (c : OwnClaim) : State :=
  if s.inRun then
    s.onLine (fun l => l.issue .claim (frameBytes 0x02 s.station 0
      (c.slot.code :: (uField 1 c.hold ++ uField 1 c.pass ++ kgField c.target ++ uField 2 (s.planTag c.slot)))))
  else s

/-- DUST, at the request of the Dust Monitor, with the hold of a translation made at the issue (R54). -/
def State.issueDust (s : State) : State :=
  if s.inRun then
    s.onLine (fun l => l.issue .dust (frameBytes 0x03 s.station 0
      (presence [s.translate.hold?.isSome] ++ [s.dust.spout.state.code] ++ holdField s.translate.hold?)))
  else s

/-- BREAK for a lost side (R60). -/
def State.issueBreak (s : State) (lost : Side) : State :=
  if s.inRun then s.onLine (fun l => l.issue (.brk lost) (frameBytes 0x04 s.station 0 [sideCode lost])) else s

/-- The end of a command (R52): its status changes, if any, issue one STATUS at once, or set change-pending while the
spacing timer runs. Outside RUN they issue nothing, then or later (section 3.4). -/
def State.finish (s : State) : State :=
  if s.line.statusDue then
    if s.inRun then
      if s.line.spacingTimer.isSome then s.onLine (fun l => { l with statusDue := false, changePending := true })
      else s.issueStatus
    else s.onLine (fun l => { l with statusDue := false })
  else s

/-! ## Port states and the entry to BYPASS -/

/-- A port set to state UP with restore count and repeat hold 0 (R62, R64, R65). -/
def PortRec.setUp (r : PortRec) : PortRec := { r with state := .up, restoreCount := 0, repeatHold := 0 }

/-- The silence timer of a port that is not a chain end started afresh; a chain end's never runs (R58). -/
def PortRec.startSilence (r : PortRec) (t : Timer) : PortRec :=
  { r with silenceTimer := if r.chainEnd then none else t }

/-- Both ports. -/
def QuayLine.onPorts (l : QuayLine) (f : PortRec → PortRec) : QuayLine := { l with up := f l.up, down := f l.down }

/-- The relay closes once the last STATUS has left the own-frame queue (R63 steps 5 and 6): the port and status timers
are stopped (R44), both ports are set to UP, and no notice is queued. -/
def QuayLine.closeRelay (l : QuayLine) : QuayLine :=
  match l.closing with
  | .sending serial =>
    if l.own.any (fun e => e.serial == serial) then l
    else { l with
      relayOpen := false, closing := .none, statusTimer := none
      up := { l.up.setUp with passOver := 0, silenceTimer := none, breakTimer := none }
      down := { l.down.setUp with passOver := 0, silenceTimer := none, breakTimer := none } }
  | _ => l

/-- The last STATUS before the relay closes (R63 step 4). -/
def State.issueLastStatus (s : State) : State :=
  (s.onLine (fun l => { l with closing := .sending l.serial })).issueStatusAs .bypass |>.onLine QuayLine.closeRelay

end Sys2Proof.Machine
end

