-- ==== Sys2Proof/Machine/Travel.lean ====
section
/-! DEFINITION. The Travel Controller: nearest peers (R75), the permitted range (R85, R86), orders and the stop point
(R88), and the travel states (R89 to R97). An operation that may end an order answers, beside the state, the source
of the order that arrived, for the Pour Sequencer to be told (R127). -/

namespace Sys2Proof.Machine

/-! ## Nearest peer (R75) -/

/-- Whether `e` ranks before `f` on a side: smaller distance, then the position nearer this station (an absent
report last), then the lower number. -/
def PeerEntry.before (side : Side) (e f : PeerEntry) : Bool :=
  if e.distance ≠ f.distance then decide (e.distance < f.distance)
  else match e.report, f.report with
    | some r, some q =>
      if r.position ≠ q.position then
        match side with
        | .up => decide (q.position < r.position)
        | .down => decide (r.position < q.position)
      else decide (e.station < f.station)
    | some _, none => true
    | none, some _ => false
    | none, none => decide (e.station < f.station)

/-- The entry that ranks first on a side. -/
def nearestOf (side : Side) : List PeerEntry → Option PeerEntry
  | [] => none
  | e :: rest =>
    if e.side = side then
      match nearestOf side rest with
      | some f => if f.before side e then some f else some e
      | none => some e
    else nearestOf side rest

/-- The nearest peer of a side. -/
def State.nearest (s : State) (side : Side) : Option PeerEntry := nearestOf side s.peers

/-! ## The permitted range (R85, R86) -/

/-- A report whose travel state code is one of MOVING and HELD (R86, R186). -/
def Report.underWay (r : Report) : Bool := r.travel == TravelState.moving.code || r.travel == TravelState.held.code

/-- Where the peer bounds this station from: its target while heading toward this station, else its position
(R86). -/
def Report.boundFrom (r : Report) (side : Side) : Int :=
  match r.target with
  | some t =>
    match side with
    | .up => if r.underWay ∧ r.position < t then t else r.position
    | .down => if r.underWay ∧ t < r.position then t else r.position
  | none => r.position

/-- A distance `d` added on the side of this station: toward DOWN of an UP peer, toward UP of a DOWN peer. -/
def awayFrom (side : Side) (x d : Int) : Int :=
  match side with
  | .up => x + d
  | .down => x - d

/-- The bound of a side with the term that gives it (R86); none for a side that has no such term. A bound at the present
position has no value while the position is unknown. A side with a nearest peer is credited PEER whatever its report (assumption
32). -/
def State.bound (s : State) (side : Side) : Option (Option Int × EdgeTerm) :=
  match s.nearest side with
  | some e =>
    match e.report with
    | some r =>
      if !r.positionValid then some (s.travel.position, .peer e.station)
      else if e.freshness = .fresh then
        some (some (awayFrom side (r.boundFrom side) s.block.separation), .peer e.station)
      else some (some (awayFrom side r.position (s.block.separation + Config.staleMargin)), .peer e.station)
    | none => some (s.travel.position, .peer e.station)
  | none => if (s.line.port side).chainEnd then none else some (s.travel.position, .noPeer)

/-- The lower edge: the greatest term, credited to PEER or NO_PEER, then WINDOW, then RAIL where equal (R85). -/
def raiseEdge (edge term : Int × EdgeTerm) : Int × EdgeTerm := if edge.1 ≤ term.1 then term else edge

/-- The upper edge: the least term, credited in the same order. -/
def lowerEdge (edge term : Int × EdgeTerm) : Int × EdgeTerm := if term.1 ≤ edge.1 then term else edge

/-- The WINDOW terms: the pour window of the claim's hold in loader positions (R85). -/
def State.windowTerms (s : State) : Option (Int × Int) :=
  match s.fill.claim with
  | some c => s.loaderWindow c.slot c.hold
  | none => none

/-- The edge of a side before its PEER or NO_PEER term: RAIL, and WINDOW if asked for. -/
def State.plainEdge (s : State) (side : Side) (window : Option (Int × Int)) : Int × EdgeTerm :=
  match side, window with
  | .up, none => (s.block.railLower, .rail)
  | .up, some w => raiseEdge (s.block.railLower, .rail) (w.1, .window)
  | .down, none => (s.block.railUpper, .rail)
  | .down, some w => lowerEdge (s.block.railUpper, .rail) (w.2, .window)

/-- The edge of the permitted range on a side, with the WINDOW term if asked for (R85). One that a bound at the present position
would set is not computed while the position is unknown (assumption 25). -/
def State.computeEdge (s : State) (side : Side) (window : Option (Int × Int)) : Option (Int × EdgeTerm) :=
  match s.bound side with
  | none => some (s.plainEdge side window)
  | some (some b, term) =>
    some (match side with
      | .up => raiseEdge (s.plainEdge .up window) (b, term)
      | .down => lowerEdge (s.plainEdge .down window) (b, term))
  | some (none, _) => none

/-- A range of two computed edges. -/
def Range.of : Option (Int × EdgeTerm) → Option (Int × EdgeTerm) → Option Range
  | some lo, some hi => some ⟨lo.1, lo.2, hi.1, hi.2⟩
  | _, _ => none

/-- The permitted range that the present facts give, where both edges are computed. -/
def State.computeRange (s : State) (window : Option (Int × Int)) : Option Range :=
  Range.of (s.computeEdge .up window) (s.computeEdge .down window)

/-- The permitted range as last computed, where both edges are: travel acts on it with a position known, which computes both. -/
def Travel.range (t : Travel) : Option Range := Range.of t.edgeUp t.edgeDown

/-- The window that enters the range: that of the claim's hold while a bill line is open (R85). -/
def State.rangeWindow (s : State) : Option (Int × Int) := if s.lineOpen then s.windowTerms else none

/-- The permitted range computed afresh (R87). -/
def State.recompute (s : State) : State :=
  s.onTravel (fun t => { t with
    edgeUp := s.computeEdge .up s.rangeWindow, edgeDown := s.computeEdge .down s.rangeWindow })

/-! ## The stop point (R88) -/

/-- Two positions no farther apart than `d`. -/
def within (d : Nat) (x y : Int) : Bool := decide ((x - y).natAbs ≤ d)

/-- The stop point of an order (R88). -/
def Range.stopPoint (r : Range) (pos target : Int) : Int :=
  if target < pos then min pos (max target r.lower) else max pos (min target r.upper)

/-- The term of the edge ahead of an order. -/
def Range.termAhead (r : Range) (pos target : Int) : EdgeTerm :=
  if target < pos then r.lowerTerm else r.upperTerm

/-- Direction of an order (R88). -/
def directionTo (pos target : Int) : Side := if target < pos then .up else .down

/-- A target behind the position in a direction of travel (R90). -/
def behind (dir : Side) (pos target : Int) : Bool :=
  match dir with
  | .up => decide (pos < target)
  | .down => decide (target < pos)

/-- The profile step at distance `d` from the stop point (R90). -/
def State.profileStep (s : State) (d : Nat) : SpeedStep :=
  if s.block.slowDown < d then .fast else if s.block.creep < d then .slow else .creep

/-- A side whose nearest peer exists and is not FRESH, toward which travel goes at CREEP (R90). -/
def State.doubtful (s : State) (side : Side) : Bool :=
  match s.nearest side with
  | some e => e.freshness != .fresh
  | none => false

/-- The speed step: the profile step, lowered to CREEP where R90 says so. -/
def State.speedStep (s : State) (dir : Side) (d : Nat) : SpeedStep :=
  if s.travel.source == some .returning || s.lineOpen || s.doubtful dir then .creep else s.profileStep d

/-! ## Changes of travel state (each is a status change, R82) -/

/-- RELEASING (R89): the brake release output goes on and both its timers start. -/
def State.enterReleasing (s : State) : State :=
  (s.onTravel (fun t => { t with
    state := .releasing, releaseTimer := s.timer s.block.releaseDelay,
    brakeFailTimer := s.timer (s.block.releaseDelay + Config.brakeFailExtraMs), settleTimer := none })).markStatus

/-- SETTLING (R92): the outputs go off and the settle timer starts. -/
def State.enterSettling (s : State) (mark : StopMark) : State :=
  (s.onTravel (fun t => { t with
    state := .settling, step := .zero, direction := none, stopMark := some mark, releaseTimer := none,
    brakeFailTimer := none, settleTimer := s.timer Config.settleMs })).markStatus

/-- PARKED with no order: target and source dropped. -/
def State.park (s : State) : State :=
  let t := s.onTravel (fun t => { t with
    state := .parked, target := none, source := none, direction := none, step := .zero, stopMark := none,
    releaseTimer := none, brakeFailTimer := none, settleTimer := none })
  if s.travel.state = .parked then t else t.markStatus

/-- HELD (R93): TRAVEL_HELD is queued with the term of the edge that held it. -/
def State.enterHeld (s : State) : State :=
  let t := (s.onTravel (fun t => { t with state := .held, stopMark := none, settleTimer := none })).markStatus
  match s.travel.position, s.travel.target, s.travel.range with
  | some pos, some target, some r => t.notify (.travelHeld (r.termAhead pos target) pos target)
  | _, _, _ => t

/-- The order ends as an arrival (R92 step 3): ARRIVED is queued, travel is PARKED, and the source of the order is
answered. -/
def State.arrive (s : State) : State × Option OrderSource :=
  match s.travel.position, s.travel.target, s.travel.source with
  | some pos, some target, some src => (s.park.notify (.arrived pos target src), some src)
  | _, _, _ => (s.park, none)

/-- The action of MOVING on an accepted sample, on a new computation of the range (R90) or on a replaced target. -/
def State.movingAct (s : State) : State :=
  match s.travel.position, s.travel.range, s.travel.target, s.travel.direction with
  | some pos, some r, some target, some dir =>
    if within s.block.tolerance pos target || behind dir pos target then s.enterSettling .target
    else if within s.block.tolerance pos (r.stopPoint pos target) then s.enterSettling .edge
    else s.onTravel (fun t => { t with step := s.speedStep dir (r.stopPoint pos target - pos).natAbs })
  | _, _, _, _ => s

/-- The action of HELD (R93). -/
def State.heldAct (s : State) : State × Option OrderSource :=
  match s.travel.position, s.travel.range, s.travel.target with
  | some pos, some r, some target =>
    if within s.block.tolerance pos target then s.arrive
    else if r.stopPoint pos target = target then (s.enterReleasing, none)
    else if within s.block.creep pos (r.stopPoint pos target) then (s, none)
    else (s.enterReleasing, none)
  | _, _, _ => (s, none)

/-- What travel does at a new position or a new permitted range, by its state. -/
def State.travelAct (s : State) : State × Option OrderSource :=
  match s.travel.state with
  | .moving => (s.movingAct, none)
  | .held => s.heldAct
  | _ => (s, none)

/-- The range is computed afresh and travel acts on it (R87, R90, R93). -/
def State.rangeEvent (s : State) : State × Option OrderSource := s.recompute.travelAct

/-- The end of RELEASING with the brake released (R89): MOVING, or SETTLING when the stop point is within the arrival
tolerance. -/
def State.enterMoving (s : State) : State :=
  match s.travel.position, s.travel.range, s.travel.target with
  | some pos, some r, some target =>
    if within s.block.tolerance pos (r.stopPoint pos target) then
      s.enterSettling (if r.stopPoint pos target = target then .target else .edge)
    else
      (s.onTravel (fun t => { t with
        state := .moving, direction := some (directionTo pos target), releaseTimer := none, brakeFailTimer := none,
        step := s.speedStep (directionTo pos target) (r.stopPoint pos target - pos).natAbs })).markStatus
  | _, _, _ => s

/-- The action of PARKED on a new order (R88). -/
def State.parkedAct (s : State) : State × Option OrderSource :=
  match s.travel.position, s.travel.range, s.travel.target with
  | some pos, some r, some target =>
    if within s.block.tolerance pos target then s.arrive
    else if within s.block.tolerance pos (r.stopPoint pos target) then (s.enterHeld, none)
    else (s.enterReleasing, none)
  | _, _, _ => (s, none)

/-- An order replaced while MOVING (R91): a target behind, beyond the arrival tolerance, is a reversal. -/
def State.redirect (s : State) : State :=
  match s.travel.position, s.travel.target, s.travel.direction with
  | some pos, some target, some dir =>
    if behind dir pos target && !within s.block.tolerance pos target then s.enterSettling .reversal
    else s.movingAct
  | _, _, _ => s

/-- A new order replaces the one present and acts in the travel state it finds (R88, R91, R93, R95). None is placed
while travel is FAULTED. -/
def State.placeOrder (s : State) (target : Int) (source : OrderSource) : State × Option OrderSource :=
  if s.travel.state = .faulted then (s, none)
  else
    let t := s.onTravel (fun t => { t with target := some target, source := some source })
    match s.travel.state with
    | .parked => t.parkedAct
    | .moving => (t.redirect, none)
    | .held => t.heldAct
    | _ => (t, none)

/-- STOP TRAVEL's effect on travel (R96). -/
def State.stopTravel (s : State) : State :=
  match s.travel.state with
  | .parked | .faulted => s
  | .releasing | .moving => (s.onTravel (fun t => { t with target := none, source := none })).enterSettling .stopTravel
  | .settling => s.onTravel (fun t => { t with target := none, source := none })
  | .held => s.park

/-- Entry to FAULTED (R97), or the replacement of cause BRAKE by an encoder fault. -/
def State.enterFaulted (s : State) (cause : TravelFault) : State :=
  if s.travel.state = .faulted then
    (s.onTravel (fun t => { t with cause := some cause, recovery := none })).notify (.travelFault cause s.travel.position)
  else
    ((s.onTravel (fun t => { t with
      state := .faulted, cause := some cause, target := none, source := none, direction := none, step := .zero,
      recovery := none, sampleSince := false, stopMark := none, releaseTimer := none, brakeFailTimer := none,
      settleTimer := none })).markStatus).notify (.travelFault cause s.travel.position)

/-- The judgement at the end of settling (R92), the brake check apart. -/
def State.settled (s : State) : State × Option OrderSource :=
  match s.travel.position, s.travel.range, s.travel.target with
  | some pos, some r, some target =>
    if within s.block.tolerance pos target then s.arrive
    else if r.stopPoint pos target = target then (s.enterReleasing, none)
    else if within s.block.creep pos (r.stopPoint pos target) then (s.enterHeld, none)
    else (s.enterReleasing, none)
  | _, _, _ => (s.park, none)

/-! ## Outputs (R82) -/

/-- The brake release output. -/
def Travel.brakeReleaseOutput (t : Travel) : Bool := t.state == .releasing || t.state == .moving

/-- The travel output: direction and speed step, off outside MOVING. -/
def Travel.output (t : Travel) : Option (Side × SpeedStep) :=
  if t.state = .moving then t.direction.map (fun d => (d, t.step)) else none

end Sys2Proof.Machine
end

