-- ==== Sys2Proof/Machine/Pour.lean ====
section
/-! DEFINITION. The Pour Sequencer (Chapter 7): gate and belt commands (R129, R131), suspend causes (R133 to R137), the
close decision and run-out (R138 to R140), the allowance (R143), and the ways a claim ends without a line (R117, R128).
The definitions stand in the order in which one calls the other; no chain of events inside one command returns to where
it began. -/

namespace Sys2Proof.Machine

/-! ## Pour state, gate and belt -/

/-- A change of pour state, which is a status change (R125). -/
def State.setPour (s : State) (x : PourState) : State :=
  let t := s.onPour (fun p => { p with state := x })
  if s.pour.state = x then t else t.markStatus

/-- The gate timer started afresh: the gate travel limit of the start block (R129). -/
def State.gateTimer (s : State) : Timer := s.timer (s.block.gateLimit * 1000)

/-- A gate command is OPEN, at either rate. -/
def GateCommand.isOpen : GateCommand → Bool
  | .closed => false
  | .openFull | .openReduced => true

/-- The gate command is set, and the gate state follows by R129. -/
def State.setGate (s : State) (c : GateCommand) : State :=
  s.onPour (fun p =>
    let q := { p with gateCommand := c }
    match p.gate with
    | .closed => if c.isOpen then { q with gate := .opening, gateTimer := s.gateTimer } else q
    | .opening => if c.isOpen then q else { q with gate := .closing, gateTimer := s.gateTimer }
    | .opened => if c.isOpen then q else { q with gate := .closing, gateTimer := s.gateTimer }
    | .closing => if c.isOpen then { q with gate := .opening, gateTimer := s.gateTimer } else q
    | .fault => q)

/-- The belt command is set, and the belt watch follows by R131. -/
def State.setBelt (s : State) (on : Bool) : State :=
  s.onPour (fun p =>
    if on then
      if p.beltOn then p
      else if s.inputs.beltRunning then { p with beltOn := true, watch := .running }
      else { p with beltOn := true, watch := .waiting, beltStartTimer := s.timer Config.beltStartMs }
    else { p with beltOn := false, watch := .off, beltStartTimer := none })

/-! ## The cause set (R133) -/

def CauseSet.has (c : CauseSet) : SuspendCause → Bool
  | .dustOwn => c.dustOwn
  | .dustPeer => c.dustPeer
  | .map => c.map
  | .travel => c.travel
  | .scale => c.scale
  | .gate => c.gate
  | .belt => c.belt

def CauseSet.put (c : CauseSet) (held : Bool) : SuspendCause → CauseSet
  | .dustOwn => { c with dustOwn := held }
  | .dustPeer => { c with dustPeer := held }
  | .map => { c with map := held }
  | .travel => { c with travel := held }
  | .scale => { c with scale := held }
  | .gate => { c with gate := held }
  | .belt => { c with belt := held }

/-- The set is empty. -/
def CauseSet.isEmpty (c : CauseSet) : Bool := c == CauseSet.empty

/-- The set holds a belt-stop cause. -/
def CauseSet.stopsBelt (c : CauseSet) : Bool := c.dustOwn || c.dustPeer || c.map || c.belt

/-- The belt command that the cause set gives in SUSPENDED and RUNOUT (R133). -/
def State.beltByCauses (s : State) : State := s.setBelt (!s.pour.causes.stopsBelt)

/-- The cause set becomes `c`. A change while a line is open queues POUR_SUSPENDED; a set that is not empty sets pass
suspended (R133, R135). -/
def State.setCauses (s : State) (c : CauseSet) : State :=
  if s.pour.causes = c then s
  else
    let t := s.onPour (fun p => { p with causes := c, passSuspended := p.passSuspended || !c.isEmpty })
    match s.fill.claim with
    | some k => if s.lineOpen then t.notify (.pourSuspended k.slot k.hold c) else t
    | none => t

/-! ## The end of a line (R136, R140, R143) -/

/-- The closing of the line, handed to the Travel Controller with the pour no longer line-open (R85, R90). An arrival that
it brings about finds the pass ended and is not acted on (assumption 20). -/
def State.lineClosedToTravel (s : State) : State := s.rangeEvent.1

/-- The LINE_CLOSED notice of a line that has closed (R140 step 7). -/
def State.notifyLineClosed (s : State) (line : Option BillLine) (cause : ClosureCause) (overshoot : Option Int)
    (residue : Option Nat) : State :=
  match line with
  | some l => s.notify (.lineClosed l.slot l.hold l.number cause (l.mass / 1000) overshoot residue
      (s.pour.allowance.getD 0))
  | none => s

/-- The pass is withdrawn with its line open (R136). The run-out shifts are cleared with it (assumption 25). -/
def State.withdrawPass (s : State) : State :=
  let line := s.bills.openLine
  let stopped := ((s.setGate .closed).setBelt false).onPour (fun p => { p with beltRetryTimer := none, phase := none })
  let emptied := stopped.setCauses CauseSet.empty
  let closed := emptied.onBills (fun b => b.closeLine s.count .withdrawn none none)
  let idle := (closed.onPour (fun p => { p with runoutCause := none, runoutShifts := 0 })).setPour .idle
  idle.lineClosedToTravel.endClaim.notifyLineClosed line .withdrawn none none

/-- The closure cause that a run-out cause gives (R140). -/
def RunoutCause.closure : RunoutCause → ClosureCause
  | .target => .target
  | .stopped => .stopped
  | .yielded => .yielded

/-- The overshoot, in kg: the hold total of the claim's hold, truncated, minus the claim's target (R140 step 1), with no clamp to
the range of R163 (assumption 35). -/
def State.overshoot (s : State) : Option Int :=
  match s.fill.claim with
  | some c => some ((s.holdTotal c.slot c.hold / 1000 : Nat) - (c.target : Int))
  | none => none

/-- The allowance moved by half an overshoot, truncated, and clamped to 0..ceiling (R143). -/
def adaptAllowance (allowance ceiling : Nat) (overshoot : Int) : Nat :=
  (clampTo (0, ceiling) ((allowance : Int) + overshoot.tdiv 2)).toNat

/-- Step 5 of R140. -/
def State.adapt (s : State) (cause : RunoutCause) (overshoot : Option Int) : State :=
  match cause, overshoot with
  | .target, some o =>
    if s.pour.passSuspended then s
    else s.onPour (fun p => { p with allowance := p.allowance.map (fun a => adaptAllowance a s.block.ceiling o) })
  | _, _ => s

/-- The end of run-out with its cause (R140). The run-out shifts are cleared with it (assumption 25). -/
def State.endRunout (s : State) (cause : RunoutCause) : State :=
  let line := s.bills.openLine
  let overshoot := if cause = .target then s.overshoot else none
  let residue := if 0 < s.belt.content then some (s.belt.content / 1000) else none
  let closed := s.onBills (fun b => b.closeLine s.count cause.closure overshoot residue)
  let stopped := (closed.setBelt false).onPour (fun p => { p with
    beltRetryTimer := none, causes := CauseSet.empty, runoutCause := none, runoutShifts := 0 })
  let adapted := (stopped.setPour .idle).lineClosedToTravel.adapt cause overshoot
  adapted.endClaim.notifyLineClosed line cause.closure overshoot residue

/-- Both conditions for the end of run-out hold (R139). -/
def State.runoutOver (s : State) : Bool :=
  (s.pour.gate == .closed || (s.pour.gate == .fault && s.pour.gateFault == some .openFailed))
    && (s.belt.content == 0 || decide (2 * s.block.cellCount ≤ s.pour.runoutShifts))

/-- The run-out test (R139). -/
def State.runoutTest (s : State) : State :=
  match s.pour.state, s.pour.runoutCause with
  | .runout, some cause => if s.runoutOver then s.endRunout cause else s
  | _, _ => s

/-- Entry to RUNOUT (R139). -/
def State.enterRunout (s : State) (cause : RunoutCause) : State :=
  (((s.setGate .closed).onPour (fun p => { p with
    phase := none, runoutCause := some cause, runoutShifts := 0 })).setPour .runout).beltByCauses.runoutTest

/-! ## Orders of the sequencer (R127, R137) -/

/-- The aim point of a re-aimed order, in loader positions (R127). -/
def State.aimPoint (s : State) : Option Int :=
  match s.claimWindow, s.tip with
  | some w, some tip =>
    let tol : Int := s.block.tolerance
    some ((if 2 * tol ≤ w.2 - w.1 then (if tip < w.1 then w.1 + tol else w.2 - tol) else (w.1 + w.2) / 2)
      - s.block.spoutOffset)
  | _, _ => none

/-- The arrival of a sequencer order with the tip outside the window (R127). A re-aimed order that arrives at once finds
re-aimed set, and nothing more is placed. -/
def State.reAim (s : State) (source : OrderSource) : State :=
  if s.pour.reAimed then s
  else
    let t := s.onPour (fun p => { p with reAimed := true })
    match s.aimPoint with
    | some a => (t.placeOrder a source).1
    | none => t

/-- The arrival of a sequencer order in a line-open state (R127). -/
def State.arrivalOpen (s : State) (source : OrderSource) : State := if s.tipInside then s else s.reAim source

/-- A RETURN order to the pour point, where R137 lets one be placed. -/
def State.placeReturn (s : State) : State :=
  if s.pour.causes.map && !s.tipInside && s.travel.state != .faulted then
    match s.pourPoint with
    | some p =>
      match (s.onPour (fun q => { q with reAimed := false })).placeOrder p .returning with
      | (t, some source) => t.arrivalOpen source
      | (t, none) => t
    | none => s
  else s

/-! ## Suspension (R135, R136) -/

/-- Entry to SUSPENDED, its cause held (R135). -/
def State.enterSuspended (s : State) : State :=
  ((((s.setGate .closed).onPour (fun p => { p with phase := none, passSuspended := true })).setPour
    .suspended).beltByCauses).onBills Bills.countSuspension

/-- What an added cause does to the pour (R133, R135). -/
def State.reactAdd (s : State) : State :=
  match s.pour.state with
  | .starting | .pouring | .throttled => s.enterSuspended
  | .suspended | .runout => s.beltByCauses
  | _ => s

/-- A cause is added while a line is open (R133). The addition of MAP may place a RETURN order (R137). -/
def State.addCause (s : State) (c : SuspendCause) : State :=
  if s.lineOpen && !s.pour.causes.has c then
    let t := (s.setCauses (s.pour.causes.put true c)).reactAdd
    if c = .map then t.placeReturn else t
  else s

/-- A belt failure, or a gate-opening failure, while a line is open: it adds its cause and counts, and the third one
withdraws the pass (R136). -/
def State.failCause (s : State) (c : SuspendCause) : State :=
  if s.lineOpen then
    let t := (s.setCauses (s.pour.causes.put true c)).onPour (fun p => { p with
      failures := min (p.failures + 1) Config.maxFailures
      beltRetryTimer := if c = .belt then s.timer Config.beltRetryMs else p.beltRetryTimer })
    if Config.maxFailures ≤ t.pour.failures then t.withdrawPass else t.reactAdd
  else s

/-! ## The close decision and the throttle condition (R132, R138) -/

/-- The close decision finds the target reached (R138). -/
def State.targetReached (s : State) : Bool :=
  match s.fill.claim with
  | some c => decide (((c.target : Int) - (s.pour.allowance.getD 0 : Nat)) * 1000 ≤ s.holdTotal c.slot c.hold)
  | none => false

/-- A FRESH peer's dust record gives this class with the slot and hold of the own ACTIVE claim (R132, R133). -/
def State.peerReports (s : State) (cls : DustClass) : Bool :=
  match s.activeClaim with
  | some c => s.dust.peers.any (fun d => d.freshness == .fresh && d.spout == cls && d.hold == some (c.slot, c.hold))
  | none => false

/-- The throttle condition (R132). -/
def State.throttle (s : State) : Bool :=
  s.dust.spout.state == .alarm || s.dust.spout.state == .failed || s.peerReports .alarm

/-- The rate at which the gate is commanded open (R130, R132). -/
def State.openRate (s : State) : GateCommand := if s.throttle then .openReduced else .openFull

/-- The throttle condition tested afresh (R132). -/
def State.retestThrottle (s : State) : State :=
  match s.pour.state, s.pour.phase with
  | .pouring, _ => if s.throttle then (s.setGate .openReduced).setPour .throttled else s
  | .throttled, _ => if s.throttle then s else (s.setGate .openFull).setPour .pouring
  | .starting, some .gateWait => s.setGate s.openRate
  | _, _ => s

/-! ## Starting (R130) -/

/-- Entry to GATE_WAIT: the close decision is taken first (R130). -/
def State.gateWait (s : State) : State :=
  if s.targetReached then s.enterRunout .target
  else if s.pour.gate = .fault then s.failCause .gate
  else (s.onPour (fun p => { p with phase := some .gateWait })).setGate s.openRate

/-- BELT_WAIT: the belt command is ON, and GATE_WAIT follows once the watch is RUNNING (R130). -/
def State.beltWait (s : State) : State :=
  let t := (s.onPour (fun p => { p with phase := some .beltWait })).setBelt true
  if t.pour.watch = .running then t.gateWait else t

/-- The translation is OK for the slot and hold of the own claim (R137). -/
def State.onClaimHold (s : State) : Bool :=
  match s.fill.claim with
  | some c => s.translate == .ok c.slot c.hold
  | none => false

/-- Re-entry to STARTING from SUSPENDED, the cause set empty: the spout tip is translated at the entry (R130, R137). -/
def State.reEnterStarting (s : State) : State :=
  let t := (s.onPour (fun p => { p with phase := some .beltWait })).setPour .starting
  if t.onClaimHold then t.beltWait else t.addCause .map

/-- A cause is removed while a line is open (R133, R135). -/
def State.removeCause (s : State) (c : SuspendCause) : State :=
  if s.lineOpen && s.pour.causes.has c then
    let t := (s.setCauses (s.pour.causes.put false c)).onPour (fun p => { p with
      beltRetryTimer := if c = .belt then none else p.beltRetryTimer })
    match t.pour.state with
    | .suspended => if t.pour.causes.isEmpty then t.reEnterStarting else t.beltByCauses
    | .runout => t.beltByCauses
    | _ => t
  else s

/-- A cause follows its condition. -/
def State.syncCause (s : State) (c : SuspendCause) (held : Bool) : State :=
  if held then s.addCause c else s.removeCause c

/-- A dust class that suspends (R133). -/
def DustClass.stops (c : DustClass) : Bool := c == .trip || c == .held

/-- Condition of DUST_OWN (R133, R156). -/
def State.dustOwn (s : State) : Bool := s.dust.spout.state.stops || s.dust.gallery.state.stops

/-- The cause set formed afresh (R130 step 5): each condition of R133, MAP by translation. No belt failure belongs to the
new pass, so BELT is not held. -/
def State.formedCauses (s : State) : CauseSet where
  dustOwn := s.dustOwn
  dustPeer := s.peerReports .trip
  map := !s.onClaimHold
  travel := s.travel.state == .faulted
  scale := s.scale.status == .fault
  gate := s.pour.gate == .fault
  belt := false

/-- First entry of a pass to STARTING (R130). The tip is then inside the pour window (R126, R127), so MAP places no
order. -/
def State.enterStarting (s : State) : State :=
  match s.fill.claim with
  | none => s
  | some c =>
    let bill := match s.session c.slot with
      | some ses => ses.bill
      | none => 0
    let opened := s.onBills (fun b => b.takeLine bill c s.count)
    let cleared := (opened.onPour (fun p => { p with
      positioningTimer := none, failures := 0, passSuspended := false, phase := some .beltWait
      causes := CauseSet.empty })).setPour .starting
    let ranged := cleared.recompute
    let formed := ranged.setCauses ranged.formedCauses
    if formed.pour.causes.isEmpty then formed.beltWait else formed.enterSuspended

/-! ## Positioning (R126, R127) -/

/-- The arrival of a sequencer order in POSITIONING (R127). -/
def State.arrivalPositioning (s : State) (source : OrderSource) : State :=
  if s.tipInside then s.enterStarting else s.reAim source

/-- The Travel Controller tells of an arrival (R127). That of a HOST order is not acted on. -/
def State.tellArrival (r : State × Option OrderSource) : State :=
  match r.2 with
  | some source =>
    if source = .host then r.1
    else if r.1.pour.state = .positioning then r.1.arrivalPositioning source
    else if r.1.lineOpen then r.1.arrivalOpen source
    else r.1
  | none => r.1

/-- The range is computed afresh, travel acts on it, and an arrival is told (R87). -/
def State.travelEvent (s : State) : State := State.tellArrival s.rangeEvent

/-- The three cases of R126. -/
def State.positioningCases (s : State) : State :=
  let t := s.onPour (fun p => { p with reAimed := false })
  if s.travel.state = .faulted then t
  else if s.travel.state = .parked && s.tipInside then t.enterStarting
  else match s.pourPoint with
    | some p =>
      match t.placeOrder p .position with
      | (u, some source) => u.arrivalPositioning source
      | (u, none) => u
    | none => t

/-- Entry to POSITIONING (R126). -/
def State.enterPositioning (s : State) : State :=
  ((s.onPour (fun p => { p with positioningTimer := s.timer Config.positioningMs })).setPour
    .positioning).positioningCases

/-- The withdrawal of an ACTIVE claim that has no line (R128). -/
def State.withdrawClaim (s : State) (cause : WithdrawCause) : State :=
  match s.fill.claim with
  | none => s
  | some c =>
    let t := s.onPour (fun p => { p with positioningTimer := none })
    let u := if s.travel.source = some .position then t.stopTravel else t
    (u.endClaim.notify (.claimWithdrawn c.slot c.hold cause c.pass c.target)).setPour .idle

/-- A PENDING claim lost, or dropped in its window with reason STOPPED (R117). -/
def State.loseClaim (s : State) (reason : Reason) : State :=
  match s.fill.claim with
  | none => s
  | some c =>
    (((s.onFill (fun f => { f.onView c.slot (removeClaims s.station) with claim := none, claimTimer := none })).markStatus).notify
      (.claimResult c.slot c.hold c.pass c.target (some reason))).setPour .idle

/-! ## Events that reach the pour -/

/-- MAP decided by translation while a line is open (R137). -/
def State.mapTest (s : State) : State := if s.lineOpen then s.syncCause .map (!s.onClaimHold) else s

/-- A change of the own dust channels reaches the cause set (R156). -/
def State.syncDustOwn (s : State) : State := s.syncCause .dustOwn s.dustOwn

/-- A change of the peers' dust records reaches the cause set and the throttle condition (R157). -/
def State.syncDustPeer (s : State) : State := (s.syncCause .dustPeer (s.peerReports .trip)).retestThrottle

/-- Travel enters FAULTED with the cause given (R97), which adds TRAVEL while a line is open (R133). -/
def State.faultTravel (s : State) (cause : TravelFault) : State :=
  (s.enterFaulted cause).addCause .travel

/-- The effect of END POUR and STOP TRAVEL on the pour (R96, R141). -/
def State.stopPour (s : State) : State :=
  match s.pour.state with
  | .idle | .runout => s
  | .claiming => s.loseClaim .stopped
  | .positioning => s.withdrawClaim .stopped
  | .starting | .pouring | .throttled | .suspended => s.enterRunout .stopped

/-- A yield (R142). -/
def State.yieldPour (s : State) : State :=
  match s.pour.state with
  | .positioning => s.withdrawClaim .yielded
  | .starting | .pouring | .throttled | .suspended => s.enterRunout .yielded
  | _ => s

/-- The close decision at a belt pulse (R138). -/
def State.closeDecision (s : State) : State :=
  match s.pour.state with
  | .pouring | .throttled => if s.targetReached then s.enterRunout .target else s
  | _ => s

/-! ## Late conflict (R120) -/

/-- A station has a FRESH peer entry. -/
def State.fresh (s : State) (station : Nat) : Bool :=
  s.peers.any (fun e => e.station == station && e.freshness == .fresh)

/-- The ACTIVE claims on a hold that the late-conflict test ranks: the own one and those of FRESH peers, lowest station
first. -/
def State.rankedClaims (s : State) (x : Slot) (h : Nat) : List Nat :=
  ((s.row x h).claims.filter (fun c => c.phase == .active && (c.station == s.station || s.fresh c.station))).map
    ClaimEntry.station

/-- The late-conflict test (R120). -/
def State.lateConflictTest (s : State) : State :=
  match s.activeClaim with
  | none => s
  | some c =>
    match s.plan c.slot c.hold with
    | none => s
    | some p =>
      let ranked := s.rankedClaims c.slot c.hold
      if !c.yielded && s.pour.state != .runout && ranked.contains s.station
          && decide (p.spoutLimit < ranked.idxOf s.station + 1) then
        ((s.onFill (fun f => { f with claim := f.claim.map (fun k => { k with yielded := true }) })).notify
          (.lateConflict c.slot c.hold ranked p.spoutLimit)).yieldPour
      else s

end Sys2Proof.Machine
end

