-- ==== Sys2Proof/Machine/Scale.lean ====
section
/-! DEFINITION. The Belt Scale and the Belt Register (Chapter 2): load samples and load status (R21 to R24), belt pulses,
shifts and attribution at the head (R27 to R31), and the zero run (R34 to R38). -/

namespace Sys2Proof.Machine

/-! ## Load samples (R21 to R23) -/

/-- The unclamped net of a raw count against a tare, in kg/m (R21, R36). -/
def netLoad (raw tare span : Nat) : Nat := if raw < tare then 0 else ((raw - tare) * span + 2048) / 4096

/-- The sample is below the tare or nets below the zero band (R22 step 1). -/
def State.inZeroBand (s : State) (raw : Nat) : Bool :=
  raw < s.scale.tare || netLoad raw s.scale.tare s.block.span < s.block.zeroBand

/-- The sample nets above 1500 kg/m (R22 step 2). -/
def State.overRange (s : State) (raw : Nat) : Bool :=
  !s.inZeroBand raw && decide (Config.maxLoad < netLoad raw s.scale.tare s.block.span)

/-- The current load that a sample gives (R22). -/
def State.clampedLoad (s : State) (raw : Nat) : Nat :=
  if s.inZeroBand raw then 0 else min (netLoad raw s.scale.tare s.block.span) Config.maxLoad

/-- A load status that enters or leaves STALE or FAULT is notified (R23). -/
def LoadStatus.reported : LoadStatus → Bool
  | .stale | .fault => true
  | .ok | .overrange => false

/-- The load status becomes `status`; the notice of R23 is queued; the pour's cause SCALE follows (R133). That SCALE_STATE goes
before POUR_SUSPENDED is the model's choice (assumption 37). -/
def State.setLoadStatus (s : State) (status : LoadStatus) : State :=
  let t := s.onScale (fun c => { c with status := status })
  let u := if s.scale.status ≠ status ∧ (s.scale.status.reported ∨ status.reported) then t.notify (.scaleState status)
    else t
  u.syncCause .scale (status == .fault)

/-- The stale and fault timers started afresh (R23, R24). -/
def State.startLoadTimers (s : State) : State :=
  s.onScale (fun c => { c with staleTimer := s.timer Config.staleMs, faultTimer := s.timer Config.faultMs })

/-- The overrange episode follows the sample, with its notice (R22). -/
def State.episodeAct (s : State) (raw : Nat) (high : Bool) : State :=
  let t := s.onScale (fun c => { c with episode := high })
  if high && !s.scale.episode then t.notify (.loadOverrange raw) else t

/-! ## The end of a zero run (R36 to R38) -/

/-- A RUNNING zero run ends without a new tare (R36, R38); no run, nothing. -/
def State.failZeroRun (s : State) (reason : ZeroFailure) (raw : Option Nat) : State :=
  match s.scale.zeroRun with
  | some _ => (s.onScale (fun c => { c with zeroRun := none, stillTimer := none })).notify (.zeroFailed reason raw)
  | none => s

/-- The mean raw count, rounded half up (R37). -/
def newTare (z : ZeroRun) : Nat := (z.sampleSum + z.sampleCount / 2) / z.sampleCount

/-- The end of a run that has counted its pulses (R37). -/
def State.endZeroRun (s : State) (z : ZeroRun) : State :=
  if s.scale.status.reported then s.failZeroRun .scale none
  else if z.sampleCount = 0 then s.failZeroRun .noSamples none
  else (s.onScale (fun c => { c with tare := newTare z, zeroRun := none, stillTimer := none })).notify
    (.zeroDone z.oldTare (newTare z))

/-- What a load sample does to the zero run (R35, R36). -/
def State.zeroSample (s : State) (raw : Nat) : State :=
  match s.scale.zeroRun with
  | none => s
  | some z =>
    let t := s.onScale (fun c => { c with
      zeroRun := some { z with sampleSum := z.sampleSum + raw, sampleCount := z.sampleCount + 1 } })
    if Config.maxExcess < netLoad raw z.oldTare s.block.span then t.failZeroRun .notEmpty (some raw) else t

/-- What a belt pulse does to the zero run (R35, R37). -/
def State.zeroPulse (s : State) : State :=
  match s.scale.zeroRun with
  | none => s
  | some z =>
    let y := { z with pulses := z.pulses + 1 }
    let t := s.onScale (fun c => { c with zeroRun := some y, stillTimer := s.timer Config.stillMs })
    if s.block.beltLoop ≤ y.pulses then t.endZeroRun y else t

/-! ## Belt pulses (R27 to R31) -/

/-- The load status marks the tail cell as estimated (R27). -/
def LoadStatus.marks : LoadStatus → Bool
  | .overrange | .stale => true
  | .ok | .fault => false

/-- The pulse mass in grams (R27). -/
def State.pulseMass (s : State) : Nat :=
  match s.scale.status with
  | .ok | .stale => s.scale.load * s.block.pulseLength
  | .overrange => Config.maxLoad * s.block.pulseLength
  | .fault => 0

/-- The addition step of R27, which a zero run skips: tail cell, belt content and scale total grow together. -/
def State.addPulse (s : State) : State :=
  if s.scale.zeroRun.isSome then s
  else match s.belt.cells with
    | [] => s
    | tail :: rest =>
      let b : Belt := { s.belt with
        cells := ⟨tail.mass + s.pulseMass, tail.marked || s.scale.status.marks⟩ :: rest
        content := s.belt.content + s.pulseMass }
      { s with belt := b, scale := { s.scale with total := s.scale.total + s.pulseMass } }

/-- An empty, unmarked cell (R26). -/
def Cell.empty : Cell := ⟨0, false⟩

/-- The register shifts: an empty cell enters at the tail and the head cell leaves (R28). -/
def Belt.shift (b : Belt) : Belt :=
  match b.cells.getLast? with
  | some head => { cells := Cell.empty :: b.cells.dropLast, phase := 0, content := b.content - head.mass }
  | none => { b with phase := 0 }

/-- The spill cause of a translation that does not find the open line (R29). -/
def Translation.spillCause : Translation → SpillCause
  | .ok _ _ => .unbilled
  | .fault k => .fault k

/-- Mass added to the spill tally, with the SPILL notice (R30). -/
def State.spill (s : State) (cause : SpillCause) (mass : Nat) : State :=
  let t := s.onBills (fun b => { b with spill := b.spill + mass })
  t.notify (.spill cause (mass / 1000) (t.bills.spill / 1000))

/-- The mass of a leaving cell goes into the open line: to the line, to own delivered and to TOUCHED (R29). -/
def State.deliver (s : State) (x : Slot) (h : Nat) (c : Cell) : State :=
  ((s.onBills (fun b => b.addMass c.mass c.marked)).onFill (fun f =>
    f.onRow x h (fun r => { r with delivered := r.delivered + c.mass }))).onHold x h (fun d => { d with touched := true })

/-- Attribution of a leaving head cell (R29). -/
def State.attribute (s : State) (c : Cell) : State :=
  if c.mass = 0 then s
  else match s.translate, s.bills.openLine with
    | .ok x h, some l => if l.slot = x ∧ l.hold = h then s.deliver x h c else s.spill .unbilled c.mass
    | r, _ => s.spill r.spillCause c.mass

/-- Run-out counts the shift (R139). -/
def State.countShift (s : State) : State :=
  if s.pour.state = .runout then
    s.onPour (fun p => { p with runoutShifts := min (p.runoutShifts + 1) Config.countMax })
  else s

/-- The phase advances, and the 16th pulse shifts the register (R28). -/
def State.advancePhase (s : State) : State :=
  if s.belt.phase + 1 < Config.pulsesPerCell then s.onBelt (fun b => { b with phase := b.phase + 1 })
  else
    let t := s.onBelt Belt.shift
    match s.belt.cells.getLast? with
    | some head => (t.attribute head).countShift
    | none => t

/-- A belt pulse (R27, R28): the addition, the phase with its shift and attribution, the zero run (R37), the close
decision (R138) and the run-out test (R139). -/
def State.pulse (s : State) : State := s.addPulse.advancePhase.zeroPulse.closeDecision.runoutTest

/-- A load sample (R21 to R23, R36): load, episode, timers, zero run, status. The order of the notices of one sample is the model's
choice: LOAD_OVERRANGE, ZERO_FAILED, SCALE_STATE, then the pour's (assumption 37). -/
def State.takeLoad (s : State) (raw : Nat) : State :=
  let high := s.overRange raw
  let t := (s.onScale (fun c => { c with load := s.clampedLoad raw })).episodeAct raw high
  ((t.startLoadTimers.zeroSample raw).setLoadStatus (if high then .overrange else .ok))

/-- The belt run output (R35, R124). -/
def State.beltRunOutput (s : State) : Bool := s.pour.beltOn || s.scale.zeroRun.isSome

/-- The gate output, held at CLOSED while the gate is in FAULT (R129). -/
def State.gateOutput (s : State) : GateCommand := if s.pour.gate = .fault then .closed else s.pour.gateCommand

end Sys2Proof.Machine
end

