-- ==== Sys2Proof/Machine/Dust.lean ====
section
/-! DEFINITION. The Dust Monitor (Chapter 8): samples, classes and failure of a channel (R148 to R153), its notices (R154),
the suppression output (R155), and the effects of a change of state (R156). -/

namespace Sys2Proof.Machine

def Dust.channel (d : Dust) : Channel → DustChannel
  | .spout => d.spout
  | .gallery => d.gallery

def Dust.setChannel (d : Dust) (c : Channel) (r : DustChannel) : Dust :=
  match c with
  | .spout => { d with spout := r }
  | .gallery => { d with gallery := r }

/-- The thresholds of a channel (R147). -/
def State.thresholds (s : State) : Channel → Thresholds
  | .spout => s.block.spout
  | .gallery => s.block.gallery

/-! ## The channel by itself -/

/-- The clear criterion (R147). -/
def DustChannel.clearCriterion (r : DustChannel) : Bool := decide (r.clearCount < Config.clearBelow)

/-- The history with a new value, the oldest removed when it would hold 33 (R149 step 1). -/
def pushHistory (v : Nat) (history : List Nat) : List Nat :=
  if history.length < Config.historySize then history ++ [v] else (history ++ [v]).drop 1

/-- A run held at 255 (R149 step 3). -/
def runAfter (above : Bool) (run : Nat) : Nat := if above then min (run + 1) Config.runMax else 0

/-- The channel updated by an accepted, clamped value (R149). -/
def DustChannel.update (r : DustChannel) (t : Thresholds) (v : Nat) : DustChannel :=
  { r with
    history := pushHistory v r.history
    clearCount := ((pushHistory v r.history).filter (fun x => t.clear < x)).length
    raiseRun := runAfter (t.raise < v) r.raiseRun
    tripRun := runAfter (t.trip < v) r.tripRun
    last := some v }

/-- Entry to TRIP, the acknowledge flag cleared (R150). -/
def DustChannel.trip (r : DustChannel) : DustChannel := { r with state := .trip, acknowledged := false }

/-- Classification (R150). A FAILED channel is not classified. -/
def DustChannel.classify (r : DustChannel) : DustChannel :=
  match r.state with
  | .clear | .watch =>
    if 2 ≤ r.tripRun then r.trip
    else { r with state := if 4 ≤ r.raiseRun then .alarm else if 1 ≤ r.raiseRun then .watch else .clear }
  | .alarm =>
    if 2 ≤ r.tripRun then r.trip
    else if r.clearCriterion then { r with state := .clear } else r
  | .trip =>
    if 2 ≤ r.tripRun then r
    else if r.clearCriterion then
      if r.acknowledged then { r with state := .clear, acknowledged := false } else { r with state := .held }
    else r
  | .held => if 2 ≤ r.tripRun then r.trip else r
  | .failed => r

/-- Entry to FAILED (R151). -/
def DustChannel.fail (r : DustChannel) (cause : DustFailure) : DustChannel :=
  { r with
    state := .failed
    latchKept := r.state == .held || (r.state == .trip && !r.acknowledged)
    acknowledged := false
    cause := some cause
    history := []
    clearCount := 0
    raiseRun := 0
    tripRun := 0
    goodRun := 0
    last := none }

/-- A good sample of a FAILED channel (R148, R152). -/
def DustChannel.recover (r : DustChannel) : DustChannel :=
  if r.goodRun + 1 < Config.goodRunLength then { r with goodRun := r.goodRun + 1 }
  else { r with state := if r.latchKept then .held else .clear, latchKept := false, cause := none, goodRun := 0 }

/-- A sample, its timer apart (R148). -/
def DustChannel.sample (r : DustChannel) (t : Thresholds) (value : Nat) (fault : Bool) : DustChannel :=
  if r.state = .failed then if fault then { r with goodRun := 0 } else r.recover
  else if fault then r.fail .faultFlag
  else (r.update t (min value Config.dustMax)).classify

/-- The expiry of the sample timer (R151). The timer is not restarted. -/
def DustChannel.silent (r : DustChannel) : DustChannel :=
  if r.state = .failed then { r with goodRun := 0, timer := none } else { r.fail .silent with timer := none }

/-- DUST ACKNOWLEDGE (R153): `none` is refused with NOT_TRIPPED. -/
def DustChannel.acknowledge (r : DustChannel) : Option DustChannel :=
  match r.state with
  | .trip => some { r with acknowledged := true }
  | .held => some { r with state := .clear, acknowledged := false }
  | .failed => if r.latchKept then some { r with latchKept := false } else none
  | .clear | .watch | .alarm => none

/-! ## A change of channel state (R154 to R156) -/

/-- DUST_TRIP of a channel as it stands. R154 does not say whether the last value is that before or after the change; it is that after, so
at an entry to FAILED, which makes the last value absent (R151), it is absent (assumption 46). -/
def dustTripOf (c : Channel) (r : DustChannel) : NoticeBody := .dustTrip c r.state r.last r.sampleHold

/-- DUST_ALARM of a channel as it stands, the last value as in `dustTripOf` (assumption 46). -/
def dustAlarmOf (c : Channel) (r : DustChannel) : NoticeBody := .dustAlarm c r.state r.last r.sampleHold

/-- DUST_FAILED of a channel as it stands. -/
def dustFailedOf (c : Channel) (r : DustChannel) : NoticeBody := .dustFailed c r.state r.cause r.latchKept

/-- The notice for the state that a change leaves (R154), with the record that the change gives the channel (assumption 46). -/
def leaveNotice (c : Channel) (old : DustClass) (r : DustChannel) : Option NoticeBody :=
  match old with
  | .alarm => some (dustAlarmOf c r)
  | .trip | .held => if r.state = .clear ∨ r.state = .failed then some (dustTripOf c r) else none
  | .failed => some (dustFailedOf c r)
  | .clear | .watch => none

/-- The notice for the state that a change enters (R154). -/
def enterNotice (c : Channel) (r : DustChannel) : Option NoticeBody :=
  match r.state with
  | .trip | .held => some (dustTripOf c r)
  | .alarm => some (dustAlarmOf c r)
  | .failed => some (dustFailedOf c r)
  | .clear | .watch => none

/-- A notice that may be absent. -/
def State.notifyOpt (s : State) : Option NoticeBody → State
  | some b => s.notify b
  | none => s

/-- The zero run is aborted by an entry to TRIP or HELD (R35, R156). -/
def State.dustAbort (s : State) (entered : DustClass) : State :=
  if entered.stops then s.failZeroRun .dust none else s

/-- The Line Unit hears of a change of the SPOUT state: a status change, and a DUST frame at an entry to TRIP or a change
out of it (R54, R156). -/
def State.spoutToLine (s : State) (old new : DustClass) : State :=
  if old = .trip ∨ new = .trip then s.issueDust.markStatus else s.markStatus

/-- A channel takes a new record. A change of its state queues its notices and reaches the Pour Sequencer, the zero run and
the Line Unit, in that order (R154, R156). -/
def State.applyChannel (s : State) (c : Channel) (r : DustChannel) : State :=
  let t := s.onDust (fun d => d.setChannel c r)
  if (s.dust.channel c).state = r.state then t
  else
    let noticed := (t.notifyOpt (leaveNotice c (s.dust.channel c).state r)).notifyOpt (enterNotice c r)
    let poured := noticed.syncDustOwn.retestThrottle.dustAbort r.state
    match c with
    | .spout => poured.spoutToLine (s.dust.spout.state) r.state
    | .gallery => poured

/-- The sample hold that a SPOUT sample gives; GALLERY has none (R148). -/
def State.sampleHold (s : State) : Channel → Option (Slot × Nat)
  | .spout => s.translate.hold?
  | .gallery => none

/-- A dust sample in RUN or BYPASS (R148). -/
def State.takeDust (s : State) (c : Channel) (value : Nat) (fault : Bool) : State :=
  let r := { s.dust.channel c with timer := s.timer Config.dustMs, sampleHold := s.sampleHold c }
  s.applyChannel c (r.sample (s.thresholds c) value fault)

/-- A class that holds the suppression output on (R155). -/
def DustClass.suppresses (c : DustClass) : Bool := c == .alarm || c == .trip || c == .held

/-- The dust suppression output (R155). -/
def State.suppressionOutput (s : State) : Bool :=
  s.configured && (s.dust.spout.state.suppresses || s.dust.gallery.state.suppresses)

/-! ## Peer dust records (R157) -/

/-- A record entered at the place of its station number, or replaced. -/
def setPeerDust (d : PeerDust) : List PeerDust → List PeerDust
  | [] => [d]
  | e :: rest =>
    if e.station < d.station then e :: setPeerDust d rest
    else if e.station = d.station then d :: rest
    else d :: e :: rest

/-- A freshness change of a peer reaches its record, if it has one. -/
def setPeerDustFreshness (station : Nat) (f : Freshness) (records : List PeerDust) : List PeerDust :=
  records.map (fun d => if d.station = station then { d with freshness := f } else d)

/-- The peer's report bears on the own pour, as READ STATION returns it (R157, R159): by R157's three conditions alone. DESIGN CHOICE: its
class is not regarded, though R157 and R186 say of CLEAR, WATCH, HELD and FAILED that they bear on nothing (assumption 50). -/
def State.bears (s : State) (d : PeerDust) : Bool :=
  d.freshness == .fresh && d.hold.isSome && (match s.activeClaim with
    | some c => d.hold == some (c.slot, c.hold)
    | none => false)

end Sys2Proof.Machine
end

