-- ==== Sys2Proof/Machine/Peers.lean ====
section
/-! DEFINITION. The Peer Table (Chapter 4): entries and freshness (R67 to R74), what it hands on (R76, R77), the MISMATCH
marks (R78), and how a change of the table reaches travel, the fill order and the dust records. -/

namespace Sys2Proof.Machine

/-! ## The table -/

/-- The entry of a station. -/
def State.entry (s : State) (station : Nat) : Option PeerEntry := s.peers.find? (fun e => e.station == station)

/-- An entry set at the place of its station number. The manual keeps no order; the model keeps that of the numbers, in
which R79 lists them. -/
def setEntry (e : PeerEntry) : List PeerEntry → List PeerEntry
  | [] => [e]
  | f :: rest =>
    if f.station < e.station then f :: setEntry e rest
    else if f.station = e.station then e :: rest
    else e :: f :: rest

/-- A report is position-known (R67). -/
def positionKnown : Option Report → Bool
  | some r => r.positionValid
  | none => false

/-- The freshness that a recorded frame or a creation gives (R68, R70). -/
def heardFreshness (r : Option Report) : Freshness := if positionKnown r then .fresh else .stale

/-- The report after a frame: a STATUS replaces it whole (R69). -/
def reportAfter (c : Content) (old : Option Report) : Option Report :=
  match c with
  | .status r => some r
  | _ => old

/-- The claim tag after a frame: a CLAIM sets it, a STATUS makes it absent (R67). A CLAIM frame whose claim is taken as absent (R186) leaves
it as it was, which no rule says (assumption 47). -/
def claimTagAfter (c : Content) (old : Option (Slot × Nat)) : Option (Slot × Nat) :=
  match c with
  | .status _ => none
  | .claim (some (k, tag)) => some (k.slot, tag)
  | _ => old

/-- A new entry for a frame (R68). -/
def State.newEntry (s : State) (port : Side) (f : Frame) : PeerEntry where
  station := f.origin
  side := port
  distance := f.hop + 1
  report := reportAfter f.content none
  lastTime := s.count
  staleTimer := s.timer Config.peerStaleMs
  freshness := heardFreshness (reportAfter f.content none)
  claimTag := claimTagAfter f.content none

/-- An entry with a frame recorded in it (R69, R70). -/
def State.recorded (s : State) (e : PeerEntry) (f : Frame) : PeerEntry :=
  { e with
    distance := f.hop + 1
    report := reportAfter f.content e.report
    lastTime := s.count
    staleTimer := s.timer Config.peerStaleMs
    freshness := heardFreshness (reportAfter f.content e.report)
    claimTag := claimTagAfter f.content e.claimTag }

/-- The notice of a freshness (R74). -/
def PeerEntry.freshNotice (e : PeerEntry) : NoticeBody :=
  match e.freshness with
  | .fresh => .peerFresh e.station e.side e.distance
  | x => .peerStale e.station x e.side e.distance

/-- An entry whose freshness has changed, or been given at its creation, stands in the table: the notice of R74 is queued,
and the Dust Monitor takes the freshness (R77). -/
def State.putChanged (s : State) (e : PeerEntry) : State :=
  ((s.onPeers (setEntry e)).notify e.freshNotice).onDust (fun d => { d with
    peers := setPeerDustFreshness e.station e.freshness d.peers })

/-- An entry stands in the table after an event that found its freshness to be `before`. -/
def State.putEntry (s : State) (before : Freshness) (e : PeerEntry) : State :=
  if e.freshness = before then s.onPeers (setEntry e) else s.putChanged e

/-! ## Hand-offs (R76, R77) -/

/-- The Fill Order Unit takes a STATUS or a CLAIM for each OPEN slot (R76, R103, R115). A CLAIM whose claim is taken as absent (R186)
leaves the views as they were: DESIGN CHOICE, no rule says what it does to that peer's claim there (assumption 48). -/
def Fill.handed (f : Fill) (station : Nat) : Content → Fill
  | .status r => (f.onView .a (takeReport station .a r)).onView .b (takeReport station .b r)
  | .claim (some (k, _)) => f.onView k.slot (placeClaim k.hold ⟨station, k.pass, k.target, .pending⟩)
  | .claim none | .dust _ _ | .brk _ => f

/-- The Dust Monitor takes a STATUS or a DUST frame with the entry's freshness after it (R77, R157). -/
def Dust.handed (d : Dust) (station : Nat) (standing : Freshness) : Content → Dust
  | .status r => { d with peers := setPeerDust ⟨station, r.spout, r.spoutHold, standing⟩ d.peers }
  | .dust c h => { d with peers := setPeerDust ⟨station, c, h, standing⟩ d.peers }
  | .claim _ | .brk _ => d

/-- The content of a recorded frame is handed on. -/
def State.handOn (s : State) (e : PeerEntry) (c : Content) : State :=
  (s.onFill (fun f => f.handed e.station c)).onDust (fun d => d.handed e.station e.freshness c)

/-- Whether a BREAK at distance `d` on side `side` marks an entry CUT (R72). -/
def PeerEntry.beyond (e : PeerEntry) (side : Side) (d : Nat) : Bool :=
  e.side == side && decide (d < e.distance) && (e.freshness == .fresh || e.freshness == .stale)

/-- The entries marked CUT by a BREAK, with their notices in order of station number (R72). -/
def State.markCut (s : State) (side : Side) (d : Nat) : State :=
  (s.peers.filter (fun e => e.beyond side d)).foldl (fun t e => t.putChanged { e with freshness := .cut }) s

/-- A recorded BREAK is used (R72). A lost side that differs from the arrival side marks nothing. -/
def State.useBreak (s : State) (port : Side) (d : Nat) : Content → State
  | .brk (some side) => if side = port then s.markCut port d else s
  | _ => s

/-! ## Plan-tag mismatch (R78) -/

/-- A tag that differs from the own session's tag on a slot. -/
def State.tagDiffers (s : State) (x : Slot) (tag : Nat) : Bool :=
  match s.session x with
  | some ses => tag != ses.planTag
  | none => false

/-- The tag by which an entry disagrees on a slot, if it does (R78): its report's, or else its claim tag's. -/
def State.disagrees (s : State) (x : Slot) (e : PeerEntry) : Option Nat :=
  if e.freshness ≠ .fresh then none
  else
    let byReport := match e.report with
      | some r => if r.tag x ≠ 0 ∧ s.tagDiffers x (r.tag x) then some (r.tag x) else none
      | none => none
    match byReport, e.claimTag with
    | some t, _ => some t
    | none, some (y, t) => if y = x ∧ s.tagDiffers x t then some t else none
    | none, none => none

/-- The lowest-numbered disagreeing peer with its tag. -/
def State.firstDisagreeing (s : State) (x : Slot) : Option (Nat × Nat) :=
  s.peers.findSome? (fun e => (s.disagrees x e).map (fun t => (e.station, t)))

/-- The MISMATCH mark of a slot decided afresh, a change being notified (R78). -/
def State.decideMismatch (s : State) (x : Slot) : State :=
  match s.firstDisagreeing x with
  | some d =>
    if (s.berth x).mismatch then s
    else (s.onBerth x (fun b => { b with mismatch := true })).notify (.planMismatch x (some d))
  | none =>
    if (s.berth x).mismatch then
      (s.onBerth x (fun b => { b with mismatch := false })).notify (.planMismatch x none)
    else s

/-- The frames that are an occasion for R78. -/
def Content.tagged : Content → Bool
  | .status _ | .claim _ => true
  | .dust _ _ | .brk _ => false

/-! ## What a change of the table brings about -/

/-- What the late-conflict test rests on: the claim list of the own claim's hold, and of each station in it whether it is
FRESH (R120). -/
def State.conflictKey (s : State) : List (ClaimEntry × Bool) :=
  match s.fill.claim with
  | some c => (s.row c.slot c.hold).claims.map (fun k => (k, s.fresh k.station))
  | none => []

/-- The freshness of every entry. -/
def State.freshnesses (s : State) : List (Nat × Freshness) := s.peers.map (fun e => (e.station, e.freshness))

/-- After an event has changed the table from what it was in `before`: the MISMATCH marks (R78), the permitted range (R87),
the late-conflict test if its facts have changed (R120), and the peers' dust (R157). `occasion` says that the event is one
of R78's by itself. DESIGN CHOICE: the freshness given to an entry created by a DUST or a BREAK counts as a change of freshness, so
that the marks are decided there too; R78 names the creation for STATUS and CLAIM only (assumption 49). -/
def State.afterPeers (s before : State) (occasion : Bool) : State :=
  let decided := if occasion || s.freshnesses != before.freshnesses then (s.decideMismatch .a).decideMismatch .b else s
  let moved := decided.travelEvent
  let tested := if s.conflictKey != before.conflictKey then moved.lateConflictTest else moved
  tested.syncDustPeer

/-- A frame taken by R49 reaches the table (R68, R69, R73). -/
def State.hear (s : State) (port : Side) (f : Frame) : State :=
  match s.entry f.origin with
  | none =>
    let e := s.newEntry port f
    (((s.putChanged e).handOn e f.content).useBreak port e.distance f.content).afterPeers s f.content.tagged
  | some e =>
    if e.freshness = .conflict then s
    else if e.side = port then
      let r := s.recorded e f
      (((s.putEntry e.freshness r).handOn r f.content).useBreak port r.distance f.content).afterPeers s f.content.tagged
    else
      ((s.notify (.dupStation e.station port)).putChanged
        { e with freshness := .conflict, staleTimer := none }).afterPeers s false

/-- A FRESH entry goes to STALE (R71). -/
def State.goStale (s : State) (e : PeerEntry) : State :=
  if e.freshness = .fresh then s.putChanged { e with freshness := .stale } else s

/-- A port has gone LOST: its FRESH entries go to STALE (R71). -/
def State.staleSide (s : State) (port : Side) : State :=
  ((s.peers.filter (fun e => e.side == port)).foldl State.goStale s).afterPeers s false

/-- The stale timer of an entry has expired (R71). -/
def State.staleExpiry (s : State) (e : PeerEntry) : State :=
  ((s.onPeers (setEntry { e with staleTimer := none })).goStale { e with staleTimer := none }).afterPeers s false

end Sys2Proof.Machine
end

