-- ==== Sys2Proof/Machine/Frames.lean ====
section
/-! DEFINITION. The Line Unit's events: arriving frames (R46 to R51), frame-sent (R57), port loss and restore (R58 to R60),
the status and spacing timers (R52), and the changes of the relay (R62 to R65). -/

namespace Sys2Proof.Machine

/-! ## Arrivals -/

/-- A frame that is not valid (R47). -/
def State.dropInvalid (s : State) (port : Side) : State :=
  let t := s.onLine (fun l => l.onPort port (fun r => { r with
    errors := min (r.errors + 1) Config.countMax
    restoreCount := if r.state = .lost then 0 else r.restoreCount }))
  if (s.line.port port).errors < Config.countMax ∧ (t.line.port port).errors % 16 = 0 then
    t.notify (.frameErrors port (t.line.port port).errors)
  else t

/-- The silence timer of a port in state UP that is not a chain end restarts at a valid frame (R58). -/
def PortRec.hear (r : PortRec) (t : Timer) : PortRec := if r.state = .up then r.startSilence t else r

/-- A valid frame that bears the own number (R48). -/
def State.dropOwn (s : State) (port : Side) : State :=
  (s.onLine (fun l => l.onPort port (fun r =>
    { (r.hear (s.timer Config.silenceMs)) with restoreCount := if r.state = .lost then 0 else r.restoreCount }))).notify
    (.dupStation s.station port)

/-- The restore of a port (R59). -/
def State.restore (s : State) (port : Side) : State :=
  let t := s.onLine (fun l => ({ l with own := l.own.filter (fun e => e.kind != .brk port) } : QuayLine).onPort port
    (fun r => ({ r with state := .up, restoreCount := 0, repeatHold := Config.restoreFrames, breakTimer := none } :
      PortRec).startSilence (s.timer Config.silenceMs)))
  ((t.onLine QuayLine.settlePassOver).notify (.portRestored port)).travelEvent

/-- The restore count of a LOST port at a taken frame (R59). -/
def State.countRestore (s : State) (port : Side) (hop : Nat) : State :=
  if (s.line.port port).state = .lost then
    if hop = 0 then
      if (s.line.port port).restoreCount + 1 < Config.restoreFrames then
        s.onLine (fun l => l.onPort port (fun r => { r with restoreCount := r.restoreCount + 1 }))
      else s.restore port
    else s.onLine (fun l => l.onPort port (fun r => { r with restoreCount := 0 }))
  else s

/-- The conditions under which a frame that arrives on `port` with `hop` is offered for repeat (R49 step 4). -/
def QuayLine.repeats (l : QuayLine) (port : Side) (hop : Nat) : Bool :=
  decide (hop ≤ 6) && (l.port port).state == .up && !(l.port (otherSide port)).chainEnd
    && (l.port (otherSide port)).state == .up && (l.port (otherSide port)).repeatHold == 0

/-- A frame offered for repeat out of a port (R50), which an IDLE transmitter takes at once (R56). -/
def State.offer (s : State) (out : Side) (bytes : List Byte) : State :=
  let t := s.onLine (fun l => (l.onPort out (fun r => r.offer bytes)).takeBoth)
  if (s.line.port out).queue.length < Config.passQueueSize then t
  else t.notify (.repeatOverflow out (t.line.port out).overflows)

/-- A valid frame of another station (R49). The state of the arrival port is that found at the arrival. -/
def State.takeFrame (s : State) (port : Side) (bytes : List Byte) (f : Frame) : State :=
  let heard := s.onLine (fun l => l.onPort port (fun r => r.hear (s.timer Config.silenceMs)))
  let counted := heard.countRestore port f.hop
  let passed := if s.line.repeats port f.hop then counted.offer (otherSide port) (repeatedCopy bytes) else counted
  passed.hear port f

/-- A frame arrives on a port: from BYPASS ON until the relay opens again, and in CONFIG, it is discarded (R44, R63). -/
def State.frameArrives (s : State) (port : Side) (bytes : List Byte) : State :=
  if s.inRun then
    match readFrame bytes with
    | none => s.dropInvalid port
    | some f => if f.origin = s.station then s.dropOwn port else s.takeFrame port bytes f
  else s

/-! ## Transmission -/

/-- The frame-sent event (R57). While the relay waits for the last STATUS, this may close it (R63). -/
def State.frameSent (s : State) (port : Side) : State :=
  match (s.line.port port).sending with
  | none => s
  | some f =>
    let t := s.onLine (fun l => ((l.sent port f).takeBoth).closeRelay)
    if t.line.relayOpen = s.line.relayOpen then t else t.recompute

/-! ## Port loss (R58, R60) -/

/-- A port goes LOST (R58). -/
def State.losePort (s : State) (port : Side) : State :=
  let t := s.onLine (fun l => l.onPort port (fun r => { r with
    state := .lost, silenceTimer := none, restoreCount := 0, repeatHold := 0, queue := [] }))
  ((t.notify (.portLost port)).staleSide port |>.issueBreak port).onLine (fun l =>
    l.onPort port (fun r => { r with breakTimer := s.timer Config.breakMs }))

/-- The break timer expires (R60). -/
def State.reissueBreak (s : State) (port : Side) : State :=
  (s.issueBreak port).onLine (fun l => l.onPort port (fun r => { r with breakTimer := s.timer Config.breakMs }))

/-! ## The status and spacing timers (R52, R63) -/

/-- The status timer expires (R52). -/
def State.statusExpiry (s : State) : State :=
  if s.inRun then s.issueStatus else s.onLine (fun l => { l with statusTimer := none })

/-- The spacing timer expires: a pending change is issued, or the last STATUS that waited for it (R52, R63). -/
def State.spacingExpiry (s : State) : State :=
  let t := s.onLine (fun l => { l with spacingTimer := none })
  if s.line.closing = .spacing then t.issueLastStatus.recompute
  else if s.line.changePending && s.inRun then t.issueStatus
  else t

/-! ## The relay -/

/-- The Line Unit at START BLOCK, up to the first STATUS (R62). -/
def State.openLineUnit (s : State) : State :=
  s.onLine (fun l => ({ l with
      up := { l.up with chainEnd := s.block.chainEndUp }
      down := { l.down with chainEnd := s.block.chainEndDown }
      relayOpen := true } : QuayLine).onPorts (fun r => r.setUp.startSilence (s.timer Config.silenceMs)))

/-- The Line Unit at BYPASS ON (R63). The mode is BYPASS already. That a set change-pending flag is cleared here, and not first by the
issue of the last STATUS, is the model's choice (assumption 45). -/
def State.bypassLine (s : State) : State :=
  let t := s.onLine (fun l => ({ l with
      own := [], statusTimer := none, changePending := false, closing := .spacing } : QuayLine).onPorts (fun r =>
        { r with queue := [], silenceTimer := none, breakTimer := none, passOver := 0 }))
  if s.line.spacingTimer.isSome then t else t.issueLastStatus.recompute

/-- The Line Unit at BYPASS OFF, up to the STATUS (R64). -/
def State.reopenLine (s : State) : State :=
  s.onLine (fun l => ({ l with relayOpen := true, closing := .none } : QuayLine).onPorts (fun r =>
    r.setUp.startSilence (s.timer Config.silenceMs)))

/-- The Line Unit at a restart, up to the STATUS (R65). -/
def State.restartLine (s : State) : State :=
  s.onLine (fun l => ({ l with
      own := [], relayOpen := true, closing := .none, spacingTimer := none, changePending := false } : QuayLine).onPorts
    (fun r => { (r.setUp.startSilence (s.timer Config.silenceMs)) with queue := [], passOver := 0, breakTimer := none }))

end Sys2Proof.Machine
end

