-- ==== Sys2Proof/Machine/Requests.lean ====
section
/-! DEFINITION. How a request is taken and answered (R174, R176, R177), the field checks of the map and start-block
requests (R3, R4, R7, R178), and the eligibility checks of a POUR and of its claim window (R106 to R113, R116). -/

namespace Sys2Proof.Machine

/-! ## Replies (R174, R176) -/

/-- The take of the request (R174): the mailbox goes from POSTED to TAKEN, with the content of the reply fixed (R176). -/
def State.reply (s : State) (outcome : ReplyOutcome) (pages : List (List Byte)) : State :=
  s.onPort (fun p => { p with mailbox := .taken ⟨outcome, pages, 0, false⟩ })

/-- The mailbox when a waiting reply is placed (R174). -/
def Mailbox.placed : Mailbox → Mailbox
  | .taken r => .replied r
  | m => m

/-- The reply of a taken request is placed: TAKEN goes to REPLIED (R174). A step with no command waiting does this
(assumption 9). -/
def State.placeReply (s : State) : State := s.onPort (fun p => { p with mailbox := p.mailbox.placed })

/-- DONE with result fields on one page. -/
def State.done (s : State) (fields : List Byte) : State := s.reply .done [fields]

/-- REFUSED with a reason and, for BAD_FIELD, the index of the field; nothing else changes. -/
def State.refuse (s : State) (r : Reason × Nat) : State := s.reply (.refused r.1 r.2) [[]]

/-- The mode check of R177: a request that the present mode does not allow is refused before its owner sees it. -/
def State.whenMode (s : State) (modes : List PartMode) (body : State) : State :=
  if modes.contains s.port.mode then body else s.refuse (.wrongMode, 0)

/-- The modes of the table of section 10.5. -/
def inRunOnly : List PartMode := [.run]
def inRunBypass : List PartMode := [.run, .bypass]

/-! ## Checks in order -/

/-- A check: whether it passes, and the refusal it gives when it does not. -/
abbrev Check := Bool × Reason × Nat

/-- The first check that fails gives the refusal (R3, R4, R7, R95, R106, R178). -/
def firstFailure : List Check → Option (Reason × Nat)
  | [] => none
  | (ok, r) :: rest => if ok then firstFailure rest else some r

/-- A field that must lie in a range: BAD_FIELD with its index. -/
def fieldIn (index : Nat) (lo hi x : Int) : Check := (decide (lo ≤ x ∧ x ≤ hi), .badField, index)

/-- Another check on a field: BAD_FIELD with its index. -/
def fieldOk (index : Nat) (ok : Bool) : Check := (ok, .badField, index)

/-- A check with a reason of its own. -/
def orElse (ok : Bool) (r : Reason) : Check := (ok, r, 0)

/-! ## Map requests (R3, R4, R7) -/

/-- The slot a code names, for a request whose slot field has been checked. -/
def slotOf (n : Nat) : Slot := (Slot.ofCode? n).getD .a

/-- The common checks of R3 on the slot, field 1. -/
def State.slotChecks (s : State) (slot : Nat) : List Check :=
  [fieldOk 1 (Slot.ofCode? slot).isSome, orElse (s.session (slotOf slot)).isSome .noSession]

/-- The hold count of a slot's session. -/
def State.holdCount (s : State) (x : Slot) : Nat :=
  match s.session x with
  | some ses => ses.holdCount
  | none => 0

/-- The common checks of R3 on the slot and the hold, fields 1 and 2. -/
def State.holdChecks (s : State) (slot hold : Nat) : List Check :=
  s.slotChecks slot ++ [fieldIn 2 1 (s.holdCount (slotOf slot)) hold]

/-- A span lies within the rail (R4, R11). -/
def onRail (span : Int × Int) : Bool := decide (0 ≤ span.1 ∧ span.2 ≤ Config.railMax)

/-- A span does not overlap that of the other slot, if it is OPEN (R4, R11). -/
def State.clearOfOther (s : State) (x : Slot) (span : Int × Int) : Bool :=
  match s.session x.other with
  | some o => !overlap span o.span
  | none => true

/-- The lowest-numbered FREE bill record, the first of them numbered `n` (R161). -/
def firstFree (n : Nat) : List (Option Bill) → Option Nat
  | [] => none
  | none :: _ => some n
  | some _ :: rest => firstFree (n + 1) rest

/-- The descriptor that OPEN SESSION gives (R6). -/
def Hold.initial : Hold where
  plan := none
  hatchOpen := false
  permission := .withheld
  touched := false
  token := false
  tokenPass := false

/-- The session record of an OPEN SESSION (R5). -/
def SessionFields.session (f : SessionFields) (bill : Nat) : Session where
  planTag := f.planTag
  bowMark := f.bowMark
  orientation := (Orientation.ofCode? f.orientation).getD .bowUp
  length := f.length
  holdCount := f.holdCount
  displacement := f.displacement
  moment := f.moment
  mct := f.mct
  tpc := f.tpc
  meanDraft := f.meanDraft
  draftLimit := f.draftLimit
  bandLower := f.bandLower
  bandUpper := f.bandUpper
  bill := bill
  holds := List.replicate f.holdCount Hold.initial

/-- The checks of OPEN SESSION (R4). -/
def State.openChecks (s : State) (f : SessionFields) : List Check :=
  [fieldOk 1 (Slot.ofCode? f.slot).isSome, fieldIn 2 1 65535 f.planTag, fieldIn 3 0 1000000 f.bowMark,
    fieldOk 4 (Orientation.ofCode? f.orientation).isSome, fieldIn 5 5000 400000 f.length, fieldIn 6 1 9 f.holdCount,
    fieldIn 7 0 100000 f.displacement, fieldIn 8 (-200000) 200000 f.moment, fieldIn 9 10 5000 f.mct,
    fieldIn 10 2 100 f.tpc, fieldIn 11 50 1400 f.meanDraft, fieldIn 12 50 1400 f.draftLimit,
    fieldIn 13 (-999) 999 f.bandLower, fieldIn 14 (-999) 999 f.bandUpper,
    fieldOk 14 (decide (f.bandLower ≤ f.bandUpper)), fieldOk 5 (onRail (f.session 0).span),
    orElse (s.session (slotOf f.slot)).isNone .slotInUse,
    orElse (s.clearOfOther (slotOf f.slot) (f.session 0).span) .overlap,
    orElse (firstFree 1 s.bills.records).isSome .billStoreFull]

/-- A list of targets rises strictly. -/
def rising : List Nat → Bool
  | [] => true
  | [_] => true
  | a :: b :: rest => decide (a < b) && rising (b :: rest)

/-- The pass-target list lies in its range (R6, R7). -/
def targetsOk (targets : List Nat) : Bool :=
  decide (targets.length ≤ 6) && targets.all (fun t => 1 ≤ t && t ≤ 4000000) && rising targets

/-- The window does not overlap that of another descriptor with EXISTS set, the first being that of hold `n`
(R7 check 3). -/
def clearOfWindows (hold fore aft n : Nat) : List Hold → Bool
  | [] => true
  | d :: rest =>
    (match d.plan with
      | some p => n == hold || !overlap (fore, aft) (p.fore, p.aft)
      | none => true) && clearOfWindows hold fore aft (n + 1) rest

/-- The checks of HOLD ENTRY after those of R3 (R7). -/
def State.entryChecks (s : State) (f : HoldFields) : List Check :=
  match s.session (slotOf f.slot) with
  | none => []
  | some ses =>
    [fieldIn 3 0 ses.length f.fore, fieldIn 4 0 ses.length f.aft, fieldOk 4 (decide (f.fore < f.aft)),
      fieldIn 5 0 10000 f.margin, fieldIn 6 (-2000) 2000 f.lever, fieldIn 7 1 2 f.spoutLimit,
      fieldOk 8 (targetsOk f.targets), fieldOk 9 (Permission.ofCode? f.permission).isSome,
      fieldOk 5 (decide (2 * f.margin < f.aft - f.fore)),
      orElse (clearOfWindows f.hold f.fore f.aft 1 ses.holds) .overlap,
      orElse (!((s.plan (slotOf f.slot) f.hold).isSome && s.claimOn (slotOf f.slot) f.hold)) .stationBusy]

/-- A descriptor with the entry written (R8). -/
def Hold.entered (d : Hold) (f : HoldFields) : Hold :=
  let perm := (Permission.ofCode? f.permission).getD .withheld
  { d with
    plan := some ⟨f.fore, f.aft, f.margin, f.lever, f.spoutLimit, f.targets⟩
    permission := perm
    token := if perm = .restricted then d.token else false }

/-! ## START BLOCK (R178) -/

/-- The three thresholds of a channel, the first at index `i`. -/
def thresholdChecks (i : Nat) (t : Thresholds) : List Check :=
  [fieldIn i 0 4095 t.clear, fieldIn (i + 1) t.clear 4095 t.raise, fieldIn (i + 2) (t.raise + 1 : Nat) 4095 t.trip]

/-- An attention trigger level (R178, R182). -/
def triggerOk (n : Nat) : Bool := n == 1 || n == 4 || n == 8 || n == 16

/-- The checks of START BLOCK, in field order (R178). -/
def StartFields.checks (f : StartFields) : List Check :=
  [fieldIn 1 1 8 f.station, fieldIn 2 0 1 f.chainEndUp, fieldIn 3 0 1 f.chainEndDown, fieldIn 4 0 999999 f.railLower,
    fieldIn 5 (f.railLower + 1 : Nat) 1000000 f.railUpper, fieldIn 6 (-100000) 100000 f.spoutOffset,
    fieldIn 7 2000 40000 f.separation, fieldIn 8 500 50000 f.slowDown, fieldIn 9 100 5000 f.creep,
    fieldOk 9 (decide (f.creep < f.slowDown)), fieldIn 10 5 500 f.tolerance,
    fieldOk 10 (decide (f.tolerance < f.creep)), fieldIn 11 200 5000 f.releaseDelay, fieldIn 12 5 100 f.pulseLength,
    fieldIn 13 1 512 f.cellCount, fieldIn 14 16 200000 f.beltLoop, fieldIn 15 1 65535 f.span,
    fieldIn 16 0 50 f.zeroBand, fieldIn 17 1 30 f.gateLimit] ++ thresholdChecks 18 f.spout
    ++ thresholdChecks 21 f.gallery
    ++ [fieldIn 24 0 20000 f.allowance, fieldIn 25 f.allowance 20000 f.ceiling, fieldOk 26 (triggerOk f.trigger)]

/-- The start block that checked fields give. -/
def StartFields.block (f : StartFields) : StartBlock where
  station := f.station
  chainEndUp := f.chainEndUp == 1
  chainEndDown := f.chainEndDown == 1
  railLower := f.railLower
  railUpper := f.railUpper
  spoutOffset := f.spoutOffset
  separation := f.separation
  slowDown := f.slowDown
  creep := f.creep
  tolerance := f.tolerance
  releaseDelay := f.releaseDelay
  pulseLength := f.pulseLength
  cellCount := f.cellCount
  beltLoop := f.beltLoop
  span := f.span
  zeroBand := f.zeroBand
  gateLimit := f.gateLimit
  spout := f.spout
  gallery := f.gallery
  allowance := f.allowance
  ceiling := f.ceiling
  trigger := f.trigger

/-! ## Eligibility (R106 to R112) -/

/-- E1 (R107). -/
def State.e1 (s : State) (x : Slot) : List Check :=
  [orElse (s.session x).isSome .noSession, orElse (!(s.berth x).mismatch) .planMismatch]

/-- The condition that E3 sets on an adjacent hold for pass `n` (R108). -/
def State.adjacentOk (s : State) (x : Slot) (h n : Nat) : Bool :=
  if n ≤ 1 then true
  else match s.plan x h with
    | some p => match p.targets[n - 2]? with
      | some t => decide (t * 1000 ≤ s.holdTotal x h)
      | none => true
    | none => true

/-- E3 (R108). -/
def State.e3 (s : State) (x : Slot) (h n : Nat) : Bool := s.adjacentOk x (h - 1) n && s.adjacentOk x (h + 1) n

/-- The failure of E4 for a session and predicted totals, if it fails (R105, R109). -/
def limitCheck (ses : Session) (pred : Nat → Nat) : Option Reason := ses.limits (ses.trimDraft pred)

/-- E4 as a check. -/
def limitChecks (ses : Session) (pred : Nat → Nat) : List Check :=
  match limitCheck ses pred with
  | some r => [orElse false r]
  | none => []

/-- The predicted totals of E4 at a POUR: hold `h` at the larger of its own and the proposed target (R109). -/
def State.proposal (s : State) (x : Slot) (h target : Nat) (i : Nat) : Nat :=
  if i = h then max (s.predicted x i) target else s.predicted x i

/-- E5 (R110): the pour window in loader positions meets the permitted range, its WINDOW term left out; it fails while the
position is unknown. -/
def State.e5 (s : State) (x : Slot) (h : Nat) : Bool :=
  match s.computeRange none, s.loaderWindow x h with
  | some r, some w => s.travel.position.isSome && overlap (r.lower, r.upper) w
  | _, _ => false

/-- The ACTIVE claims on a hold that are held by FRESH peers (R111, R116). -/
def State.activePeers (s : State) (x : Slot) (h : Nat) : Nat :=
  ((s.row x h).claims.filter (fun c => c.phase == .active && c.station != s.station && s.fresh c.station)).length

/-- The spout limit of a hold. -/
def State.spoutLimit (s : State) (x : Slot) (h : Nat) : Nat :=
  match s.plan x h with
  | some p => p.spoutLimit
  | none => 0

/-- E7 (R112). -/
def State.e7 (s : State) : Bool :=
  s.fill.claim.isNone && s.travel.state != .faulted && s.scale.zeroRun.isNone && s.scale.status != .fault
    && !s.dustOwn && decide (0 < s.bills.free)

/-- An accepted proposal: the pass and the target. -/
structure Proposal where
  pass : Nat
  target : Nat
  deriving DecidableEq, Repr

/-- The checks of R107 after the choice of pass, and those of R108 to R112, for a proposal. -/
def State.proposalChecks (s : State) (x : Slot) (ses : Session) (h : Nat) (p : Proposal) : List Check :=
  [orElse (s.e3 x h p.pass) .order] ++ limitChecks ses (s.proposal x h p.target)
    ++ [orElse (s.e5 x h) .outOfReach, orElse (decide (s.activePeers x h < s.spoutLimit x h)) .holdBusy,
      orElse s.e7 .stationBusy]

/-- The proposed target with an override (R107): it must exceed the hold total in kg and lie below the pass target. -/
def State.overrideOk (s : State) (x : Slot) (h target : Nat) : Option Nat → Bool
  | some o => decide (s.holdTotal x h / 1000 < o ∧ o < target)
  | none => true

/-- E2 to E7 for a hold, with an override in kg if one is given (R107 to R112). -/
def State.eligible (s : State) (x : Slot) (ses : Session) (h : Nat) (override : Option Nat) :
    Except (Reason × Nat) Proposal :=
  if !s.ready x h then .error (.notReady, 0)
  else match s.nextPass x h with
    | none => .error (.holdComplete, 0)
    | some (n, t) =>
      if !s.overrideOk x h t override then .error (.badField, 3)
      else match firstFailure (s.proposalChecks x ses h ⟨n, override.getD t⟩) with
        | some r => .error r
        | none => .ok ⟨n, override.getD t⟩

/-! ## ANY (R113) -/

/-- The distance between the tip and a hold's pour window; none stands for infinitely distant (R113). -/
def State.windowDistance (s : State) (x : Slot) (h : Nat) : Option Nat :=
  match s.window x h, s.tip with
  | some w, some tip => some (tip - clampTo w tip).natAbs
  | _, _ => none

/-- Smaller first, with none after every number. -/
def rankBefore : Option Nat → Option Nat → Bool
  | some a, some b => decide (a < b)
  | some _, none => true
  | none, _ => false

/-- Whether hold `g` ranks before hold `h`, `h` being the lower-numbered (R113). -/
def State.ranksBefore (s : State) (x : Slot) (g h : Nat) : Bool :=
  let pg := (s.nextPass x g).map Prod.fst
  let ph := (s.nextPass x h).map Prod.fst
  if pg = ph then rankBefore (s.windowDistance x g) (s.windowDistance x h) else rankBefore pg ph

/-- A hold entered in a ranking of higher-numbered holds. -/
def State.rankInsert (s : State) (x : Slot) (h : Nat) : List Nat → List Nat
  | [] => [h]
  | g :: rest => if s.ranksBefore x g h then g :: s.rankInsert x h rest else h :: g :: rest

/-- The holds from `h` on, `count` of them, ranked (R113). -/
def State.ranking (s : State) (x : Slot) (h : Nat) : Nat → List Nat
  | 0 => []
  | count + 1 => s.rankInsert x h (s.ranking x (h + 1) count)

/-- The first hold of a ranking that passes; the reason of the hold ranked first otherwise (R113). -/
def State.firstEligible (s : State) (x : Slot) (ses : Session) : List Nat → Except (Reason × Nat) (Nat × Proposal)
  | [] => .error (.notReady, 0)
  | h :: rest =>
    match s.eligible x ses h none with
    | .ok p => .ok (h, p)
    | .error r => match s.firstEligible x ses rest with
      | .ok q => .ok q
      | .error _ => .error r

/-- The checks of R106 that precede the choice of hold. -/
def State.pourChecks (s : State) (slot hold override : Nat) : List Check :=
  [fieldOk 1 (Slot.ofCode? slot).isSome, fieldIn 2 0 9 hold,
    fieldOk 3 (override == 0 || (hold != 0 && decide (override ≤ 4000000)))]
    ++ s.e1 (slotOf slot) ++ [fieldOk 2 (hold == 0 || decide (hold ≤ s.holdCount (slotOf slot)))]

/-- What a POUR asks for: a refusal, or a hold with its proposal (R106, R113). -/
def State.judgePour (s : State) (slot hold override : Nat) : Except (Reason × Nat) (Nat × Proposal) :=
  match firstFailure (s.pourChecks slot hold override), s.session (slotOf slot) with
  | some r, _ => .error r
  | none, none => .error (.noSession, 0)
  | none, some ses =>
    if hold = 0 then s.firstEligible (slotOf slot) ses (s.ranking (slotOf slot) 1 ses.holdCount)
    else match s.eligible (slotOf slot) ses hold (if override = 0 then none else some override) with
      | .ok p => .ok (hold, p)
      | .error r => .error r

/-! ## The claim window (R116) -/

/-- The PENDING claims on a hold that are held by FRESH peers of a lower station number (R116). -/
def State.lowerPending (s : State) (x : Slot) (h : Nat) : List ClaimEntry :=
  (s.row x h).claims.filter (fun c => c.phase == .pending && decide (c.station < s.station) && s.fresh c.station)

/-- The predicted totals of E4 with rank (R116 check 5). -/
def State.rankedTotals (s : State) (c : OwnClaim) (i : Nat) : Nat :=
  max (max (s.predicted c.slot i) (maxTarget (s.lowerPending c.slot i))) (if i = c.hold then c.target else 0)

/-- The checks at the expiry of the claim window (R116). -/
def State.decisionChecks (s : State) (c : OwnClaim) : List Check :=
  s.e1 c.slot ++ [orElse (s.ready c.slot c.hold) .notReady,
    orElse (decide (s.holdTotal c.slot c.hold < c.target * 1000)) .holdComplete,
    orElse (s.e3 c.slot c.hold c.pass) .order,
    orElse (decide (s.activePeers c.slot c.hold + (s.lowerPending c.slot c.hold).length
      < s.spoutLimit c.slot c.hold)) .holdBusy]
    ++ (match s.session c.slot with
      | some ses => limitChecks ses (s.rankedTotals c)
      | none => [])

end Sys2Proof.Machine
end

