-- ==== Sys2Proof/Machine/Restart.lean ====
section
/-! DEFINITION. The restart (R180), block by block: R42, R144, R171, R123, R20, R80, R100, R158, R65. -/

namespace Sys2Proof.Machine

/-- The Local Port at a restart (R180). The mailbox has just been emptied by the fetch. -/
def LocalPort.restart (p : LocalPort) : LocalPort :=
  { p with mode := .run, notices := [], overflow := false, dropped := 0, ageTimer := none, ageCause := false }

/-- Step 1 of R144: timers cancelled, the gate commanded CLOSED; a gate that was OPENING, OPEN or CLOSING is CLOSING with
its timer started afresh. -/
def State.restartGate (s : State) : State :=
  s.onPour (fun p => { p with
    positioningTimer := none, beltStartTimer := none, beltRetryTimer := none, gateCommand := .closed
    gate := if p.gate = .closed ∨ p.gate = .fault then p.gate else .closing
    gateTimer := if p.gate = .closed ∨ p.gate = .fault then none else s.gateTimer })

/-- The open line closed with cause RESTART (R144 step 2, R171). -/
def State.restartLineClosed (s : State) : State :=
  (s.onBills (fun b => b.closeLine s.count .restart none none)).notifyLineClosed s.bills.openLine .restart none none

/-- The belt content moved to the spill tally (R42 step 3). -/
def State.restartSpill (s : State) : State :=
  if 0 < s.belt.content then s.spill .restart s.belt.content else s

/-- Every cell emptied and unmarked, the phase 0 (R42 step 4). -/
def Belt.emptied (b : Belt) : Belt := ⟨b.cells.map (fun _ => Cell.empty), 0, 0⟩

/-- Steps 3 and 5 of R144. -/
def Pour.restart (p : Pour) : Pour :=
  { p with
    state := .idle, phase := none, causes := CauseSet.empty, passSuspended := false, failures := 0
    runoutCause := none, runoutShifts := 0, beltOn := false, watch := .off }

/-- The mass of a bill's lines for a hold (R123, R168). -/
def Bill.delivered (b : Bill) (h : Nat) : Nat := ((b.lines.filter (fun l => l.hold == h)).map BillLine.mass).sum

/-- A view rebuilt from the lines of its session's bill, the first row being that of hold `h` (R123). -/
def rebuiltRows (b : Option Bill) (h : Nat) : List Row → List Row
  | [] => []
  | _ :: rest => ⟨match b with
      | some bill => bill.delivered h
      | none => 0, [], []⟩ :: rebuiltRows b (h + 1) rest

/-- The bill of a slot's session. -/
def State.billOf (s : State) (x : Slot) : Option Bill :=
  match s.session x with
  | some ses => s.bills.bill ses.bill
  | none => none

/-- The Fill Order Unit at a restart (R123). -/
def State.restartFill (s : State) : State :=
  s.onFill (fun f =>
    { viewA := f.viewA.map (rebuiltRows (s.billOf .a) 1), viewB := f.viewB.map (rebuiltRows (s.billOf .b) 1),
      claim := none, claimTimer := none })

/-- A slot at a restart: MISMATCH and every token pass marker are cleared (R1, R20). -/
def Berth.restart (b : Berth) : Berth :=
  { mismatch := false
    session := b.session.map (fun ses => { ses with holds := ses.holds.map (fun d => { d with tokenPass := false }) }) }

/-- The Travel Controller at a restart (R100). -/
def State.restartTravel (s : State) : State :=
  s.onTravel (fun t => { t with
    state := .parked, cause := none, target := none, source := none, direction := none, step := .zero, recovery := none
    sampleSince := false, stopMark := none, encoderTimer := s.timer Config.encoderMs, releaseTimer := none
    brakeFailTimer := none, settleTimer := none })

/-- What a channel in TRIP, HELD or FAILED queues at a restart (R158). -/
def restartNotice (c : Channel) (r : DustChannel) : Option NoticeBody :=
  match r.state with
  | .trip | .held => some (dustTripOf c r)
  | .failed => some (dustFailedOf c r)
  | .clear | .watch | .alarm => none

/-- The Dust Monitor at a restart (R158). -/
def State.restartDust (s : State) : State :=
  let t := s.onDust (fun d =>
    { spout := { d.spout with timer := s.timer Config.dustMs }
      gallery := { d.gallery with timer := s.timer Config.dustMs }, peers := [] })
  (t.notifyOpt (restartNotice .spout s.dust.spout)).notifyOpt (restartNotice .gallery s.dust.gallery)

/-- The restart (R180). The notices enter the emptied queue in the order of R180; the first STATUS carries the state that
the restart leaves (R65). -/
def State.restart (s : State) : State :=
  let ported := (s.onPort LocalPort.restart).onScale (fun c => { c with zeroRun := none, stillTimer := none })
  let spilled := (ported.restartGate.restartLineClosed.restartSpill).onBelt Belt.emptied
  let poured := (spilled.onPour Pour.restart).restartFill.onBerths (fun b => ⟨b.a.restart, b.b.restart⟩)
  let cleared := (poured.onPeers (fun _ => [])).restartTravel.restartDust
  cleared.restartLine.recompute.issueStatus

end Sys2Proof.Machine
end

