-- ==== Sys2Proof/Machine/MapCommands.lean ====
section
/-! DEFINITION. The requests of the Position Map (section 1.3): OPEN SESSION, HOLD ENTRY, SET HATCH, PERMIT, SHIFT VESSEL, SET
DRAFT LIMIT and CLOSE SESSION, with what they hand to the Bill Store and the Fill Order Unit. -/

namespace Sys2Proof.Machine

/-- A request answered by its checks: the first failure refuses it, else it acts. -/
def State.judged (s : State) (checks : List Check) (act : State) : State :=
  match firstFailure checks with
  | some r => s.refuse r
  | none => act

/-! ## OPEN SESSION (R4, R5, R161) -/

/-- The bill that OPEN SESSION opens (R161). -/
def State.newBill (s : State) (f : SessionFields) : Bill where
  slot := slotOf f.slot
  planTag := f.planTag
  opening := s.count
  lines := []
  snapshot := s.bills.spill
  summary := none

/-- The effects of an accepted OPEN SESSION, with bill record `n` (R5). The opening is a status change (R52). -/
def State.openSession (s : State) (f : SessionFields) (n : Nat) : State :=
  let x := slotOf f.slot
  (((s.onBerth x (fun _ => ⟨false, some (f.session n)⟩)).onBills (fun b => b.setRecord n (some (s.newBill f)))).onFill
    (fun v => v.setView x (some (List.replicate f.holdCount Row.empty)))).markStatus

/-- The take of OPEN SESSION. -/
def State.takeOpenSession (s : State) (f : SessionFields) : State :=
  match firstFailure (s.openChecks f), firstFree 1 s.bills.records with
  | some r, _ => s.refuse r
  | none, none => s.refuse (.billStoreFull, 0)
  | none, some n => (s.openSession f n).mapTest.done (uField 1 n)

/-- OPEN SESSION. -/
def execOpenSession (s : State) : Host.Outcome State Fault Refusal :=
  match s.port.mailbox with
  | .posted (.openSession f) => .next (s.whenMode inRunBypass (s.takeOpenSession f)).finish
  | _ => .next s

/-! ## HOLD ENTRY, SET HATCH, PERMIT (R7 to R10) -/

/-- HOLD ENTRY. -/
def execHoldEntry (s : State) : Host.Outcome State Fault Refusal :=
  match s.port.mailbox with
  | .posted (.holdEntry f) =>
    .next (s.whenMode inRunBypass (s.judged (s.holdChecks f.slot f.hold ++ s.entryChecks f)
      ((s.onHold (slotOf f.slot) f.hold (fun d => d.entered f)).mapTest.done []))).finish
  | _ => .next s

/-- SET HATCH. -/
def execSetHatch (s : State) : Host.Outcome State Fault Refusal :=
  match s.port.mailbox with
  | .posted (.setHatch slot hold state) =>
    .next (s.whenMode inRunBypass (s.judged (s.holdChecks slot hold ++ [fieldIn 3 0 1 state])
      ((s.onHold (slotOf slot) hold (fun d => { d with hatchOpen := state == 1 })).mapTest.done []))).finish
  | _ => .next s

/-- The check of PERMIT (R10). -/
def State.restricted (s : State) (x : Slot) (h : Nat) : Bool :=
  match s.hold x h with
  | some d => d.plan.isSome && d.permission == .restricted
  | none => false

/-- PERMIT. -/
def execPermit (s : State) : Host.Outcome State Fault Refusal :=
  match s.port.mailbox with
  | .posted (.permit slot hold) =>
    .next (s.whenMode inRunBypass (s.judged
      (s.holdChecks slot hold ++ [orElse (s.restricted (slotOf slot) hold) .notRestricted])
      ((s.onHold (slotOf slot) hold (fun d => { d with token := true })).mapTest.done []))).finish
  | _ => .next s

/-! ## SHIFT VESSEL (R11) -/

/-- The span with a new bow mark (R11). -/
def State.shiftedSpan (s : State) (x : Slot) (bow : Nat) : Int × Int :=
  match s.session x with
  | some ses => ({ ses with bowMark := bow } : Session).span
  | none => (0, 0)

/-- The own claim, of either phase, is on this slot. -/
def State.claimOnSlot (s : State) (x : Slot) : Bool :=
  match s.fill.claim with
  | some c => c.slot == x
  | none => false

/-- What an accepted SHIFT VESSEL on the claim's slot does to travel and to the pour: with a line open the range is computed
afresh and travel acts on it, and only then is MAP judged (assumption 33); a MAP held before and still held places its RETURN
order again; in POSITIONING the pour point is taken afresh (R87, R126, R137). -/
def State.shiftPour (s : State) : State :=
  if s.lineOpen then
    let t := s.travelEvent.mapTest
    if s.pour.causes.map && t.pour.causes.map then t.placeReturn else t
  else if s.pour.state = .positioning ∧ s.travel.state ≠ .faulted then s.positioningCases
  else s

/-- The effects of an accepted SHIFT VESSEL. -/
def State.shiftVessel (s : State) (x : Slot) (bow : Nat) : State :=
  let t := s.onSession x (fun ses => { ses with bowMark := bow })
  if s.claimOnSlot x then t.shiftPour else t.mapTest

/-- SHIFT VESSEL. -/
def execShiftVessel (s : State) : Host.Outcome State Fault Refusal :=
  match s.port.mailbox with
  | .posted (.shiftVessel slot bow) =>
    .next (s.whenMode inRunBypass (s.judged
      (s.slotChecks slot ++ [fieldIn 2 0 1000000 bow, fieldOk 2 (onRail (s.shiftedSpan (slotOf slot) bow)),
        orElse (s.clearOfOther (slotOf slot) (s.shiftedSpan (slotOf slot) bow)) .overlap])
      ((s.shiftVessel (slotOf slot) bow).done []))).finish
  | _ => .next s

/-! ## SET DRAFT LIMIT (R12) -/

/-- The draft limit of a slot's session. -/
def State.draftLimit (s : State) (x : Slot) : Nat :=
  match s.session x with
  | some ses => ses.draftLimit
  | none => 0

/-- The effects of an accepted SET DRAFT LIMIT. -/
def State.setDraftLimit (s : State) (x : Slot) (limit : Nat) : State :=
  (s.onSession x (fun ses => { ses with draftLimit := limit })).notify (.draftLimit x (s.draftLimit x) limit)

/-- SET DRAFT LIMIT. -/
def execSetDraftLimit (s : State) : Host.Outcome State Fault Refusal :=
  match s.port.mailbox with
  | .posted (.setDraftLimit slot limit) =>
    .next (s.whenMode inRunBypass (s.judged (s.slotChecks slot ++ [fieldIn 2 50 1400 limit])
      ((s.setDraftLimit (slotOf slot) limit).mapTest.done []))).finish
  | _ => .next s

/-! ## CLOSE SESSION (R13, R168) -/

/-- The summary of a session's bill at the seal (R168). -/
def State.summary (s : State) (ses : Session) (b : Bill) : Summary where
  delivered := (List.range ses.holdCount).map (fun i => b.delivered (i + 1))
  lineCount := b.lines.length
  spill := s.bills.spill - b.snapshot
  displacement := ses.displacement
  allowance := s.pour.allowance.getD 0
  sealTime := b.lineTime s.count

/-- The session's bill sealed (R168). -/
def State.sealBill (s : State) (ses : Session) : State :=
  match s.bills.bill ses.bill with
  | some b => s.onBills (fun bs => bs.setRecord ses.bill (some { b with summary := some (s.summary ses b) }))
  | none => s

/-- The slot goes FREE with MISMATCH clear; a change of the mark is notified (R13, R78). -/
def State.freeSlot (s : State) (x : Slot) : State :=
  let t := s.onBerth x (fun _ => Berth.free)
  if (s.berth x).mismatch then t.notify (.planMismatch x none) else t

/-- The effects of an accepted CLOSE SESSION, which is a status change (R13, R52). -/
def State.closeSession (s : State) (x : Slot) (ses : Session) : State :=
  (((s.sealBill ses).onFill (fun f => f.setView x none)).freeSlot x).markStatus

/-- The take of CLOSE SESSION. -/
def State.takeCloseSession (s : State) (slot : Nat) : State :=
  match firstFailure (s.slotChecks slot ++ [orElse (!s.claimOnSlot (slotOf slot)) .stationBusy]),
      s.session (slotOf slot) with
  | some r, _ => s.refuse r
  | none, none => s.refuse (.noSession, 0)
  | none, some ses => (s.closeSession (slotOf slot) ses).mapTest.done (uField 1 ses.bill)

/-- CLOSE SESSION. -/
def execCloseSession (s : State) : Host.Outcome State Fault Refusal :=
  match s.port.mailbox with
  | .posted (.closeSession slot) => .next (s.whenMode inRunBypass (s.takeCloseSession slot)).finish
  | _ => .next s

end Sys2Proof.Machine
end

