-- ==== Sys2Proof/Machine/DustCommands.lean ====
section
/-! DEFINITION. The commands of the Dust Monitor (Chapter 8): dust samples, the sample timers, and DUST ACKNOWLEDGE. -/

namespace Sys2Proof.Machine

/-- DUST_SAMPLE (R148): discarded in CONFIG. -/
def execDustSample (channel : Channel) (value : BitVec 16) (faultFlag : Bool) (s : State) :
    Host.Outcome State Fault Refusal :=
  .next (if s.configured then s.takeDust channel value.toNat faultFlag else s).finish

/-- DUST_SAMPLE_TIMER_EXPIRY (R151). -/
def execDustSampleTimerExpiry (channel : Channel) (s : State) : Host.Outcome State Fault Refusal :=
  .next (s.expire (s.dust.channel channel).timer (fun t => t.applyChannel channel (t.dust.channel channel).silent)).finish

/-- The channel a code names, for a request whose channel field has been checked. -/
def channelOf (n : Nat) : Channel := if n = 2 then .gallery else .spout

/-- The take of DUST ACKNOWLEDGE (R153). -/
def State.takeDustAcknowledge (s : State) (n : Nat) : State :=
  match firstFailure [fieldIn 1 1 2 n], (s.dust.channel (channelOf n)).acknowledge with
  | some r, _ => s.refuse r
  | none, none => s.refuse (.notTripped, 0)
  | none, some r => (s.applyChannel (channelOf n) r).done []

/-- DUST ACKNOWLEDGE. -/
def execDustAcknowledge (s : State) : Host.Outcome State Fault Refusal :=
  match s.port.mailbox with
  | .posted (.dustAcknowledge n) => .next (s.whenMode inRunBypass (s.takeDustAcknowledge n)).finish
  | _ => .next s

end Sys2Proof.Machine
end

