-- ==== Sys2Proof/Machine/LineCommands.lean ====
section
/-! DEFINITION. The commands of the Line Unit and the Peer Table (Chapters 3 and 4): arriving frames, frame-sent, and the
timers of the ports, of STATUS and of the peer entries. The first byte of a frame, its kind, is the row's own
(assumption 10). -/

namespace Sys2Proof.Machine

/-- STATUS_FRAME (R46 to R51, R69). -/
def execStatusFrame (port : Side) (rest : List Byte) (s : State) : Host.Outcome State Fault Refusal :=
  .next (s.frameArrives port (0x01 :: rest)).finish

/-- CLAIM_FRAME (R46 to R51, R76). -/
def execClaimFrame (port : Side) (rest : List Byte) (s : State) : Host.Outcome State Fault Refusal :=
  .next (s.frameArrives port (0x02 :: rest)).finish

/-- DUST_FRAME (R46 to R51, R77). -/
def execDustFrame (port : Side) (rest : List Byte) (s : State) : Host.Outcome State Fault Refusal :=
  .next (s.frameArrives port (0x03 :: rest)).finish

/-- BREAK_FRAME (R46 to R51, R72). -/
def execBreakFrame (port : Side) (rest : List Byte) (s : State) : Host.Outcome State Fault Refusal :=
  .next (s.frameArrives port (0x04 :: rest)).finish

/-- NOT_VALID_FRAME (R47). -/
def execNotValidFrame (port : Side) (s : State) : Host.Outcome State Fault Refusal :=
  .next (if s.inRun then s.dropInvalid port else s).finish

/-- FRAME_SENT (R57): an IDLE transmitter has sent nothing. -/
def execFrameSent (port : Side) (s : State) : Host.Outcome State Fault Refusal :=
  .next (s.frameSent port).finish

/-- SILENCE_TIMER_EXPIRY (R58). -/
def execSilenceTimerExpiry (port : Side) (s : State) : Host.Outcome State Fault Refusal :=
  .next (s.expire (s.line.port port).silenceTimer (fun t => t.losePort port)).finish

/-- BREAK_TIMER_EXPIRY (R60). -/
def execBreakTimerExpiry (port : Side) (s : State) : Host.Outcome State Fault Refusal :=
  .next (s.expire (s.line.port port).breakTimer (fun t => t.reissueBreak port)).finish

/-- STATUS_TIMER_EXPIRY (R52). -/
def execStatusTimerExpiry (s : State) : Host.Outcome State Fault Refusal :=
  .next (s.expire s.line.statusTimer State.statusExpiry).finish

/-- SPACING_TIMER_EXPIRY (R52, R63). -/
def execSpacingTimerExpiry (s : State) : Host.Outcome State Fault Refusal :=
  .next (s.expire s.line.spacingTimer State.spacingExpiry).finish

/-- PEER_STALE_TIMER_EXPIRY of a station's entry (R71). -/
def execPeerStaleTimerExpiry (station : Nat) (s : State) : Host.Outcome State Fault Refusal :=
  match s.entry station with
  | some e => .next (s.expire e.staleTimer (fun t => t.staleExpiry e)).finish
  | none => .next s.finish

end Sys2Proof.Machine
end

