-- ==== Sys2Proof/Machine/PortCommands.lean ====
section
/-! DEFINITION. The commands of the Local Port (Chapter 10): the power-on reset, the transactions of the SPI target, and the
requests that the Local Port itself owns. -/

namespace Sys2Proof.Machine

/-! ## Transactions (R173 to R176, R181, R187) -/

/-- The transaction was answered OK or ACCEPTED (section 11.3). -/
def Select.ok (sel : Select) : Bool := sel.status == 0x00

/-- The status byte of a transaction, from the state found when it is sent (R173, R187). -/
def LocalPort.statusOf (p : LocalPort) : Transaction → Byte
  | .post record =>
    match p.mailbox with
    | .empty => if (Request.read record).isSome then 0x00 else 0x02
    | _ => 0x01
  | .withdraw =>
    match p.mailbox with
    | .empty => 0x05
    | .posted _ => 0x03
    | .taken _ | .replied _ => 0x04
  | .fetchReply =>
    match p.mailbox with
    | .replied _ => 0x00
    | _ => 0x05
  | .fetchNotice => if p.nextNotice.isSome then 0x00 else 0x05

/-- A reply page (section 11.4). -/
def Reply.page (r : Reply) : List Byte :=
  let data := r.pages.getD r.fetched []
  let head : List Byte := match r.outcome with
    | .done => [0x00, 0x00, 0x00]
    | .refused reason index => [0x01, reason.code] ++ uField 1 index
    | .restarted => [0x02, 0x00, 0x00]
  head ++ uField 1 (r.fetched + 1) ++ uField 1 r.pages.length ++ flag r.tooLate ++ uField 2 data.length ++ data

/-- The bytes that the part sends in a transaction (section 11.3). -/
def LocalPort.answer (p : LocalPort) (t : Transaction) : List Byte :=
  match t with
  | .post record => List.replicate (2 + record.length) 0x00 ++ [p.statusOf t]
  | .withdraw => [p.statusOf t]
  | .fetchReply =>
    p.statusOf t :: (match p.mailbox with
      | .replied r => r.page
      | _ => [])
  | .fetchNotice =>
    p.statusOf t :: (flag p.overflow ++ (match p.nextNotice with
      | some n => n.record
      | none => []))

/-- The notice that a transaction returns. -/
def LocalPort.returned (p : LocalPort) : Transaction → Option Notice
  | .fetchNotice => p.nextNotice
  | _ => none

/-- The notices held back during a fetch enter the queue by R181 (R187). -/
def LocalPort.enterHeld (p : LocalPort) (now : Nat) (held : List (NoticeBody × Nat)) : LocalPort :=
  held.foldl (fun q h => q.enter now h.1 h.2) p

/-- A select period released early takes no effect; a notice held back merges into the entry that stays (R173, R187). -/
def LocalPort.release (p : LocalPort) (now : Nat) : LocalPort :=
  match p.select with
  | some sel => ({ p with select := none } : LocalPort).enterHeld now sel.heldBack
  | none => p

/-- The status byte is sent: what is returned is fixed (R187). A select period still open is released. -/
def LocalPort.begin (p : LocalPort) (now : Nat) (t : Transaction) : LocalPort :=
  let q := p.release now
  { q with select := some ⟨t, q.statusOf t, q.returned t, []⟩, spiOut := q.answer t }

/-- The mailbox after an effective POST (R174). -/
def Mailbox.place (m : Mailbox) (record : List Byte) : Mailbox :=
  match m, Request.read record with
  | .empty, some r => .posted r
  | _, _ => m

/-- The mailbox after a WITHDRAW, by the state found (R175). -/
def Mailbox.withdrawn : Mailbox → Mailbox
  | .empty => .empty
  | .posted _ => .empty
  | .taken r => .taken { r with tooLate := true }
  | .replied r => .replied { r with tooLate := true }

/-- The mailbox after a page has been fetched (R176). -/
def Mailbox.fetched : Mailbox → Mailbox
  | .replied r => if r.fetched + 1 < r.pages.length then .replied { r with fetched := r.fetched + 1 } else .empty
  | m => m

/-- The mailbox holds the reply to a RESTART (R180). -/
def Mailbox.restarts : Mailbox → Bool
  | .replied r => r.outcome == .restarted
  | _ => false

/-- The queue after a FETCH NOTICE: the notice returned is removed, the overflow flag and the age cause are cleared, and the
age timer restarts or stops (R181, R183). -/
def LocalPort.noticeFetched (p : LocalPort) (now : Nat) (returned : Option Notice) : LocalPort :=
  let q : LocalPort := { p with
    notices := match returned with
      | some n => p.notices.eraseP (fun k => k.body.sameKey n.body)
      | none => p.notices
    overflow := false, ageCause := false }
  { q with ageTimer := if q.attentionEntries = 0 then none else some (now + Config.ageMs) }

/-- The effect of a transaction at the end of its select period, by the status it was answered with and the state found then
(R173, R187). A fetch that was answered NONE has returned nothing and consumes nothing. -/
def State.effect (s : State) (sel : Select) : State :=
  match sel.transaction with
  | .post record => if sel.ok then s.onPort (fun p => { p with mailbox := p.mailbox.place record }) else s
  | .withdraw => s.onPort (fun p => { p with mailbox := p.mailbox.withdrawn })
  | .fetchReply =>
    if sel.ok then
      let t := s.onPort (fun p => { p with mailbox := p.mailbox.fetched })
      if s.port.mailbox.restarts then t.restart else t
    else s
  | .fetchNotice => s.onPort (fun p => (p.noticeFetched s.count sel.notice).enterHeld s.count sel.heldBack)

/-- The select period ends. -/
def State.endSelect (s : State) (t : Transaction) : State :=
  match s.port.select with
  | some sel => if sel.transaction = t then (s.onPort (fun p => { p with select := none })).effect sel else s
  | none => s

/-- A transaction command, by its phase (R173, R187). -/
def State.transact (s : State) (t : Transaction) : SpiPhase → State
  | .whole => (s.onPort (fun p => p.begin s.count t)).endSelect t
  | .status => s.onPort (fun p => p.begin s.count t)
  | .finish => s.endSelect t
  | .release => s.onPort (fun p => if (p.select.map Select.transaction) = some t then p.release s.count else p)

/-- POST (R174). -/
def execPost (phase : SpiPhase) (record : List Byte) (s : State) : Host.Outcome State Fault Refusal :=
  .next (s.transact (.post record) phase).finish

/-- WITHDRAW (R175). -/
def execWithdraw (phase : SpiPhase) (s : State) : Host.Outcome State Fault Refusal :=
  .next (s.transact .withdraw phase).finish

/-- FETCH REPLY (R173, R176), which may be the one that makes a restart take effect (R180). A mailbox that is not REPLIED answers
NONE, one in TAKEN too. -/
def execFetchReply (phase : SpiPhase) (s : State) : Host.Outcome State Fault Refusal :=
  .next (s.transact .fetchReply phase).finish

/-- FETCH NOTICE (R181). -/
def execFetchNotice (phase : SpiPhase) (s : State) : Host.Outcome State Fault Refusal :=
  .next (s.transact .fetchNotice phase).finish

/-- Mailbox state code of PORT STATE (section 11.3). -/
def Mailbox.code : Mailbox → Byte
  | .empty => 0x00
  | .posted _ => 0x01
  | .taken _ => 0x02
  | .replied _ => 0x03

/-- The class masks as one byte: bits 1..3 for classes 2..4 (section 11.3). READ STATION sends the same byte (assumption 36). -/
def LocalPort.maskByte (p : LocalPort) : Byte := BitVec.ofNat 8 (bit p.mask2 2 + bit p.mask3 4 + bit p.mask4 8)

/-- The attention causes as one byte. -/
def LocalPort.causeByte (p : LocalPort) : Byte :=
  BitVec.ofNat 8 (bit p.classOneCause 1 + bit p.levelCause 2 + bit p.ageCause 4)

/-- The port record of PORT STATE (section 11.3). -/
def LocalPort.record (p : LocalPort) : List Byte :=
  [p.mode.code, p.mailbox.code] ++ uField 1 p.notices.length ++ flag p.overflow ++ uField 2 p.dropped
    ++ [p.maskByte] ++ uField 1 p.trigger ++ [p.causeByte]

/-- PORT STATE (R173): the record is sent, and nothing else changes. -/
def execPortState (s : State) : Host.Outcome State Fault Refusal :=
  .next (s.onPort (fun p => let q := p.release s.count; { q with spiOut := 0x00 :: q.record })).finish

/-- A first byte that names no transaction is answered UNKNOWN (R173). -/
def execUnknownTransaction (_first : Byte) (s : State) : Host.Outcome State Fault Refusal :=
  .next (s.onPort (fun p => { p.release s.count with spiOut := [0x0F] })).finish

/-! ## The power-on reset (R172 and the chapters' reset values) -/

/-- POWER_ON_RESET: every block at its reset value. The field inputs keep their levels (assumption 7), and the commands that
wait are not the part's own state. -/
def execPowerOnReset (s : State) : Host.Outcome State Fault Refusal :=
  .next { State.reset with inputs := s.inputs, pending := s.pending }

/-! ## Requests of the Local Port -/

/-- The cells and timers of the blocks at an accepted START BLOCK (R24, R26, R84, R145, R158, R178). -/
def State.startBlocks (s : State) (b : StartBlock) : State :=
  let t := { s with cfg := some b }
  let u := (t.onPort (fun p => { p with mode := .run, trigger := b.trigger })).onBelt
    (fun _ => ⟨List.replicate b.cellCount Cell.empty, 0, 0⟩)
  (((u.startLoadTimers.onTravel (fun v => { v with encoderTimer := s.timer Config.encoderMs })).onDust (fun d => { d with
    spout := { d.spout with timer := s.timer Config.dustMs }
    gallery := { d.gallery with timer := s.timer Config.dustMs } })).onPour (fun p => { p with
      allowance := some b.allowance }))

/-- The take of START BLOCK (R178). -/
def State.takeStartBlock (s : State) (f : StartFields) : State :=
  s.whenMode [.config] (match firstFailure f.checks with
    | some r => s.refuse r
    | none => ((s.startBlocks f.block).openLineUnit.recompute.issueStatus).done [])

/-- START BLOCK. -/
def execStartBlock (s : State) : Host.Outcome State Fault Refusal :=
  match s.port.mailbox with
  | .posted (.startBlock f) => .next (s.takeStartBlock f).finish
  | _ => .next s

/-- RESTART (R180): its reply is RESTARTED; the restart follows the fetch of it. -/
def execRestart (s : State) : Host.Outcome State Fault Refusal :=
  match s.port.mailbox with
  | .posted .restart => .next (s.whenMode inRunBypass (s.reply .restarted [[]])).finish
  | _ => .next s

/-- The checks of SET MASKS (R182). -/
def maskChecks (m1 m2 m3 m4 trigger : Nat) : List Check :=
  [fieldIn 1 0 0 m1, fieldIn 2 0 1 m2, fieldIn 3 0 1 m3, fieldIn 4 0 1 m4, fieldOk 5 (triggerOk trigger)]

/-- The masks and the trigger level replaced; the age timer follows the attention entries (R182, R183). -/
def State.setMasks (s : State) (m2 m3 m4 trigger : Nat) : State :=
  s.onPort (fun p => ({ p with mask2 := m2 == 1, mask3 := m3 == 1, mask4 := m4 == 1, trigger := trigger } :
    LocalPort).followAge p.attentionEntries s.count)

/-- SET MASKS (R182). -/
def execSetMasks (s : State) : Host.Outcome State Fault Refusal :=
  match s.port.mailbox with
  | .posted (.setMasks m1 m2 m3 m4 t) =>
    .next (s.whenMode inRunBypass (match firstFailure (maskChecks m1 m2 m3 m4 t) with
      | some r => s.refuse r
      | none => (s.setMasks m2 m3 m4 t).done [])).finish
  | _ => .next s

/-- The checks of BYPASS ON (R179). -/
def State.bypassChecks (s : State) : List Check :=
  [orElse (s.pour.state == .idle) .stationBusy, orElse (s.travel.state == .parked) .stationBusy,
    orElse s.scale.zeroRun.isNone .stationBusy]

/-- BYPASS ON (R179, R63). -/
def execBypassOn (s : State) : Host.Outcome State Fault Refusal :=
  match s.port.mailbox with
  | .posted .bypassOn =>
    .next (s.whenMode inRunOnly (match firstFailure s.bypassChecks with
      | some r => s.refuse r
      | none => ((s.onPort (fun p => { p with mode := .bypass })).bypassLine).done [])).finish
  | _ => .next s

/-- BYPASS OFF (R179, R64): the permitted range is computed afresh (R100), and a STATUS is issued. -/
def execBypassOff (s : State) : Host.Outcome State Fault Refusal :=
  match s.port.mailbox with
  | .posted .bypassOff =>
    .next (s.whenMode [.bypass]
      (((s.onPort (fun p => { p with mode := .run })).reopenLine.travelEvent.issueStatus).done [])).finish
  | _ => .next s

/-- UNKNOWN REQUEST (R177): the take of a request of unknown kind. -/
def execUnknownRequest (s : State) : Host.Outcome State Fault Refusal :=
  match s.port.mailbox with
  | .posted (.unknown _) => .next (s.refuse (.unknownRequest, 0)).finish
  | _ => .next s

/-- AGE_TIMER_EXPIRY (R183): the age cause is set. -/
def execAgeTimerExpiry (s : State) : Host.Outcome State Fault Refusal :=
  .next (s.expire s.port.ageTimer (fun t => t.onPort (fun p => { p with ageTimer := none, ageCause := true }))).finish

end Sys2Proof.Machine
end

