-- ==== Sys2Proof/Machine/PourCommands.lean ====
section
/-! DEFINITION. The commands of the Fill Order Unit and the Pour Sequencer (Chapters 6 and 7): POUR, END POUR, the claim window,
the gate limits, the belt-running input, and the sequencer's timers. -/

namespace Sys2Proof.Machine

/-! ## POUR and the claim window (R106 to R117) -/

/-- The own claim that an accepted POUR enters (R114). -/
def Proposal.claim (p : Proposal) (x : Slot) (h override : Nat) : OwnClaim where
  slot := x
  hold := h
  pass := p.pass
  target := p.target
  override := override != 0
  phase := .pending
  yielded := false

/-- The entry of the own claim (R114): claim list, CLAIM frame, window timer, CLAIMING. -/
def State.enterClaim (s : State) (c : OwnClaim) : State :=
  let t := s.onFill (fun f => { f.onView c.slot (placeClaim c.hold ⟨s.station, c.pass, c.target, .pending⟩) with
    claim := some c, claimTimer := s.timer Config.claimMs })
  ((t.issueClaim c).markStatus).setPour .claiming

/-- The result fields of POUR: slot, hold, pass and target (R114). -/
def OwnClaim.fields (c : OwnClaim) : List Byte := c.slot.code :: (uField 1 c.hold ++ uField 1 c.pass ++ kgField c.target)

/-- The take of POUR. -/
def State.takePour (s : State) (slot hold override : Nat) : State :=
  match s.judgePour slot hold override with
  | .error r => s.refuse r
  | .ok (h, p) =>
    (s.enterClaim (p.claim (slotOf slot) h override)).done (p.claim (slotOf slot) h override).fields

/-- POUR. -/
def execPour (s : State) : Host.Outcome State Fault Refusal :=
  match s.port.mailbox with
  | .posted (.pour slot hold override) => .next (s.whenMode inRunOnly (s.takePour slot hold override)).finish
  | _ => .next s

/-- The token of a RESTRICTED hold is consumed at the grant (R10, R117). -/
def Hold.consume (d : Hold) : Hold :=
  if d.permission = .restricted ∧ d.token then { d with token := false, tokenPass := true } else d

/-- The claim is granted (R117). -/
def State.grantClaim (s : State) (c : OwnClaim) : State :=
  let t := (s.onFill (fun f => { f.onRow c.slot c.hold (fun r => { r with
      claims := r.claims.map (fun k => if k.station = s.station then { k with phase := .active } else k) }) with
    claim := some { c with phase := .active }, claimTimer := none })).onHold c.slot c.hold Hold.consume
  (t.markStatus.notify (.claimResult c.slot c.hold c.pass c.target none)).enterPositioning

/-- The decision at the expiry of the claim window (R116, R117). -/
def State.decideClaim (s : State) : State :=
  match s.fill.claim with
  | none => s.onFill (fun f => { f with claimTimer := none })
  | some c =>
    match firstFailure (s.decisionChecks c) with
    | some r => s.loseClaim r.1
    | none => s.grantClaim c

/-- CLAIM_WINDOW_EXPIRY. -/
def execClaimWindowExpiry (s : State) : Host.Outcome State Fault Refusal :=
  .next (s.expire s.fill.claimTimer State.decideClaim).finish

/-! ## END POUR (R141) -/

/-- END POUR. -/
def execEndPour (s : State) : Host.Outcome State Fault Refusal :=
  match s.port.mailbox with
  | .posted .endPour =>
    .next (s.whenMode inRunOnly (if s.pour.state = .idle then s.refuse (.noPour, 0) else s.stopPour.done [])).finish
  | _ => .next s

/-! ## The gate (R129, R134, R136) -/

/-- The gate reaches OPEN: in GATE_WAIT the pour enters POURING or THROTTLED (R130). -/
def State.gateOpened (s : State) : State :=
  let t := s.onPour (fun p => { p with gate := .opened, gateTimer := none })
  if t.pour.state = .starting ∧ t.pour.phase = some .gateWait then
    (t.onPour (fun p => { p with phase := none })).setPour (if t.throttle then .throttled else .pouring)
  else t

/-- GATE_OPEN_LIMIT: the open limit becomes active (R129). It is not acted on in CONFIG (R145). -/
def execGateOpenLimit (s : State) : Host.Outcome State Fault Refusal :=
  .next (if s.configured then if s.pour.gate = .opening then s.gateOpened else s else s).finish

/-- The gate reaches CLOSED: GATE is removed, and a run-out may end (R133, R139), in this order by the model's choice
(assumption 39). -/
def State.gateShut (s : State) : State :=
  ((s.onPour (fun p => { p with gate := .closed, gateFault := none, gateTimer := none })).removeCause .gate).runoutTest

/-- GATE_CLOSED_LIMIT: the closed limit becomes active (R129). -/
def execGateClosedLimit (s : State) : Host.Outcome State Fault Refusal :=
  .next (if s.configured then if s.pour.gate = .closing ∨ s.pour.gate = .fault then s.gateShut else s else s).finish

/-- The gate enters FAULT (R129). With a line open an opening failure counts (R136) and a closing failure does not (R134); a
run-out may end (R139). GATE_FAULT is raised first, so its detail is the pour state before the suspension or the withdrawal that the
fault itself brings: R129 names the pour state and not the moment (assumption 42). -/
def State.gateFails (s : State) (kind : GateFault) : State :=
  let t := (s.onPour (fun p => { p with gate := .fault, gateFault := some kind, gateTimer := none })).notify
    (.gateFault kind s.pour.state)
  (match kind with
    | .openFailed => t.failCause .gate
    | .closeFailed => t.addCause .gate).runoutTest

/-- What the expiry of the gate timer does, by the gate state (R129). -/
def State.gateExpiry (s : State) : State :=
  match s.pour.gate with
  | .opening => s.gateFails .openFailed
  | .closing => s.gateFails .closeFailed
  | .closed | .opened | .fault => s.onPour (fun p => { p with gateTimer := none })

/-- GATE_TIMER_EXPIRY. -/
def execGateTimerExpiry (s : State) : Host.Outcome State Fault Refusal :=
  .next (s.expire s.pour.gateTimer State.gateExpiry).finish

/-! ## The belt (R131, R136) -/

/-- A belt failure (R131): the watch and the command go off with cause BELT. -/
def State.beltFails (s : State) : State := (s.onPour (fun p => { p with beltStartTimer := none })).failCause .belt

/-- The watch becomes RUNNING; in BELT_WAIT, GATE_WAIT follows (R130, R131). -/
def State.beltRuns (s : State) : State :=
  let t := s.onPour (fun p => { p with watch := .running, beltStartTimer := none })
  if t.pour.state = .starting ∧ t.pour.phase = some .beltWait then t.gateWait else t

/-- The belt watch at a change of its input (R131). -/
def State.beltInput (s : State) (active : Bool) : State :=
  match s.pour.watch with
  | .waiting => if active then s.beltRuns else s
  | .running => if active then s else s.beltFails
  | .off => s

/-- BELT_RUNNING_CHANGE: the level is kept; the change is acted on outside CONFIG (R131, R145). -/
def execBeltRunningChange (active : Bool) (s : State) : Host.Outcome State Fault Refusal :=
  let t := { s with inputs := { s.inputs with beltRunning := active } }
  .next (if s.configured then t.beltInput active else t).finish

/-- BELT_START_TIMER_EXPIRY: a belt failure while the watch is WAITING (R131). -/
def execBeltStartTimerExpiry (s : State) : Host.Outcome State Fault Refusal :=
  .next (s.expire s.pour.beltStartTimer (fun t =>
    if t.pour.watch = .waiting then t.beltFails else t.onPour (fun p => { p with beltStartTimer := none }))).finish

/-- BELT_RETRY_TIMER_EXPIRY: BELT is removed (R136). -/
def execBeltRetryTimerExpiry (s : State) : Host.Outcome State Fault Refusal :=
  .next (s.expire s.pour.beltRetryTimer (fun t =>
    (t.onPour (fun p => { p with beltRetryTimer := none })).removeCause .belt)).finish

/-- POSITIONING_TIMER_EXPIRY: the claim is withdrawn with cause POSITION_TIMEOUT (R126, R128). -/
def execPositioningTimerExpiry (s : State) : Host.Outcome State Fault Refusal :=
  .next (s.expire s.pour.positioningTimer (fun t =>
    if t.pour.state = .positioning then t.withdrawClaim .positionTimeout
    else t.onPour (fun p => { p with positioningTimer := none }))).finish

end Sys2Proof.Machine
end

