-- ==== Sys2Proof/Machine/ReadCommands.lean ====
section
/-! DEFINITION. The read requests: READ STATION, READ PEERS, READ HOLDS and READ BILL, with the layout of their result fields
(R185). Each group of figures that one rule names is a record with its own presence bytes (assumption 16); a piece is what a
page never splits (assumption 17). -/

namespace Sys2Proof.Machine

/-- A code that may be absent: one byte, zero with its presence bit clear (R185). -/
def optCode {α : Type} (f : α → Byte) (x : Option α) : List Byte := optField 1 (fun a => [f a]) x

/-! ## READ STATION (R41, R66, R99, R122, R146, R159, R177) -/

/-- The figures of the scale and the register (R41). -/
def State.scaleFigures (s : State) : List (List Byte) :=
  let z := s.scale.zeroRun
  [presence [s.cfg.isSome, s.cfg.isSome, z.isSome, z.isSome], uField 2 s.scale.tare,
    optField 2 (fun b => uField 2 b.span) s.cfg, optField 1 (fun b => uField 1 b.zeroBand) s.cfg,
    uField 2 s.scale.load, [s.scale.status.code], flag s.scale.episode, gField s.scale.total, gField s.belt.content,
    uField 1 s.belt.phase, uField 2 (s.belt.cells.filter Cell.marked).length, flag z.isSome,
    optField 4 (fun r => uField 4 r.pulses) z, optField 4 (fun r => uField 4 r.sampleCount) z]

/-- The figures of one port (R66). -/
def PortRec.figures (r : PortRec) : List (List Byte) :=
  [flag r.chainEnd, [r.state.code], uField 1 r.restoreCount, uField 1 r.repeatHold, uField 2 r.errors,
    uField 2 r.overflows, uField 1 r.queue.length, flag r.sending.isSome]

/-- The kind of an own frame (section 11.2). -/
def OwnKind.code : OwnKind → Byte
  | .status => 0x01
  | .claim => 0x02
  | .dust => 0x03
  | .brk _ => 0x04

/-- The figures of the Line Unit (R66). -/
def State.lineFigures (s : State) : List (List Byte) :=
  s.line.up.figures ++ s.line.down.figures ++ [flag s.line.relayOpen]
    ++ listPieces (s.line.own.map (fun e => [e.kind.code] ++ flag e.upSent ++ flag e.downSent))

/-- An edge of the permitted range with its term and, for PEER, the station number (R99). -/
def edgeFields (edge : Option (Int × EdgeTerm)) : List (List Byte) :=
  [optField 4 (fun e => uField 4 e.1) edge, optCode (fun e => e.2.code) edge,
    optField 1 (fun n => uField 1 n) (edge.bind (fun e => e.2.station?))]

/-- The presence bits of an edge. -/
def edgePresence (edge : Option (Int × EdgeTerm)) : List Bool :=
  [edge.isSome, edge.isSome, (edge.bind (fun e => e.2.station?)).isSome]

/-- The figures of travel (R99). -/
def State.travelFigures (s : State) : List (List Byte) :=
  let t := s.travel
  [presence ([t.position.isSome, t.cause.isSome, t.target.isSome, t.source.isSome, t.direction.isSome]
      ++ edgePresence t.edgeUp ++ edgePresence t.edgeDown),
    optField 4 (uField 4) t.position, flag t.positionValid, [t.state.code], optCode TravelFault.code t.cause,
    optField 4 (uField 4) t.target, optCode OrderSource.code t.source, optCode sideCode t.direction, [t.step.code]]
    ++ edgeFields t.edgeUp ++ edgeFields t.edgeDown ++ [flag s.inputs.brakeReleased, flag t.recovery.isSome]

/-- The own claim record (R114). -/
def OwnClaim.record (c : OwnClaim) : List Byte :=
  c.slot.code :: (uField 1 c.hold ++ uField 1 c.pass ++ kgField c.target ++ flag c.override ++ [c.phase.code]
    ++ flag c.yielded)

/-- The own claim, or its absence, with the time left in its window while it is PENDING (R122). -/
def State.claimFigures (s : State) : List (List Byte) :=
  let left := match s.fill.claim with
    | some c => if c.phase = .pending then s.timeLeft s.fill.claimTimer else none
    | none => none
  [presence [s.fill.claim.isSome, left.isSome], optField 10 OwnClaim.record s.fill.claim,
    optField 4 (fun n => uField 4 n) left]

/-- The figures of the pour (R146). -/
def State.pourFigures (s : State) : List (List Byte) :=
  let p := s.pour
  let ceiling := s.cfg.map StartBlock.ceiling
  let positioning := if p.state = .positioning then s.timeLeft p.positioningTimer else none
  let retry := if p.causes.belt then s.timeLeft p.beltRetryTimer else none
  [presence [p.phase.isSome, p.runoutCause.isSome, p.allowance.isSome, ceiling.isSome, p.gateFault.isSome,
      positioning.isSome, retry.isSome],
    [p.state.code], optCode StartPhase.code p.phase, [p.causes.code], flag p.passSuspended, uField 1 p.failures,
    optCode RunoutCause.code p.runoutCause, uField 2 p.runoutShifts, optField 4 kgField p.allowance,
    optField 4 kgField ceiling, flag p.beltOn, [p.watch.code], [p.gateCommand.code], [p.gate.code],
    optCode GateFault.code p.gateFault, optField 4 (fun n => uField 4 n) positioning,
    optField 4 (fun n => uField 4 n) retry]

/-- The figures of a dust channel; the sample hold is SPOUT's only (R159). -/
def State.channelFigures (s : State) (c : Channel) : List (List Byte) :=
  let r := s.dust.channel c
  let th := s.cfg.map (fun _ => s.thresholds c)
  let spout := c == .spout
  [presence ([th.isSome, th.isSome, th.isSome, r.cause.isSome, r.last.isSome]
      ++ (if spout then [r.sampleHold.isSome] else [])),
    optField 2 (fun t => uField 2 t.clear) th, optField 2 (fun t => uField 2 t.raise) th,
    optField 2 (fun t => uField 2 t.trip) th, [r.state.code], flag r.acknowledged, flag r.latchKept,
    optCode DustFailure.code r.cause, optField 2 (fun n => uField 2 n) r.last,
    if spout then holdField r.sampleHold else [], uField 1 r.clearCount, uField 1 r.raiseRun, uField 1 r.tripRun,
    uField 1 r.goodRun] ++ listPieces (r.history.map (fun v => uField 2 v))

/-- A peer dust record with whether it bears on the own pour, whatever its class (R159, assumption 50). -/
def State.peerDustFields (s : State) (d : PeerDust) : List Byte :=
  presence [d.hold.isSome] ++ uField 1 d.station ++ [d.spout.code] ++ holdField d.hold ++ [d.freshness.code]
    ++ flag (s.bears d)

/-- The figures of the Dust Monitor (R159). -/
def State.dustFigures (s : State) : List (List Byte) :=
  s.channelFigures .spout ++ s.channelFigures .gallery ++ [flag s.suppressionOutput]
    ++ listPieces (s.dust.peers.map s.peerDustFields)

/-- The Local Port's own figures (R177), the class masks as the byte of PORT STATE (assumption 36). -/
def State.portFigures (s : State) : List (List Byte) :=
  [[s.port.mode.code], [s.port.maskByte], uField 1 s.port.trigger, uField 1 s.port.notices.length,
    flag s.port.overflow, uField 2 s.port.dropped]

/-- READ STATION's result fields. -/
def State.stationPieces (s : State) : List (List Byte) :=
  s.scaleFigures ++ s.lineFigures ++ s.travelFigures ++ s.claimFigures ++ s.pourFigures ++ s.dustFigures
    ++ s.portFigures

/-- READ STATION (R177). -/
def execReadStation (s : State) : Host.Outcome State Fault Refusal :=
  match s.port.mailbox with
  | .posted .readStation => .next (s.reply .done (paginate s.stationPieces)).finish
  | _ => .next s

/-! ## READ PEERS (R79) -/

/-- An absent report: the fixed part of a STATUS payload, zero (R185). -/
def reportField : Option Report → List Byte := optField 14 Report.payload

/-- An entry of the table, as READ PEERS lists it. -/
def State.peerFields (s : State) (e : PeerEntry) : List Byte :=
  presence [e.report.isSome] ++ uField 1 e.station ++ [sideCode e.side] ++ uField 1 e.distance ++ [e.freshness.code]
    ++ uField 2 (min (s.count - e.lastTime) 65535 : Nat) ++ reportField e.report
    ++ flag ((s.nearest e.side).map PeerEntry.station == some e.station)

/-- READ PEERS' result fields. -/
def State.peerPieces (s : State) : List (List Byte) :=
  listPieces (s.peers.map s.peerFields) ++ [flag s.berths.a.mismatch, flag s.berths.b.mismatch]

/-- READ PEERS. -/
def execReadPeers (s : State) : Host.Outcome State Fault Refusal :=
  match s.port.mailbox with
  | .posted .readPeers => .next (s.reply .done (paginate s.peerPieces)).finish
  | _ => .next s

/-! ## READ HOLDS (R19, R122) -/

/-- The flags of a descriptor as one byte (R185). -/
def Hold.flagByte (d : Hold) : Byte :=
  BitVec.ofNat 8 (bit d.plan.isSome 1 + bit d.hatchOpen 2 + bit (d.permission == .opened) 4
    + bit (d.permission == .restricted) 8 + bit d.touched 16 + bit d.token 32 + bit d.tokenPass 64)

/-- The descriptor in the field order of R6. -/
def Hold.fields (d : Hold) : List Byte :=
  presence (List.replicate 5 d.plan.isSome)
    ++ optField 17 (fun p => uField 4 p.fore ++ uField 4 p.aft ++ uField 4 p.margin ++ sField 4 p.lever
      ++ uField 1 p.spoutLimit) d.plan
    ++ (match d.plan with
      | some p => uField 1 p.targets.length ++ p.targets.flatMap kgField
      | none => uField 1 0)
    ++ [d.flagByte]

/-- The freshness of a peer of a row. -/
def State.freshnessOf (s : State) (station : Nat) : Freshness :=
  match s.entry station with
  | some e => e.freshness
  | none => .stale

/-- The figures of a peer in a row (R122). -/
def State.figureFields (s : State) (f : PeerFigure) : List Byte :=
  presence [f.onBeltKg.isSome] ++ uField 1 f.station ++ kgField f.deliveredKg ++ optField 4 kgField f.onBeltKg
    ++ [(s.freshnessOf f.station).code]

/-- A claim of a row; freshness is given for peers (R122). That the station number is sent, as the first field, is the model's choice
(assumption 40). -/
def State.claimFields (s : State) (c : ClaimEntry) : List Byte :=
  let fr := if c.station = s.station then none else some (s.freshnessOf c.station)
  presence [fr.isSome] ++ uField 1 c.station ++ uField 1 c.pass ++ kgField c.target ++ [c.phase.code]
    ++ optCode Freshness.code fr

/-- The row of a hold in the order of R122. -/
def State.rowFields (s : State) (x : Slot) (h : Nat) : List Byte :=
  let r := s.row x h
  let next := (s.nextPass x h).map Prod.fst
  presence [next.isSome] ++ gField r.delivered ++ gField (s.ownOnBelt x h) ++ uField 1 r.peers.length
    ++ r.peers.flatMap s.figureFields ++ gField (s.holdTotal x h) ++ kgField (s.predicted x h)
    ++ optField 1 (fun n => uField 1 n) next ++ uField 1 r.claims.length ++ r.claims.flatMap s.claimFields

/-- The descriptors with their rows, the first being hold `h`, each one piece. -/
def State.holdPieces (s : State) (x : Slot) (h : Nat) : List Hold → List (List Byte)
  | [] => []
  | d :: rest => (d.fields ++ s.rowFields x h) :: s.holdPieces x (h + 1) rest

/-- The session figures of READ HOLDS (R122). -/
def State.sessionFields (s : State) (x : Slot) (ses : Session) : List Byte :=
  let r := s.presentFigures x ses
  kgField r.cargo ++ sField 8 r.moment ++ sField 2 r.trim ++ uField 2 r.meanDraft ++ uField 2 r.deepest
    ++ sField 2 ses.bandLower ++ sField 2 ses.bandUpper ++ uField 2 ses.draftLimit

/-- READ HOLDS' result fields. -/
def State.holdsPieces (s : State) (x : Slot) (ses : Session) : List (List Byte) :=
  (uField 1 ses.holds.length :: s.holdPieces x 1 ses.holds) ++ [s.sessionFields x ses]

/-- TOUCHED cleared on every descriptor of a slot (R19). -/
def State.clearTouched (s : State) (x : Slot) : State :=
  s.onSession x (fun ses => { ses with holds := ses.holds.map (fun d => { d with touched := false }) })

/-- The take of READ HOLDS. -/
def State.takeReadHolds (s : State) (slot : Nat) : State :=
  match firstFailure (s.slotChecks slot), s.session (slotOf slot) with
  | some r, _ => s.refuse r
  | none, none => s.refuse (.noSession, 0)
  | none, some ses =>
    (s.clearTouched (slotOf slot)).reply .done (paginate (s.holdsPieces (slotOf slot) ses))

/-- READ HOLDS. -/
def execReadHolds (s : State) : Host.Outcome State Fault Refusal :=
  match s.port.mailbox with
  | .posted (.readHolds slot) => .next (s.takeReadHolds slot).finish
  | _ => .next s

/-! ## READ BILL (R169) -/

/-- A bill line record (section 11.6). -/
def BillLine.record (l : BillLine) : List Byte :=
  uField 1 l.number ++ [l.slot.code] ++ uField 1 l.hold ++ uField 1 l.pass
    ++ presence [l.endTime.isSome, l.cause.isSome, l.overshoot.isSome, l.residue.isSome, decide (0 < l.estimated)]
    ++ optCode ClosureCause.code l.cause ++ uField 1 l.suspensions ++ kgField l.target ++ uField 4 l.start
    ++ optField 4 (fun t => uField 4 t) l.endTime ++ gField l.mass ++ gField l.estimated
    ++ optField 4 (sField 4) l.overshoot ++ optField 4 kgField l.residue

/-- A summary (R168). -/
def Summary.fields (m : Summary) : List Byte :=
  uField 1 m.delivered.length ++ m.delivered.flatMap gField ++ uField 1 m.lineCount ++ gField m.spill
    ++ uField 4 m.displacement ++ kgField m.allowance ++ uField 4 m.sealTime

/-- The lines that a READ BILL returns (R169). -/
def Bill.linesFrom (b : Bill) (start : Nat) : List BillLine := (b.lines.drop (start - 1)).take Config.linesPerRead

/-- The number of the line after the last one returned (R169). -/
def Bill.nextLine (b : Bill) (start : Nat) : Option Nat :=
  if start + (b.linesFrom start).length ≤ b.lines.length ∧ b.linesFrom start ≠ [] then
    some (start + (b.linesFrom start).length)
  else none

/-- The header of a READ BILL reply (R169). -/
def State.billHeader (s : State) (b : Bill) (start : Nat) : List Byte :=
  let next := b.nextLine start
  presence [b.summary.isSome, next.isSome] ++ [if b.summary.isSome then 0x02 else 0x01, b.slot.code]
    ++ uField 2 b.planTag ++ uField 8 b.opening ++ uField 1 b.lines.length ++ gField b.snapshot
    ++ optField 18 Summary.fields b.summary ++ gField s.bills.spill ++ uField 1 s.bills.free
    ++ optField 1 (fun n => uField 1 n) next

/-- The take of READ BILL. -/
def State.takeReadBill (s : State) (record start : Nat) : State :=
  match firstFailure [fieldIn 1 1 4 record, fieldIn 2 1 160 start], s.bills.bill record with
  | some r, _ => s.refuse r
  | none, none => s.refuse (.noBill, 0)
  | none, some b =>
    s.reply .done (paginate (s.billHeader b start :: listPieces ((b.linesFrom start).map BillLine.record)))

/-- READ BILL. -/
def execReadBill (s : State) : Host.Outcome State Fault Refusal :=
  match s.port.mailbox with
  | .posted (.readBill record start) => .next (s.takeReadBill record start).finish
  | _ => .next s

end Sys2Proof.Machine
end

