-- ==== Sys2Proof/Machine/ScaleCommands.lean ====
section
/-! DEFINITION. The commands of the Belt Scale and the Belt Register (Chapter 2) and of the Bill Store (Chapter 9): ZERO SCALE,
load samples, belt pulses, their timers, and DISCARD BILL. -/

namespace Sys2Proof.Machine

/-! ## ZERO SCALE (R34, R35) -/

/-- The checks of ZERO SCALE after that of the mode (R34). -/
def State.zeroChecks (s : State) : List Check :=
  [orElse s.scale.zeroRun.isNone .stationBusy, orElse (s.pour.state == .idle && s.pour.gate == .closed) .stationBusy,
    orElse (!s.dustOwn) .stationBusy]

/-- The start of a zero run (R35). -/
def State.startZeroRun (s : State) : State :=
  s.onScale (fun c => { c with zeroRun := some ⟨c.tare, 0, 0, 0⟩, stillTimer := s.timer Config.stillMs })

/-- ZERO SCALE. -/
def execZeroScale (s : State) : Host.Outcome State Fault Refusal :=
  match s.port.mailbox with
  | .posted .zeroScale => .next (s.whenMode inRunOnly (s.judged s.zeroChecks (s.startZeroRun.done []))).finish
  | _ => .next s

/-! ## Samples, pulses and timers -/

/-- LOAD_SAMPLE (R21): discarded in CONFIG. -/
def execLoadSample (raw : BitVec 16) (s : State) : Host.Outcome State Fault Refusal :=
  .next (if s.configured then s.takeLoad raw.toNat else s).finish

/-- BELT_PULSE (R27): discarded in CONFIG. -/
def execBeltPulse (s : State) : Host.Outcome State Fault Refusal :=
  .next (if s.configured then s.pulse else s).finish

/-- LOAD_STALE_TIMER_EXPIRY (R23). -/
def execLoadStaleTimerExpiry (s : State) : Host.Outcome State Fault Refusal :=
  .next (s.expire s.scale.staleTimer (fun t =>
    let u := t.onScale (fun c => { c with staleTimer := none })
    if u.scale.status = .ok ∨ u.scale.status = .overrange then u.setLoadStatus .stale else u)).finish

/-- LOAD_FAULT_TIMER_EXPIRY (R23): FAULT is entered from STALE. -/
def execLoadFaultTimerExpiry (s : State) : Host.Outcome State Fault Refusal :=
  .next (s.expire s.scale.faultTimer (fun t =>
    let u := t.onScale (fun c => { c with faultTimer := none })
    if u.scale.status = .stale then u.setLoadStatus .fault else u)).finish

/-- STILL_TIMER_EXPIRY (R35, R38): the run is aborted with cause NO_BELT. -/
def execStillTimerExpiry (s : State) : Host.Outcome State Fault Refusal :=
  .next (s.expire s.scale.stillTimer (fun t =>
    (t.onScale (fun c => { c with stillTimer := none })).failZeroRun .noBelt none)).finish

/-! ## DISCARD BILL (R170) -/

/-- A record that is SEALED. -/
def Bills.sealed? (bs : Bills) (n : Nat) : Option Bill :=
  match bs.bill n with
  | some b => if b.summary.isSome then some b else none
  | none => none

/-- The bill's lines returned to the pool and the record set to FREE (R162, R170). -/
def Bills.discard (bs : Bills) (n : Nat) (b : Bill) : Bills :=
  { (bs.setRecord n none) with free := bs.free + b.lines.length }

/-- The take of DISCARD BILL. -/
def State.takeDiscardBill (s : State) (record : Nat) : State :=
  match firstFailure [fieldIn 1 1 4 record], s.bills.sealed? record with
  | some r, _ => s.refuse r
  | none, none => s.refuse (.notSealed, 0)
  | none, some b => (s.onBills (fun bs => bs.discard record b)).done (uField 1 b.lines.length)

/-- DISCARD BILL. -/
def execDiscardBill (s : State) : Host.Outcome State Fault Refusal :=
  match s.port.mailbox with
  | .posted (.discardBill record) => .next (s.whenMode inRunBypass (s.takeDiscardBill record)).finish
  | _ => .next s

end Sys2Proof.Machine
end

