-- ==== Sys2Proof/Machine/TravelCommands.lean ====
section
/-! DEFINITION. The commands of the Travel Controller (Chapter 5): MOVE, STOP TRAVEL, FAULT CLEAR, position samples, the
brake-released input, and its timers. -/

namespace Sys2Proof.Machine

/-! ## Requests (R95, R96, R98) -/

/-- A target lies in the pour window of the claim's hold, in loader positions (R95 check 5). -/
def State.targetInWindow (s : State) (target : Int) : Bool :=
  match s.windowTerms with
  | some w => inside w target
  | none => false

/-- The checks of MOVE (R95). -/
def State.moveChecks (s : State) (target : Nat) : List Check :=
  [orElse (decide (s.block.railLower ≤ target ∧ (target : Int) ≤ s.block.railUpper)) .outOfRange,
    orElse s.travel.position.isSome .noPosition, orElse (s.travel.state != .faulted) .travelFaulted,
    orElse (s.fill.claim.isNone || s.lineOpen) .stationBusy, orElse (!s.lineOpen || s.targetInWindow target) .outOfWindow]

/-- MOVE. -/
def execMove (s : State) : Host.Outcome State Fault Refusal :=
  match s.port.mailbox with
  | .posted (.move target) =>
    .next (s.whenMode inRunOnly (s.judged (s.moveChecks target)
      ((State.tellArrival (s.placeOrder target .host)).done []))).finish
  | _ => .next s

/-- STOP TRAVEL: its effect on travel, then on the pour (R96). -/
def execStopTravel (s : State) : Host.Outcome State Fault Refusal :=
  match s.port.mailbox with
  | .posted .stopTravel => .next (s.whenMode inRunBypass (s.stopTravel.stopPour.done [])).finish
  | _ => .next s

/-- A sample has arrived since the fault (R98 check 2). -/
def Travel.sampled (t : Travel) : Bool := if t.encoderFault then t.recovery.isSome else t.sampleSince

/-- The checks of FAULT CLEAR (R98). -/
def State.clearChecks (s : State) : List Check :=
  [orElse (s.travel.state == .faulted) .notFaulted, orElse s.travel.sampled .noPosition,
    orElse (!s.inputs.brakeReleased) .brakeReleased]

/-- Travel after an accepted FAULT CLEAR (R98): for an encoder cause the recovery sample becomes the position. -/
def Travel.cleared (t : Travel) : Travel :=
  { t with
    position := if t.encoderFault then (match t.recovery with
      | some r => some r
      | none => t.position) else t.position
    state := .parked, cause := none, recovery := none, sampleSince := false }

/-- The Pour Sequencer after an accepted FAULT CLEAR (R126, R133, R137). With MAP held the RETURN order is placed before TRAVEL is
removed (assumption 34). -/
def State.pourAfterClear (s : State) : State :=
  if s.pour.state = .positioning then s.positioningCases else s.placeReturn.removeCause .travel

/-- The effects of an accepted FAULT CLEAR; the range is computed afresh for the position (assumption 18). -/
def State.clearFault (s : State) : State := ((s.onTravel Travel.cleared).markStatus.recompute).pourAfterClear

/-- FAULT CLEAR. -/
def execFaultClear (s : State) : Host.Outcome State Fault Refusal :=
  match s.port.mailbox with
  | .posted .faultClear => .next (s.whenMode inRunBypass (s.judged s.clearChecks (s.clearFault.done []))).finish
  | _ => .next s

/-! ## Position samples (R83) and the encoder timer (R84) -/

/-- An accepted sample: the new position, the range and travel on it, and the translation for the pour (R83, R90, R137). One that
brings the tip into the window in POSITIONING, no order arriving, does not end the wait there (assumption 38). Travel acts first and MAP
with its RETURN order comes after: no rule orders the two (assumption 41). -/
def State.acceptSample (s : State) (x : Int) : State :=
  (s.onTravel (fun t => { t with position := some x, sampleSince := t.sampleSince || t.state == .faulted })).travelEvent.mapTest

/-- The jump test of R83 case 4. -/
def Travel.jumps (t : Travel) (x : Int) : Bool :=
  match t.position with
  | some p => decide (Config.jumpMm < (x - p).natAbs)
  | none => false

/-- A sample judged in the order of R83. -/
def State.judgeSample (s : State) (x : Int) : State :=
  if Config.railMax < x then if s.travel.encoderFault then s else s.faultTravel .encoderRange
  else if s.travel.encoderFault then s.onTravel (fun t => { t with recovery := some x })
  else if s.travel.jumps x then s.faultTravel .encoderJump
  else s.acceptSample x

/-- POSITION_SAMPLE (R83). -/
def execPositionSample (value : BitVec 20) (s : State) : Host.Outcome State Fault Refusal :=
  .next (if s.configured then
      (s.onTravel (fun t => { t with encoderTimer := s.timer Config.encoderMs })).judgeSample value.toNat
    else s).finish

/-- What the expiry of the encoder timer does (R84). -/
def State.encoderExpiry (s : State) : State :=
  let t := s.onTravel (fun v => { v with encoderTimer := none })
  if t.travel.encoderFault then t.onTravel (fun v => { v with recovery := none }) else t.faultTravel .encoderSilent

/-- ENCODER_TIMER_EXPIRY. -/
def execEncoderTimerExpiry (s : State) : Host.Outcome State Fault Refusal :=
  .next (s.expire s.travel.encoderTimer State.encoderExpiry).finish

/-! ## The brake (R89, R92, R94) -/

/-- The brake-released input changes (R89, R94). -/
def State.brakeInput (s : State) (active : Bool) : State :=
  match s.travel.state with
  | .parked | .held => if active then s.faultTravel .brake else s
  | .moving => if active then s else s.faultTravel .brake
  | .releasing => if active ∧ s.travel.releaseTimer = none then s.enterMoving else s
  | .settling | .faulted => s

/-- BRAKE_RELEASED_CHANGE: the level is kept; the change is acted on outside CONFIG (R94). -/
def execBrakeReleasedChange (active : Bool) (s : State) : Host.Outcome State Fault Refusal :=
  let t := { s with inputs := { s.inputs with brakeReleased := active } }
  .next (if s.configured then t.brakeInput active else t).finish

/-- RELEASE_TIMER_EXPIRY: MOVING with the input active, else the input is waited for (R89). -/
def execReleaseTimerExpiry (s : State) : Host.Outcome State Fault Refusal :=
  .next (s.expire s.travel.releaseTimer (fun t =>
    let u := t.onTravel (fun v => { v with releaseTimer := none })
    if u.travel.state = .releasing ∧ u.inputs.brakeReleased then u.enterMoving else u)).finish

/-- BRAKE_FAIL_TIMER_EXPIRY: FAULTED with cause BRAKE (R89). -/
def execBrakeFailTimerExpiry (s : State) : Host.Outcome State Fault Refusal :=
  .next (s.expire s.travel.brakeFailTimer (fun t =>
    let u := t.onTravel (fun v => { v with brakeFailTimer := none })
    if u.travel.state = .releasing then u.faultTravel .brake else u)).finish

/-- The end of settling (R92): the brake check, then the judgement of the stop. -/
def State.settleExpiry (s : State) : State :=
  let t := s.onTravel (fun v => { v with settleTimer := none })
  if t.travel.state = .settling then
    if t.inputs.brakeReleased then t.faultTravel .brake else State.tellArrival t.settled
  else t

/-- SETTLE_TIMER_EXPIRY. -/
def execSettleTimerExpiry (s : State) : Host.Outcome State Fault Refusal :=
  .next (s.expire s.travel.settleTimer State.settleExpiry).finish

end Sys2Proof.Machine
end

