-- ==== Sys2Proof/Machine/Dispatch.lean ====
section
/-! DEFINITION. The meaning of every command: one arm for each row of spec/opcode_table.json. -/

namespace Sys2Proof.Machine

/-- The effect of a command on everything but the queue. -/
def exec (i : Instr) (s : State) : Host.Outcome State Fault Refusal :=
  match i with
  | .powerOnReset => Sys2Proof.Machine.execPowerOnReset s
  | .post phase record => Sys2Proof.Machine.execPost phase record s
  | .withdraw phase => Sys2Proof.Machine.execWithdraw phase s
  | .fetchReply phase => Sys2Proof.Machine.execFetchReply phase s
  | .fetchNotice phase => Sys2Proof.Machine.execFetchNotice phase s
  | .portState => Sys2Proof.Machine.execPortState s
  | .unknownTransaction first => Sys2Proof.Machine.execUnknownTransaction first s
  | .startBlock => Sys2Proof.Machine.execStartBlock s
  | .restart => Sys2Proof.Machine.execRestart s
  | .setMasks => Sys2Proof.Machine.execSetMasks s
  | .bypassOn => Sys2Proof.Machine.execBypassOn s
  | .bypassOff => Sys2Proof.Machine.execBypassOff s
  | .openSession => Sys2Proof.Machine.execOpenSession s
  | .holdEntry => Sys2Proof.Machine.execHoldEntry s
  | .setHatch => Sys2Proof.Machine.execSetHatch s
  | .permit => Sys2Proof.Machine.execPermit s
  | .shiftVessel => Sys2Proof.Machine.execShiftVessel s
  | .setDraftLimit => Sys2Proof.Machine.execSetDraftLimit s
  | .closeSession => Sys2Proof.Machine.execCloseSession s
  | .move => Sys2Proof.Machine.execMove s
  | .stopTravel => Sys2Proof.Machine.execStopTravel s
  | .faultClear => Sys2Proof.Machine.execFaultClear s
  | .pour => Sys2Proof.Machine.execPour s
  | .endPour => Sys2Proof.Machine.execEndPour s
  | .zeroScale => Sys2Proof.Machine.execZeroScale s
  | .dustAcknowledge => Sys2Proof.Machine.execDustAcknowledge s
  | .discardBill => Sys2Proof.Machine.execDiscardBill s
  | .readStation => Sys2Proof.Machine.execReadStation s
  | .readPeers => Sys2Proof.Machine.execReadPeers s
  | .readHolds => Sys2Proof.Machine.execReadHolds s
  | .readBill => Sys2Proof.Machine.execReadBill s
  | .unknownRequest => Sys2Proof.Machine.execUnknownRequest s
  | .loadSample raw => Sys2Proof.Machine.execLoadSample raw s
  | .beltPulse => Sys2Proof.Machine.execBeltPulse s
  | .positionSample value => Sys2Proof.Machine.execPositionSample value s
  | .dustSample channel value faultFlag => Sys2Proof.Machine.execDustSample channel value faultFlag s
  | .brakeReleasedChange active => Sys2Proof.Machine.execBrakeReleasedChange active s
  | .gateOpenLimit => Sys2Proof.Machine.execGateOpenLimit s
  | .gateClosedLimit => Sys2Proof.Machine.execGateClosedLimit s
  | .beltRunningChange active => Sys2Proof.Machine.execBeltRunningChange active s
  | .statusFrame port rest => Sys2Proof.Machine.execStatusFrame port rest s
  | .claimFrame port rest => Sys2Proof.Machine.execClaimFrame port rest s
  | .dustFrame port rest => Sys2Proof.Machine.execDustFrame port rest s
  | .breakFrame port rest => Sys2Proof.Machine.execBreakFrame port rest s
  | .frameSent port => Sys2Proof.Machine.execFrameSent port s
  | .loadStaleTimerExpiry => Sys2Proof.Machine.execLoadStaleTimerExpiry s
  | .loadFaultTimerExpiry => Sys2Proof.Machine.execLoadFaultTimerExpiry s
  | .stillTimerExpiry => Sys2Proof.Machine.execStillTimerExpiry s
  | .silenceTimerExpiry port => Sys2Proof.Machine.execSilenceTimerExpiry port s
  | .breakTimerExpiry port => Sys2Proof.Machine.execBreakTimerExpiry port s
  | .statusTimerExpiry => Sys2Proof.Machine.execStatusTimerExpiry s
  | .spacingTimerExpiry => Sys2Proof.Machine.execSpacingTimerExpiry s
  | .peerStaleTimerExpiry station => Sys2Proof.Machine.execPeerStaleTimerExpiry station s
  | .encoderTimerExpiry => Sys2Proof.Machine.execEncoderTimerExpiry s
  | .releaseTimerExpiry => Sys2Proof.Machine.execReleaseTimerExpiry s
  | .brakeFailTimerExpiry => Sys2Proof.Machine.execBrakeFailTimerExpiry s
  | .settleTimerExpiry => Sys2Proof.Machine.execSettleTimerExpiry s
  | .claimWindowExpiry => Sys2Proof.Machine.execClaimWindowExpiry s
  | .positioningTimerExpiry => Sys2Proof.Machine.execPositioningTimerExpiry s
  | .beltStartTimerExpiry => Sys2Proof.Machine.execBeltStartTimerExpiry s
  | .beltRetryTimerExpiry => Sys2Proof.Machine.execBeltRetryTimerExpiry s
  | .gateTimerExpiry => Sys2Proof.Machine.execGateTimerExpiry s
  | .dustSampleTimerExpiry channel => Sys2Proof.Machine.execDustSampleTimerExpiry channel s
  | .ageTimerExpiry => Sys2Proof.Machine.execAgeTimerExpiry s
  | .notValidFrame port => Sys2Proof.Machine.execNotValidFrame port s

end Sys2Proof.Machine
end

