-- ==== Sys2Proof/Machine/Tick.lean ====
section
/-! DEFINITION. The tick: what happens as the internal millisecond count (section 4.3) goes on by one with no command waiting.
Every running timer that has reached its length expires, in the order of the table's rows (assumption 1). -/

namespace Sys2Proof.Machine

/-- A timer has reached its length. -/
def State.due (s : State) (t : Timer) : Bool :=
  match t with
  | some d => decide (d ≤ s.count)
  | none => false

/-- The expiry command of a timer is taken if the timer is due. -/
def State.expireDue (s : State) (e : (State → Timer) × Instr) : State :=
  if s.due (e.1 s) then
    match exec e.2 s with
    | .next t => t
    | .fault _ | .refused _ => s
  else s

/-- The stale timer of a station's peer entry. -/
def State.peerTimer (station : Nat) (s : State) : Timer := (s.entry station).bind PeerEntry.staleTimer

/-- Every timer with its expiry command, in the order of the table's rows. -/
def timers : List ((State → Timer) × Instr) :=
  [(fun s => s.scale.staleTimer, .loadStaleTimerExpiry), (fun s => s.scale.faultTimer, .loadFaultTimerExpiry),
    (fun s => s.scale.stillTimer, .stillTimerExpiry), (fun s => s.line.up.silenceTimer, .silenceTimerExpiry .up),
    (fun s => s.line.down.silenceTimer, .silenceTimerExpiry .down), (fun s => s.line.up.breakTimer, .breakTimerExpiry .up),
    (fun s => s.line.down.breakTimer, .breakTimerExpiry .down), (fun s => s.line.statusTimer, .statusTimerExpiry),
    (fun s => s.line.spacingTimer, .spacingTimerExpiry)]
  ++ (List.range 8).map (fun i => (State.peerTimer (i + 1), .peerStaleTimerExpiry (i + 1)))
  ++ [(fun s => s.travel.encoderTimer, .encoderTimerExpiry), (fun s => s.travel.releaseTimer, .releaseTimerExpiry),
    (fun s => s.travel.brakeFailTimer, .brakeFailTimerExpiry), (fun s => s.travel.settleTimer, .settleTimerExpiry),
    (fun s => s.fill.claimTimer, .claimWindowExpiry), (fun s => s.pour.positioningTimer, .positioningTimerExpiry),
    (fun s => s.pour.beltStartTimer, .beltStartTimerExpiry), (fun s => s.pour.beltRetryTimer, .beltRetryTimerExpiry),
    (fun s => s.pour.gateTimer, .gateTimerExpiry), (fun s => s.dust.spout.timer, .dustSampleTimerExpiry .spout),
    (fun s => s.dust.gallery.timer, .dustSampleTimerExpiry .gallery), (fun s => s.port.ageTimer, .ageTimerExpiry)]

/-- One millisecond goes by: a waiting reply is placed (R174, assumption 9), and the timers then due expire. -/
def State.tick (s : State) : State := timers.foldl State.expireDue ({ s with count := s.count + 1 } : State).placeReply

end Sys2Proof.Machine
end

