-- ==== Sys2Proof/Safety.lean ====
section
/-! DEFINITION. What counts as a safe state of the part, in the terms of the manual's own whole-machine statements, and the
vocabulary of the statements about it: what an event leaves alone, what a reply is, and the tables of the manual that a
statement is held against. -/

namespace Sys2Proof.Machine

/-! ## Safe states -/

/-- The gate is commanded open only in STARTING/GATE_WAIT, POURING and THROTTLED, at the rate R125 gives. -/
def Pour.gateLawful (p : Pour) : Prop :=
  match p.gateCommand with
  | .closed => True
  | .openFull => p.state = .pouring ∨ (p.state = .starting ∧ p.phase = some .gateWait)
  | .openReduced => p.state = .throttled ∨ (p.state = .starting ∧ p.phase = some .gateWait)

/-- The gate is commanded lawfully, in GATE_WAIT at the rate that the throttle condition gives; a line-open pour has its
claim; the claim window runs only in CLAIMING. -/
def State.gateSafe (s : State) : Prop :=
  s.pour.gateLawful ∧ (s.pour.state = .starting → s.pour.phase = some .gateWait → s.pour.gateCommand = s.openRate)
    ∧ (s.lineOpen → s.fill.claim.isSome) ∧ (s.fill.claimTimer.isSome → s.pour.state = .claiming)

/-- The belt content is the sum of the cells, and the pulse phase lies in 0..15 (R26, R28). -/
def Belt.lawful (b : Belt) : Prop := b.content = (b.cells.map Cell.mass).sum ∧ b.phase < Config.pulsesPerCell

/-- The notice queue holds at most 32 notices, never two of the same kind and subject (R181). -/
def LocalPort.queueLawful (p : LocalPort) : Prop :=
  p.notices.length ≤ Config.noticeSlots ∧ p.notices.Pairwise (fun m n => m.body.sameKey n.body = false)

/-- The peer table is in the order of its station numbers, so no station has two entries (R67, R79). -/
def State.peersOrdered (s : State) : Prop := s.peers.Pairwise (fun e f => e.station < f.station)

/-- Peer figures and claim lists of every row (R101) and the peer dust records (R157) are in the order of their station numbers, no
station twice. -/
def State.listsOrdered (s : State) : Prop :=
  (∀ x rows, s.view x = some rows → ∀ r ∈ rows,
      r.peers.Pairwise (fun f g => f.station < g.station) ∧ r.claims.Pairwise (fun c d => c.station < d.station))
    ∧ s.dust.peers.Pairwise (fun q r => q.station < r.station)

/-- The belt, the notice queue, the peer table and the lists kept by station number are in their lawful forms. -/
def State.wellKept (s : State) : Prop := s.belt.lawful ∧ s.port.queueLawful ∧ s.peersOrdered ∧ s.listsOrdered

/-- All bill lines of the store, record by record. -/
def Bills.lines (b : Bills) : List BillLine := b.records.flatMap (fun r => r.elim [] Bill.lines)

/-- The mass that the present bill lines hold, in grams. -/
def Bills.billed (b : Bills) : Nat := (b.lines.map BillLine.mass).sum

/-- The open lines of the store. -/
def Bills.openLines (b : Bills) : List BillLine := b.lines.filter (fun l => l.cause.isNone)

/-- The grams that the manual's law sets against the scale total (R25): bill lines, spill tally, belt content. -/
def State.accounted (s : State) : Nat := s.bills.billed + s.bills.spill + s.belt.content

/-- What the law of R25 rests on: a lawful belt; no cells before START BLOCK (R26); at most one open line, and none outside
the line-open states (R125); a line-open pour has its claim, and the claim window runs only in CLAIMING. -/
def State.ledgerSound (s : State) : Prop :=
  s.belt.lawful ∧ (s.port.mode = .config → s.belt.cells = []) ∧ s.bills.openLines.length ≤ 1
    ∧ (s.bills.openLines ≠ [] → s.lineOpen) ∧ (s.lineOpen → s.fill.claim.isSome)
    ∧ (s.fill.claimTimer.isSome → s.pour.state = .claiming)

/-- No pass is under way: the pour is IDLE or CLAIMING, and an own claim is PENDING. -/
def State.noPass (s : State) : Prop :=
  (s.pour.state = .idle ∨ s.pour.state = .claiming) ∧ ∀ c, s.fill.claim = some c → c.phase = .pending

/-! ## What an event leaves alone -/

/-- The blocks of the state. -/
inductive Block where
  | count
  | cfg
  | inputs
  | port
  | berths
  | scale
  | belt
  | line
  | peers
  | travel
  | fill
  | pour
  | dust
  | bills
  | pending
  deriving DecidableEq, Repr

/-- Two states agree in a block. -/
def State.agree (s t : State) : Block → Prop
  | .count => t.count = s.count
  | .cfg => t.cfg = s.cfg
  | .inputs => t.inputs = s.inputs
  | .port => t.port = s.port
  | .berths => t.berths = s.berths
  | .scale => t.scale = s.scale
  | .belt => t.belt = s.belt
  | .line => t.line = s.line
  | .peers => t.peers = s.peers
  | .travel => t.travel = s.travel
  | .fill => t.fill = s.fill
  | .pour => t.pour = s.pour
  | .dust => t.dust = s.dust
  | .bills => t.bills = s.bills
  | .pending => t.pending = s.pending

/-- From `s` to `t` no block changes but those listed. -/
def State.onlyIn (s t : State) (changed : List Block) : Prop := ∀ b, b ∉ changed → s.agree t b

/-- Between commands no status change waits for its STATUS (assumption 8). -/
abbrev State.quiet (s : State) : Prop := s.line.statusDue = false

/-- A STATUS of the state as it stands has been issued, or change-pending is set for one (R52). -/
def State.statusIssuedOrPending (t : State) : Prop :=
  t.line.changePending = true
    ∨ (t.line.statusTimer = some (t.count + 200) ∧ t.line.spacingTimer = some (t.count + 50)
      ∧ ((t.line.up.chainEnd = false ∨ t.line.down.chainEnd = false) →
        ∃ e ∈ t.line.own, e.kind = .status ∧ e.bytes = frameBytes 0x01 t.station 0 (t.report .run).payload))

/-- The last STATUS before the relay closes (R63 step 4) has been issued between `s` and `t`: the report with mode BYPASS, alone in the
own-frame queue, its sent marks set for chain ends only; the relay waits for this issue, and each idle port that is no chain end is
SENDING it, while a frame being sent goes on. -/
def State.lastStatusIssued (s t : State) : Prop :=
  ∃ n bytes, bytes = frameBytes 0x01 s.station 0 (s.report .bypass).payload
    ∧ t.line.own = [⟨.status, n, bytes, s.line.up.chainEnd, s.line.down.chainEnd⟩]
    ∧ t.line.closing = .sending n ∧ t.line.relayOpen = s.line.relayOpen
    ∧ t.line.statusTimer = some (t.count + 200) ∧ t.line.spacingTimer = some (t.count + 50)
    ∧ ∀ q, (t.line.port q).chainEnd = (s.line.port q).chainEnd
      ∧ (t.line.port q).sending =
        if (s.line.port q).sending.isSome ∨ (s.line.port q).chainEnd then (s.line.port q).sending else some ⟨bytes, some n⟩

/-- What R52 calls the status changes: travel state, pour state, the own claim entered, ACTIVE or dropped, the SPOUT dust class, a
session opened or closed. -/
def State.statusChanged (s t : State) : Prop :=
  t.travel.state ≠ s.travel.state ∨ t.pour.state ≠ s.pour.state
    ∨ t.fill.claim.map OwnClaim.phase ≠ s.fill.claim.map OwnClaim.phase ∨ t.dust.spout.state ≠ s.dust.spout.state
    ∨ ∃ x, (t.session x).isSome ≠ (s.session x).isSome

/-! ## Replies and requests -/

/-- TAKEN, with a waiting reply of one page: outcome DONE and these result fields, none of it fetched. -/
def doneReply (fields : List Byte) : Mailbox := .taken ⟨.done, [fields], 0, false⟩

/-- TAKEN, with a waiting REFUSED reply: its reason and, for BAD_FIELD, the index of the field. -/
def refusedReply (reason : Reason) (index : Nat) : Mailbox := .taken ⟨.refused reason index, [[]], 0, false⟩

/-- `s` with nothing changed but its mailbox. -/
def State.withMailbox (s : State) (m : Mailbox) : State := { s with port := { s.port with mailbox := m } }

/-- The row of the table that takes a posted request. -/
def Request.row : Request → Instr
  | .startBlock _ => .startBlock
  | .restart => .restart
  | .setMasks .. => .setMasks
  | .bypassOn => .bypassOn
  | .bypassOff => .bypassOff
  | .openSession _ => .openSession
  | .holdEntry _ => .holdEntry
  | .setHatch .. => .setHatch
  | .permit .. => .permit
  | .shiftVessel .. => .shiftVessel
  | .setDraftLimit .. => .setDraftLimit
  | .closeSession _ => .closeSession
  | .move _ => .move
  | .stopTravel => .stopTravel
  | .faultClear => .faultClear
  | .pour .. => .pour
  | .endPour => .endPour
  | .zeroScale => .zeroScale
  | .dustAcknowledge _ => .dustAcknowledge
  | .discardBill _ => .discardBill
  | .readStation => .readStation
  | .readPeers => .readPeers
  | .readHolds _ => .readHolds
  | .readBill .. => .readBill
  | .unknown _ => .unknownRequest

/-- The modes in which the table of section 10.5 has a request taken. An unknown kind is not in the table. -/
def Request.takenIn : Request → List PartMode
  | .startBlock _ => [.config]
  | .bypassOff => [.bypass]
  | .bypassOn | .move _ | .pour .. | .endPour | .zeroScale => [.run]
  | .restart | .setMasks .. | .openSession _ | .holdEntry _ | .setHatch .. | .permit .. | .shiftVessel ..
  | .setDraftLimit .. | .closeSession _ | .stopTravel | .faultClear | .dustAcknowledge _ | .discardBill _ => [.run, .bypass]
  | .readStation | .readPeers | .readHolds _ | .readBill .. | .unknown _ => [.config, .run, .bypass]

/-- A channel's thresholds lie in the ranges and the order of R178. -/
def Thresholds.inRange (t : Thresholds) : Prop := t.clear ≤ t.raise ∧ t.raise < t.trip ∧ t.trip ≤ 4095

/-- The table of R178. -/
def StartFields.inRange (f : StartFields) : Prop :=
  (1 ≤ f.station ∧ f.station ≤ 8) ∧ f.chainEndUp ≤ 1 ∧ f.chainEndDown ≤ 1 ∧ f.railLower ≤ 999999
    ∧ (f.railLower < f.railUpper ∧ f.railUpper ≤ 1000000) ∧ (-100000 ≤ f.spoutOffset ∧ f.spoutOffset ≤ 100000)
    ∧ (2000 ≤ f.separation ∧ f.separation ≤ 40000) ∧ (500 ≤ f.slowDown ∧ f.slowDown ≤ 50000)
    ∧ (100 ≤ f.creep ∧ f.creep ≤ 5000 ∧ f.creep < f.slowDown)
    ∧ (5 ≤ f.tolerance ∧ f.tolerance ≤ 500 ∧ f.tolerance < f.creep) ∧ (200 ≤ f.releaseDelay ∧ f.releaseDelay ≤ 5000)
    ∧ (5 ≤ f.pulseLength ∧ f.pulseLength ≤ 100) ∧ (1 ≤ f.cellCount ∧ f.cellCount ≤ 512)
    ∧ (16 ≤ f.beltLoop ∧ f.beltLoop ≤ 200000) ∧ (1 ≤ f.span ∧ f.span ≤ 65535) ∧ f.zeroBand ≤ 50
    ∧ (1 ≤ f.gateLimit ∧ f.gateLimit ≤ 30) ∧ f.spout.inRange ∧ f.gallery.inRange ∧ f.allowance ≤ 20000
    ∧ (f.allowance ≤ f.ceiling ∧ f.ceiling ≤ 20000)
    ∧ (f.trigger = 1 ∨ f.trigger = 4 ∨ f.trigger = 8 ∨ f.trigger = 16)

/-! ## Checks in their order -/

/-- A table of checks, in their order: what must hold, and the reason and index of the refusal where it does not. -/
abbrev CheckTable := List (Prop × Reason × Nat)

/-- Every check of the table holds. -/
def CheckTable.holds (table : CheckTable) : Prop := ∀ row ∈ table, row.1

/-- The first check of the table that does not hold gives this refusal. -/
def CheckTable.failsBy (table : CheckTable) (reason : Reason) (index : Nat) : Prop :=
  ∃ (before after : CheckTable) (p : Prop), table = before ++ (p, reason, index) :: after ∧ before.holds ∧ ¬p

/-- The common checks of R3 on the slot. -/
def State.slotTable (s : State) (slot : Nat) : CheckTable :=
  [(∃ x, Slot.ofCode? slot = some x, .badField, 1),
    (∀ x, Slot.ofCode? slot = some x → s.session x ≠ none, .noSession, 0)]

/-- The common checks of R3 on the slot and the hold. -/
def State.holdTable (s : State) (slot hold : Nat) : CheckTable :=
  s.slotTable slot ++ [(∀ x ses, Slot.ofCode? slot = some x → s.session x = some ses → 1 ≤ hold ∧ hold ≤ ses.holdCount, .badField, 2)]

/-- A span lies on the rail (R4, R11). -/
def spanOnRail (ses : Session) : Prop := 0 ≤ ses.span.1 ∧ ses.span.2 ≤ 1000000

/-- No rail position belongs to both spans (R2). -/
def spansApart (ses other : Session) : Prop := ∀ p, ¬(inside ses.span p = true ∧ inside other.span p = true)

/-- The checks of OPEN SESSION (R4; the index 14 of the trim band is assumption 19). -/
def State.openTable (s : State) (f : SessionFields) : CheckTable :=
  [(∃ x, Slot.ofCode? f.slot = some x, .badField, 1), (1 ≤ f.planTag ∧ f.planTag ≤ 65535, .badField, 2),
    (f.bowMark ≤ 1000000, .badField, 3), (∃ o, Orientation.ofCode? f.orientation = some o, .badField, 4),
    (5000 ≤ f.length ∧ f.length ≤ 400000, .badField, 5), (1 ≤ f.holdCount ∧ f.holdCount ≤ 9, .badField, 6),
    (f.displacement ≤ 100000, .badField, 7), (-200000 ≤ f.moment ∧ f.moment ≤ 200000, .badField, 8),
    (10 ≤ f.mct ∧ f.mct ≤ 5000, .badField, 9), (2 ≤ f.tpc ∧ f.tpc ≤ 100, .badField, 10),
    (50 ≤ f.meanDraft ∧ f.meanDraft ≤ 1400, .badField, 11), (50 ≤ f.draftLimit ∧ f.draftLimit ≤ 1400, .badField, 12),
    (-999 ≤ f.bandLower ∧ f.bandLower ≤ 999, .badField, 13), (-999 ≤ f.bandUpper ∧ f.bandUpper ≤ 999, .badField, 14),
    (f.bandLower ≤ f.bandUpper, .badField, 14), (spanOnRail (f.session 0), .badField, 5),
    (∀ x, Slot.ofCode? f.slot = some x → s.session x = none, .slotInUse, 0),
    (∀ x o, Slot.ofCode? f.slot = some x → s.session x.other = some o → spansApart (f.session 0) o, .overlap, 0),
    (none ∈ s.bills.records, .billStoreFull, 0)]

/-- The checks of HOLD ENTRY after those of R3, in the session of the slot (R7; whose index a comparison carries is assumption 19). -/
def State.entryTable (s : State) (x : Slot) (ses : Session) (f : HoldFields) : CheckTable :=
  [(f.fore ≤ ses.length, .badField, 3), (f.aft ≤ ses.length, .badField, 4), (f.fore < f.aft, .badField, 4),
    (f.margin ≤ 10000, .badField, 5), (-2000 ≤ f.lever ∧ f.lever ≤ 2000, .badField, 6),
    (1 ≤ f.spoutLimit ∧ f.spoutLimit ≤ 2, .badField, 7),
    (f.targets.length ≤ 6 ∧ (∀ k ∈ f.targets, 1 ≤ k ∧ k ≤ 4000000) ∧ f.targets.Pairwise (· < ·), .badField, 8),
    (∃ perm, Permission.ofCode? f.permission = some perm, .badField, 9), (2 * f.margin < f.aft - f.fore, .badField, 5),
    (∀ g d p, g ≠ f.hold → ses.hold g = some d → d.plan = some p →
      ∀ q : Nat, ¬((f.fore ≤ q ∧ q ≤ f.aft) ∧ p.fore ≤ q ∧ q ≤ p.aft), .overlap, 0),
    (s.plan x f.hold ≠ none → ∀ c, s.fill.claim = some c → ¬(c.slot = x ∧ c.hold = f.hold), .stationBusy, 0)]

/-- The checks of the map requests, in their order (R3, R4, R7, R9 to R13). -/
def State.mapTable (s : State) : Request → CheckTable
  | .openSession f => s.openTable f
  | .holdEntry f => s.holdTable f.slot f.hold
      ++ (match Slot.ofCode? f.slot with
        | some x => match s.session x with
          | some ses => s.entryTable x ses f
          | none => []
        | none => [])
  | .setHatch slot hold state => s.holdTable slot hold ++ [(state ≤ 1, .badField, 3)]
  | .permit slot hold => s.holdTable slot hold
      ++ [(∃ x d, Slot.ofCode? slot = some x ∧ s.hold x hold = some d ∧ d.plan ≠ none ∧ d.permission = .restricted, .notRestricted, 0)]
  | .shiftVessel slot bow => s.slotTable slot ++ [(bow ≤ 1000000, .badField, 2),
      (∀ x ses, Slot.ofCode? slot = some x → s.session x = some ses → spanOnRail { ses with bowMark := (bow : Int) }, .badField, 2),
      (∀ x ses o, Slot.ofCode? slot = some x → s.session x = some ses → s.session x.other = some o →
        spansApart { ses with bowMark := (bow : Int) } o, .overlap, 0)]
  | .setDraftLimit slot limit => s.slotTable slot ++ [(50 ≤ limit ∧ limit ≤ 1400, .badField, 2)]
  | .closeSession slot => s.slotTable slot
      ++ [(∀ x c, Slot.ofCode? slot = some x → s.fill.claim = some c → c.slot ≠ x, .stationBusy, 0)]
  | _ => []

/-- The claims on a hold that FRESH peers hold in a phase. -/
def State.peerClaims (s : State) (x : Slot) (h : Nat) (phase : ClaimPhase) : List ClaimEntry :=
  (s.row x h).claims.filter (fun k => k.phase == phase && k.station != s.station
    && s.peers.any (fun e => e.station == k.station && e.freshness == .fresh))

/-- The PENDING claims on a hold of FRESH peers with a lower station number (R116). -/
def State.aheadOfUs (s : State) (x : Slot) (h : Nat) : List ClaimEntry :=
  (s.peerClaims x h .pending).filter (fun k => k.station < s.station)

/-- The predicted totals of E4 with rank (R116 check 5). -/
def State.totalsWithRank (s : State) (c : OwnClaim) (h : Nat) : Nat :=
  ((s.aheadOfUs c.slot h).map ClaimEntry.target).foldl max (max (s.predicted c.slot h) (if h = c.hold then c.target else 0))

/-- The checks at the expiry of the claim window, in their order (R116). -/
def State.decisionTable (s : State) (c : OwnClaim) : CheckTable :=
  [(s.session c.slot ≠ none, .noSession, 0), ((s.berth c.slot).mismatch = false, .planMismatch, 0),
    (∃ d p, s.hold c.slot c.hold = some d ∧ d.plan = some p ∧ p.targets ≠ [] ∧ d.hatchOpen = true
      ∧ (d.permission = .opened ∨ (d.permission = .restricted ∧ d.token = true)), .notReady, 0),
    (s.holdTotal c.slot c.hold < c.target * 1000, .holdComplete, 0),
    (2 ≤ c.pass → ∀ g, (g + 1 = c.hold ∨ g = c.hold + 1) → ∀ p t, s.plan c.slot g = some p → p.targets[c.pass - 2]? = some t →
      t * 1000 ≤ s.holdTotal c.slot g, .order, 0),
    (∃ p, s.plan c.slot c.hold = some p ∧
      (s.peerClaims c.slot c.hold .active).length + (s.aheadOfUs c.slot c.hold).length < p.spoutLimit, .holdBusy, 0),
    (∀ ses, s.session c.slot = some ses → ses.limits (ses.trimDraft (s.totalsWithRank c)) ≠ some .trim, .trim, 0),
    (∀ ses, s.session c.slot = some ses → ses.limits (ses.trimDraft (s.totalsWithRank c)) ≠ some .draft, .draft, 0)]

/-- The checks of a POUR before the choice of a pass (R106 with E1 of R107), in their order. -/
def State.askTable (s : State) (slot hold override : Nat) : CheckTable :=
  [(∃ x, Slot.ofCode? slot = some x, .badField, 1), (hold ≤ 9, .badField, 2),
    (override ≠ 0 → hold ≠ 0 ∧ override ≤ 4000000, .badField, 3),
    (∀ x, Slot.ofCode? slot = some x → s.session x ≠ none, .noSession, 0),
    (∀ x, Slot.ofCode? slot = some x → (s.berth x).mismatch = false, .planMismatch, 0),
    (∀ x ses, Slot.ofCode? slot = some x → s.session x = some ses → hold ≤ ses.holdCount, .badField, 2)]

/-- The checks of a named hold in a session (E2 to E7 with the choice of pass and target, R107 to R112), in their order. -/
def State.passTable (s : State) (x : Slot) (ses : Session) (hold override : Nat) : CheckTable :=
  [(∃ d p, s.hold x hold = some d ∧ d.plan = some p ∧ p.targets ≠ [] ∧ d.hatchOpen = true
      ∧ (d.permission = .opened ∨ (d.permission = .restricted ∧ d.token = true)), .notReady, 0),
    (s.nextPass x hold ≠ none, .holdComplete, 0),
    (∀ n k, s.nextPass x hold = some (n, k) → override ≠ 0 → s.holdTotal x hold < override * 1000 ∧ override < k, .badField, 3),
    (∀ n k, s.nextPass x hold = some (n, k) → 2 ≤ n → ∀ g, (g + 1 = hold ∨ g = hold + 1) → ∀ p t, s.plan x g = some p →
      p.targets[n - 2]? = some t → t * 1000 ≤ s.holdTotal x g, .order, 0),
    (∀ n k, s.nextPass x hold = some (n, k) → ses.limits (ses.trimDraft (fun i =>
      if i = hold then max (s.predicted x i) (if override = 0 then k else override) else s.predicted x i)) ≠ some .trim, .trim, 0),
    (∀ n k, s.nextPass x hold = some (n, k) → ses.limits (ses.trimDraft (fun i =>
      if i = hold then max (s.predicted x i) (if override = 0 then k else override) else s.predicted x i)) ≠ some .draft, .draft, 0),
    (s.travel.position ≠ none ∧ ∃ lo hi w pos, s.computeEdge .up none = some lo ∧ s.computeEdge .down none = some hi
      ∧ s.loaderWindow x hold = some w ∧ (lo.1 ≤ pos ∧ pos ≤ hi.1) ∧ w.1 ≤ pos ∧ pos ≤ w.2, .outOfReach, 0),
    (∀ p, s.plan x hold = some p → (s.peerClaims x hold .active).length < p.spoutLimit, .holdBusy, 0),
    (s.fill.claim = none ∧ s.travel.state ≠ .faulted ∧ s.scale.zeroRun = none ∧ s.scale.status ≠ .fault
      ∧ (∀ c, (s.dust.channel c).state ≠ .trip ∧ (s.dust.channel c).state ≠ .held) ∧ 0 < s.bills.free, .stationBusy, 0)]

/-- The checks of a POUR that names its hold (R106 to R112), in their order. -/
def State.pourTable (s : State) (slot hold override : Nat) : CheckTable :=
  s.askTable slot hold override ++ (match Slot.ofCode? slot with
    | some x => match s.session x with
      | some ses => s.passTable x ses hold override
      | none => []
    | none => [])

/-- Where no line is open, or the translation that `t` gives finds cause MAP of a pour under way as it stands, the translation made
at a map request changes nothing (R137). -/
def State.mapStands (s t : State) : Prop :=
  s.lineOpen = false
    ∨ ∃ k, s.fill.claim = some k ∧ t.fill.claim = some k ∧ (s.pour.causes.map = true ↔ t.translate ≠ .ok k.slot k.hold)

/-! ## Notices -/

/-- Notices raised one after another at one count. -/
def LocalPort.raiseAll (p : LocalPort) (now : Nat) (bodies : List NoticeBody) : LocalPort :=
  bodies.foldl (fun q b => q.raise now b) p

/-- The notices of a change of dust class (the table of R154): for the state left, then for the state entered, with the last value that
the change leaves (assumption 46). -/
def dustNotices (c : Channel) (old : DustClass) (u : DustChannel) : List NoticeBody :=
  (match old with
    | .alarm => [.dustAlarm c u.state u.last u.sampleHold]
    | .trip | .held => if u.state = .clear ∨ u.state = .failed then [.dustTrip c u.state u.last u.sampleHold] else []
    | .failed => [.dustFailed c u.state u.cause u.latchKept]
    | .clear | .watch => [])
  ++ (match u.state with
    | .trip | .held => [.dustTrip c u.state u.last u.sampleHold]
    | .alarm => [.dustAlarm c u.state u.last u.sampleHold]
    | .failed => [.dustFailed c u.state u.cause u.latchKept]
    | .clear | .watch => [])

/-- The notices that a restart queues (R180): LINE_CLOSED of the open line (R144), SPILL of the belt content (R42), and a DUST_TRIP for
each channel in TRIP or HELD and a DUST_FAILED for each in FAILED, SPOUT before GALLERY (R158). -/
def State.restartNotices (s : State) : List NoticeBody :=
  (match s.bills.openLine with
    | some l => [.lineClosed l.slot l.hold l.number .restart (l.mass / 1000) none none (s.pour.allowance.getD 0)]
    | none => [])
  ++ (if 0 < s.belt.content then
      [.spill .restart (s.belt.content / 1000) ((s.bills.spill + s.belt.content) / 1000)] else [])
  ++ [Channel.spout, Channel.gallery].flatMap (fun c =>
      match (s.dust.channel c).state with
      | .trip | .held => [NoticeBody.dustTrip c (s.dust.channel c).state (s.dust.channel c).last (s.dust.channel c).sampleHold]
      | .failed => [NoticeBody.dustFailed c .failed (s.dust.channel c).cause (s.dust.channel c).latchKept]
      | .clear | .watch | .alarm => [])

/-- The record that a dust sample gives its channel (R148): timer, sample hold, and the sample itself. -/
def State.dustSampled (s : State) (c : Channel) (v : BitVec 16) (fault : Bool) : DustChannel :=
  ({ s.dust.channel c with
      timer := some (s.count + 1000)
      sampleHold := match c with
        | .spout => s.translate.hold?
        | .gallery => none } : DustChannel).sample
    (match c with
      | .spout => s.block.spout
      | .gallery => s.block.gallery) v.toNat fault

/-! ## The pour -/

/-- The pour record after one belt-stop cause has suspended a pour whose gate was open (R133, R135). -/
def State.stoppedBy (s : State) (c : SuspendCause) : Pour :=
  { s.pour with
    state := .suspended, phase := none, causes := CauseSet.empty.put true c, passSuspended := true, beltOn := false
    watch := .off, beltStartTimer := none, gateCommand := .closed, gate := .closing
    gateTimer := some (s.count + s.block.gateLimit * 1000) }

/-- The pour record after one cause that is no belt-stop cause has suspended a pour whose gate was open: its belt goes on (R133,
R135). -/
def State.heldBy (s : State) (c : SuspendCause) : Pour :=
  { s.pour with
    state := .suspended, phase := none, causes := CauseSet.empty.put true c, passSuspended := true, gateCommand := .closed
    gate := .closing, gateTimer := some (s.count + s.block.gateLimit * 1000) }

/-- The pour record after a RUNOUT entered with cause STOPPED, the belt as the causes held give it (R133, R139). -/
def State.stoppedPour (s t : State) : Prop :=
  t.pour = { s.pour with
      state := .runout, phase := none, runoutCause := some .stopped, runoutShifts := 0, gateCommand := .closed
      gate := match s.pour.gate with
        | .opening | .opened | .closing => .closing
        | .closed => .closed
        | .fault => .fault
      gateTimer := match s.pour.gate with
        | .opening | .opened => some (s.count + s.block.gateLimit * 1000)
        | .closing | .closed | .fault => s.pour.gateTimer
      beltOn := t.pour.beltOn, watch := t.pour.watch, beltStartTimer := t.pour.beltStartTimer }
    ∧ (t.pour.beltOn = true ↔ s.pour.causes.dustOwn = false ∧ s.pour.causes.dustPeer = false ∧ s.pour.causes.map = false
        ∧ s.pour.causes.belt = false)
    ∧ (t.pour.beltOn = false → t.pour.watch = .off ∧ t.pour.beltStartTimer = none)
    ∧ (t.pour.beltOn = true → s.pour.beltOn = true →
        t.pour.watch = s.pour.watch ∧ t.pour.beltStartTimer = s.pour.beltStartTimer)

/-- The gate lets no run-out end, or grain is on the belt with shifts still to come (R139). -/
def State.runoutGoesOn (s : State) : Prop :=
  s.pour.gate = .opening ∨ s.pour.gate = .opened ∨ s.pour.gate = .closing ∨ (s.pour.gate = .fault ∧ s.pour.gateFault = some .closeFailed)
    ∨ (0 < s.belt.content ∧ 0 < s.block.cellCount)

/-- Nothing holds the first entry to STARTING of this claim's pass in SUSPENDED, and its belt is at rest (R130). -/
def State.clearToStart (s : State) (c : OwnClaim) : Prop :=
  s.translate = .ok c.slot c.hold ∧ (∀ k, (s.dust.channel k).state ≠ .trip ∧ (s.dust.channel k).state ≠ .held)
    ∧ (∀ q ∈ s.dust.peers, q.spout ≠ .trip) ∧ s.travel.state ≠ .faulted ∧ s.scale.status ≠ .fault ∧ s.pour.gate = .closed
    ∧ s.pour.beltOn = false ∧ s.inputs.beltRunning = false ∧ 0 < s.bills.free
    ∧ ∃ ses b, s.session c.slot = some ses ∧ s.bills.bill ses.bill = some b

/-- From `s` to `t` the pass of claim `c` has entered STARTING with its belt commanded ON: the line is open, and the pour waits in
BELT_WAIT (R130). -/
def State.passStarted (s t : State) (c : OwnClaim) : Prop :=
  t.pour = { s.pour with
      state := .starting, phase := some .beltWait, causes := CauseSet.empty, passSuspended := false, failures := 0
      positioningTimer := none, beltOn := true, watch := .waiting, beltStartTimer := some (t.count + 10000)
      reAimed := t.pour.reAimed }
    ∧ t.bills.free + 1 = s.bills.free ∧ t.bills.spill = s.bills.spill
    ∧ ∀ ses b, s.session c.slot = some ses → s.bills.bill ses.bill = some b → t.bills.bill ses.bill = some { b with lines := b.lines ++ [
        ⟨b.lines.length + 1, c.slot, c.hold, c.pass, c.target, (t.count - b.opening) / 1000, none, 0, 0, 0, none, none, none⟩] }

/-- The pour record after the last cause has gone from a suspended pour with its belt at rest: BELT_WAIT again (R130, R131). -/
def State.resumed (s : State) : Pour :=
  { s.pour with
    state := .starting, phase := some .beltWait, causes := CauseSet.empty, beltOn := true, watch := .waiting
    beltStartTimer := some (s.count + 10000) }

/-- A smaller number, or a number before none. -/
def aheadOf : Option Nat → Option Nat → Prop
  | some a, some b => a < b
  | some _, none => True
  | none, _ => False

/-- The distance from the tip to the nearer end of a hold's pour window, 0 inside it; none stands for infinitely distant (R113). -/
def State.tipDistance (s : State) (x : Slot) (h : Nat) : Option Nat :=
  match s.window x h, s.tip with
  | some w, some tip => some (if tip < w.1 then w.1 - tip else if w.2 < tip then tip - w.2 else 0).toNat
  | _, _ => none

/-- Hold `g` ranks ahead of hold `h` for a POUR with ANY: by next pass, then distance, then number (R113). -/
def State.ranksAhead (s : State) (x : Slot) (g h : Nat) : Prop :=
  aheadOf ((s.nextPass x g).map Prod.fst) ((s.nextPass x h).map Prod.fst)
    ∨ ((s.nextPass x g).map Prod.fst = (s.nextPass x h).map Prod.fst
      ∧ (aheadOf (s.tipDistance x g) (s.tipDistance x h) ∨ (s.tipDistance x g = s.tipDistance x h ∧ g < h)))

/-! ## Frames -/

/-- The port and the whole bytes of an arriving frame of one of the four kinds: the row gives the kind byte. -/
def frameOf : Instr → Option (Side × List Byte)
  | .statusFrame p rest => some (p, 0x01 :: rest)
  | .claimFrame p rest => some (p, 0x02 :: rest)
  | .dustFrame p rest => some (p, 0x03 :: rest)
  | .breakFrame p rest => some (p, 0x04 :: rest)
  | _ => none

/-- In RUN a frame of another station arrives that the table takes into a FRESH entry of its own side, the port being UP and the
other port's pass-through queue not full: neither the Line Unit nor a change of side raises a notice. -/
def State.takesFrom (s : State) (c : Instr) (p : Side) (f : Frame) (e : PeerEntry) : Prop :=
  ∃ bytes, frameOf c = some (p, bytes) ∧ readFrame bytes = some f ∧ s.port.mode = .run ∧ f.origin ≠ s.station
    ∧ (s.line.port p).state = .up ∧ (s.line.port (otherSide p)).queue.length < 4
    ∧ s.entry f.origin = some e ∧ e.side = p ∧ e.freshness = .fresh

/-- A hold reference that R186 finds usable. -/
def holdRefOk (h : Slot × Nat) : Prop := 1 ≤ h.2 ∧ h.2 ≤ 9

/-- A report whose figures fit their fields (section 11.2): what a station sends, and all that a receiver needs to read it
whole. -/
def Report.wellFormed (r : Report) : Prop :=
  r.tagA < 65536 ∧ r.tagB < 65536 ∧ (0 ≤ r.position ∧ r.position < 4294967296)
    ∧ (∀ t, r.target = some t → 0 ≤ t ∧ t < 4294967296)
    ∧ (∀ c, r.claim = some c → holdRefOk (c.slot, c.hold) ∧ 1 ≤ c.pass ∧ c.pass ≤ 6 ∧ c.target < 4294967296)
    ∧ (∀ h, r.spoutHold = some h → holdRefOk h) ∧ (∀ kg, r.onBelt = some kg → kg < 4294967296)
    ∧ r.tallies.length ≤ 18 ∧ (∀ t ∈ r.tallies, holdRefOk (t.slot, t.hold) ∧ t.kg < 4294967296)

/-! ## Travel -/

/-- The stop point of an order (R88), written out: the nearer of the target and the edge ahead, but never behind the
position. -/
def stopPointOf (lower upper pos target : Int) : Int :=
  if target < pos then min (max target lower) pos else max (min target upper) pos

/-- Two positions farther apart than `d`. -/
abbrev fartherThan (d : Nat) (x y : Int) : Prop := (d : Int) < x - y ∨ (d : Int) < y - x

/-- The profile step of R90. -/
def profileOf (slowDown creep distance : Int) : SpeedStep :=
  if slowDown < distance then .fast else if creep < distance then .slow else .creep

/-- The sense of a side along the rail: an edge of side UP is the tighter the greater, one of side DOWN the lesser. -/
def sense : Side → Int
  | .up => 1
  | .down => -1

/-- The rail limit of a side. -/
def State.railEnd (s : State) : Side → Int
  | .up => s.block.railLower
  | .down => s.block.railUpper

/-- The end of a window on a side. -/
def windowEnd (w : Int × Int) : Side → Int
  | .up => w.1
  | .down => w.2

/-- The position that a FRESH peer's report bounds this station from: its target while it heads toward this station (R86). -/
def boundedFrom (side : Side) (q : Report) : Int :=
  match q.target with
  | some goal => if (q.travel = 0x02 ∨ q.travel = 0x03) ∧ 0 < sense side * (goal - q.position) then goal else q.position
  | none => q.position

/-- The PEER or NO_PEER term of a side with its value, by the table of R86. -/
def State.sideTerm (s : State) (side : Side) (value : Int) (term : EdgeTerm) : Prop :=
  (s.nearest side = none ∧ (s.line.port side).chainEnd = false ∧ s.travel.position = some value ∧ term = .noPeer)
    ∨ ∃ e, s.nearest side = some e ∧ term = .peer e.station ∧ match e.report with
      | none => s.travel.position = some value
      | some q =>
        if q.positionValid = false then s.travel.position = some value
        else if e.freshness = .fresh then value = boundedFrom side q + sense side * s.block.separation
        else value = q.position + sense side * (s.block.separation + 5000)

/-- What a new order with a target farther than the arrival tolerance makes of travel, by the state it finds (R88, R91, R93, R95). -/
def State.takesOrder (s t : State) (pos target : Int) (source : OrderSource) (r : Range) : Prop :=
  t.travel.target = some target ∧ t.travel.source = some source ∧ t.travel.position = s.travel.position
    ∧ match s.travel.state with
      | .parked => t.travel.state =
          if fartherThan s.block.tolerance pos (stopPointOf r.lower r.upper pos target) then .releasing else .held
      | .held => t.travel.state =
          if stopPointOf r.lower r.upper pos target = target
            ∨ fartherThan s.block.creep pos (stopPointOf r.lower r.upper pos target) then .releasing else .held
      | .releasing => t.travel.state = .releasing
      | .settling => t.travel.state = .settling
      | .moving => ∀ dir, s.travel.direction = some dir →
          (t.travel.state, t.travel.stopMark) =
            if sense dir * (target - pos) ≤ 0 then
              if fartherThan s.block.tolerance pos (stopPointOf r.lower r.upper pos target) then (.moving, s.travel.stopMark)
              else (.settling, some .edge)
            else (.settling, some .reversal)
      | .faulted => False

/-- A HELD loader stands short of its target, so that no event but a sample or a new order ends its order (R93). -/
def State.heldShort (s : State) : Prop :=
  s.travel.state = .held → ∀ pos target, s.travel.position = some pos → s.travel.target = some target →
    fartherThan s.block.tolerance pos target

/-- Between `s` and `t` the permitted range has been computed afresh, from the facts of `t`, at the position of `s`, and travel has acted
on it: MOVING by the three cases of R90, HELD by the table of R93, the other states not at all (R87). -/
def State.rangeActed (s t : State) : Prop :=
  t.travel.edgeUp = t.computeEdge .up t.rangeWindow ∧ t.travel.edgeDown = t.computeEdge .down t.rangeWindow
    ∧ ∀ ranged : Travel, ranged = { s.travel with edgeUp := t.travel.edgeUp, edgeDown := t.travel.edgeDown } →
      match s.travel.state with
      | .parked | .releasing | .settling | .faulted => t.travel = ranged
      | .moving => ∀ pos target dir r, s.travel.position = some pos → s.travel.target = some target →
          s.travel.direction = some dir → t.travel.range = some r →
          ∀ stopped : StopMark → Travel, stopped = (fun mark => { ranged with
            state := .settling, step := .zero, direction := none, stopMark := some mark, releaseTimer := none
            brakeFailTimer := none, settleTimer := some (t.count + 1000) }) →
          t.travel =
            if ¬fartherThan s.block.tolerance pos target ∨ 0 < sense dir * (target - pos) then stopped .target
            else if ¬fartherThan s.block.tolerance pos (stopPointOf r.lower r.upper pos target) then stopped .edge
            else { ranged with
              step := if s.travel.source = some .returning ∨ s.lineOpen = true ∨ (t.nearest dir).any (fun e => e.freshness != .fresh)
                then .creep
                else profileOf s.block.slowDown s.block.creep ((stopPointOf r.lower r.upper pos target - pos).natAbs : Int) }
      | .held => ∀ pos target r, s.travel.position = some pos → s.travel.target = some target → t.travel.range = some r →
          t.travel =
            if ¬fartherThan s.block.tolerance pos target then { ranged with
              state := .parked, target := none, source := none, direction := none, step := .zero, stopMark := none
              releaseTimer := none, brakeFailTimer := none, settleTimer := none }
            else if stopPointOf r.lower r.upper pos target = target
                ∨ fartherThan s.block.creep pos (stopPointOf r.lower r.upper pos target) then { ranged with
              state := .releasing, releaseTimer := some (t.count + s.block.releaseDelay)
              brakeFailTimer := some (t.count + s.block.releaseDelay + 1000), settleTimer := none }
            else ranged

/-- The command faults travel, not FAULTED before, with this cause (R83, R84, R89, R92, R94, R97). A timer has reached its length. -/
def State.faultsTravel (s : State) (c : Instr) (cause : TravelFault) : Prop :=
  s.travel.state ≠ .faulted ∧ match c with
    | .positionSample v => s.port.mode ≠ .config ∧ (((1000000 : Int) < v.toNat ∧ cause = .encoderRange)
        ∨ ((v.toNat : Int) ≤ 1000000 ∧ cause = .encoderJump ∧ ∃ p, s.travel.position = some p ∧ fartherThan 300 (v.toNat : Int) p))
    | .encoderTimerExpiry => cause = .encoderSilent ∧ ∃ d, s.travel.encoderTimer = some d ∧ d ≤ s.count
    | .brakeReleasedChange active => s.port.mode ≠ .config ∧ cause = .brake
        ∧ ((active = true ∧ (s.travel.state = .parked ∨ s.travel.state = .held)) ∨ (active = false ∧ s.travel.state = .moving))
    | .brakeFailTimerExpiry => cause = .brake ∧ s.travel.state = .releasing ∧ ∃ d, s.travel.brakeFailTimer = some d ∧ d ≤ s.count
    | .settleTimerExpiry => cause = .brake ∧ s.travel.state = .settling ∧ s.inputs.brakeReleased = true
        ∧ ∃ d, s.travel.settleTimer = some d ∧ d ≤ s.count
    | _ => False

/-- The travel record after a STOP TRAVEL, by the travel state (the table of R96). -/
def State.travelStopped (s : State) : Travel :=
  match s.travel.state with
  | .parked | .faulted => s.travel
  | .releasing | .moving => { s.travel with
      state := .settling, target := none, source := none, direction := none, step := .zero, stopMark := some .stopTravel
      releaseTimer := none, brakeFailTimer := none, settleTimer := some (s.count + 1000) }
  | .settling => { s.travel with target := none, source := none }
  | .held => { s.travel with
      state := .parked, target := none, source := none, direction := none, step := .zero, stopMark := none
      releaseTimer := none, brakeFailTimer := none, settleTimer := none }

end Sys2Proof.Machine
end

