-- ==== Sys2Proof/Certificates/Slice0/Obligations.lean ====
section
/-! DEFINITION. The statements about the model of the 2400. Each docstring names the rule or section of spec/ it formalises.
`State.quiet` (no status change waits between commands) is a premise of many: it is an invariant of every step, stated as
`Obligations.NoStatusChangeWaitsBetweenCommands`. -/

open Sys2Proof Sys2Proof.Machine

/-! ## The queue, the step and whole-machine rules -/

/-- The model's step: the command at the front of the queue is run on the state with the queue's rest. -/
def Obligations.StepTakesTheFrontCommand : Prop :=
  ∀ (s : State) (c : Instr) (rest : List Instr),
    Machine.step { s with pending := c :: rest } = exec c { s with pending := rest }

/-- The model's own idle step (assumptions 1 and 9): with no command waiting, one millisecond goes by and a reply that waits in TAKEN is
placed; where no running timer has then reached its length, nothing else changes. -/
def Obligations.IdleStepIsOneMillisecond : Prop :=
  ∀ s : State, s.pending = [] → (∀ e ∈ timers, ∀ d, e.1 s = some d → s.count + 1 < d) →
    Machine.step s = .next { s with
      count := s.count + 1
      port := { s.port with mailbox := match s.port.mailbox with
        | .taken r => .replied r
        | .empty | .posted _ | .replied _ => s.port.mailbox } }

/-- Section 4.3: every event the part can be given leaves a next state; no command stops the part. A command changes neither
the queue (the model's own), nor, but for a power-on reset, does it turn the internal count back. -/
def Obligations.EveryCommandCompletesAndTimeNeverRunsBack : Prop :=
  ∀ (c : Instr) (s : State), ∃ t, exec c s = .next t ∧ t.pending = s.pending ∧ (c ≠ .powerOnReset → s.count ≤ t.count)

/-- The model's own invariant (assumption 8): a command's status changes are issued or noted within the command. -/
def Obligations.NoStatusChangeWaitsBetweenCommands : Prop :=
  ∀ s t : State, s.quiet → Machine.step s = .next t → t.quiet

/-- Sections 10.5 to 10.7, 2.1 and 2.6: the part mode changes only at a power-on reset, at the take of START BLOCK, BYPASS ON or BYPASS
OFF, and at the fetch of a reply (a RESTART's); the start block only at a power-on reset and START BLOCK; between power-on resets
the tare changes only at a belt pulse, the one that ends a zero run, and the scale total never falls, rising only at a belt
pulse. -/
def Obligations.ProtectedStateChangesOnlyAtItsCommands : Prop :=
  (∀ (c : Instr) (s t : State), exec c s = .next t → c ≠ .powerOnReset →
      (t.port.mode ≠ s.port.mode →
        c = .startBlock ∨ c = .bypassOn ∨ c = .bypassOff ∨ ∃ phase, c = .fetchReply phase)
      ∧ (t.cfg ≠ s.cfg → c = .startBlock))
  ∧ (∀ (c : Instr) (s t : State), exec c s = .next t → c ≠ .powerOnReset →
      (t.scale.tare ≠ s.scale.tare → c = .beltPulse ∧ s.scale.zeroRun.isSome)
      ∧ s.scale.total ≤ t.scale.total ∧ (t.scale.total ≠ s.scale.total → c = .beltPulse))

/-- Sections 10.2 and 10.5, for all 25 requests, each taken by the row that its kind names. A request that is refused changes nothing but
the mailbox, which is TAKEN with the refusal. One that the table does not allow in the present mode is refused with WRONG_MODE, and
one of unknown kind with UNKNOWN_REQUEST in every mode. The map requests are refused by the first check that fails, in the order of
sections 1.3 to 1.3.5 (`State.mapTable`): the slot, the session and the hold first, then the request's own; whose index a comparison
of two fields carries is assumption 19. -/
def Obligations.RefusedRequestsChangeNothing : Prop :=
  (∀ (r : Request) (s t : State) (reason : Reason) (index : Nat), s.quiet → s.port.mailbox = .posted r →
    exec r.row s = .next t → t.port.mailbox = refusedReply reason index → t = s.withMailbox (refusedReply reason index))
  ∧ (∀ (r : Request) (s : State), s.quiet → s.port.mailbox = .posted r →
    (s.port.mode ∉ r.takenIn → exec r.row s = .next (s.withMailbox (refusedReply .wrongMode 0)))
    ∧ (∀ record, r = .unknown record →
        exec .unknownRequest s = .next (s.withMailbox (refusedReply .unknownRequest 0))))
  ∧ (∀ (r : Request) (s : State) (reason : Reason) (index : Nat), s.quiet → s.port.mode ≠ .config → s.port.mailbox = .posted r →
    (s.mapTable r).failsBy reason index → exec r.row s = .next (s.withMailbox (refusedReply reason index)))

/-- POWER ON RESET (section 4.4, and the reset tables of each chapter): every field of every block at its reset value, with no timer
running. That the input levels and the waiting commands stay is the model's choice (assumptions 7 and 21), and so are the values of
the fields that no reset table names (assumption 24). -/
def Obligations.PowerOnResetClearsEveryBlock : Prop :=
  ∀ (s : State) (port : PortRec) (channel : DustChannel),
    port = { chainEnd := false, state := .up, silenceTimer := none, restoreCount := 0, repeatHold := 0, breakTimer := none
             errors := 0, overflows := 0, passOver := 0, sending := none, queue := [] } →
    channel = { state := .clear, history := [], clearCount := 0, raiseRun := 0, tripRun := 0, goodRun := 0, acknowledged := false
                latchKept := false, cause := none, last := none, sampleHold := none, timer := none } →
    exec .powerOnReset s = .next {
      count := 0, cfg := none, inputs := s.inputs, pending := s.pending
      port := { mode := .config, mailbox := .empty, notices := [], overflow := false, dropped := 0, mask2 := false, mask3 := false
                mask4 := false, trigger := 1, ageTimer := none, ageCause := false, select := none, spiOut := [] }
      berths := ⟨⟨false, none⟩, ⟨false, none⟩⟩
      scale := { tare := 0, load := 0, status := .stale, episode := false, total := 0, staleTimer := none, faultTimer := none
                 zeroRun := none, stillTimer := none }
      belt := ⟨[], 0, 0⟩
      line := { up := port, down := port, own := [], relayOpen := false, statusTimer := none, spacingTimer := none
                changePending := false, closing := .none, serial := 0, statusDue := false }
      peers := []
      travel := { position := none, state := .parked, cause := none, target := none, source := none, direction := none, step := .zero
                  edgeUp := none, edgeDown := none, recovery := none, sampleSince := false, stopMark := none, encoderTimer := none
                  releaseTimer := none, brakeFailTimer := none, settleTimer := none }
      fill := ⟨none, none, none, none⟩
      pour := { state := .idle, phase := none, causes := ⟨false, false, false, false, false, false, false⟩, passSuspended := false
                failures := 0, runoutCause := none, runoutShifts := 0, reAimed := false, allowance := none, beltOn := false
                watch := .off, gateCommand := .closed, gate := .closed, gateFault := none, positioningTimer := none
                beltStartTimer := none, beltRetryTimer := none, gateTimer := none }
      dust := ⟨channel, channel, []⟩
      bills := ⟨[none, none, none, none], 160, 0⟩ }

/-! ## The Local Port -/

/-- POST (sections 10.1, 10.2 and 11.3): into an EMPTY mailbox a record of a known length is placed, ACCEPTED; one whose length does not
fit its kind is MALFORMED, and so, by the model's choice, is one of no bytes (assumption 29); into any other mailbox it is BUSY; a
refused POST leaves the mailbox as it was. WITHDRAW (section 10.3): its effect and its status by the mailbox state in which it is taken.
PORT STATE and a first byte that names no transaction (sections 10.1 and 11.3): the record is returned, or UNKNOWN, and nothing of the
part changes. -/
def Obligations.PostWithdrawAndPortState : Prop :=
  (∀ (s : State) (record : List Byte), s.quiet → s.port.select = none →
      ∃ t, exec (.post .whole record) s = .next t
        ∧ t = { s with port := { s.port with mailbox := t.port.mailbox, spiOut := t.port.spiOut } }
        ∧ (s.port.mailbox = .empty →
            (∀ r, Request.read record = some r →
              t.port.mailbox = .posted r ∧ t.port.spiOut = List.replicate (2 + record.length) 0 ++ [0x00])
            ∧ (Request.read record = none →
              t.port.mailbox = .empty ∧ t.port.spiOut = List.replicate (2 + record.length) 0 ++ [0x02]))
        ∧ (s.port.mailbox ≠ .empty →
            t.port.mailbox = s.port.mailbox ∧ t.port.spiOut = List.replicate (2 + record.length) 0 ++ [0x01]))
  ∧ (∀ s : State, s.quiet → s.port.select = none →
      ∃ t, exec (.withdraw .whole) s = .next t
        ∧ t = { s with port := { s.port with mailbox := t.port.mailbox, spiOut := t.port.spiOut } }
        ∧ (s.port.mailbox = .empty → t.port.mailbox = .empty ∧ t.port.spiOut = [0x05])
        ∧ (∀ r, s.port.mailbox = .posted r → t.port.mailbox = .empty ∧ t.port.spiOut = [0x03])
        ∧ (∀ r, s.port.mailbox = .taken r →
            t.port.mailbox = .taken { r with tooLate := true } ∧ t.port.spiOut = [0x04])
        ∧ (∀ r, s.port.mailbox = .replied r →
            t.port.mailbox = .replied { r with tooLate := true } ∧ t.port.spiOut = [0x04]))
  ∧ (∀ (s : State) (first : Byte), s.quiet → s.port.select = none →
      (∀ out, out = [0x00, s.port.mode.code, s.port.mailbox.code] ++ uField 1 s.port.notices.length ++ flag s.port.overflow
          ++ uField 2 s.port.dropped
          ++ [BitVec.ofNat 8 ((if s.port.mask2 then 2 else 0) + (if s.port.mask3 then 4 else 0) + (if s.port.mask4 then 8 else 0))]
          ++ uField 1 s.port.trigger
          ++ [BitVec.ofNat 8 ((if s.port.notices.any (fun n => n.body.cls == 1) then 1 else 0)
            + (if s.port.trigger ≤ s.port.attentionEntries then 2 else 0) + (if s.port.ageCause then 4 else 0))] →
        exec .portState s = .next { s with port := { s.port with spiOut := out } })
      ∧ exec (.unknownTransaction first) s = .next { s with port := { s.port with spiOut := [0x0F] } })

/-- FETCH REPLY (sections 10.1 and 10.4): the next page not yet fetched is returned, and the last page empties the mailbox; with no reply
placed, in TAKEN too, the status is NONE and nothing changes. (The reply to a RESTART:
`Obligations.RestartEndsOperationsAndKeepsTheRest`.) Section 10.1, in the model's phases (assumption 10): a transaction given as its
status byte and then the end of its select period, with nothing between, is the transaction given whole; a select period released
early takes no effect: what the status byte showed has been sent, and nothing else of the part has changed. -/
def Obligations.FetchReplyReturnsPagesInOrder : Prop :=
  (∀ s : State, s.quiet → s.port.select = none → (∀ r, s.port.mailbox = .replied r → r.outcome ≠ .restarted) →
    ∃ t, exec (.fetchReply .whole) s = .next t
      ∧ t = { s with port := { s.port with mailbox := t.port.mailbox, spiOut := t.port.spiOut } }
      ∧ (∀ r data, s.port.mailbox = .replied r → r.pages[r.fetched]? = some data →
          t.port.spiOut = 0x00 :: ((match r.outcome with
              | .refused reason index => [0x01, reason.code] ++ uField 1 index
              | .done | .restarted => [0x00, 0x00, 0x00])
            ++ uField 1 (r.fetched + 1) ++ uField 1 r.pages.length ++ flag r.tooLate ++ uField 2 data.length ++ data)
          ∧ t.port.mailbox = if r.fetched + 1 = r.pages.length then .empty else .replied { r with fetched := r.fetched + 1 })
      ∧ ((∀ r, s.port.mailbox ≠ .replied r) → t.port.mailbox = s.port.mailbox ∧ t.port.spiOut = [0x05]))
  ∧ (∀ (f : SpiPhase → Instr) (s t : State),
      ((∃ record, f = fun ph => .post ph record) ∨ f = .withdraw ∨ f = .fetchReply ∨ f = .fetchNotice) → s.quiet →
      exec (f .status) s = .next t →
      exec (f .finish) t = exec (f .whole) s
      ∧ (s.port.select = none → exec (f .release) t = .next { s with port := { s.port with spiOut := t.port.spiOut } }))

/-- The notice queue (section 10.8). A raised notice keeps it lawful. The four steps: of a masked class 3 or 4 it only raises the
dropped count; while one of the same kind and subject waits, that entry takes the new time and detail in its place; into a queue not
full it joins at the back, starting the age timer where no attention entry waited (section 10.9); into a full one it takes the place of
the newest entry of the lowest class, if that ranks below its own, or is dropped, with the overflow flag set. FETCH NOTICE on a lawful
queue returns the oldest notice of the highest class present and removes it, with the overflow flag as it stood; the flag and the age
cause are cleared, and the age timer restarts while attention entries remain and stops when none does (section 10.9). SET MASKS and the
age timer (sections 10.8 and 10.9): the masks of classes 2 to 4 and the trigger level are replaced; a mask for class 1 is refused with
index 1 and another trigger level with index 5; the expiry of the age timer sets the age cause, at the count that assumption 2 gives. -/
def Obligations.NoticesMergeAndAreFetchedByClass : Prop :=
  (∀ (p : LocalPort) (now : Nat) (body : NoticeBody), p.queueLawful →
      (p.enter now body now).queueLawful
      ∧ (∀ older m newer, p.notices = older ++ m :: newer → m.body.sameKey body = true →
          (body.cls ≤ 2 ∨ p.masked body.cls = false) →
          (p.enter now body now).notices = older ++ ⟨body, now % 2 ^ 32, min (m.merges + 1) 255⟩ :: newer)
      ∧ (3 ≤ body.cls → p.masked body.cls = true → p.enter now body now = { p with dropped := min (p.dropped + 1) 65535 })
      ∧ (p.notices.length < 32 → (∀ m ∈ p.notices, m.body.sameKey body = false) → (body.cls ≤ 2 ∨ p.masked body.cls = false) →
          ∃ q, q = p.enter now body now ∧ q.notices = p.notices ++ [⟨body, now % 2 ^ 32, 0⟩] ∧ q.overflow = p.overflow
            ∧ q.dropped = p.dropped
            ∧ (p.attentionEntries = 0 → p.masked body.cls = false → q.ageTimer = some (now + 500)))
      ∧ (p.notices.length = 32 → (∀ m ∈ p.notices, m.body.sameKey body = false) → (∃ m ∈ p.notices, body.cls < m.body.cls) →
          (body.cls ≤ 2 ∨ p.masked body.cls = false) →
          ∃ older n newer, p.notices = older ++ n :: newer ∧ (∀ m ∈ p.notices, m.body.cls ≤ n.body.cls)
            ∧ (∀ m ∈ newer, m.body.cls < n.body.cls)
            ∧ (p.enter now body now).notices = older ++ newer ++ [⟨body, now % 2 ^ 32, 0⟩] ∧ (p.enter now body now).overflow = true
            ∧ (p.enter now body now).dropped = p.dropped)
      ∧ (p.notices.length = 32 → (∀ m ∈ p.notices, m.body.sameKey body = false) → (∀ m ∈ p.notices, m.body.cls ≤ body.cls) →
          (body.cls ≤ 2 ∨ p.masked body.cls = false) →
          (p.enter now body now).notices = p.notices ∧ (p.enter now body now).overflow = true))
  ∧ (∀ s : State, s.quiet → s.port.select = none → s.port.queueLawful →
      ∃ t, exec (.fetchNotice .whole) s = .next t
        ∧ t = { s with port := { s.port with
            notices := t.port.notices, overflow := false, ageCause := false, ageTimer := t.port.ageTimer,
            spiOut := t.port.spiOut } }
        ∧ (s.port.notices = [] → t.port.notices = [] ∧ t.port.spiOut = 0x05 :: flag s.port.overflow)
        ∧ (s.port.notices ≠ [] → ∃ older n newer, s.port.notices = older ++ n :: newer
            ∧ (∀ m ∈ older, n.body.cls < m.body.cls) ∧ (∀ m ∈ newer, n.body.cls ≤ m.body.cls)
            ∧ t.port.notices = older ++ newer ∧ t.port.spiOut = 0x00 :: (flag s.port.overflow ++ n.record))
        ∧ (t.port.ageTimer = if t.port.attentionEntries = 0 then none else some (s.count + 500)))
  ∧ (∀ (s : State) (m1 m2 m3 m4 trigger : Nat), s.quiet → s.port.mode ≠ .config →
    s.port.mailbox = .posted (.setMasks m1 m2 m3 m4 trigger) → m2 ≤ 1 → m3 ≤ 1 → m4 ≤ 1 →
    (m1 = 1 → exec .setMasks s = .next (s.withMailbox (refusedReply .badField 1)))
    ∧ (m1 = 0 → (trigger = 1 ∨ trigger = 4 ∨ trigger = 8 ∨ trigger = 16) →
      ∃ t, exec .setMasks s = .next t ∧ s.onlyIn t [.port] ∧ t.port.mailbox = doneReply [] ∧ t.port.notices = s.port.notices
        ∧ t.port.trigger = trigger ∧ (t.port.mask2 = true ↔ m2 = 1) ∧ (t.port.mask3 = true ↔ m3 = 1)
        ∧ (t.port.mask4 = true ↔ m4 = 1) ∧ (t.port.attentionEntries = 0 → t.port.ageTimer = none ∧ t.port.ageCause = false)
        ∧ (s.port.attentionEntries = 0 → t.port.attentionEntries ≠ 0 → t.port.ageTimer = some (s.count + 500)))
    ∧ (m1 = 0 → ¬(trigger = 1 ∨ trigger = 4 ∨ trigger = 8 ∨ trigger = 16) →
      exec .setMasks s = .next (s.withMailbox (refusedReply .badField 5))))
  ∧ (∀ (s : State) (d : Nat), s.quiet → s.port.ageTimer = some d →
    ∃ t, exec .ageTimerExpiry s = .next t ∧ s.onlyIn t [.port, .count] ∧ t.count = max s.count d
      ∧ t.port = { s.port with ageTimer := none, ageCause := true } ∧ t.port.attentionLine = true)

/-! ## Part modes, start block, restart, reads -/

/-- START BLOCK in CONFIG (section 10.6): a block in range is answered DONE and configures each block: RUN, trigger level, N empty
cells, scale, encoder and dust timers, allowance, relay open, ports UP, the permitted range computed, and the first STATUS in the
own-frame queue for each port that is not a chain end, with its timers; a block out of range is refused with no field taken. -/
def Obligations.StartBlockConfiguresThePart : Prop :=
  ∀ (s : State) (f : StartFields), s.quiet → s.port.mode = .config → s.port.mailbox = .posted (.startBlock f) →
    (f.inRange →
      ∃ t, exec .startBlock s = .next t ∧ s.onlyIn t [.cfg, .port, .scale, .belt, .line, .travel, .pour, .dust]
        ∧ t.cfg = some f.block
        ∧ t.port = { s.port with mode := .run, trigger := f.trigger, mailbox := doneReply [] }
        ∧ t.belt = ⟨List.replicate f.cellCount ⟨0, false⟩, 0, 0⟩
        ∧ t.scale = { s.scale with staleTimer := some (s.count + 200), faultTimer := some (s.count + 2000) }
        ∧ t.travel = { s.travel with
            encoderTimer := some (s.count + 100), edgeUp := t.computeEdge .up t.rangeWindow
            edgeDown := t.computeEdge .down t.rangeWindow }
        ∧ t.pour = { s.pour with allowance := some f.allowance }
        ∧ t.dust = ⟨{ s.dust.spout with timer := some (s.count + 1000) }, { s.dust.gallery with timer := some (s.count + 1000) },
            s.dust.peers⟩
        ∧ t.line.relayOpen = true ∧ t.line.up.state = .up ∧ t.line.down.state = .up
        ∧ t.line.up.chainEnd = (f.chainEndUp == 1) ∧ t.line.down.chainEnd = (f.chainEndDown == 1)
        ∧ t.line.up.silenceTimer = (if f.chainEndUp = 1 then none else some (s.count + 600))
        ∧ t.line.down.silenceTimer = (if f.chainEndDown = 1 then none else some (s.count + 600))
        ∧ t.line.statusTimer = some (s.count + 200) ∧ t.line.spacingTimer = some (s.count + 50)
        ∧ t.line.changePending = false
        ∧ ((f.chainEndUp = 0 ∨ f.chainEndDown = 0) → ∃ e ∈ t.line.own, e.kind = .status ∧ e.upSent = (f.chainEndUp == 1)
          ∧ e.downSent = (f.chainEndDown == 1) ∧ e.bytes = frameBytes 0x01 f.station 0 (t.report .run).payload))
    ∧ (¬f.inRange → ∃ index, exec .startBlock s = .next (s.withMailbox (refusedReply .badField index)))

/-- RESTART (section 10.7): its take only gives the RESTARTED reply; the fetch of that reply ends what was in flight, block by block, and
keeps the rest (sections 1.7, 2.8, 3.7, 4.8, 5.11, 6.8, 7.10, 8.10, 9.7 and 10.7): of the session record only the token pass markers
change; of the Bill Store only the open line, closed with cause RESTART at this count, and the spill tally; of the notice queue nothing
stays, the masks and the trigger level do; the notices found after it are the LINE_CLOSED, the SPILL and the DUST notices that it queues,
in that order and no others: that the marks it clears queue no PLAN_MISMATCH is the model's reading (assumption 15). The own-frame queue
and the pass-through queues are emptied, the ports are UP, a frame being sent goes on, and one STATUS of the state that the restart leaves
is issued at once, which a port that is idle takes. -/
def Obligations.RestartEndsOperationsAndKeepsTheRest : Prop :=
  ((∀ s : State, s.quiet → s.port.mode ≠ .config → s.port.mailbox = .posted .restart →
      exec .restart s = .next (s.withMailbox (.taken ⟨.restarted, [[]], 0, false⟩)))
    ∧ (∀ (s : State) (late : Bool), s.quiet → s.port.select = none → s.port.mode ≠ .config →
      s.port.mailbox = .replied ⟨.restarted, [[]], 0, late⟩ →
      ∃ t, exec (.fetchReply .whole) s = .next t ∧ s.agree t .count ∧ s.agree t .cfg ∧ s.agree t .inputs ∧ s.agree t .pending
        ∧ (t.port = { s.port with
            mode := .run, mailbox := .empty, notices := s.restartNotices.map (fun b => ⟨b, s.count % 2 ^ 32, 0⟩), overflow := false
            dropped := 0, ageCause := false, ageTimer := if t.port.attentionEntries = 0 then none else some (s.count + 500)
            spiOut := [0x00, 0x02, 0x00, 0x00] ++ uField 1 1 ++ uField 1 1 ++ flag late ++ uField 2 0 })
        ∧ (∀ x, (t.berth x).mismatch = false ∧ t.session x = (s.session x).map (fun ses =>
            { ses with holds := ses.holds.map (fun d => { d with tokenPass := false }) }))
        ∧ t.scale = { s.scale with zeroRun := none, stillTimer := none }
        ∧ t.belt = ⟨s.belt.cells.map (fun _ => ⟨0, false⟩), 0, 0⟩
        ∧ t.bills = { s.bills.closeLine s.count .restart none none with spill := s.bills.spill + s.belt.content }
        ∧ t.bills.openLines = [] ∧ t.bills.billed = s.bills.billed ∧ t.bills.free = s.bills.free
        ∧ t.peers = []
        ∧ t.travel = { s.travel with
            state := .parked, cause := none, target := none, source := none, direction := none, step := .zero, recovery := none
            sampleSince := false, stopMark := none, encoderTimer := some (s.count + 100), releaseTimer := none
            brakeFailTimer := none, settleTimer := none
            edgeUp := t.computeEdge .up none, edgeDown := t.computeEdge .down none }
        ∧ t.fill.claim = none ∧ t.fill.claimTimer = none
        ∧ (∀ x, s.view x = none → t.view x = none)
        ∧ (∀ x ses rows, s.session x = some ses → s.view x = some rows → t.view x = some ((List.range rows.length).map (fun i =>
            ⟨match t.bills.bill ses.bill with
              | some b => ((b.lines.filter (fun l => l.hold == i + 1)).map BillLine.mass).sum
              | none => 0, [], []⟩)))
        ∧ t.pour = { s.pour with
            state := .idle, phase := none, causes := CauseSet.empty, passSuspended := false, failures := 0
            runoutCause := none, runoutShifts := 0, beltOn := false, watch := .off, gateCommand := .closed
            positioningTimer := none, beltStartTimer := none, beltRetryTimer := none
            gate := match s.pour.gate with
              | .closed => .closed
              | .fault => .fault
              | .opening | .opened | .closing => .closing
            gateTimer := match s.pour.gate with
              | .closed | .fault => none
              | .opening | .opened | .closing => some (s.count + s.block.gateLimit * 1000) }
        ∧ (t.dust.peers = [] ∧ ∀ c, t.dust.channel c = { s.dust.channel c with timer := some (s.count + 1000) })
        ∧ (∃ n bytes, bytes = frameBytes 0x01 s.station 0 (t.report .run).payload
          ∧ t.line.own = (if s.line.up.chainEnd ∧ s.line.down.chainEnd then []
              else [⟨.status, n, bytes, s.line.up.chainEnd, s.line.down.chainEnd⟩])
          ∧ t.line.relayOpen = true ∧ t.line.closing = .none ∧ t.line.changePending = false
          ∧ t.line.statusTimer = some (s.count + 200) ∧ t.line.spacingTimer = some (s.count + 50)
          ∧ ∀ q, t.line.port q = { s.line.port q with
              state := .up, restoreCount := 0, repeatHold := 0, passOver := 0, queue := [], breakTimer := none
              silenceTimer := if (s.line.port q).chainEnd then none else some (s.count + 600)
              sending := if (s.line.port q).sending.isSome ∨ (s.line.port q).chainEnd then (s.line.port q).sending
                else some ⟨bytes, some n⟩ })))
  ∧ (∀ (s t : State) (late : Bool), s.quiet → s.port.select = none →
      s.port.mailbox = .replied ⟨.restarted, [[]], 0, late⟩ →
      exec (.fetchReply .whole) s = .next t →
      t.port.notices.map Notice.body = s.restartNotices)

/-- BYPASS ON and BYPASS OFF (sections 3.7 and 10.7). BYPASS ON in RUN is refused with STATION_BUSY unless the pour is IDLE, travel PARKED
and no zero run RUNNING; accepted, the mode is BYPASS, both pass-through queues are empty and the port timers stop; that change-pending is
cleared then is the model's choice (assumption 45). The last STATUS, of the present report with mode BYPASS, is issued at once with the
spacing timer stopped, and else at that timer's expiry (whose count is the model's choice, assumption 2): it stands alone in the own-frame
queue, a port that is no chain end and idle takes it, and the relay waits for it (`State.lastStatusIssued`). With both ports chain ends
the relay closes at its issue and the status timer stops; that, and that this issue starts the two timers, is the model's reading
(assumption 26). BYPASS OFF returns to RUN with the relay open and both ports UP. -/
def Obligations.BypassLeavesAndRejoinsTheLine : Prop :=
  (∀ s : State, s.quiet → s.port.mode = .run → s.port.mailbox = .posted .bypassOn →
    (¬(s.pour.state = .idle ∧ s.travel.state = .parked ∧ s.scale.zeroRun = none) →
      exec .bypassOn s = .next (s.withMailbox (refusedReply .stationBusy 0)))
    ∧ (s.pour.state = .idle ∧ s.travel.state = .parked ∧ s.scale.zeroRun = none →
      ∃ t, exec .bypassOn s = .next t ∧ s.onlyIn t [.port, .line, .travel]
        ∧ t.port = { s.port with mode := .bypass, mailbox := doneReply [] }
        ∧ t.travel = { s.travel with edgeUp := t.travel.edgeUp, edgeDown := t.travel.edgeDown }
        ∧ t.line.up.queue = [] ∧ t.line.down.queue = [] ∧ t.line.up.silenceTimer = none ∧ t.line.down.silenceTimer = none
        ∧ t.line.up.breakTimer = none ∧ t.line.down.breakTimer = none ∧ t.line.changePending = false
        ∧ (s.line.spacingTimer.isSome → t.line.own = [] ∧ t.line.closing = .spacing ∧ t.line.relayOpen = s.line.relayOpen)
        ∧ (s.line.spacingTimer = none → (s.line.up.chainEnd = false ∨ s.line.down.chainEnd = false) → s.lastStatusIssued t)
        ∧ (s.line.spacingTimer = none → s.line.up.chainEnd = true → s.line.down.chainEnd = true →
            t.line.relayOpen = false ∧ t.line.up.state = .up ∧ t.line.down.state = .up ∧ t.line.statusTimer = none)))
  ∧ (∀ (s : State) (d : Nat), s.quiet → s.line.spacingTimer = some d → s.line.closing = .spacing → s.line.own = [] →
      (∀ q, (s.line.port q).queue = []) →
      ∃ t, exec .spacingTimerExpiry s = .next t ∧ s.onlyIn t [.count, .line, .travel] ∧ t.count = max s.count d
        ∧ t.travel = { s.travel with edgeUp := t.travel.edgeUp, edgeDown := t.travel.edgeDown }
        ∧ ((s.line.up.chainEnd = false ∨ s.line.down.chainEnd = false) → s.lastStatusIssued t)
        ∧ (s.line.up.chainEnd = true → s.line.down.chainEnd = true →
            t.line.own = [] ∧ t.line.relayOpen = false ∧ t.line.closing = .none ∧ t.line.up.state = .up ∧ t.line.down.state = .up
              ∧ t.line.statusTimer = none))
  ∧ (∀ s : State, s.quiet → s.port.mode = .bypass → s.port.mailbox = .posted .bypassOff →
      (s.travel.state = .parked ∨ s.travel.state = .faulted) →
      ∃ t, exec .bypassOff s = .next t ∧ s.onlyIn t [.port, .line, .travel]
        ∧ t.port = { s.port with mode := .run, mailbox := doneReply [] }
        ∧ t.travel = { s.travel with edgeUp := t.travel.edgeUp, edgeDown := t.travel.edgeDown }
        ∧ t.line.relayOpen = true ∧ t.line.closing = .none ∧ t.line.up.state = .up ∧ t.line.down.state = .up
        ∧ t.line.up.restoreCount = 0 ∧ t.line.down.restoreCount = 0 ∧ t.line.up.repeatHold = 0 ∧ t.line.down.repeatHold = 0
        ∧ t.line.up.errors = s.line.up.errors ∧ t.line.down.errors = s.line.down.errors
        ∧ t.line.statusTimer = some (s.count + 200) ∧ t.line.spacingTimer = some (s.count + 50))

/-- The reads (sections 1.6, 4.7, 9.6, 10.5): READ STATION, READ PEERS and READ BILL answer DONE in every mode and change nothing but the
mailbox; READ HOLDS of an OPEN slot then clears TOUCHED on every descriptor of the slot and on nothing else. Pages (section 11.1) are cut
in field order, none longer than 384 bytes when no piece is. That no piece is split, what the pieces and records are, that READ BILL's
header stands before its lines, that a peer's travel code is reported as received, listed or not, and that a peer's dust is reported to
bear on the own pour without regard to its class, are the model's choices (assumptions 16, 17, 22, 44 and 50). -/
def Obligations.ReadsChangeNothingButTouched : Prop :=
  ((∀ s : State, s.quiet → s.port.mailbox = .posted .readStation →
      ∃ pages, exec .readStation s = .next (s.withMailbox (.taken ⟨.done, pages, 0, false⟩))
        ∧ pages.flatten = s.stationPieces.flatten)
    ∧ (∀ s : State, s.quiet → s.port.mailbox = .posted .readPeers →
      ∃ pages, exec .readPeers s = .next (s.withMailbox (.taken ⟨.done, pages, 0, false⟩))
        ∧ pages.flatten = uField 1 s.peers.length ++ s.peers.flatMap s.peerFields
          ++ flag (s.berth .a).mismatch ++ flag (s.berth .b).mismatch)
    ∧ (∀ (s : State) (record start : Nat) (b : Bill), s.quiet → s.port.mailbox = .posted (.readBill record start) →
      1 ≤ record → record ≤ 4 → 1 ≤ start → start ≤ 160 → s.bills.bill record = some b →
      ∃ pages, exec .readBill s = .next (s.withMailbox (.taken ⟨.done, pages, 0, false⟩))
        ∧ pages.flatten = s.billHeader b start ++ uField 1 ((b.lines.drop (start - 1)).take 8).length
          ++ ((b.lines.drop (start - 1)).take 8).flatMap BillLine.record)
    ∧ (∀ (s : State) (slot : Nat) (x : Slot) (ses : Session), s.quiet → s.port.mailbox = .posted (.readHolds slot) →
      Slot.ofCode? slot = some x → s.session x = some ses →
      ∃ t pages, exec .readHolds s = .next t ∧ s.onlyIn t [.port, .berths]
        ∧ t.port = { s.port with mailbox := .taken ⟨.done, pages, 0, false⟩ }
        ∧ pages.flatten = (s.holdsPieces x ses).flatten
        ∧ t.session x = some { ses with holds := ses.holds.map (fun d => { d with touched := false }) }
        ∧ t.berth x.other = s.berth x.other))
  ∧ (∀ pieces : List (List Byte), (∀ p ∈ pieces, p.length ≤ 384) →
      (paginate pieces).flatten = pieces.flatten ∧ (∀ page ∈ paginate pieces, page.length ≤ 384)
      ∧ ∃ cut : List (List (List Byte)), cut.flatten = pieces ∧ paginate pieces = cut.map List.flatten)

/-! ## The Position Map and the Bill Store -/

/-- R2: the span of a session by its orientation, both ends belonging to it; two spans overlap when they have a rail position in
common; the span is computed from the current bow mark, so an accepted SHIFT VESSEL moves it at the acceptance. -/
def Obligations.SpanIsClosedAndFollowsTheBowMark : Prop :=
  (∀ ses : Session,
    (ses.orientation = .bowUp → ∀ p, inside ses.span p = true ↔ ses.bowMark ≤ p ∧ p ≤ ses.bowMark + ses.length)
    ∧ (ses.orientation = .bowDown → ∀ p, inside ses.span p = true ↔ ses.bowMark - ses.length ≤ p ∧ p ≤ ses.bowMark))
  ∧ (∀ s1 s2 : Session, overlap s1.span s2.span = true ↔ ∃ p, inside s1.span p = true ∧ inside s2.span p = true)
  ∧ (∀ (s t : State) (slot bow : Nat) (x : Slot) (ses : Session), s.port.mailbox = .posted (.shiftVessel slot bow) →
      Slot.ofCode? slot = some x → s.session x = some ses → exec .shiftVessel s = .next t → t.port.mailbox = doneReply [] →
      (t.session x).map Session.span = some ({ ses with bowMark := (bow : Int) } : Session).span)

/-- Translation (section 1.4). A result OK names a hold of an OPEN slot under the tip that is entered, planned, open and permitted, with
the tip inside its pour window; and in a session whose windows do not overlap, on the one OPEN slot under the tip, a tip in the pour
window of a hold translates to OK exactly when the plan, hatch and permission checks pass for that hold. The seven faults in their order:
no position, the tip in no OPEN slot's span, in no window of the slot's holds, and for the hold whose window it is in the plan, the hatch,
the permission and the margin. -/
def Obligations.TranslationFindsThePourableHoldUnderTheTip : Prop :=
  (∀ (s : State) (x : Slot) (h : Nat), s.translate = .ok x h →
      ∃ tip ses d p, s.tip = some tip ∧ s.session x = some ses ∧ inside ses.span tip = true ∧ s.hold x h = some d
        ∧ d.plan = some p ∧ p.targets ≠ [] ∧ d.hatchOpen = true
        ∧ (d.permission = .opened ∨ (d.permission = .restricted ∧ d.tokenPass = true))
        ∧ s.window x h = some (ses.pourWindow p) ∧ inside (ses.pourWindow p) tip = true)
  ∧ (∀ (s : State) (x : Slot) (h : Nat) (tip : Int) (ses : Session) (d : Hold) (p : HoldPlan), s.tip = some tip →
      s.session x = some ses → inside ses.span tip = true → (∀ o, s.session x.other = some o → inside o.span tip = false) →
      (∀ i j a b, ses.hold i = some a → ses.hold j = some b → i ≠ j → ∀ q r, a.plan = some q → b.plan = some r →
        overlap (q.fore, q.aft) (r.fore, r.aft) = false) →
      ses.hold h = some d → d.plan = some p → inside (ses.pourWindow p) tip = true →
      (s.translate = .ok x h ↔
        p.targets ≠ [] ∧ d.hatchOpen = true ∧ (d.permission = .opened ∨ (d.permission = .restricted ∧ d.tokenPass = true))))
  ∧ (∀ s : State, s.travel.position = none → s.translate = .fault .noPosition)
  ∧ (∀ (s : State) (tip : Int), s.tip = some tip → (∀ x ses, s.session x = some ses → inside ses.span tip = false) →
      s.translate = .fault .noVessel)
  ∧ (∀ (s : State) (x : Slot) (tip q : Int) (ses : Session), s.tip = some tip → s.session x = some ses →
      inside ses.span tip = true → (∀ o, s.session x.other = some o → inside o.span tip = false) →
      q = (match ses.orientation with
        | .bowUp => tip - ses.bowMark
        | .bowDown => ses.bowMark - tip) →
      ((∀ h d p, ses.hold h = some d → d.plan = some p → ¬((p.fore : Int) ≤ q ∧ q ≤ p.aft)) → s.translate = .fault .betweenHolds)
      ∧ (∀ h d p, ses.hold h = some d → d.plan = some p → (p.fore : Int) ≤ q → q ≤ p.aft →
        (∀ i j a b, ses.hold i = some a → ses.hold j = some b → i ≠ j → ∀ v w, a.plan = some v → b.plan = some w →
          overlap (v.fore, v.aft) (w.fore, w.aft) = false) →
        s.translate =
          if p.targets = [] then .fault .noPlan
          else if d.hatchOpen = false then .fault .hatchClosed
          else if ¬(d.permission = .opened ∨ (d.permission = .restricted ∧ d.tokenPass = true)) then .fault .notPermitted
          else if q < p.fore + p.margin ∨ p.aft - p.margin < q then .fault .margin
          else .ok x h))

/-- OPEN SESSION (sections 1.3.1 and 9.1): a request that passes the checks of R4 (`State.openTable`; one that fails is refused by
`Obligations.RefusedRequestsChangeNothing`) opens the slot with its record and its empty descriptors, opens the lowest-numbered FREE bill
record at the present count and spill tally, and opens a view of empty rows; the reply names the record. With a line open the
translation made at the request that finds MAP as it stands changes nothing of the pour (section 7.6). -/
def Obligations.OpenSessionOpensSlotBillAndView : Prop :=
  ∀ (s : State) (f : SessionFields) (x : Slot) (n : Nat), s.quiet → s.port.mode ≠ .config →
    s.port.mailbox = .posted (.openSession f) → Slot.ofCode? f.slot = some x → (s.openTable f).holds →
    firstFree 1 s.bills.records = some n →
    ∃ t, exec .openSession s = .next t
      ∧ (s.mapStands t → s.onlyIn t [.port, .berths, .fill, .bills, .line]
      ∧ t.port = { s.port with mailbox := doneReply (uField 1 n) }
      ∧ t.berth x = ⟨false, some (f.session n)⟩ ∧ t.berth x.other = s.berth x.other
      ∧ (1 ≤ n ∧ s.bills.bill n = none ∧ ∀ m, 1 ≤ m → m < n → s.bills.bill m ≠ none)
      ∧ t.bills.bill n = some ⟨x, f.planTag, s.count, [], s.bills.spill, none⟩
      ∧ (∀ m, m ≠ n → t.bills.bill m = s.bills.bill m) ∧ t.bills.free = s.bills.free ∧ t.bills.spill = s.bills.spill
      ∧ t.view x = some (List.replicate f.holdCount ⟨0, [], []⟩) ∧ t.view x.other = s.view x.other
      ∧ t.fill.claim = s.fill.claim)

/-- HOLD ENTRY, SET HATCH and PERMIT (sections 1.3.2 and 1.3.3), in every pour state: a request that passes the checks of R3 and its own
(`State.mapTable`; one that fails is refused by `Obligations.RefusedRequestsChangeNothing`). HOLD ENTRY writes the window, margin,
lever, spout limit, targets and permission of the named hold; HATCH OPEN, TOUCHED and the token pass marker stay, and the token stays
only for RESTRICTED. SET HATCH and PERMIT set the one flag of the one descriptor. No other descriptor changes. With a line open the
translation made at the request that finds MAP as it stands changes nothing of the pour (section 7.6); what SET HATCH does else:
`Obligations.MapSuspendsThePourAndSendsTheLoaderBack`. In POSITIONING none of them reaches the pour (section 7.3). -/
def Obligations.DescriptorRequestsWriteOneDescriptor : Prop :=
  (∀ (s : State) (f : HoldFields) (x : Slot) (perm : Permission) (d : Hold), s.quiet → s.port.mode ≠ .config →
      s.port.mailbox = .posted (.holdEntry f) → Slot.ofCode? f.slot = some x →
      Permission.ofCode? f.permission = some perm → s.hold x f.hold = some d → (s.mapTable (.holdEntry f)).holds →
      ∃ t, exec .holdEntry s = .next t
        ∧ (s.mapStands t → s.onlyIn t [.port, .berths]
        ∧ t.port = { s.port with mailbox := doneReply [] }
        ∧ t.hold x f.hold = some { d with
            plan := some ⟨f.fore, f.aft, f.margin, f.lever, f.spoutLimit, f.targets⟩, permission := perm,
            token := if perm = .restricted then d.token else false }
        ∧ (∀ h, h ≠ f.hold → t.hold x h = s.hold x h) ∧ t.berth x.other = s.berth x.other))
  ∧ ((∀ (s : State) (slot hold state : Nat) (x : Slot) (d : Hold), s.quiet → s.port.mode ≠ .config →
      s.port.mailbox = .posted (.setHatch slot hold state) → Slot.ofCode? slot = some x →
      s.hold x hold = some d → (s.mapTable (.setHatch slot hold state)).holds →
      ∃ t, exec .setHatch s = .next t
        ∧ (s.mapStands t → s.onlyIn t [.port, .berths] ∧ t.port = { s.port with mailbox := doneReply [] }
        ∧ t.hold x hold = some { d with hatchOpen := decide (state = 1) }
        ∧ (∀ h, h ≠ hold → t.hold x h = s.hold x h) ∧ t.berth x.other = s.berth x.other))
    ∧ (∀ (s : State) (slot hold : Nat) (x : Slot) (d : Hold), s.quiet → s.port.mode ≠ .config →
      s.port.mailbox = .posted (.permit slot hold) → Slot.ofCode? slot = some x →
      s.hold x hold = some d → (s.mapTable (.permit slot hold)).holds →
      ∃ t, exec .permit s = .next t
        ∧ (s.mapStands t → s.onlyIn t [.port, .berths] ∧ t.port = { s.port with mailbox := doneReply [] }
          ∧ t.hold x hold = some { d with token := true } ∧ (∀ h, h ≠ hold → t.hold x h = s.hold x h)
          ∧ t.berth x.other = s.berth x.other))
    ∧ (∀ (s : State) (slot hold : Nat) (x : Slot) (ses : Session) (d : Hold), s.quiet → s.port.mode ≠ .config →
      s.port.mailbox = .posted (.permit slot hold) → Slot.ofCode? slot = some x →
      s.session x = some ses → hold ≤ ses.holdCount → s.hold x hold = some d → ¬(d.plan.isSome ∧ d.permission = .restricted) →
        exec .permit s = .next (s.withMailbox (refusedReply .notRestricted 0))))

/-- SHIFT VESSEL and SET DRAFT LIMIT (section 1.3.4), the one with no line open and no claim, the other in every pour state (with a
line open the translation made at the request that finds MAP as it stands changes nothing of the pour): the bow mark, or the draft limit
with its notice, and nothing else of the session changes; a bow mark whose span leaves the rail is BAD_FIELD, and one
whose span meets the other vessel's is OVERLAP. -/
def Obligations.ShiftVesselAndDraftLimitChangeOneField : Prop :=
  (∀ (s : State) (slot bow : Nat) (x : Slot) (ses : Session), s.quiet → s.port.mode ≠ .config → s.lineOpen = false →
    s.fill.claim = none → s.port.mailbox = .posted (.shiftVessel slot bow) → Slot.ofCode? slot = some x →
    s.session x = some ses → bow ≤ 1000000 →
    (¬(0 ≤ ({ ses with bowMark := (bow : Int) } : Session).span.1 ∧ ({ ses with bowMark := (bow : Int) } : Session).span.2 ≤ 1000000) →
      exec .shiftVessel s = .next (s.withMailbox (refusedReply .badField 2)))
    ∧ (0 ≤ ({ ses with bowMark := (bow : Int) } : Session).span.1 → ({ ses with bowMark := (bow : Int) } : Session).span.2 ≤ 1000000 →
      ((∃ o p, s.session x.other = some o ∧ inside o.span p = true ∧ inside ({ ses with bowMark := (bow : Int) } : Session).span p = true) →
        exec .shiftVessel s = .next (s.withMailbox (refusedReply .overlap 0)))
      ∧ ((∀ o p, s.session x.other = some o → inside o.span p = true → inside ({ ses with bowMark := (bow : Int) } : Session).span p = false) →
        ∃ t, exec .shiftVessel s = .next t ∧ s.onlyIn t [.port, .berths] ∧ t.port = { s.port with mailbox := doneReply [] }
          ∧ t.session x = some { ses with bowMark := bow } ∧ t.berth x.other = s.berth x.other)))
  ∧ (∀ (s : State) (slot limit : Nat) (x : Slot) (ses : Session), s.quiet → s.port.mode ≠ .config →
    s.port.mailbox = .posted (.setDraftLimit slot limit) → Slot.ofCode? slot = some x → s.session x = some ses →
    (50 ≤ limit ∧ limit ≤ 1400 →
      ∃ t, exec .setDraftLimit s = .next t
        ∧ (s.mapStands t → s.onlyIn t [.port, .berths]
        ∧ t.port = { s.port.raise s.count (.draftLimit x ses.draftLimit limit) with mailbox := doneReply [] }
        ∧ t.session x = some { ses with draftLimit := limit } ∧ t.berth x.other = s.berth x.other))
    ∧ (¬(50 ≤ limit ∧ limit ≤ 1400) → exec .setDraftLimit s = .next (s.withMailbox (refusedReply .badField 2))))

/-- CLOSE SESSION (sections 1.3.5 and 9.5): refused with STATION_BUSY while the own claim is on the slot; accepted, the bill is sealed
with its summary, the view and the descriptors are discarded, and the slot is FREE with MISMATCH clear; with a line open on the other
slot the translation made at the request that finds MAP as it stands changes nothing of the pour (section 7.6). DISCARD BILL (section
9.6): a SEALED bill's lines return to the pool and its record is FREE; a record that is not SEALED is refused with NOT_SEALED;
a record number outside 1..4 is BAD_FIELD. -/
def Obligations.BillsAreSealedAndDiscarded : Prop :=
  (∀ (s : State) (slot : Nat) (x : Slot) (ses : Session) (b : Bill), s.quiet → s.port.mode ≠ .config →
      s.port.mailbox = .posted (.closeSession slot) → Slot.ofCode? slot = some x → s.session x = some ses →
      s.bills.bill ses.bill = some b →
      ((∃ c, s.fill.claim = some c ∧ c.slot = x) →
        exec .closeSession s = .next (s.withMailbox (refusedReply .stationBusy 0)))
      ∧ ((∀ c, s.fill.claim = some c → c.slot ≠ x) →
        ∃ t, exec .closeSession s = .next t
          ∧ (s.mapStands t → s.onlyIn t [.port, .berths, .fill, .bills, .line]
          ∧ t.port.mailbox = doneReply (uField 1 ses.bill)
          ∧ t.berth x = ⟨false, none⟩ ∧ t.berth x.other = s.berth x.other
          ∧ t.view x = none ∧ t.view x.other = s.view x.other ∧ t.fill.claim = s.fill.claim
          ∧ (∀ m, m ≠ ses.bill → t.bills.bill m = s.bills.bill m) ∧ t.bills.spill = s.bills.spill
          ∧ t.bills.free = s.bills.free
          ∧ ∃ m, t.bills.bill ses.bill = some { b with summary := some m }
            ∧ m.delivered.length = ses.holdCount
            ∧ (∀ h, 1 ≤ h → h ≤ ses.holdCount → m.delivered[h - 1]? =
                some ((b.lines.filter (fun l => l.hold == h)).map BillLine.mass).sum)
            ∧ m.lineCount = b.lines.length ∧ m.spill = s.bills.spill - b.snapshot ∧ m.displacement = ses.displacement
            ∧ m.allowance = s.pour.allowance.getD 0 ∧ m.sealTime = (s.count - b.opening) / 1000)))
  ∧ (∀ (s : State) (record : Nat), s.quiet → s.port.mode ≠ .config → s.port.mailbox = .posted (.discardBill record) →
      (¬(1 ≤ record ∧ record ≤ 4) → exec .discardBill s = .next (s.withMailbox (refusedReply .badField 1)))
      ∧ (1 ≤ record → record ≤ 4 → (∀ b, s.bills.bill record = some b → b.summary = none) →
        exec .discardBill s = .next (s.withMailbox (refusedReply .notSealed 0)))
      ∧ (∀ b, 1 ≤ record → record ≤ 4 → s.bills.bill record = some b → b.summary.isSome →
        ∃ t, exec .discardBill s = .next t ∧ s.onlyIn t [.port, .bills]
          ∧ t.port = { s.port with mailbox := doneReply (uField 1 b.lines.length) }
          ∧ t.bills.bill record = none ∧ (∀ m, m ≠ record → t.bills.bill m = s.bills.bill m)
          ∧ t.bills.free = s.bills.free + b.lines.length ∧ t.bills.spill = s.bills.spill))

/-! ## The Belt Scale, the Belt Register and the zero run -/

/-- LOAD SAMPLE (sections 2.2 and 2.3), with no zero run (during one: `Obligations.ZeroRunMeansTheRawCounts`): the net load is rounded
half up, clamped to 0 below the tare or the zero band and to 1500 above it; the status, the episode and both timers follow, and the
notices that the change owes are queued; in CONFIG the sample is discarded. A sample that finds the pour SUSPENDED by SCALE alone, its
belt running and its tip over the hold, removes the cause (section 7.6), and the pour re-enters STARTING and commands the gate open
again. The order LOAD_OVERRANGE, SCALE_STATE, POUR_SUSPENDED is the model's choice (assumption 37). The load timers take the status to
STALE and then to FAULT, which suspends a pour under way with cause SCALE, its belt left running. The count at an expiry is the model's
choice (assumption 2). -/
def Obligations.LoadSamplesAndTimersSetTheLoadStatus : Prop :=
  (∀ (s : State) (raw : BitVec 16), s.quiet →
      (s.port.mode = .config → exec (.loadSample raw) s = .next s)
      ∧ (s.port.mode ≠ .config → s.scale.zeroRun = none → (s.lineOpen = false ∨ s.pour.causes.scale = false) →
        ∀ r : Nat, r = raw.toNat → ∀ net, net = (if r < s.scale.tare then 0 else ((r - s.scale.tare) * s.block.span + 2048) / 4096) →
        ∀ zero, zero = decide (r < s.scale.tare ∨ net < s.block.zeroBand) → ∀ high, high = (!zero && decide (1500 < net)) →
        ∃ t, exec (.loadSample raw) s = .next t ∧ s.onlyIn t [.scale, .port]
          ∧ t.scale = { s.scale with
              load := if zero then 0 else if high then 1500 else net
              status := if high then .overrange else .ok
              episode := high
              staleTimer := some (s.count + 200), faultTimer := some (s.count + 2000) }
          ∧ (t.port.mailbox = s.port.mailbox ∧ t.port.mode = s.port.mode)
          ∧ ((high = false ∨ s.scale.episode = true) → s.scale.status ≠ .stale → s.scale.status ≠ .fault → t.port = s.port)
          ∧ (high = true → s.scale.episode = false → s.scale.status ≠ .stale → s.scale.status ≠ .fault →
              t.port = s.port.raise s.count (.loadOverrange r))
          ∧ ((high = false ∨ s.scale.episode = true) → (s.scale.status = .stale ∨ s.scale.status = .fault) →
              t.port = s.port.raise s.count (.scaleState (if high then .overrange else .ok)))
          ∧ (high = true → s.scale.episode = false → (s.scale.status = .stale ∨ s.scale.status = .fault) →
              t.port = (s.port.raise s.count (.loadOverrange r)).raise s.count (.scaleState .overrange)))
      ∧ (∀ k, s.port.mode ≠ .config → s.scale.zeroRun = none → s.scale.status = .fault → s.pour.state = .suspended →
        s.pour.causes = { CauseSet.empty with scale := true } → s.pour.beltOn = true → s.pour.watch = .running →
        (s.pour.gate = .closed ∨ s.pour.gate = .closing) → s.fill.claim = some k → s.translate = .ok k.slot k.hold →
        (s.holdTotal k.slot k.hold : Int) < ((k.target : Int) - (s.pour.allowance.getD 0 : Nat)) * 1000 →
        ∃ t, exec (.loadSample raw) s = .next t ∧ s.onlyIn t [.scale, .port, .pour, .line]
          ∧ (t.scale.status = .ok ∨ t.scale.status = .overrange)
          ∧ t.pour = { s.pour with
              state := .starting, phase := some .gateWait, causes := CauseSet.empty, gate := .opening
              gateTimer := some (s.count + s.block.gateLimit * 1000)
              gateCommand := if s.throttle then .openReduced else .openFull }
          ∧ t.port = s.port.raiseAll s.count
            ((if t.scale.status = .overrange ∧ s.scale.episode = false then [.loadOverrange raw.toNat] else [])
              ++ [.scaleState t.scale.status, .pourSuspended k.slot k.hold CauseSet.empty])))
  ∧ ((∀ (s : State) (d : Nat), s.quiet → s.scale.staleTimer = some d → (s.scale.status = .ok ∨ s.scale.status = .overrange) →
      (s.lineOpen = false ∨ s.pour.causes.scale = false) →
      exec .loadStaleTimerExpiry s = .next { s with
        count := max s.count d, scale := { s.scale with staleTimer := none, status := .stale },
        port := s.port.raise (max s.count d) (.scaleState .stale) })
    ∧ (∀ (s : State) (d : Nat), s.quiet → s.scale.faultTimer = some d → s.scale.status = .stale → s.lineOpen = false →
      exec .loadFaultTimerExpiry s = .next { s with
        count := max s.count d, scale := { s.scale with faultTimer := none, status := .fault },
        port := s.port.raise (max s.count d) (.scaleState .fault) })
    ∧ (∀ (s : State) (d : Nat) (c : OwnClaim), s.quiet → s.scale.faultTimer = some d → s.scale.status = .stale →
      (s.pour.state = .pouring ∨ s.pour.state = .throttled) → s.pour.causes = CauseSet.empty → s.fill.claim = some c →
      s.pour.gate = .opened →
      ∃ t, exec .loadFaultTimerExpiry s = .next t ∧ t.scale.status = .fault ∧ t.scale.load = s.scale.load
        ∧ t.pour.state = .suspended ∧ t.pour.causes = { CauseSet.empty with scale := true } ∧ t.pour.gateCommand = .closed
        ∧ t.pour.gate = .closing ∧ (s.pour.beltOn = true → t.pour.beltOn = true)))

/-- BELT PULSE inside a cell (sections 2.4 and 2.5.1), in every pour state: the pulse mass by the load status is added to the tail, the belt
content and the scale total alike, the mark is set in OVERRANGE and STALE, the phase advances, and nothing else changes unless the
pulse reaches the close decision's target in POURING or THROTTLED (`Obligations.CloseDecisionMeasuresTheHoldTotal`) or finds a
run-out over (section 7.8). In CONFIG the pulse is discarded. -/
def Obligations.BeltPulseWeighsIntoTheTail : Prop :=
  (∀ s : State, s.quiet → s.port.mode = .config → exec .beltPulse s = .next s)
  ∧ (∀ (s : State) (tail : Cell) (rest : List Cell), s.quiet → s.belt.cells = tail :: rest →
      s.port.mode ≠ .config → s.scale.zeroRun = none → s.belt.phase < 15 →
      ∀ m : Nat, m = (match s.scale.status with
        | .ok | .stale => s.scale.load * s.block.pulseLength
        | .overrange => 1500 * s.block.pulseLength
        | .fault => 0) →
      (s.pour.state = .pouring ∨ s.pour.state = .throttled → ∃ c, s.fill.claim = some c ∧ c.phase = .active
        ∧ ((s.holdTotal c.slot c.hold + m : Nat) : Int) < ((c.target : Int) - (s.pour.allowance.getD 0 : Nat)) * 1000) →
      (s.pour.state = .runout → s.pour.gate = .closing ∨ (s.pour.gate = .fault ∧ s.pour.gateFault = some .closeFailed)
        ∨ (0 < s.belt.content ∧ s.pour.runoutShifts < 2 * s.block.cellCount)) →
      exec .beltPulse s = .next { s with
        belt := { cells := ⟨tail.mass + m, tail.marked || s.scale.status == .overrange || s.scale.status == .stale⟩ :: rest
                  phase := s.belt.phase + 1, content := s.belt.content + m }
        scale := { s.scale with total := s.scale.total + m } })

/-- The 16th pulse (sections 2.5.1 and 2.5.2), which weighs into the tail like any other, with no close decision reached and no run-out
over (its gate not yet CLOSED, or grain still on the belt and shifts to come), in every pour state: the head cell leaves, an empty cell
enters at the tail, and a run-out counts the shift. A leaving mass whose translation is OK for the open line goes to that line, to own
delivered of its row and to TOUCHED of its descriptor, and to nothing else: the line's bill, every other line, bill, row, view and
descriptor stay as they were. Any other leaving mass, with a line open or with none, goes to the spill tally alone, with a SPILL notice
that names the fault kind, or UNBILLED for a hold that is not the open line's. A cell that leaves with mass 0 causes nothing. -/
def Obligations.LeavingCellIsAttributedOnce : Prop :=
  ∀ (s : State) (tail head : Cell) (rest init : List Cell) (m : Nat) (u : Cell), s.quiet → s.port.mode ≠ .config → s.scale.zeroRun = none →
    s.belt.cells = tail :: rest → s.belt.phase = 15 →
    m = (match s.scale.status with
      | .ok | .stale => s.scale.load * s.block.pulseLength
      | .overrange => 1500 * s.block.pulseLength
      | .fault => 0) →
    u = ⟨tail.mass + m, tail.marked || s.scale.status == .overrange || s.scale.status == .stale⟩ →
    u :: rest = init ++ [head] → head.mass ≤ s.belt.content + m →
    (s.pour.state = .pouring ∨ s.pour.state = .throttled → ∃ c, s.fill.claim = some c ∧ c.phase = .active
      ∧ ((s.holdTotal c.slot c.hold + m : Nat) : Int) < ((c.target : Int) - (s.pour.allowance.getD 0 : Nat)) * 1000) →
    (s.pour.state = .runout → s.pour.gate = .opening ∨ s.pour.gate = .opened ∨ s.pour.gate = .closing
      ∨ (s.pour.gate = .fault ∧ s.pour.gateFault = some .closeFailed)
      ∨ (0 < s.belt.content + m - head.mass ∧ s.pour.runoutShifts + 1 < 2 * s.block.cellCount)) →
    ∀ (belt : Belt) (scale : Scale) (pour : Pour), belt = ⟨⟨0, false⟩ :: init, 0, s.belt.content + m - head.mass⟩ →
    scale = { s.scale with total := s.scale.total + m } →
    pour = { s.pour with
      runoutShifts := if s.pour.state = .runout then min (s.pour.runoutShifts + 1) 65535 else s.pour.runoutShifts } →
    (head.mass = 0 → exec .beltPulse s = .next { s with belt := belt, scale := scale, pour := pour })
    ∧ (∀ cause, 0 < head.mass → (∀ k, s.translate = .fault k → cause = .fault k) →
        (∀ x h, s.translate = .ok x h → cause = .unbilled ∧ ∀ l, s.bills.openLine = some l → ¬(l.slot = x ∧ l.hold = h)) →
        exec .beltPulse s = .next { s with
          belt := belt, scale := scale, pour := pour, bills := { s.bills with spill := s.bills.spill + head.mass }
          port := s.port.raise s.count (.spill cause (head.mass / 1000) ((s.bills.spill + head.mass) / 1000)) })
    ∧ (∀ (l : BillLine) (x : Slot) (h : Nat) (rows : List Row) (row : Row) (ses : Session) (d : Hold), s.lineOpen = true →
        0 < head.mass → s.translate = .ok x h → s.bills.openLines = [l] → l.slot = x → l.hold = h → s.view x = some rows →
        rows[h - 1]? = some row → s.session x = some ses → ses.hold h = some d →
        (∀ c, s.fill.claim = some c → c.slot = x ∧ c.hold = h) →
        ∃ t, exec .beltPulse s = .next t ∧ s.onlyIn t [.belt, .scale, .bills, .fill, .berths, .pour]
          ∧ t.belt = belt ∧ t.scale = scale ∧ t.pour = pour
          ∧ t.bills = { s.bills with records := s.bills.records.map (fun r => r.map (fun b => { b with
              lines := b.lines.map (fun k => if k.cause = none then
                { k with mass := k.mass + head.mass, estimated := if head.marked then k.estimated + head.mass else k.estimated }
              else k) })) }
          ∧ t.bills.openLines = [{ l with
              mass := l.mass + head.mass, estimated := if head.marked then l.estimated + head.mass else l.estimated }]
          ∧ t.bills.billed = s.bills.billed + head.mass
          ∧ t.fill = (match x with
            | .a => { s.fill with viewA := some (rows.set (h - 1) { row with delivered := row.delivered + head.mass }) }
            | .b => { s.fill with viewB := some (rows.set (h - 1) { row with delivered := row.delivered + head.mass }) })
          ∧ t.berth x = { s.berth x with session := some { ses with holds := ses.holds.set (h - 1) { d with touched := true } } }
          ∧ t.berth x.other = s.berth x.other)

/-- The zero run (section 2.6). ZERO SCALE in RUN is refused with STATION_BUSY while a run is RUNNING, the pour not IDLE, the gate not
CLOSED or a dust channel in TRIP or HELD; accepted, the run records the tare and starts with zero counts, its still timer and the
belt. A sample sets net load, load status, episode and timers as with no run (sections 2.2 and 2.3), and is summed and counted; one whose
excess over the old tare is above 20 kg/m ends the run, the tare left as it was, with ZERO_FAILED of reason NOT_EMPTY and its raw count.
The order of a sample's notices is the model's choice (assumption 37). A
pulse, the pour IDLE, adds no mass (a 16th one shifts the register, a leaving mass being spilled), counts, restarts the still timer
and, at the loop's length, ends the run: with the rounded mean as the tare, or failed by SCALE or NO_SAMPLES; the still timer fails
it by NO_BELT, at the count that assumption 2 gives. -/
def Obligations.ZeroRunMeansTheRawCounts : Prop :=
  (∀ s : State, s.quiet → s.port.mode = .run → s.port.mailbox = .posted .zeroScale →
      (¬(s.scale.zeroRun = none ∧ s.pour.state = .idle ∧ s.pour.gate = .closed
          ∧ ∀ c, (s.dust.channel c).state ≠ .trip ∧ (s.dust.channel c).state ≠ .held) →
        exec .zeroScale s = .next (s.withMailbox (refusedReply .stationBusy 0)))
      ∧ (s.scale.zeroRun = none → s.pour.state = .idle → s.pour.gate = .closed →
          (∀ c, (s.dust.channel c).state ≠ .trip ∧ (s.dust.channel c).state ≠ .held) →
        ∃ t, exec .zeroScale s = .next t ∧ s.onlyIn t [.port, .scale]
          ∧ t.port = { s.port with mailbox := doneReply [] }
          ∧ t.scale = { s.scale with zeroRun := some ⟨s.scale.tare, 0, 0, 0⟩, stillTimer := some (s.count + 10000) }
          ∧ t.beltRunOutput = true))
  ∧ (∀ (s : State) (raw : BitVec 16) (z : ZeroRun), s.quiet → s.port.mode ≠ .config → s.scale.zeroRun = some z →
      (s.lineOpen = false ∨ s.pour.causes.scale = false) → ∀ r : Nat, r = raw.toNat →
      ∀ excess, excess = (if r < z.oldTare then 0 else ((r - z.oldTare) * s.block.span + 2048) / 4096) →
      ∀ net, net = (if r < s.scale.tare then 0 else ((r - s.scale.tare) * s.block.span + 2048) / 4096) →
      ∀ zero, zero = decide (r < s.scale.tare ∨ net < s.block.zeroBand) → ∀ high, high = (!zero && decide (1500 < net)) →
      ∃ t, exec (.loadSample raw) s = .next t ∧ s.onlyIn t [.scale, .port]
        ∧ t.scale = { s.scale with
            load := if zero then 0 else if high then 1500 else net
            status := if high then .overrange else .ok
            episode := high
            staleTimer := some (s.count + 200), faultTimer := some (s.count + 2000)
            zeroRun := if 20 < excess then none else some ⟨z.oldTare, z.pulses, z.sampleSum + r, z.sampleCount + 1⟩
            stillTimer := if 20 < excess then none else s.scale.stillTimer }
        ∧ t.port = s.port.raiseAll s.count ((if high = true ∧ s.scale.episode = false then [.loadOverrange r] else [])
            ++ (if 20 < excess then [.zeroFailed .notEmpty (some r)] else [])
            ++ (if s.scale.status = .stale ∨ s.scale.status = .fault then [.scaleState (if high then .overrange else .ok)] else [])))
  ∧ ((∀ (s u : State) (z : ZeroRun), s.quiet → s.port.mode ≠ .config → s.scale.zeroRun = some z → s.pour.state = .idle →
      s.bills.openLine = none →
      ((s.belt.phase < 15 ∧ u = { s with belt := { s.belt with phase := s.belt.phase + 1 } })
        ∨ (∃ init head, s.belt.phase = 15 ∧ s.belt.cells = init ++ [head] ∧ head.mass = 0
          ∧ u = { s with belt := ⟨⟨0, false⟩ :: init, 0, s.belt.content⟩ })
        ∨ (∃ init head cause, s.belt.phase = 15 ∧ s.belt.cells = init ++ [head] ∧ 0 < head.mass
          ∧ (∀ x h, s.translate = .ok x h → cause = .unbilled) ∧ (∀ k, s.translate = .fault k → cause = .fault k)
          ∧ u = { s with
              belt := ⟨⟨0, false⟩ :: init, 0, s.belt.content - head.mass⟩
              bills := { s.bills with spill := s.bills.spill + head.mass }
              port := s.port.raise s.count (.spill cause (head.mass / 1000) ((s.bills.spill + head.mass) / 1000)) })) →
      ∃ t, exec .beltPulse s = .next t ∧ u.onlyIn t [.scale, .port] ∧ t.scale.total = s.scale.total
        ∧ (z.pulses + 1 < s.block.beltLoop →
            t.scale = { s.scale with zeroRun := some { z with pulses := z.pulses + 1 }, stillTimer := some (s.count + 10000) }
            ∧ t.port = u.port)
        ∧ (s.block.beltLoop ≤ z.pulses + 1 → t.scale.zeroRun = none ∧ t.scale.stillTimer = none
            ∧ ((s.scale.status = .stale ∨ s.scale.status = .fault) →
                t.scale.tare = s.scale.tare ∧ t.port = u.port.raise s.count (.zeroFailed .scale none))
            ∧ ((s.scale.status = .ok ∨ s.scale.status = .overrange) → z.sampleCount = 0 →
                t.scale.tare = s.scale.tare ∧ t.port = u.port.raise s.count (.zeroFailed .noSamples none))
            ∧ ((s.scale.status = .ok ∨ s.scale.status = .overrange) → 0 < z.sampleCount →
                t.scale.tare = (z.sampleSum + z.sampleCount / 2) / z.sampleCount
                ∧ t.port = u.port.raise s.count (.zeroDone z.oldTare t.scale.tare))))
    ∧ (∀ (s : State) (z : ZeroRun) (d : Nat), s.quiet → s.scale.zeroRun = some z → s.scale.stillTimer = some d →
      exec .stillTimerExpiry s = .next { s with
        count := max s.count d, scale := { s.scale with zeroRun := none, stillTimer := none },
        port := s.port.raise (max s.count d) (.zeroFailed .noBelt none) }))

/-! ## The Dust Monitor -/

/-- R149, R150: an accepted sample updates the history, the clear count and the runs, and the channel is classified: the trip
condition first, then by the state before. -/
def Obligations.DustSampleIsClassified : Prop :=
  ∀ (r : DustChannel) (th : Thresholds) (v : Nat), r.state ≠ .failed → r.history.length ≤ 32 →
    ∃ u, u = r.sample th v false
      ∧ u.history = (if r.history.length < 32 then r.history ++ [min v 4095] else r.history.tail ++ [min v 4095])
      ∧ u.last = some (min v 4095)
      ∧ u.clearCount = (u.history.filter (fun x => th.clear < x)).length
      ∧ u.raiseRun = (if th.raise < min v 4095 then min (r.raiseRun + 1) 255 else 0)
      ∧ u.tripRun = (if th.trip < min v 4095 then min (r.tripRun + 1) 255 else 0)
      ∧ (u.state, u.acknowledged) =
          if 2 ≤ u.tripRun then (.trip, if r.state = .trip then r.acknowledged else false)
          else match r.state with
            | .clear | .watch =>
              (if 4 ≤ u.raiseRun then .alarm else if 1 ≤ u.raiseRun then .watch else .clear, r.acknowledged)
            | .alarm => (if u.clearCount < 4 then .clear else .alarm, r.acknowledged)
            | .trip => if u.clearCount < 4 then (if r.acknowledged then (.clear, false) else (.held, false)) else (.trip, r.acknowledged)
            | .held => (.held, r.acknowledged)
            | .failed => (.failed, r.acknowledged)

/-- DUST SAMPLE (section 8.2), where the channel's state does not change: the timer restarts, the sample hold of SPOUT is the
translation's, the channel takes the sample, and nothing else changes; in CONFIG the sample is discarded. Failure and recovery (section
8.4): a fault flag or a silent line takes a channel to FAILED with its latch kept or not; eight good samples in a row bring it back, to
HELD with the latch kept and to CLEAR without. A channel that goes silent (sections 8.6 and 8.8) queues the notices of its change, at the
count that assumption 2 gives, before those of the pour (assumption 14) and without a last value (assumption 46), and with no line open
changes nothing else; SPOUT out of TRIP in RUN issues a DUST frame; one out of TRIP or HELD takes DUST_OWN off a pour SUSPENDED by it,
unless the other channel stands in TRIP or HELD; and SPOUT in FAILED throttles a pour. What a sample that changes the state does is
`Obligations.DustChangesReachThePour`. -/
def Obligations.DustChannelsSampleFailAndRecover : Prop :=
  (∀ (s : State) (c : Channel) (v : BitVec 16) (fault : Bool), s.quiet →
      (s.port.mode = .config → exec (.dustSample c v fault) s = .next s)
      ∧ (s.port.mode ≠ .config →
        ∀ u, u = s.dustSampled c v fault →
        (u.state = (s.dust.channel c).state →
          ∃ t, exec (.dustSample c v fault) s = .next t ∧ s.onlyIn t [.dust] ∧ t.dust.channel c = u ∧ t.dust.peers = s.dust.peers
            ∧ ∀ e, e ≠ c → t.dust.channel e = s.dust.channel e)
        ∧ (∀ t, exec (.dustSample c v fault) s = .next t → t.dust.channel c = u)))
  ∧ (∀ (r : DustChannel) (th : Thresholds) (v : Nat),
      (r.state ≠ .failed →
        (r.sample th v true) = { r with
          state := .failed, latchKept := r.state == .held || (r.state == .trip && !r.acknowledged), acknowledged := false
          cause := some .faultFlag, history := [], clearCount := 0, raiseRun := 0, tripRun := 0, goodRun := 0, last := none }
        ∧ r.silent = { r with
          state := .failed, latchKept := r.state == .held || (r.state == .trip && !r.acknowledged), acknowledged := false
          cause := some .silent, history := [], clearCount := 0, raiseRun := 0, tripRun := 0, goodRun := 0, last := none
          timer := none })
      ∧ (r.state = .failed →
        r.sample th v true = { r with goodRun := 0 } ∧ r.silent = { r with goodRun := 0, timer := none }
        ∧ (r.goodRun + 1 < 8 → r.sample th v false = { r with goodRun := r.goodRun + 1 })
        ∧ (r.goodRun = 7 → r.sample th v false = { r with
            state := if r.latchKept then .held else .clear, latchKept := false, cause := none, goodRun := 0 })))
  ∧ (∀ (s : State) (c : Channel) (d : Nat) (u : DustChannel) (old : DustClass), s.quiet → (s.dust.channel c).timer = some d →
      u = (s.dust.channel c).silent → old = (s.dust.channel c).state →
      ∃ t, exec (.dustSampleTimerExpiry c) s = .next t ∧ t.count = max s.count d ∧ t.dust.channel c = u ∧ t.dust.peers = s.dust.peers
        ∧ (∀ e, e ≠ c → t.dust.channel e = s.dust.channel e)
        ∧ (old = .failed → s.onlyIn t [.count, .dust])
        ∧ (old ≠ .failed → s.lineOpen = false → s.onlyIn t [.count, .dust, .port, .line] ∧ (c = .gallery → t.line = s.line)
          ∧ t.port = s.port.raiseAll t.count (dustNotices c old u))
        ∧ (c = .spout → s.port.mode = .run → old = .trip → (s.line.up.chainEnd = false ∨ s.line.down.chainEnd = false) →
          ∃ e ∈ t.line.own, e.kind = .dust ∧ e.upSent = s.line.up.chainEnd ∧ e.downSent = s.line.down.chainEnd
            ∧ e.bytes = frameBytes 0x03 s.station 0
              (presence [t.translate.hold?.isSome] ++ [DustClass.failed.code] ++ holdField t.translate.hold?))
        ∧ (∀ e, e ≠ c → (old = .trip ∨ old = .held) → s.pour.state = .suspended → s.pour.causes.dustOwn = true →
          ((s.dust.channel e).state = .trip ∨ (s.dust.channel e).state = .held →
            s.onlyIn t [.count, .dust, .port, .line] ∧ t.port = s.port.raiseAll t.count (dustNotices c old u))
          ∧ (∀ k, (s.dust.channel e).state ≠ .trip → (s.dust.channel e).state ≠ .held →
            s.pour.causes = { CauseSet.empty with dustOwn := true } → s.pour.beltOn = false → s.inputs.beltRunning = false →
            s.fill.claim = some k → s.translate = .ok k.slot k.hold →
            s.onlyIn t [.count, .dust, .port, .line, .pour] ∧ t.pour = ({ s with count := t.count } : State).resumed
            ∧ t.port = s.port.raiseAll t.count (dustNotices c old u ++ [.pourSuspended k.slot k.hold CauseSet.empty])))
        ∧ (c = .spout → old ≠ .failed → s.pour.causes = CauseSet.empty → s.dust.gallery.state ≠ .trip → s.dust.gallery.state ≠ .held →
          (s.pour.state = .pouring → s.pour.gate = .opened →
            s.onlyIn t [.count, .dust, .port, .line, .pour] ∧ t.port = s.port.raiseAll t.count (dustNotices c old u)
            ∧ t.pour = { s.pour with state := .throttled, gateCommand := .openReduced })
          ∧ (s.pour.state = .starting → s.pour.phase = some .gateWait → s.pour.gate = .opening →
            s.onlyIn t [.count, .dust, .port, .line, .pour] ∧ t.port = s.port.raiseAll t.count (dustNotices c old u)
            ∧ t.pour = { s.pour with gateCommand := .openReduced })))

/-- DUST ACKNOWLEDGE (section 8.5): its effect on the channel and its reply, by the channel's state. In HELD the channel is CLEAR after
it: a DUST_TRIP of the state left is queued, and no DUST frame issued, since no entry to TRIP and no change out of it is one of HELD
(sections 8.6 and 8.8). With no line open nothing else changes, but for the STATUS of a SPOUT change; with a pour SUSPENDED, DUST_OWN
stays while the other channel is in TRIP or HELD, and is removed otherwise, on which a pour held by it alone, its tip still over the hold
and its belt stopped, starts its belt again. That the channel's notice stands before that of the pour is the model's choice (assumption
14). -/
def Obligations.DustAcknowledgeActsByTheChannelsState : Prop :=
  ∀ (s : State) (n : Nat) (c : Channel), s.quiet → s.port.mode ≠ .config → s.port.mailbox = .posted (.dustAcknowledge n) →
    (n = 1 ∧ c = .spout ∨ n = 2 ∧ c = .gallery) →
    ((s.dust.channel c).state = .trip →
      ∃ t, exec .dustAcknowledge s = .next t ∧ s.onlyIn t [.port, .dust] ∧ t.port = { s.port with mailbox := doneReply [] }
        ∧ t.dust.channel c = { s.dust.channel c with acknowledged := true } ∧ t.dust.peers = s.dust.peers
        ∧ ∀ e, e ≠ c → t.dust.channel e = s.dust.channel e)
    ∧ ((s.dust.channel c).state = .held →
      ∃ t, exec .dustAcknowledge s = .next t
        ∧ t.dust.channel c = { s.dust.channel c with state := .clear, acknowledged := false } ∧ t.dust.peers = s.dust.peers
        ∧ (∀ e, e ≠ c → t.dust.channel e = s.dust.channel e) ∧ t.port.mailbox = doneReply []
        ∧ (∀ e ∈ t.line.own, e.kind = .dust → e ∈ s.line.own) ∧ (c = .gallery → s.lineOpen = false → t.line = s.line)
        ∧ (s.lineOpen = false → s.onlyIn t [.port, .dust, .line]
          ∧ t.port = { s.port.raise s.count (.dustTrip c .clear (s.dust.channel c).last (s.dust.channel c).sampleHold) with
              mailbox := doneReply [] })
        ∧ (∀ e, e ≠ c → s.pour.state = .suspended → s.pour.causes.dustOwn = true →
          ((s.dust.channel e).state = .trip ∨ (s.dust.channel e).state = .held) →
            s.onlyIn t [.port, .dust, .line]
            ∧ t.port = { s.port.raise s.count (.dustTrip c .clear (s.dust.channel c).last (s.dust.channel c).sampleHold) with
                mailbox := doneReply [] })
        ∧ (∀ e k, e ≠ c → s.pour.state = .suspended → s.pour.causes = { CauseSet.empty with dustOwn := true } →
          (s.dust.channel e).state ≠ .trip → (s.dust.channel e).state ≠ .held → s.pour.beltOn = false →
          s.inputs.beltRunning = false → s.fill.claim = some k → s.translate = .ok k.slot k.hold →
            s.onlyIn t [.port, .dust, .line, .pour] ∧ t.pour = s.resumed
            ∧ t.port = { s.port.raiseAll s.count [.dustTrip c .clear (s.dust.channel c).last (s.dust.channel c).sampleHold,
                .pourSuspended k.slot k.hold CauseSet.empty] with mailbox := doneReply [] }))
    ∧ ((s.dust.channel c).state = .failed → (s.dust.channel c).latchKept = true →
      ∃ t, exec .dustAcknowledge s = .next t ∧ s.onlyIn t [.port, .dust] ∧ t.port = { s.port with mailbox := doneReply [] }
        ∧ t.dust.channel c = { s.dust.channel c with latchKept := false })
    ∧ (((s.dust.channel c).state = .clear ∨ (s.dust.channel c).state = .watch ∨ (s.dust.channel c).state = .alarm
          ∨ ((s.dust.channel c).state = .failed ∧ (s.dust.channel c).latchKept = false)) →
      exec .dustAcknowledge s = .next (s.withMailbox (refusedReply .notTripped 0)))

/-- A DUST SAMPLE that changes its channel's state (sections 8.3, 8.6 to 8.8 and 7.5, 7.6). The channel's own notices before those of the
pour and of the zero run are the model's choice (assumption 14), and that at a change to FAILED they carry no last value is too
(assumption 46), and so is that DUST_FAILED at the exit from FAILED carries no cause and the latch kept flag as the exit leaves it, clear
(assumption 22). With the pour IDLE: the notices of the state left and of the state entered, a zero run aborted by an entry to TRIP or
HELD, and no other block but the line. A DUST frame at a change of SPOUT into or out of TRIP in RUN, with the translation at its issue.
With a line open: an entry of either channel to TRIP or HELD suspends the pour with cause DUST_OWN, its gate closing and its belt stopped;
the last such channel leaving them removes it, and the pour, its tip still over the hold, starts its belt again; SPOUT in ALARM or FAILED
throttles, and its leaving them ends that. -/
def Obligations.DustChangesReachThePour : Prop :=
  ∀ (s : State) (c : Channel) (v : BitVec 16) (fault : Bool) (u : DustChannel) (old : DustClass) (stops : Prop), s.quiet →
    s.port.mode ≠ .config → u = s.dustSampled c v fault → old = (s.dust.channel c).state → u.state ≠ old →
    stops = (u.state = .trip ∨ u.state = .held) →
    ∃ t, exec (.dustSample c v fault) s = .next t ∧ t.dust.channel c = u ∧ (∀ e, e ≠ c → t.dust.channel e = s.dust.channel e)
      ∧ t.dust.peers = s.dust.peers
      ∧ (s.pour.state = .idle → s.onlyIn t [.dust, .port, .scale, .line] ∧ (c = .gallery → t.line = s.line)
          ∧ (stops → s.scale.zeroRun.isSome →
              t.scale = { s.scale with zeroRun := none, stillTimer := none }
                ∧ t.port = s.port.raiseAll s.count (dustNotices c old u ++ [.zeroFailed .dust none]))
          ∧ (¬stops ∨ s.scale.zeroRun = none → t.scale = s.scale ∧ t.port = s.port.raiseAll s.count (dustNotices c old u)))
      ∧ (c = .spout → s.port.mode = .run → (old = .trip ∨ u.state = .trip) →
          (s.line.up.chainEnd = false ∨ s.line.down.chainEnd = false) →
          ∃ e ∈ t.line.own, e.kind = .dust ∧ e.upSent = s.line.up.chainEnd ∧ e.downSent = s.line.down.chainEnd
            ∧ e.bytes = frameBytes 0x03 s.station 0
              (presence [t.translate.hold?.isSome] ++ [u.state.code] ++ holdField t.translate.hold?))
      ∧ (∀ k, stops → (s.pour.state = .pouring ∨ s.pour.state = .throttled) → s.pour.gate = .opened →
          s.pour.causes = CauseSet.empty → s.scale.zeroRun = none → s.fill.claim = some k →
          s.onlyIn t [.dust, .port, .line, .pour, .bills] ∧ t.pour = s.stoppedBy .dustOwn ∧ t.bills = s.bills.countSuspension
            ∧ t.port = s.port.raiseAll s.count
              (dustNotices c old u ++ [.pourSuspended k.slot k.hold { CauseSet.empty with dustOwn := true }]))
      ∧ (∀ k, ¬stops → (∀ e, e ≠ c → (s.dust.channel e).state ≠ .trip ∧ (s.dust.channel e).state ≠ .held) →
          s.pour.state = .suspended → s.pour.causes = { CauseSet.empty with dustOwn := true } → s.pour.beltOn = false →
          s.inputs.beltRunning = false → s.fill.claim = some k → s.translate = .ok k.slot k.hold →
          s.onlyIn t [.dust, .port, .line, .pour] ∧ t.pour = s.resumed
            ∧ t.port = s.port.raiseAll s.count (dustNotices c old u ++ [.pourSuspended k.slot k.hold CauseSet.empty]))
      ∧ (c = .spout → s.pour.causes = CauseSet.empty → s.dust.gallery.state ≠ .trip → s.dust.gallery.state ≠ .held →
          ((u.state = .alarm ∨ u.state = .failed) → s.pour.state = .pouring → s.pour.gate = .opened →
            t.pour = { s.pour with state := .throttled, gateCommand := .openReduced })
          ∧ ((u.state = .alarm ∨ u.state = .failed) → s.pour.state = .starting → s.pour.phase = some .gateWait →
              s.pour.gate = .opening → t.pour = { s.pour with gateCommand := .openReduced })
          ∧ ((u.state = .clear ∨ u.state = .watch) → (∀ q ∈ s.dust.peers, q.freshness = .fresh → q.spout ≠ .alarm) →
              s.pour.state = .throttled → s.pour.gate = .opened →
              t.pour = { s.pour with state := .pouring, gateCommand := .openFull }))

/-! ## The Travel Controller -/

/-- MOVE from PARKED (sections 5.4, 5.9), with no claim or, inside the pour window of the claim's hold, with a line open: within the
arrival tolerance it has arrived (ARRIVED queued, PARKED); with the stop point within the tolerance it is HELD (TRAVEL_HELD queued);
otherwise RELEASING with both brake timers. -/
def Obligations.MoveFromParkedReleasesHoldsOrArrives : Prop :=
  ∀ (s : State) (target : Nat) (pos : Int) (r : Range), s.quiet → s.port.mode = .run → s.port.mailbox = .posted (.move target) →
    s.block.railLower ≤ target → (target : Int) ≤ s.block.railUpper → s.travel.position = some pos → s.travel.range = some r →
    s.travel.state = .parked →
    (s.lineOpen = false ∧ s.fill.claim = none
      ∨ ∃ c w, s.lineOpen = true ∧ s.fill.claim = some c ∧ s.loaderWindow c.slot c.hold = some w
        ∧ w.1 ≤ (target : Int) ∧ (target : Int) ≤ w.2) →
    (¬fartherThan s.block.tolerance pos target →
      ∃ t, exec .move s = .next t ∧ s.onlyIn t [.travel, .port]
        ∧ t.travel = { s.travel with
            target := none, source := none, direction := none, step := .zero, stopMark := none, releaseTimer := none
            brakeFailTimer := none, settleTimer := none }
        ∧ t.port = { s.port.raise s.count (.arrived pos target .host) with mailbox := doneReply [] })
    ∧ (fartherThan s.block.tolerance pos target →
        ¬fartherThan s.block.tolerance pos (stopPointOf r.lower r.upper pos target) →
      ∃ t, exec .move s = .next t ∧ s.onlyIn t [.travel, .port, .line]
        ∧ t.travel = { s.travel with state := .held, target := some (target : Int), source := some .host, stopMark := none, settleTimer := none }
        ∧ t.port = { s.port.raise s.count (.travelHeld (if (target : Int) < pos then r.lowerTerm else r.upperTerm) pos target) with
            mailbox := doneReply [] })
    ∧ (fartherThan s.block.tolerance pos target →
        fartherThan s.block.tolerance pos (stopPointOf r.lower r.upper pos target) →
      ∃ t, exec .move s = .next t ∧ s.onlyIn t [.travel, .port, .line]
        ∧ t.travel = { s.travel with
            state := .releasing, target := some (target : Int), source := some .host, settleTimer := none
            releaseTimer := some (s.count + s.block.releaseDelay)
            brakeFailTimer := some (s.count + s.block.releaseDelay + 1000) }
        ∧ t.travel.brakeReleaseOutput = true ∧ t.travel.output = none
        ∧ t.port = { s.port with mailbox := doneReply [] })

/-- MOVE in every other state, and its refusals (sections 5.4, 5.6, 5.8, 5.9). The checks in their order: OUT_OF_RANGE, NO_POSITION,
TRAVEL_FAULTED, STATION_BUSY with a claim and no line open, OUT_OF_WINDOW with a line open. Accepted, with no claim or with a line open:
in RELEASING and SETTLING the target is replaced and nothing else happens; in MOVING the move stops at a target that is reached, at a
target behind (a reversal) or at the edge, or goes on at the step of its profile; in HELD the order arrives, starts or stays held. HELD
does the same at a sample, with the pour IDLE. -/
def Obligations.OrdersAreReplacedByTheTravelState : Prop :=
  (∀ (s : State) (target : Nat), s.quiet → s.port.mode = .run → s.port.mailbox = .posted (.move target) →
    (¬(s.block.railLower ≤ target ∧ (target : Int) ≤ s.block.railUpper) →
      exec .move s = .next (s.withMailbox (refusedReply .outOfRange 0)))
    ∧ (s.block.railLower ≤ target → (target : Int) ≤ s.block.railUpper →
      (s.travel.position = none → exec .move s = .next (s.withMailbox (refusedReply .noPosition 0)))
      ∧ (∀ pos, s.travel.position = some pos →
        (s.travel.state = .faulted → exec .move s = .next (s.withMailbox (refusedReply .travelFaulted 0)))
        ∧ (s.travel.state ≠ .faulted →
          (s.fill.claim.isSome → s.lineOpen = false → exec .move s = .next (s.withMailbox (refusedReply .stationBusy 0)))
          ∧ (∀ c w, s.lineOpen = true → s.fill.claim = some c → s.loaderWindow c.slot c.hold = some w →
              ¬(w.1 ≤ (target : Int) ∧ (target : Int) ≤ w.2) →
              exec .move s = .next (s.withMailbox (refusedReply .outOfWindow 0)))
          ∧ ((s.lineOpen = false ∧ s.fill.claim = none
                ∨ ∃ c w, s.lineOpen = true ∧ s.fill.claim = some c ∧ s.loaderWindow c.slot c.hold = some w
                  ∧ w.1 ≤ (target : Int) ∧ (target : Int) ≤ w.2) →
            (s.travel.state = .releasing ∨ s.travel.state = .settling →
              exec .move s = .next { s with
                travel := { s.travel with target := some (target : Int), source := some .host }
                port := { s.port with mailbox := doneReply [] } })
            ∧ (∀ dir r, s.travel.state = .moving → s.travel.direction = some dir → s.travel.range = some r →
              ∃ t, exec .move s = .next t ∧ s.onlyIn t [.travel, .port, .line] ∧ t.port = { s.port with mailbox := doneReply [] }
                ∧ t.travel.target = some (target : Int) ∧ t.travel.source = some .host
                ∧ (if ¬fartherThan s.block.tolerance pos target then
                    t.travel.state = .settling ∧ t.travel.stopMark = some .target ∧ t.travel.step = .zero
                      ∧ t.travel.settleTimer = some (s.count + 1000)
                  else if (dir = .up ∧ pos < target) ∨ (dir = .down ∧ (target : Int) < pos) then
                    t.travel.state = .settling ∧ t.travel.stopMark = some .reversal ∧ t.travel.step = .zero
                      ∧ t.travel.settleTimer = some (s.count + 1000)
                  else if ¬fartherThan s.block.tolerance pos (stopPointOf r.lower r.upper pos target) then
                    t.travel.state = .settling ∧ t.travel.stopMark = some .edge ∧ t.travel.step = .zero
                      ∧ t.travel.settleTimer = some (s.count + 1000)
                  else t.travel.state = .moving ∧ t.travel.direction = some dir
                    ∧ t.travel.step = (if s.lineOpen = true ∨ (s.nearest dir).any (fun e => e.freshness != .fresh) then .creep
                        else profileOf s.block.slowDown s.block.creep
                          ((stopPointOf r.lower r.upper pos target - pos).natAbs : Int))))
            ∧ (∀ r, s.travel.state = .held → s.travel.range = some r →
              ∃ t, exec .move s = .next t ∧ s.onlyIn t [.travel, .port, .line] ∧ t.port.mailbox = doneReply []
                ∧ (if ¬fartherThan s.block.tolerance pos target then
                    t.travel.state = .parked ∧ t.travel.target = none ∧ t.travel.source = none
                      ∧ t.port = { s.port.raise s.count (.arrived pos target .host) with mailbox := doneReply [] }
                  else if stopPointOf r.lower r.upper pos target = target
                      ∨ fartherThan s.block.creep pos (stopPointOf r.lower r.upper pos target) then
                    t.travel.state = .releasing ∧ t.travel.target = some (target : Int) ∧ t.travel.source = some .host
                      ∧ t.travel.releaseTimer = some (s.count + s.block.releaseDelay)
                      ∧ t.travel.brakeFailTimer = some (s.count + s.block.releaseDelay + 1000)
                      ∧ t.port = { s.port with mailbox := doneReply [] }
                  else t.travel = { s.travel with target := some (target : Int), source := some .host }
                    ∧ t.port = { s.port with mailbox := doneReply [] })))))))
  ∧ (∀ (s : State) (v : BitVec 20) (x pos target : Int) (src : OrderSource), s.quiet → x = v.toNat → s.port.mode ≠ .config →
    s.pour.state = .idle → x ≤ 1000000 → s.travel.position = some pos → ¬fartherThan 300 x pos → s.travel.state = .held →
    s.travel.target = some target → s.travel.source = some src →
    ∃ t r, exec (.positionSample v) s = .next t ∧ s.onlyIn t [.travel, .port, .line] ∧ t.travel.range = some r
      ∧ t.travel.position = some x
      ∧ (if ¬fartherThan s.block.tolerance x target then
          t.travel.state = .parked ∧ t.travel.target = none ∧ t.travel.source = none
            ∧ t.port = s.port.raise s.count (.arrived x target src)
        else if stopPointOf r.lower r.upper x target = target
            ∨ fartherThan s.block.creep x (stopPointOf r.lower r.upper x target) then
          t.travel.state = .releasing ∧ t.travel.target = some target ∧ t.travel.source = some src ∧ t.port = s.port
            ∧ t.travel.releaseTimer = some (s.count + s.block.releaseDelay)
        else t.travel.state = .held ∧ t.travel.target = some target ∧ t.travel.source = some src ∧ t.port = s.port))

/-- STOP TRAVEL (section 5.9), by the travel state (R96's table, `State.travelStopped`) and by the pour state: nothing more in IDLE and
RUNOUT; in CLAIMING the claim is dropped with CLAIM_RESULT of reason STOPPED; in POSITIONING it is withdrawn with cause STOPPED; with a
line open RUNOUT is entered with cause STOPPED (one that ends at its entry: `Obligations.EndPourByPourState`). That the direction is dropped at the entry to
SETTLING is the model's reading (assumption 25). FAULT CLEAR (section 5.10): its checks in
order, and, with the pour IDLE, its effect: the recovery sample becomes the position after an encoder fault, and travel is PARKED with
its cause and recovery sample gone, and, with the pour SUSPENDED by TRAVEL alone, its belt running and its tip over the hold, the
removal of the cause, the gate commanded open again (section 7.6); that the range is then computed afresh is the model's reading
(assumption 18). (In POSITIONING: `Obligations.StartingOpensTheLineAndTheBelt`; with MAP held:
`Obligations.MapSuspendsThePourAndSendsTheLoaderBack`.) -/
def Obligations.StopTravelAndFaultClearEndOrders : Prop :=
  (∀ s : State, s.quiet → s.port.mode ≠ .config → s.port.mailbox = .posted .stopTravel →
      (s.pour.state = .idle ∨ s.pour.state = .runout →
        ∃ t, exec .stopTravel s = .next t ∧ s.onlyIn t [.travel, .port, .line] ∧ t.port = { s.port with mailbox := doneReply [] }
          ∧ t.travel = s.travelStopped)
      ∧ (∀ c, s.pour.state = .claiming → s.fill.claim = some c →
        ∃ t, exec .stopTravel s = .next t ∧ s.onlyIn t [.travel, .port, .line, .fill, .pour] ∧ t.travel = s.travelStopped
          ∧ t.fill.claim = none ∧ t.fill.claimTimer = none ∧ (∀ g, ∀ k ∈ (t.row c.slot g).claims, k.station ≠ s.station)
          ∧ t.view c.slot.other = s.view c.slot.other ∧ t.pour = { s.pour with state := .idle }
          ∧ t.port = { s.port.raise s.count (.claimResult c.slot c.hold c.pass c.target (some .stopped)) with
              mailbox := doneReply [] })
      ∧ (∀ c, s.pour.state = .positioning → s.fill.claim = some c →
        ∃ t, exec .stopTravel s = .next t ∧ s.onlyIn t [.travel, .port, .line, .fill, .pour, .berths] ∧ t.travel = s.travelStopped
          ∧ t.fill.claim = none ∧ (∀ g, ∀ k ∈ (t.row c.slot g).claims, k.station ≠ s.station)
          ∧ (∀ hd, s.hold c.slot c.hold = some hd → t.hold c.slot c.hold = some { hd with tokenPass := false })
          ∧ t.pour = { s.pour with state := .idle, positioningTimer := none }
          ∧ t.port = { s.port.raise s.count (.claimWithdrawn c.slot c.hold .stopped c.pass c.target) with
              mailbox := doneReply [] })
      ∧ (s.lineOpen = true → s.pour.state ≠ .runout → s.runoutGoesOn →
        ∃ t, exec .stopTravel s = .next t ∧ s.onlyIn t [.travel, .port, .line, .pour] ∧ t.travel = s.travelStopped
          ∧ s.stoppedPour t ∧ t.port = { s.port with mailbox := doneReply [] }))
  ∧ (∀ s : State, s.quiet → s.port.mode ≠ .config → s.port.mailbox = .posted .faultClear →
      (s.travel.state ≠ .faulted → exec .faultClear s = .next (s.withMailbox (refusedReply .notFaulted 0)))
      ∧ (s.travel.state = .faulted →
          (s.travel.encoderFault = true ∧ s.travel.recovery = none ∨ s.travel.encoderFault = false ∧ s.travel.sampleSince = false) →
        exec .faultClear s = .next (s.withMailbox (refusedReply .noPosition 0)))
      ∧ (s.travel.state = .faulted →
          (s.travel.encoderFault = true ∧ s.travel.recovery ≠ none ∨ s.travel.encoderFault = false ∧ s.travel.sampleSince = true) →
        (s.inputs.brakeReleased = true → exec .faultClear s = .next (s.withMailbox (refusedReply .brakeReleased 0)))
        ∧ (s.inputs.brakeReleased = false → s.pour.state = .idle → s.pour.causes.map = false →
          ∃ t, exec .faultClear s = .next t ∧ s.onlyIn t [.travel, .port, .line] ∧ t.port = { s.port with mailbox := doneReply [] }
            ∧ t.travel = { s.travel with
                position := if s.travel.encoderFault then s.travel.recovery else s.travel.position
                state := .parked, cause := none, recovery := none, sampleSince := false, edgeUp := t.computeEdge .up t.rangeWindow
                edgeDown := t.computeEdge .down t.rangeWindow })
        ∧ (∀ k, s.inputs.brakeReleased = false → s.pour.state = .suspended → s.pour.causes = { CauseSet.empty with travel := true } →
          s.pour.beltOn = true → s.pour.watch = .running → (s.pour.gate = .closed ∨ s.pour.gate = .closing) →
          s.fill.claim = some k → ({ s with travel := { s.travel with
            position := if s.travel.encoderFault then s.travel.recovery else s.travel.position } } : State).translate = .ok k.slot k.hold →
          (s.holdTotal k.slot k.hold : Int) < ((k.target : Int) - (s.pour.allowance.getD 0 : Nat)) * 1000 →
          ∃ t, exec .faultClear s = .next t ∧ s.onlyIn t [.travel, .port, .line, .pour] ∧ t.travel.state = .parked
            ∧ t.travel.cause = none
            ∧ t.pour = { s.pour with
                state := .starting, phase := some .gateWait, causes := CauseSet.empty, gate := .opening
                gateTimer := some (s.count + s.block.gateLimit * 1000)
                gateCommand := if s.throttle then .openReduced else .openFull }
            ∧ t.port = { s.port.raise s.count (.pourSuspended k.slot k.hold CauseSet.empty) with mailbox := doneReply [] })))

/-- POSITION SAMPLE (section 5.2), with no line open (in POSITIONING too, where one that brings the tip into the window starts nothing,
by the model's choice: assumption 38): the five cases in their order. In CONFIG the sample is discarded. Every sample
restarts the encoder timer, and an accepted one, travel at rest, computes the permitted range afresh. An accepted sample in MOVING
with no line open (section 5.6): at or past the target, and at the stop point, travel goes to SETTLING; otherwise the speed step
follows the distance to the stop point, lowered to CREEP for a RETURN order and toward a side whose nearest peer is not
FRESH. -/
def Obligations.PositionSamplesAreJudgedInOrder : Prop :=
  (∀ (s : State) (v : BitVec 20), s.quiet → ∀ x : Int, x = v.toNat →
    (s.port.mode = .config → exec (.positionSample v) s = .next s)
    ∧ (s.port.mode ≠ .config → s.lineOpen = false →
      (1000000 < x → s.travel.encoderFault = true →
        exec (.positionSample v) s = .next { s with travel := { s.travel with encoderTimer := some (s.count + 100) } })
      ∧ (x ≤ 1000000 → s.travel.encoderFault = true →
        exec (.positionSample v) s = .next { s with
          travel := { s.travel with encoderTimer := some (s.count + 100), recovery := some x } })
      ∧ (s.travel.encoderFault = false → s.travel.state ≠ .faulted →
          (1000000 < x ∨ ∃ p, s.travel.position = some p ∧ x ≤ 1000000 ∧ fartherThan 300 x p) →
        ∃ t cause, exec (.positionSample v) s = .next t ∧ s.onlyIn t [.travel, .port, .line]
          ∧ cause = (if 1000000 < x then TravelFault.encoderRange else .encoderJump)
          ∧ t.travel = { s.travel with
              state := .faulted, cause := some cause, target := none, source := none, direction := none, step := .zero
              recovery := none, sampleSince := false, stopMark := none, releaseTimer := none, brakeFailTimer := none
              settleTimer := none, encoderTimer := some (s.count + 100) }
          ∧ t.travel.positionValid = false ∧ t.travel.brakeReleaseOutput = false ∧ t.travel.output = none
          ∧ t.port = s.port.raise s.count (.travelFault cause s.travel.position))
      ∧ (s.travel.encoderFault = false → x ≤ 1000000 → (∀ p, s.travel.position = some p → ¬fartherThan 300 x p) →
          s.travel.state ≠ .moving → s.travel.state ≠ .held →
        ∃ t, exec (.positionSample v) s = .next t ∧ s.onlyIn t [.travel]
          ∧ t.travel = { s.travel with
              position := some x, encoderTimer := some (s.count + 100), edgeUp := t.computeEdge .up none
              edgeDown := t.computeEdge .down none, sampleSince := s.travel.sampleSince || s.travel.state == .faulted })))
  ∧ (∀ (s t : State) (v : BitVec 20) (dir : Side), s.quiet → ∀ x : Int, x = v.toNat → ∀ (pos target : Int) (r : Range),
    s.port.mode ≠ .config → s.lineOpen = false → x ≤ 1000000 → s.travel.position = some pos → ¬fartherThan 300 x pos →
    s.travel.state = .moving → s.travel.target = some target → s.travel.direction = some dir →
    exec (.positionSample v) s = .next t → t.travel.range = some r →
    t.travel.position = some x ∧ t.travel.target = some target ∧
    (if ¬fartherThan s.block.tolerance x target ∨ (dir = .up ∧ x < target) ∨ (dir = .down ∧ target < x) then
      t.travel.state = .settling ∧ t.travel.stopMark = some .target ∧ t.travel.step = .zero
        ∧ t.travel.settleTimer = some (s.count + 1000)
    else if ¬fartherThan s.block.tolerance x (stopPointOf r.lower r.upper x target) then
      t.travel.state = .settling ∧ t.travel.stopMark = some .edge ∧ t.travel.step = .zero
        ∧ t.travel.settleTimer = some (s.count + 1000)
    else t.travel.state = .moving ∧ t.travel.direction = some dir
      ∧ t.travel.step = (if s.travel.source = some .returning ∨ (s.nearest dir).any (fun e => e.freshness != .fresh) then .creep
          else profileOf s.block.slowDown s.block.creep ((stopPointOf r.lower r.upper x target - x).natAbs : Int))))

/-- The permitted range (section 5.3). It never lets an order past the rail limits or closer than the separation to the reported
position of a FRESH nearest peer, nor to its target while it heads toward this station, nor, for one that is not FRESH, closer than its
position and the stale margin; a side whose bound is the present position lets no order beyond it. Each edge is one of its terms, and at
equal values the credit goes to PEER or NO_PEER, then WINDOW, then RAIL: an edge credited RAIL is the rail limit, every other term being
less tight; one credited WINDOW the window's end, the side's own term being less tight; and one credited NO_PEER, on a side that is no
chain end, or PEER has exactly the value of the side's table (`State.sideTerm`). Every edge is computed, with or without a position, but
for one that the present position would set while it is unknown: that one is not computed (assumption 25). That a side with a nearest
peer is credited PEER whatever its report is the model's reading (assumption 32). -/
def Obligations.PermittedRangeKeepsTheSeparation : Prop :=
  (∀ (s : State) (w : Option (Int × Int)) (lo : Int × EdgeTerm), s.computeEdge .up w = some lo →
    s.block.railLower ≤ lo.1 ∧ (∀ iv, w = some iv → iv.1 ≤ lo.1)
    ∧ (∀ e q, s.nearest .up = some e → e.report = some q → q.positionValid = true →
        (e.freshness = .fresh → q.position + s.block.separation ≤ lo.1
            ∧ (∀ goal, q.target = some goal → (q.travel = 0x02 ∨ q.travel = 0x03) → goal + s.block.separation ≤ lo.1))
        ∧ (e.freshness ≠ .fresh → q.position + s.block.separation + 5000 ≤ lo.1))
    ∧ (∀ pos, s.travel.position = some pos →
        (∀ e, s.nearest .up = some e → positionKnown e.report = false → pos ≤ lo.1)
        ∧ (s.nearest .up = none → s.line.up.chainEnd = false → pos ≤ lo.1))
    ∧ (lo = (s.block.railLower, .rail) ∨ (∃ iv, w = some iv ∧ lo = (iv.1, .window)) ∨ (s.nearest .up = none ∧ lo.2 = .noPeer)
      ∨ ∃ e, s.nearest .up = some e ∧ lo.2 = .peer e.station))
  ∧ (∀ (s : State) (w : Option (Int × Int)) (hi : Int × EdgeTerm), s.computeEdge .down w = some hi →
    hi.1 ≤ s.block.railUpper ∧ (∀ iv, w = some iv → hi.1 ≤ iv.2)
    ∧ (∀ e q, s.nearest .down = some e → e.report = some q → q.positionValid = true →
        (e.freshness = .fresh → hi.1 ≤ q.position - s.block.separation
            ∧ (∀ goal, q.target = some goal → (q.travel = 0x02 ∨ q.travel = 0x03) → hi.1 ≤ goal - s.block.separation))
        ∧ (e.freshness ≠ .fresh → hi.1 ≤ q.position - s.block.separation - 5000))
    ∧ (∀ pos, s.travel.position = some pos →
        (∀ e, s.nearest .down = some e → positionKnown e.report = false → hi.1 ≤ pos)
        ∧ (s.nearest .down = none → s.line.down.chainEnd = false → hi.1 ≤ pos))
    ∧ (hi = (s.block.railUpper, .rail) ∨ (∃ iv, w = some iv ∧ hi = (iv.2, .window)) ∨ (s.nearest .down = none ∧ hi.2 = .noPeer)
      ∨ ∃ e, s.nearest .down = some e ∧ hi.2 = .peer e.station))
  ∧ (∀ (s : State) (side : Side) (w : Option (Int × Int)) (edge : Int × EdgeTerm), s.computeEdge side w = some edge →
    (edge.2 = .rail → edge.1 = s.railEnd side ∧ (∀ iv, w = some iv → sense side * windowEnd iv side < sense side * edge.1)
      ∧ ∀ value term, s.sideTerm side value term → sense side * value < sense side * edge.1)
    ∧ (edge.2 = .window → (∃ iv, w = some iv ∧ edge.1 = windowEnd iv side)
      ∧ ∀ value term, s.sideTerm side value term → sense side * value < sense side * edge.1)
    ∧ ((edge.2 = .noPeer ∨ ∃ n, edge.2 = .peer n) → s.sideTerm side edge.1 edge.2))
  ∧ (∀ (s : State) (side : Side) (w : Option (Int × Int)), s.computeEdge side w = none ↔
      s.travel.position = none ∧ ((s.nearest side = none ∧ (s.line.port side).chainEnd = false)
        ∨ ∃ e, s.nearest side = some e ∧ positionKnown e.report = false))

/-- R75: the nearest peer of a side, among its entries whatever their freshness: no entry of the side has a smaller distance, nor,
at that distance, a position nearer this station, nor, at the same position, a lower number; and an entry with a report goes
before one without. -/
def Obligations.NearestPeerRanksFirst : Prop :=
  ∀ (s : State) (side : Side),
    (s.nearest side = none ↔ ∀ e ∈ s.peers, e.side ≠ side)
    ∧ ∀ n, s.nearest side = some n → n ∈ s.peers ∧ n.side = side ∧ ∀ e ∈ s.peers, e.side = side →
        n.distance ≤ e.distance
        ∧ (e.distance = n.distance → n.report = none → e.report = none)
        ∧ (e.distance = n.distance → n.report = none → e.report = none → n.station ≤ e.station)
        ∧ (∀ q r, e.distance = n.distance → n.report = some q → e.report = some r →
            (side = .up → r.position ≤ q.position) ∧ (side = .down → q.position ≤ r.position)
            ∧ (r.position = q.position → n.station ≤ e.station))
        ∧ ∀ g : PeerEntry → Freshness,
            (({ s with peers := s.peers.map (fun e => { e with freshness := g e }) } : State).nearest side).map PeerEntry.station
              = some n.station

/-- The encoder timer (section 5.2): with an encoder fault standing it discards the recovery sample; otherwise, with no line open,
travel is FAULTED with ENCODER_SILENT, replacing cause BRAKE; the timer is not restarted. The brake-released input at rest and in MOVING
(section 5.8), with no line open, faults travel with BRAKE where it is out of place; elsewhere only its level is kept. With a line open
(sections 5.10 and 7.6) every entry to FAULTED (`State.faultsTravel`: a sample out of range or a jump, the encoder timer, the brake
input, its two timers) adds cause TRAVEL: a pour with its gate open is suspended, the belt left running; a pour SUSPENDED or in RUNOUT
holds the cause besides. The count at an expiry (assumption 2), the level kept in CONFIG (assumption 7) and a change to the level
already held (assumption 4) are the model's choices. -/
def Obligations.EncoderAndBrakeFaultTravel : Prop :=
  (∀ (s : State) (d : Nat), s.quiet → s.travel.encoderTimer = some d →
      (s.travel.encoderFault = true →
        exec .encoderTimerExpiry s = .next { s with
          count := max s.count d, travel := { s.travel with encoderTimer := none, recovery := none } })
      ∧ (s.travel.encoderFault = false → s.lineOpen = false →
        ∃ t, exec .encoderTimerExpiry s = .next t ∧ s.onlyIn t [.count, .travel, .port, .line] ∧ t.count = max s.count d
          ∧ t.travel.state = .faulted ∧ t.travel.cause = some .encoderSilent ∧ t.travel.position = s.travel.position
          ∧ t.travel.positionValid = false ∧ t.travel.recovery = none ∧ t.travel.encoderTimer = none
          ∧ (s.travel.state ≠ .faulted → t.travel.target = none ∧ t.travel.source = none ∧ t.travel.direction = none)
          ∧ t.port = s.port.raise t.count (.travelFault .encoderSilent s.travel.position)))
  ∧ (∀ (s : State) (active : Bool), s.quiet →
      ((s.port.mode = .config ∨ s.travel.state = .settling ∨ s.travel.state = .faulted
          ∨ (active = false ∧ (s.travel.state = .parked ∨ s.travel.state = .held)) ∨ (active = true ∧ s.travel.state = .moving)) →
        exec (.brakeReleasedChange active) s = .next { s with inputs := { s.inputs with brakeReleased := active } })
      ∧ (s.port.mode ≠ .config → s.lineOpen = false →
          ((active = true ∧ (s.travel.state = .parked ∨ s.travel.state = .held)) ∨ (active = false ∧ s.travel.state = .moving)) →
        ∃ t, exec (.brakeReleasedChange active) s = .next t ∧ s.onlyIn t [.inputs, .travel, .port, .line]
          ∧ t.inputs = { s.inputs with brakeReleased := active }
          ∧ t.travel.state = .faulted ∧ t.travel.cause = some .brake ∧ t.travel.target = none ∧ t.travel.step = .zero
          ∧ t.travel.position = s.travel.position
          ∧ t.port = s.port.raise s.count (.travelFault .brake s.travel.position)))
  ∧ (∀ (s : State) (c : Instr) (cause : TravelFault) (k : OwnClaim), s.quiet → s.faultsTravel c cause → s.fill.claim = some k →
      ((s.pour.state = .pouring ∨ s.pour.state = .throttled) → s.pour.gate = .opened → s.pour.causes = CauseSet.empty →
        s.pour.beltOn = true →
        ∃ t, exec c s = .next t ∧ s.onlyIn t [.inputs, .travel, .port, .line, .pour, .bills]
          ∧ t.travel.state = .faulted ∧ t.travel.cause = some cause ∧ t.travel.target = none ∧ t.travel.source = none
          ∧ t.travel.direction = none ∧ t.travel.step = .zero ∧ t.travel.position = s.travel.position
          ∧ t.pour = s.heldBy .travel ∧ t.bills = s.bills.countSuspension
          ∧ t.port = s.port.raiseAll s.count [.travelFault cause s.travel.position,
              .pourSuspended k.slot k.hold { CauseSet.empty with travel := true }])
      ∧ ((s.pour.state = .suspended ∨ s.pour.state = .runout) → s.pour.causes.travel = false →
        s.pour.beltOn = !s.pour.causes.stopsBelt → (s.pour.beltOn = false → s.pour.watch = .off ∧ s.pour.beltStartTimer = none) →
        ∃ t, exec c s = .next t ∧ s.onlyIn t [.inputs, .travel, .port, .line, .pour]
          ∧ t.travel.state = .faulted ∧ t.travel.cause = some cause ∧ t.travel.target = none ∧ t.travel.source = none
          ∧ t.pour = { s.pour with causes := { s.pour.causes with travel := true }, passSuspended := true }
          ∧ t.port = s.port.raiseAll s.count [.travelFault cause s.travel.position,
              .pourSuspended k.slot k.hold { s.pour.causes with travel := true }]))

/-- RELEASING (section 5.5): the release timer with the brake released, or the brake's release after it, starts the move toward the stop
point in the direction of the target, or goes to SETTLING where the stop point is within the arrival tolerance; the brake fail timer
faults travel with BRAKE. The count at an expiry is the model's choice (assumption 2). The end of settling (section 5.7), with the
pour IDLE: the brake check first; then no target, target reached, and the stop point found afresh, whatever mark the stop
carried. -/
def Obligations.ReleasingAndSettlingEndByTheBrake : Prop :=
  ((∀ (s : State) (d : Nat) (pos target : Int) (r : Range), s.quiet → s.travel.state = .releasing → s.travel.position = some pos →
      s.travel.range = some r → s.travel.target = some target → s.travel.releaseTimer = some d →
      (s.inputs.brakeReleased = false →
        exec .releaseTimerExpiry s = .next { s with
          count := max s.count d, travel := { s.travel with releaseTimer := none } })
      ∧ (s.inputs.brakeReleased = true → fartherThan s.block.tolerance pos (stopPointOf r.lower r.upper pos target) →
        ∃ t, exec .releaseTimerExpiry s = .next t ∧ s.onlyIn t [.count, .travel, .line] ∧ t.count = max s.count d
          ∧ t.travel = { s.travel with
              state := .moving, direction := some (if target < pos then .up else .down), releaseTimer := none
              brakeFailTimer := none, step := t.travel.step }
          ∧ t.travel.output = some (if target < pos then .up else .down, t.travel.step) ∧ t.travel.step ≠ .zero
          ∧ (s.lineOpen = true → t.travel.step = .creep))
      ∧ (s.inputs.brakeReleased = true → ¬fartherThan s.block.tolerance pos (stopPointOf r.lower r.upper pos target) →
        ∃ t, exec .releaseTimerExpiry s = .next t ∧ s.onlyIn t [.count, .travel, .line] ∧ t.count = max s.count d
          ∧ t.travel.state = .settling ∧ t.travel.target = some target ∧ t.travel.source = s.travel.source
          ∧ t.travel.step = .zero ∧ t.travel.output = none ∧ t.travel.brakeReleaseOutput = false
          ∧ t.travel.releaseTimer = none ∧ t.travel.brakeFailTimer = none ∧ t.travel.settleTimer = some (t.count + 1000)))
    ∧ (∀ (s : State) (pos target : Int) (r : Range), s.quiet → s.port.mode ≠ .config → s.travel.state = .releasing →
        s.travel.position = some pos → s.travel.range = some r → s.travel.target = some target →
        fartherThan s.block.tolerance pos (stopPointOf r.lower r.upper pos target) →
        (∀ d, s.travel.releaseTimer = some d →
          exec (.brakeReleasedChange true) s = .next { s with inputs := { s.inputs with brakeReleased := true } })
        ∧ (s.travel.releaseTimer = none →
          ∃ t, exec (.brakeReleasedChange true) s = .next t ∧ s.onlyIn t [.inputs, .travel, .line]
            ∧ t.inputs = { s.inputs with brakeReleased := true } ∧ t.travel.state = .moving
            ∧ t.travel.direction = some (if target < pos then .up else .down)))
    ∧ (∀ (s : State) (d : Nat), s.quiet → s.travel.state = .releasing → s.travel.brakeFailTimer = some d → s.lineOpen = false →
        ∃ t, exec .brakeFailTimerExpiry s = .next t ∧ s.onlyIn t [.count, .travel, .port, .line] ∧ t.travel.state = .faulted
          ∧ t.travel.cause = some .brake ∧ t.travel.target = none ∧ t.travel.brakeReleaseOutput = false
          ∧ t.travel.releaseTimer = none ∧ t.travel.brakeFailTimer = none
          ∧ t.port = s.port.raise (max s.count d) (.travelFault .brake s.travel.position)))
  ∧ (∀ (s : State) (d : Nat), s.quiet → s.travel.state = .settling → s.travel.settleTimer = some d → s.pour.state = .idle →
      (s.inputs.brakeReleased = true →
        ∃ t, exec .settleTimerExpiry s = .next t ∧ t.travel.state = .faulted ∧ t.travel.cause = some .brake
          ∧ s.onlyIn t [.count, .travel, .port, .line])
      ∧ (s.inputs.brakeReleased = false → s.travel.target = none →
        ∃ t, exec .settleTimerExpiry s = .next t ∧ s.onlyIn t [.count, .travel, .line] ∧ t.travel.state = .parked
          ∧ t.travel.target = none ∧ t.travel.source = none)
      ∧ (∀ pos target r src, s.inputs.brakeReleased = false → s.travel.position = some pos → s.travel.target = some target →
          s.travel.range = some r → s.travel.source = some src →
        ∃ t, exec .settleTimerExpiry s = .next t ∧ s.onlyIn t [.count, .travel, .port, .line] ∧ t.count = max s.count d
          ∧ t.travel.position = some pos
          ∧ (if ¬fartherThan s.block.tolerance pos target then
              t.travel.state = .parked ∧ t.travel.target = none ∧ t.travel.source = none
                ∧ t.port = s.port.raise t.count (.arrived pos target src)
            else if stopPointOf r.lower r.upper pos target = target
                ∨ fartherThan s.block.creep pos (stopPointOf r.lower r.upper pos target) then
              t.travel.state = .releasing ∧ t.travel.target = some target ∧ t.travel.source = some src ∧ t.port = s.port
                ∧ t.travel.releaseTimer = some (t.count + s.block.releaseDelay)
            else t.travel.state = .held ∧ t.travel.target = some target ∧ t.travel.source = some src
                ∧ t.port = s.port.raise t.count
                  (.travelHeld (if target < pos then r.lowerTerm else r.upperTerm) pos target))))

/-! ## The Fill Order Unit and the Pour Sequencer -/

/-- R105: the trim and draft computation on the predicted totals of the holds with EXISTS set, and its judgement against the trim
band and the draft limit, TRIM first. -/
def Obligations.TrimAndDraftAreComputedExactly : Prop :=
  ∀ (ses : Session) (pred : Nat → Nat) (entered : List (Nat × HoldPlan)),
    entered = (ses.holds.zipIdx 1).filterMap (fun hd => hd.1.plan.map (fun p => (hd.2, p))) →
    10 ≤ ses.mct → 2 ≤ ses.tpc →
    ∃ r, r = ses.trimDraft pred
      ∧ r.cargo = (entered.map (fun e => pred e.1)).sum
      ∧ r.moment = (entered.map (fun e => (pred e.1 : Int) * e.2.lever)).sum + ses.moment * 10000
      ∧ r.trim = max (-999) (min 999 (r.moment.tdiv (ses.mct * 10000)))
      ∧ (ses.meanDraft ≤ r.meanDraft ∧ r.cargo ≤ (r.meanDraft - ses.meanDraft) * (ses.tpc * 1000)
          ∧ (ses.meanDraft < r.meanDraft → (r.meanDraft - ses.meanDraft - 1) * (ses.tpc * 1000) < r.cargo))
      ∧ r.deepest = r.meanDraft + (r.trim.natAbs + 1) / 2
      ∧ ses.limits r = if ¬(ses.bandLower ≤ r.trim ∧ r.trim ≤ ses.bandUpper) then some .trim
          else if ses.draftLimit < r.deepest then some .draft else none

/-- The eligibility checks (section 6.4), for a named hold without an override: a POUR is judged good exactly when E1 to E7 hold, and it
then proposes the next pass with its target. In their order, with a target override too, the checks are those of `State.pourTable` (for
ANY, of `State.askTable` before the ranking): the first that fails is the refusal, and where all hold the target is the override if one is
given. A POUR with hold ANY takes the first hold, in the ranking of R113, that passes by name, and when none does it is refused as the
hold ranked first is. POUR judged good (section 6.5): the own claim stands PENDING in its record and in its hold's claim list, the window
timer runs, a CLAIM frame is issued, the pour is CLAIMING, and the reply names slot, hold, pass and target. -/
def Obligations.PourIsJudgedAndEntersItsClaim : Prop :=
  (∀ (s : State) (slot hold n target : Nat) (x : Slot), Slot.ofCode? slot = some x → 1 ≤ hold → hold ≤ 9 →
      (s.judgePour slot hold 0 = .ok (hold, ⟨n, target⟩) ↔
        ∃ ses, s.session x = some ses ∧ (s.berth x).mismatch = false ∧ hold ≤ ses.holdCount
          ∧ (∃ d p, s.hold x hold = some d ∧ d.plan = some p ∧ p.targets ≠ [] ∧ d.hatchOpen = true
              ∧ (d.permission = .opened ∨ (d.permission = .restricted ∧ d.token = true)))
          ∧ s.nextPass x hold = some (n, target)
          ∧ (2 ≤ n → ∀ g, (g + 1 = hold ∨ g = hold + 1) → ∀ p t, s.plan x g = some p → p.targets[n - 2]? = some t →
              t * 1000 ≤ s.holdTotal x g)
          ∧ ses.limits (ses.trimDraft (fun i => if i = hold then max (s.predicted x i) target else s.predicted x i)) = none
          ∧ s.travel.position ≠ none
          ∧ (∃ lo hi w pos, s.computeEdge .up none = some lo ∧ s.computeEdge .down none = some hi
              ∧ s.loaderWindow x hold = some w ∧ inside (lo.1, hi.1) pos = true ∧ inside w pos = true)
          ∧ (∀ p, s.plan x hold = some p →
              ((s.row x hold).claims.filter (fun c => c.phase == .active && c.station != s.station && s.fresh c.station)).length
                < p.spoutLimit)
          ∧ s.fill.claim = none ∧ s.travel.state ≠ .faulted ∧ s.scale.zeroRun = none ∧ s.scale.status ≠ .fault
          ∧ (∀ c, (s.dust.channel c).state ≠ .trip ∧ (s.dust.channel c).state ≠ .held) ∧ 0 < s.bills.free))
  ∧ (∀ (s : State) (slot h : Nat) (x : Slot) (ses : Session), Slot.ofCode? slot = some x → s.session x = some ses → ses.holdCount ≤ 9 →
      1 ≤ h → h ≤ ses.holdCount →
      (∀ p, s.judgePour slot 0 0 = .ok (h, p) ↔ s.judgePour slot h 0 = .ok (h, p)
        ∧ ∀ g q, 1 ≤ g → g ≤ ses.holdCount → s.ranksAhead x g h → s.judgePour slot g 0 ≠ .ok (g, q))
      ∧ ((∀ g, 1 ≤ g → g ≤ ses.holdCount → g ≠ h → s.ranksAhead x h g) →
        (∀ g q, 1 ≤ g → g ≤ ses.holdCount → s.judgePour slot g 0 ≠ .ok (g, q)) →
        s.judgePour slot 0 0 = s.judgePour slot h 0))
  ∧ (∀ (s : State) (slot hold override : Nat) (reason : Reason) (index : Nat),
      (1 ≤ hold ∧ (s.pourTable slot hold override).failsBy reason index
        ∨ hold = 0 ∧ (s.askTable slot 0 override).failsBy reason index) →
      s.judgePour slot hold override = .error (reason, index)
      ∧ (s.quiet → s.port.mode = .run → s.port.mailbox = .posted (.pour slot hold override) →
          exec .pour s = .next (s.withMailbox (refusedReply reason index))))
  ∧ (∀ (s : State) (slot hold override n target : Nat) (x : Slot), 1 ≤ hold → (s.pourTable slot hold override).holds →
      Slot.ofCode? slot = some x → s.nextPass x hold = some (n, target) →
      s.judgePour slot hold override = .ok (hold, ⟨n, if override = 0 then target else override⟩))
  ∧ (∀ (s : State) (slot hold override h : Nat) (p : Proposal) (x : Slot) (rows : List Row) (row : Row), s.quiet →
      s.port.mode = .run → s.pour.state = .idle →
      s.port.mailbox = .posted (.pour slot hold override) → s.judgePour slot hold override = .ok (h, p) →
      Slot.ofCode? slot = some x → s.view x = some rows → rows[h - 1]? = some row → 1 ≤ h → s.line.up.chainEnd = false →
      ∃ t, exec .pour s = .next t ∧ s.onlyIn t [.port, .line, .fill, .pour]
        ∧ t.port = { s.port with mailbox := doneReply (x.code :: (uField 1 h ++ uField 1 p.pass ++ kgField p.target)) }
        ∧ t.fill.claim = some ⟨x, h, p.pass, p.target, override != 0, .pending, false⟩
        ∧ t.fill.claimTimer = some (s.count + 400)
        ∧ ⟨s.station, p.pass, p.target, .pending⟩ ∈ (t.row x h).claims
        ∧ (∀ g, g ≠ h → ∀ c ∈ (t.row x g).claims, c.station ≠ s.station)
        ∧ t.view x.other = s.view x.other
        ∧ t.pour = { s.pour with state := .claiming }
        ∧ ∃ e ∈ t.line.own, e.kind = .claim ∧ e.upSent = false
            ∧ e.bytes = frameBytes 0x02 s.station 0
              (x.code :: (uField 1 h ++ uField 1 p.pass ++ kgField p.target ++ uField 2 (s.planTag x))))

/-- The claim window's expiry (section 6.5). The decision is by the eight checks of `State.decisionTable`, in their order: the PENDING
claims of lower-numbered FRESH peers and their ACTIVE claims take the hold's spouts before the own claim, and their targets count in trim
and draft. Lost: the first check that fails gives the reason; the claim is gone, CLAIM_RESULT says LOST, and the pour is IDLE; no token is
consumed. Granted (section 7.3): the claim is ACTIVE, a RESTRICTED hold's token is consumed and its marker set, CLAIM_RESULT says GRANTED,
and the pour is POSITIONING with its timer. With travel FAULTED no order is placed; in SETTLING and RELEASING the order POSITION to the
pour point replaces the one present, and in PARKED, HELD and MOVING, the pour point farther than the arrival tolerance, it is taken as
each state takes an order. (At the window already: `Obligations.StartingOpensTheLineAndTheBelt`.) The positioning limit: the claim is
withdrawn with POSITION_TIMEOUT and its hold's token marker cleared, and an order POSITION still standing is stopped, its direction
dropped by the model's reading (assumption 25). The count at an expiry is the model's choice (assumption 2). -/
def Obligations.ClaimWindowGrantsOrLosesTheClaim : Prop :=
  (∀ (s : State) (d : Nat) (c : OwnClaim) (reason : Reason) (index : Nat), s.quiet → s.pour.state = .claiming →
      s.fill.claimTimer = some d → s.fill.claim = some c →
      (s.decisionTable c).failsBy reason index →
      ∃ t, exec .claimWindowExpiry s = .next t ∧ s.onlyIn t [.count, .port, .line, .fill, .pour] ∧ t.count = max s.count d
        ∧ t.fill.claim = none ∧ t.fill.claimTimer = none
        ∧ (∀ g, ∀ k ∈ (t.row c.slot g).claims, k.station ≠ s.station)
        ∧ t.pour = { s.pour with state := .idle }
        ∧ t.port = s.port.raise t.count (.claimResult c.slot c.hold c.pass c.target (some reason)))
  ∧ (∀ (s : State) (d : Nat) (c : OwnClaim) (hd : Hold), s.quiet → s.pour.state = .claiming →
      s.fill.claimTimer = some d → s.fill.claim = some c → (s.decisionTable c).holds → s.hold c.slot c.hold = some hd →
      ∀ consumed, consumed = (if hd.permission = .restricted ∧ hd.token = true then { hd with token := false, tokenPass := true } else hd) →
      (s.travel.state = .faulted →
        ∃ t, exec .claimWindowExpiry s = .next t ∧ s.onlyIn t [.count, .port, .line, .fill, .pour, .berths]
          ∧ t.count = max s.count d
          ∧ t.fill.claim = some { c with phase := .active } ∧ t.fill.claimTimer = none ∧ t.hold c.slot c.hold = some consumed
          ∧ t.pour = { s.pour with state := .positioning, reAimed := false, positioningTimer := some (t.count + 120000) }
          ∧ t.port = s.port.raise t.count (.claimResult c.slot c.hold c.pass c.target none))
      ∧ (∀ (w : Int × Int) (tip p : Int), s.window c.slot c.hold = some w → s.tip = some tip →
        p = (if tip < w.1 then w.1 else if w.2 < tip then w.2 else tip) - s.block.spoutOffset →
        ((s.travel.state = .settling ∨ s.travel.state = .releasing) →
          ∃ t, exec .claimWindowExpiry s = .next t ∧ s.onlyIn t [.count, .port, .line, .fill, .pour, .berths, .travel]
            ∧ t.count = max s.count d
            ∧ t.fill.claim = some { c with phase := .active } ∧ t.fill.claimTimer = none ∧ t.hold c.slot c.hold = some consumed
            ∧ t.pour = { s.pour with state := .positioning, reAimed := false, positioningTimer := some (t.count + 120000) }
            ∧ t.travel = { s.travel with target := some p, source := some .position }
            ∧ t.port = s.port.raise t.count (.claimResult c.slot c.hold c.pass c.target none))
        ∧ (∀ pos r, (s.travel.state = .parked ∨ s.travel.state = .held ∨ s.travel.state = .moving) →
          (s.travel.state = .moving → s.travel.direction.isSome) → s.travel.position = some pos → s.travel.range = some r →
          fartherThan s.block.tolerance pos p →
          ∃ t, exec .claimWindowExpiry s = .next t ∧ s.onlyIn t [.count, .port, .line, .fill, .pour, .berths, .travel]
            ∧ t.count = max s.count d
            ∧ t.fill.claim = some { c with phase := .active } ∧ t.fill.claimTimer = none ∧ t.hold c.slot c.hold = some consumed
            ∧ t.pour = { s.pour with state := .positioning, reAimed := false, positioningTimer := some (t.count + 120000) }
            ∧ s.takesOrder t pos p .position r
            ∧ t.port = s.port.raiseAll t.count (.claimResult c.slot c.hold c.pass c.target none
                :: (if s.travel.state = .parked ∧ t.travel.state = .held then
                    [.travelHeld (if p < pos then r.lowerTerm else r.upperTerm) pos p] else [])))))
  ∧ (∀ (s : State) (d : Nat) (c : OwnClaim), s.quiet → s.pour.state = .positioning → s.pour.positioningTimer = some d →
      s.fill.claim = some c →
      ∃ t, exec .positioningTimerExpiry s = .next t ∧ s.onlyIn t [.count, .port, .line, .fill, .pour, .berths, .travel]
        ∧ t.count = max s.count d ∧ t.fill.claim = none
        ∧ (∀ hd, s.hold c.slot c.hold = some hd → t.hold c.slot c.hold = some { hd with tokenPass := false })
        ∧ (s.travel.source ≠ some .position → t.travel = s.travel)
        ∧ (s.travel.source = some .position → t.travel = ({ s with count := t.count } : State).travelStopped)
        ∧ (∀ g, ∀ k ∈ (t.row c.slot g).claims, k.station ≠ s.station)
        ∧ t.pour = { s.pour with state := .idle, positioningTimer := none }
        ∧ t.port = s.port.raise t.count (.claimWithdrawn c.slot c.hold .positionTimeout c.pass c.target))

/-- Entry to STARTING (section 7.5), and POSITIONING before it (section 7.3), the tip tested against the pour window of the claim's hold.
The first entry of a pass, seen at the grant of a claim whose spout is over its window with travel PARKED and nothing to suspend it: a
line with the next number is opened for the claim at the line time, the belt is commanded ON with its start timer, and the pour waits
in BELT_WAIT. The arrival of the sequencer's order at the end of settling (section 5.7): with the tip inside, and nothing to suspend the
pass, STARTING is entered so; outside, and re-aimed clear, a new order goes to the aim point and re-aimed is set; outside with re-aimed
set, the pour waits. FAULT CLEAR (section 5.10) and SHIFT VESSEL on the claim's slot (section 1.3.4): with travel PARKED and the tip
inside, STARTING is entered; outside, the order is placed to the new pour point, replacing the one present, and re-aimed is cleared; with
travel FAULTED, SHIFT VESSEL moves the session alone. That FAULT CLEAR
computes the range afresh (assumption 18) and clears re-aimed (assumption 25) is the model's reading, and the count at an expiry its
choice (assumption 2). (HOLD ENTRY, SET HATCH, PERMIT and SET DRAFT LIMIT do not reach the pour in
POSITIONING: `Obligations.DescriptorRequestsWriteOneDescriptor`, `Obligations.ShiftVesselAndDraftLimitChangeOneField`.) -/
def Obligations.StartingOpensTheLineAndTheBelt : Prop :=
  (∀ (s : State) (d : Nat) (c : OwnClaim) (ses : Session) (b : Bill), s.quiet → s.pour.state = .claiming →
      s.fill.claimTimer = some d → s.fill.claim = some c → (s.decisionTable c).holds →
      s.session c.slot = some ses → s.bills.bill ses.bill = some b → 0 < s.bills.free → s.bills.openLines = [] →
      s.travel.state = .parked → s.tipInside = true → s.translate = .ok c.slot c.hold →
      (∀ hd, s.hold c.slot c.hold = some hd → hd.permission = .opened) →
      s.dustOwn = false → (∀ q ∈ s.dust.peers, q.spout ≠ .trip) → s.scale.status ≠ .fault → s.pour.gate = .closed →
      s.pour.beltOn = false → s.inputs.beltRunning = false → s.pour.causes = CauseSet.empty →
      ∃ t, exec .claimWindowExpiry s = .next t ∧ t.pour.state = .starting ∧ t.pour.phase = some .beltWait
        ∧ t.pour.beltOn = true ∧ t.pour.watch = .waiting ∧ t.pour.beltStartTimer = some (t.count + 10000)
        ∧ t.pour.gateCommand = s.pour.gateCommand ∧ t.pour.gate = .closed ∧ t.pour.failures = 0 ∧ t.pour.passSuspended = false
        ∧ t.pour.causes = CauseSet.empty ∧ t.pour.positioningTimer = none
        ∧ t.bills.free + 1 = s.bills.free ∧ t.bills.spill = s.bills.spill
        ∧ t.bills.bill ses.bill = some { b with lines := b.lines ++ [
            ⟨b.lines.length + 1, c.slot, c.hold, c.pass, c.target, (t.count - b.opening) / 1000, none, 0, 0, 0, none, none, none⟩] })
  ∧ (∀ (s : State) (d : Nat) (k : OwnClaim) (pos target : Int) (r : Range), s.quiet → s.pour.state = .positioning →
    s.fill.claim = some k → s.travel.state = .settling → s.travel.settleTimer = some d → s.inputs.brakeReleased = false →
    s.travel.position = some pos → s.travel.target = some target → s.travel.source = some .position → s.travel.range = some r →
    ¬fartherThan s.block.tolerance pos target →
    ∀ now port, now = max s.count d → port = s.port.raise now (.arrived pos target .position) →
    (s.clearToStart k →
      ∃ t, exec .settleTimerExpiry s = .next t ∧ s.onlyIn t [.count, .travel, .port, .line, .pour, .bills] ∧ t.count = now
        ∧ t.travel.state = .parked ∧ t.travel.target = none ∧ t.travel.source = none ∧ t.travel.position = some pos
        ∧ t.travel.edgeUp = t.computeEdge .up t.rangeWindow ∧ t.travel.edgeDown = t.computeEdge .down t.rangeWindow
        ∧ s.passStarted t k ∧ t.port = port)
    ∧ (∀ w tip, s.window k.slot k.hold = some w → tip = pos + s.block.spoutOffset → (tip < w.1 ∨ w.2 < tip) →
      (s.pour.reAimed = true →
        ∃ t, exec .settleTimerExpiry s = .next t ∧ s.onlyIn t [.count, .travel, .port, .line] ∧ t.count = now
          ∧ t.travel.state = .parked ∧ t.travel.target = none ∧ t.travel.source = none ∧ t.port = port)
      ∧ (∀ a, s.pour.reAimed = false →
        a = (if 2 * (s.block.tolerance : Int) ≤ w.2 - w.1 then
            (if tip < w.1 then w.1 + s.block.tolerance else w.2 - s.block.tolerance) else (w.1 + w.2) / 2) - s.block.spoutOffset →
        fartherThan s.block.tolerance pos a →
        ∃ t, exec .settleTimerExpiry s = .next t ∧ s.onlyIn t [.count, .travel, .port, .line, .pour] ∧ t.count = now
          ∧ t.pour = { s.pour with reAimed := true } ∧ t.travel.target = some a ∧ t.travel.source = some .position
          ∧ (if fartherThan s.block.tolerance pos (stopPointOf r.lower r.upper pos a) then
              t.travel.state = .releasing ∧ t.port = port
            else t.travel.state = .held
              ∧ t.port = port.raise now (.travelHeld (if a < pos then r.lowerTerm else r.upperTerm) pos a)))))
  ∧ (∀ (s u : State) (k : OwnClaim) (pos : Int), s.quiet → s.port.mode ≠ .config → s.port.mailbox = .posted .faultClear →
    s.travel.state = .faulted → s.inputs.brakeReleased = false → s.pour.state = .positioning → s.fill.claim = some k →
    (s.travel.encoderFault = true ∧ s.travel.recovery = some pos
      ∨ s.travel.encoderFault = false ∧ s.travel.sampleSince = true ∧ s.travel.position = some pos) →
    u = { s with travel := { s.travel with
      state := .parked, position := some pos, cause := none, recovery := none, sampleSince := false } } →
    (u.clearToStart k →
      ∃ t, exec .faultClear s = .next t ∧ s.onlyIn t [.travel, .port, .line, .pour, .bills] ∧ s.passStarted t k
        ∧ t.travel = { u.travel with
            edgeUp := t.computeEdge .up t.rangeWindow, edgeDown := t.computeEdge .down t.rangeWindow }
        ∧ t.port = { s.port with mailbox := doneReply [] })
    ∧ (∀ w tip p, s.window k.slot k.hold = some w → tip = pos + s.block.spoutOffset → (tip < w.1 ∨ w.2 < tip) →
      p = (if tip < w.1 then w.1 else w.2) - s.block.spoutOffset → fartherThan s.block.tolerance pos p →
      ∃ t r, exec .faultClear s = .next t ∧ s.onlyIn t [.travel, .port, .line, .pour] ∧ t.travel.range = some r
        ∧ t.pour = { s.pour with reAimed := false } ∧ u.takesOrder t pos p .position r ∧ t.travel.cause = none
        ∧ t.port = { s.port.raiseAll s.count (if t.travel.state = .held then
            [.travelHeld (if p < pos then r.lowerTerm else r.upperTerm) pos p] else []) with mailbox := doneReply [] }))
  ∧ (∀ (s : State) (k : OwnClaim) (ses moved : Session) (slot bow : Nat), s.quiet → s.port.mode ≠ .config →
    s.port.mailbox = .posted (.shiftVessel slot bow) → Slot.ofCode? slot = some k.slot → s.session k.slot = some ses →
    (s.mapTable (.shiftVessel slot bow)).holds → s.fill.claim = some k → s.pour.state = .positioning →
    moved = { ses with bowMark := (bow : Int) } →
    (s.travel.state = .faulted →
      ∃ t, exec .shiftVessel s = .next t ∧ s.onlyIn t [.berths, .port] ∧ t.session k.slot = some moved
        ∧ t.berth k.slot.other = s.berth k.slot.other ∧ t.port = { s.port with mailbox := doneReply [] })
    ∧ (∀ u, s.travel.state = .parked → u = s.onSession k.slot (fun _ => moved) → u.clearToStart k →
      ∃ t, exec .shiftVessel s = .next t ∧ s.onlyIn t [.berths, .travel, .port, .line, .pour, .bills]
        ∧ t.session k.slot = some moved ∧ t.travel.state = .parked ∧ s.passStarted t k
        ∧ t.port = { s.port with mailbox := doneReply [] })
    ∧ (∀ hp w pos tip p r, s.plan k.slot k.hold = some hp → w = moved.pourWindow hp → s.travel.position = some pos →
      tip = pos + s.block.spoutOffset → p = (if tip < w.1 then w.1 else if w.2 < tip then w.2 else tip) - s.block.spoutOffset →
      s.travel.range = some r → s.travel.state ≠ .faulted → (s.travel.state = .moving → s.travel.direction.isSome) →
      (fartherThan s.block.tolerance pos p ∨ s.travel.state = .releasing ∨ s.travel.state = .settling) →
      ∃ t, exec .shiftVessel s = .next t ∧ s.onlyIn t [.berths, .travel, .port, .line, .pour]
        ∧ t.session k.slot = some moved ∧ t.berth k.slot.other = s.berth k.slot.other
        ∧ t.pour = { s.pour with reAimed := false } ∧ s.takesOrder t pos p .position r
        ∧ t.port = { s.port.raiseAll s.count (if s.travel.state = .parked ∧ t.travel.state = .held then
            [.travelHeld (if p < pos then r.lowerTerm else r.upperTerm) pos p] else []) with mailbox := doneReply [] }))

/-- END POUR in RUN (section 7.9), by the pour state: NO_POUR in IDLE; the claim dropped in CLAIMING and withdrawn in POSITIONING, where
an order POSITION still standing is stopped; in STARTING, POURING, THROTTLED and SUSPENDED, RUNOUT with cause STOPPED: while the run-out
goes on (the gate open, moving or failed to close, or grain on the belt; `State.runoutGoesOn`) the gate, if open or opening, goes CLOSING
and the belt runs unless a belt-stop cause is held, and with the gate CLOSED, or in FAULT failed to open, and the belt empty
the run-out ends at its entry; nothing in RUNOUT. That the direction of travel is dropped with the
order's stop is the model's reading (assumption 25). -/
def Obligations.EndPourByPourState : Prop :=
  ∀ s : State, s.quiet → s.port.mode = .run → s.port.mailbox = .posted .endPour →
    (s.pour.state = .idle → exec .endPour s = .next (s.withMailbox (refusedReply .noPour 0)))
    ∧ (s.pour.state = .runout → exec .endPour s = .next (s.withMailbox (doneReply [])))
    ∧ (∀ c, s.pour.state = .claiming → s.fill.claim = some c →
      ∃ t, exec .endPour s = .next t ∧ s.onlyIn t [.port, .line, .fill, .pour] ∧ t.fill.claim = none ∧ t.fill.claimTimer = none
        ∧ t.pour = { s.pour with state := .idle }
        ∧ t.port = { s.port.raise s.count (.claimResult c.slot c.hold c.pass c.target (some .stopped)) with
            mailbox := doneReply [] })
    ∧ (∀ c, s.pour.state = .positioning → s.fill.claim = some c →
      ∃ t, exec .endPour s = .next t ∧ s.onlyIn t [.port, .line, .fill, .pour, .berths, .travel] ∧ t.fill.claim = none
        ∧ t.pour = { s.pour with state := .idle, positioningTimer := none }
        ∧ (∀ hd, s.hold c.slot c.hold = some hd → t.hold c.slot c.hold = some { hd with tokenPass := false })
        ∧ (s.travel.source ≠ some .position → t.travel = s.travel)
        ∧ (s.travel.source = some .position → t.travel = s.travelStopped)
        ∧ t.port = { s.port.raise s.count (.claimWithdrawn c.slot c.hold .stopped c.pass c.target) with
            mailbox := doneReply [] })
    ∧ ((s.pour.state = .starting ∨ s.pour.state = .pouring ∨ s.pour.state = .throttled ∨ s.pour.state = .suspended) →
      (s.runoutGoesOn →
        ∃ t, exec .endPour s = .next t ∧ s.onlyIn t [.port, .line, .pour] ∧ t.port = { s.port with mailbox := doneReply [] }
          ∧ s.stoppedPour t)
      ∧ (∀ c, (s.pour.gate = .closed ∨ (s.pour.gate = .fault ∧ s.pour.gateFault = some .openFailed)) → s.belt.content = 0 → s.fill.claim = some c →
        ∃ t, exec .endPour s = .next t ∧ t.port.mailbox = doneReply [] ∧ t.pour.state = .idle ∧ t.pour.runoutCause = none
          ∧ t.pour.beltOn = false ∧ t.pour.watch = .off ∧ t.pour.causes = CauseSet.empty ∧ t.pour.gateCommand = .closed
          ∧ t.pour.allowance = s.pour.allowance ∧ t.fill.claim = none
          ∧ t.bills = s.bills.closeLine s.count .stopped none none
          ∧ s.agree t .belt ∧ s.agree t .scale ∧ s.agree t .dust ∧ s.agree t .peers))

/-- The gate table (section 7.4) with no line open, the limits changing nothing in CONFIG (section 7.10): the limits act in their
states, and nowhere else by the model's choice (assumption 4); the timer takes OPENING and CLOSING to FAULT with their kinds and
GATE_FAULT, at the count that assumption 2 gives. (A gate is OPENING only with a line open in a run:
`Obligations.FailuresSuspendThenWithdrawThePass` says what its failure does there.) The gate reaching OPEN in GATE_WAIT (section 7.5):
POURING at FULL, or THROTTLED while the throttle condition holds. -/
def Obligations.GateFollowsItsLimitsAndTimer : Prop :=
  ((∀ s : State, s.quiet → s.port.mode = .config → exec .gateOpenLimit s = .next s ∧ exec .gateClosedLimit s = .next s)
    ∧ (∀ s : State, s.quiet → s.port.mode ≠ .config → s.lineOpen = false →
      exec .gateOpenLimit s = .next (if s.pour.gate = .opening
        then { s with pour := { s.pour with gate := .opened, gateTimer := none } } else s)
      ∧ exec .gateClosedLimit s = .next (if s.pour.gate = .closing ∨ s.pour.gate = .fault
        then { s with pour := { s.pour with gate := .closed, gateFault := none, gateTimer := none } } else s))
    ∧ (∀ (s : State) (d : Nat), s.quiet → s.lineOpen = false → s.pour.gateTimer = some d →
      (s.pour.gate = .opening → exec .gateTimerExpiry s = .next { s with
          count := max s.count d, pour := { s.pour with gate := .fault, gateFault := some .openFailed, gateTimer := none }
          port := s.port.raise (max s.count d) (.gateFault .openFailed s.pour.state) })
      ∧ (s.pour.gate = .closing → exec .gateTimerExpiry s = .next { s with
          count := max s.count d, pour := { s.pour with gate := .fault, gateFault := some .closeFailed, gateTimer := none }
          port := s.port.raise (max s.count d) (.gateFault .closeFailed s.pour.state) }))
    ∧ (∀ s : State, s.pour.gate = .fault → s.gateOutput = .closed))
  ∧ (∀ s : State, s.quiet → s.port.mode ≠ .config → s.pour.state = .starting → s.pour.phase = some .gateWait →
      s.pour.gate = .opening →
      ∃ t, exec .gateOpenLimit s = .next t ∧ s.onlyIn t [.pour, .line]
        ∧ t.pour = { s.pour with gate := .opened, gateTimer := none, phase := none, state := t.pour.state }
        ∧ (t.pour.state = .pouring ∨ t.pour.state = .throttled)
        ∧ (t.pour.state = .throttled ↔ s.dust.spout.state = .alarm ∨ s.dust.spout.state = .failed
            ∨ ∃ c, s.fill.claim = some c ∧ c.phase = .active ∧
                ∃ q ∈ s.dust.peers, q.freshness = .fresh ∧ q.spout = .alarm ∧ q.hold = some (c.slot, c.hold)))

/-- The belt-running input (section 7.5): in BELT_WAIT it leads to GATE_WAIT, the gate commanded OPEN, or, with the target already
reached, to RUNOUT with the gate never opened, or, with the gate in FAULT, to an opening failure that is counted and suspends the pour
with cause GATE; with the watch OFF only the level changes; it failing while POURING adds BELT, counts,
starts the retry timer, stops the belt and suspends the pour. The belt timers (section 7.6): the start timer in BELT_WAIT is a belt
failure; the retry timer removes BELT: a run-out's belt is commanded ON again, and a pour SUSPENDED by BELT alone, its tip still over
the hold, re-enters STARTING and tries the belt again. The count at an expiry (assumption 2), the level kept in CONFIG (assumption 7)
and a change to the level already held (assumption 4) are the model's choices. -/
def Obligations.BeltFeedbackOpensTheGateOrFails : Prop :=
  ((∀ (s : State) (active : Bool), s.quiet →
        (s.port.mode = .config ∨ s.pour.watch = .off ∨ (s.pour.watch = .waiting ∧ active = false)
          ∨ (s.pour.watch = .running ∧ active = true)) →
        exec (.beltRunningChange active) s = .next { s with inputs := { s.inputs with beltRunning := active } })
    ∧ (∀ s : State, s.quiet → s.port.mode ≠ .config → s.pour.watch = .waiting → s.pour.state = .starting →
        s.pour.phase = some .beltWait → s.pour.gate = .closed →
        (∀ c, s.fill.claim = some c → (s.holdTotal c.slot c.hold : Int) < ((c.target : Int) - (s.pour.allowance.getD 0 : Nat)) * 1000) →
        ∃ t, exec (.beltRunningChange true) s = .next t ∧ s.onlyIn t [.inputs, .pour]
          ∧ t.pour = { s.pour with
              watch := .running, beltStartTimer := none, phase := some .gateWait, gate := .opening
              gateTimer := some (s.count + s.block.gateLimit * 1000)
              gateCommand := if s.throttle then .openReduced else .openFull })
    ∧ (∀ (s : State) (c : OwnClaim), s.quiet → s.port.mode ≠ .config → s.pour.watch = .waiting → s.pour.state = .starting →
        s.pour.phase = some .beltWait → s.pour.gate = .closed → s.pour.causes = CauseSet.empty → s.pour.beltOn = true →
        s.fill.claim = some c →
        ((c.target : Int) - (s.pour.allowance.getD 0 : Nat)) * 1000 ≤ (s.holdTotal c.slot c.hold : Int) →
        0 < s.belt.content → 0 < s.block.cellCount →
        ∃ t, exec (.beltRunningChange true) s = .next t ∧ s.onlyIn t [.inputs, .pour, .line]
          ∧ t.pour = { s.pour with
              watch := .running, beltStartTimer := none, state := .runout, phase := none, runoutCause := some .target
              runoutShifts := 0, gateCommand := .closed })
    ∧ (∀ (s : State) (c : OwnClaim), s.quiet → s.port.mode ≠ .config → s.pour.watch = .waiting → s.pour.state = .starting →
        s.pour.phase = some .beltWait → s.pour.gate = .fault → s.pour.causes = CauseSet.empty → s.pour.beltOn = true →
        s.pour.failures < 2 → s.fill.claim = some c →
        (s.holdTotal c.slot c.hold : Int) < ((c.target : Int) - (s.pour.allowance.getD 0 : Nat)) * 1000 →
        ∃ t, exec (.beltRunningChange true) s = .next t ∧ s.onlyIn t [.inputs, .pour, .port, .bills, .line]
          ∧ t.pour = { s.pour with
              watch := .running, beltStartTimer := none, state := .suspended, phase := none
              causes := { CauseSet.empty with gate := true }, passSuspended := true, failures := s.pour.failures + 1
              gateCommand := .closed }
          ∧ t.bills = s.bills.countSuspension
          ∧ t.port = s.port.raise s.count (.pourSuspended c.slot c.hold { CauseSet.empty with gate := true }))
    ∧ (∀ s : State, s.quiet → s.port.mode ≠ .config → s.pour.watch = .running →
        (s.pour.state = .pouring ∨ s.pour.state = .throttled) → s.pour.failures < 2 → s.pour.causes = CauseSet.empty →
        s.pour.gate = .opened →
        ∃ t, exec (.beltRunningChange false) s = .next t ∧ s.onlyIn t [.inputs, .pour, .port, .bills, .line]
          ∧ t.pour.state = .suspended ∧ t.pour.causes = { CauseSet.empty with belt := true }
          ∧ t.pour.failures = s.pour.failures + 1 ∧ t.pour.beltRetryTimer = some (s.count + 10000)
          ∧ t.pour.beltOn = false ∧ t.pour.watch = .off ∧ t.pour.gateCommand = .closed ∧ t.pour.gate = .closing
          ∧ t.pour.passSuspended = true ∧ t.bills = s.bills.countSuspension))
  ∧ ((∀ (s : State) (d : Nat), s.quiet → s.pour.beltStartTimer = some d → s.pour.watch = .waiting → s.pour.state = .starting →
        s.pour.phase = some .beltWait → s.pour.gateCommand = .closed → s.pour.gate = .closed → s.pour.failures < 2 →
        s.pour.causes = CauseSet.empty →
        ∃ t, exec .beltStartTimerExpiry s = .next t ∧ s.onlyIn t [.count, .pour, .port, .bills, .line]
          ∧ t.pour = { s.pour with
              state := .suspended, phase := none, causes := { CauseSet.empty with belt := true }, passSuspended := true
              failures := s.pour.failures + 1, beltRetryTimer := some (max s.count d + 10000), beltOn := false, watch := .off
              beltStartTimer := none })
    ∧ (∀ (s : State) (d : Nat), s.quiet → s.pour.beltRetryTimer = some d → s.pour.state = .runout →
        s.pour.causes = { CauseSet.empty with belt := true } → s.pour.beltOn = false → s.inputs.beltRunning = false →
        ∃ t, exec .beltRetryTimerExpiry s = .next t ∧ s.onlyIn t [.count, .pour, .port]
          ∧ t.pour = { s.pour with
              causes := CauseSet.empty, beltRetryTimer := none, beltOn := true, watch := .waiting
              beltStartTimer := some (max s.count d + 10000) })
    ∧ (∀ (s : State) (d : Nat) (c : OwnClaim), s.quiet → s.pour.beltRetryTimer = some d → s.pour.state = .suspended →
        s.pour.causes = { CauseSet.empty with belt := true } → s.pour.beltOn = false → s.inputs.beltRunning = false →
        s.fill.claim = some c → s.translate = .ok c.slot c.hold →
        ∃ t, exec .beltRetryTimerExpiry s = .next t ∧ s.onlyIn t [.count, .pour, .port, .line] ∧ t.count = max s.count d
          ∧ t.pour = { s.pour with
              state := .starting, phase := some .beltWait, causes := CauseSet.empty, beltRetryTimer := none, beltOn := true
              watch := .waiting, beltStartTimer := some (t.count + 10000) }
          ∧ t.port = s.port.raise t.count (.pourSuspended c.slot c.hold CauseSet.empty)))

/-- Failures of a pass (section 7.6). An opening failure in GATE_WAIT adds GATE, counts, and suspends the pour with its belt running; a
closing failure adds GATE and is not counted; the closed limit removes GATE, and a pour SUSPENDED by it alone, its tip still over the hold
and its belt running, re-enters STARTING and commands the gate open again. The third failure, of the belt or of the gate, withdraws the
pass: gate commanded CLOSED, belt OFF, the line closed with cause WITHDRAWN, the claim ended, and the pour IDLE; the allowance stays. The
count at an expiry, and that GATE_FAULT is raised first and carries the pour state before what the fault does to the pour, are the model's
choices (assumptions 2 and 42). -/
def Obligations.FailuresSuspendThenWithdrawThePass : Prop :=
  (∀ (s : State) (c : OwnClaim), s.quiet → s.port.mode ≠ .config → s.pour.watch = .running →
    (s.pour.state = .pouring ∨ s.pour.state = .throttled) → s.pour.failures = 2 → s.fill.claim = some c →
    ∃ t, exec (.beltRunningChange false) s = .next t ∧ t.pour.state = .idle ∧ t.pour.gateCommand = .closed
      ∧ t.pour.beltOn = false ∧ t.pour.watch = .off ∧ t.pour.causes = CauseSet.empty ∧ t.pour.beltRetryTimer = none
      ∧ t.pour.allowance = s.pour.allowance ∧ t.fill.claim = none
      ∧ t.bills = s.bills.closeLine s.count .withdrawn none none ∧ t.bills.openLines = []
      ∧ s.agree t .belt ∧ s.agree t .scale ∧ s.agree t .dust ∧ s.agree t .peers)
  ∧ (∀ (s : State) (d : Nat) (c : OwnClaim), s.quiet → s.pour.gateTimer = some d → s.pour.gate = .opening →
    s.pour.state = .starting → s.pour.phase = some .gateWait → s.pour.causes = CauseSet.empty → s.pour.beltOn = true →
    s.fill.claim = some c →
    (s.pour.failures < 2 →
      ∃ t, exec .gateTimerExpiry s = .next t ∧ s.onlyIn t [.count, .pour, .port, .bills, .line] ∧ t.count = max s.count d
        ∧ t.pour = { s.pour with
            state := .suspended, phase := none, causes := { CauseSet.empty with gate := true }, passSuspended := true
            failures := s.pour.failures + 1, gateCommand := .closed, gate := .fault, gateFault := some .openFailed
            gateTimer := none }
        ∧ t.gateOutput = .closed ∧ t.bills = s.bills.countSuspension
        ∧ t.port = (s.port.raise t.count (.gateFault .openFailed .starting)).raise t.count
            (.pourSuspended c.slot c.hold { CauseSet.empty with gate := true }))
    ∧ (s.pour.failures = 2 →
      ∃ t, exec .gateTimerExpiry s = .next t ∧ t.count = max s.count d ∧ t.pour.state = .idle ∧ t.pour.gateCommand = .closed
        ∧ t.pour.gate = .fault ∧ t.pour.gateFault = some .openFailed ∧ t.pour.beltOn = false ∧ t.pour.watch = .off
        ∧ t.pour.causes = CauseSet.empty ∧ t.pour.allowance = s.pour.allowance ∧ t.fill.claim = none
        ∧ t.bills = s.bills.closeLine t.count .withdrawn none none ∧ t.bills.openLines = []
        ∧ s.agree t .belt ∧ s.agree t .scale ∧ s.agree t .dust ∧ s.agree t .peers))
  ∧ (∀ (s : State) (d : Nat) (c : OwnClaim), s.quiet → s.pour.gateTimer = some d → s.pour.gate = .closing →
    (s.pour.state = .suspended ∨ s.pour.state = .runout) → s.pour.causes.gate = false →
    s.pour.beltOn = !s.pour.causes.stopsBelt → (s.pour.beltOn = false → s.pour.watch = .off ∧ s.pour.beltStartTimer = none) →
    s.fill.claim = some c →
    ∃ t, exec .gateTimerExpiry s = .next t ∧ s.onlyIn t [.count, .pour, .port] ∧ t.count = max s.count d
      ∧ t.pour = { s.pour with
          causes := { s.pour.causes with gate := true }, passSuspended := true, gate := .fault
          gateFault := some .closeFailed, gateTimer := none }
      ∧ t.port = (s.port.raise t.count (.gateFault .closeFailed s.pour.state)).raise t.count
          (.pourSuspended c.slot c.hold { s.pour.causes with gate := true }))
  ∧ (∀ (s : State) (c : OwnClaim), s.quiet → s.port.mode ≠ .config → s.pour.gate = .fault → s.pour.state = .suspended →
    s.pour.causes = { CauseSet.empty with gate := true } → s.pour.beltOn = true → s.pour.watch = .running →
    s.fill.claim = some c → s.translate = .ok c.slot c.hold →
    (s.holdTotal c.slot c.hold : Int) < ((c.target : Int) - (s.pour.allowance.getD 0 : Nat)) * 1000 →
    ∃ t, exec .gateClosedLimit s = .next t ∧ s.onlyIn t [.pour, .port, .line]
      ∧ t.pour = { s.pour with
          state := .starting, phase := some .gateWait, causes := CauseSet.empty, gate := .opening, gateFault := none
          gateTimer := some (s.count + s.block.gateLimit * 1000)
          gateCommand := if s.throttle then .openReduced else .openFull }
      ∧ t.port = s.port.raise s.count (.pourSuspended c.slot c.hold CauseSet.empty))

/-- Suspend cause MAP and the RETURN order (sections 7.6, 1.3 and 5.10). SET HATCH that closes the claim's hold suspends a pour, and one
that opens it again removes MAP; a position sample that finds the tip outside the pour window suspends it and sends the loader, PARKED,
back to the pour point with an order RETURN; one that finds it inside again removes MAP, whatever travel is doing, and the order is not
placed again at a sample (that travel acts on a sample before MAP is judged is the model's choice, assumption 41); SHIFT VESSEL places it
to the new pour point, the range and travel acting before MAP and the order (assumption 33); FAULT CLEAR places it before TRAVEL is
removed (assumption 34). -/
def Obligations.MapSuspendsThePourAndSendsTheLoaderBack : Prop :=
  (∀ (s : State) (slot : Nat) (k : OwnClaim) (ses : Session) (d : Hold), s.quiet → s.port.mode ≠ .config →
    Slot.ofCode? slot = some k.slot → s.session k.slot = some ses → k.hold ≤ ses.holdCount → s.hold k.slot k.hold = some d →
    s.fill.claim = some k →
    (s.port.mailbox = .posted (.setHatch slot k.hold 0) → (s.pour.state = .pouring ∨ s.pour.state = .throttled) →
      s.pour.gate = .opened → s.pour.causes = CauseSet.empty → s.translate = .ok k.slot k.hold →
      ∃ t, exec .setHatch s = .next t ∧ s.onlyIn t [.port, .berths, .pour, .bills, .line] ∧ t.pour = s.stoppedBy .map
        ∧ t.hold k.slot k.hold = some { d with hatchOpen := false } ∧ t.translate = .fault .hatchClosed
        ∧ t.bills = s.bills.countSuspension
        ∧ t.port = { s.port.raise s.count (.pourSuspended k.slot k.hold { CauseSet.empty with map := true }) with
            mailbox := doneReply [] })
    ∧ (s.port.mailbox = .posted (.setHatch slot k.hold 1) → s.pour.state = .suspended →
      s.pour.causes = { CauseSet.empty with map := true } → s.pour.beltOn = false → s.inputs.beltRunning = false →
      ∃ t, exec .setHatch s = .next t ∧ t.hold k.slot k.hold = some { d with hatchOpen := true }
        ∧ (t.translate = .ok k.slot k.hold → s.onlyIn t [.port, .berths, .pour, .line] ∧ t.pour = s.resumed
          ∧ t.port = { s.port.raise s.count (.pourSuspended k.slot k.hold CauseSet.empty) with mailbox := doneReply [] })
        ∧ (t.translate ≠ .ok k.slot k.hold → t.pour = s.pour ∧ t.port = { s.port with mailbox := doneReply [] })))
  ∧ (∀ (s : State) (v : BitVec 20) (x pos : Int) (k : OwnClaim), s.quiet → x = v.toNat → s.port.mode ≠ .config → x ≤ 1000000 →
    s.travel.position = some pos → ¬fartherThan 300 x pos → s.fill.claim = some k →
    (∀ w tip p, (s.pour.state = .pouring ∨ s.pour.state = .throttled) → s.pour.gate = .opened → s.pour.causes = CauseSet.empty →
      s.travel.state = .parked → s.window k.slot k.hold = some w → tip = x + s.block.spoutOffset → (tip < w.1 ∨ w.2 < tip) →
      p = (if tip < w.1 then w.1 else w.2) - s.block.spoutOffset → fartherThan s.block.tolerance x p →
      ∃ t r port, exec (.positionSample v) s = .next t ∧ s.onlyIn t [.travel, .port, .pour, .bills, .line]
        ∧ t.travel.range = some r ∧ t.travel.position = some x ∧ t.travel.target = some p ∧ t.travel.source = some .returning
        ∧ t.pour = { s.stoppedBy .map with reAimed := false } ∧ t.bills = s.bills.countSuspension
        ∧ port = s.port.raise s.count (.pourSuspended k.slot k.hold { CauseSet.empty with map := true })
        ∧ (if fartherThan s.block.tolerance x (stopPointOf r.lower r.upper x p) then t.travel.state = .releasing ∧ t.port = port
          else t.travel.state = .held
            ∧ t.port = port.raise s.count (.travelHeld (if p < x then r.lowerTerm else r.upperTerm) x p)))
    ∧ (s.pour.state = .suspended → s.pour.causes = { CauseSet.empty with map := true } → s.pour.beltOn = false →
      s.inputs.beltRunning = false → s.travel.state ≠ .held → s.travel.state ≠ .faulted →
      ∃ t, exec (.positionSample v) s = .next t ∧ s.onlyIn t [.travel, .port, .pour, .line] ∧ t.travel.position = some x
        ∧ t.travel.target = s.travel.target ∧ t.travel.source = s.travel.source
        ∧ (t.translate = .ok k.slot k.hold → t.pour = s.resumed
          ∧ t.port = s.port.raise s.count (.pourSuspended k.slot k.hold CauseSet.empty))
        ∧ (t.translate ≠ .ok k.slot k.hold → t.pour = s.pour ∧ t.port = s.port)))
  ∧ (∀ (s : State) (k : OwnClaim) (ses moved : Session) (slot bow : Nat) (hp : HoldPlan) (w : Int × Int) (pos tip p : Int), s.quiet →
    s.port.mode ≠ .config → s.port.mailbox = .posted (.shiftVessel slot bow) → Slot.ofCode? slot = some k.slot →
    s.session k.slot = some ses → s.fill.claim = some k → bow ≤ 1000000 → moved = { ses with bowMark := (bow : Int) } →
    0 ≤ moved.span.1 → moved.span.2 ≤ 1000000 → (∀ o, s.session k.slot.other = some o → overlap moved.span o.span = false) →
    s.plan k.slot k.hold = some hp → w = moved.pourWindow hp → s.travel.position = some pos → tip = pos + s.block.spoutOffset →
    (tip < w.1 ∨ w.2 < tip) → p = (if tip < w.1 then w.1 else w.2) - s.block.spoutOffset → fartherThan s.block.tolerance pos p →
    s.travel.state = .parked →
    ((s.pour.state = .pouring ∨ s.pour.state = .throttled) ∧ s.pour.gate = .opened ∧ s.pour.causes = CauseSet.empty
      ∨ s.pour.state = .suspended ∧ s.pour.causes = { CauseSet.empty with map := true }) →
    ∃ t r, exec .shiftVessel s = .next t ∧ s.onlyIn t [.berths, .travel, .port, .pour, .bills, .line]
      ∧ t.session k.slot = some moved ∧ t.travel.range = some r ∧ t.travel.target = some p ∧ t.travel.source = some .returning
      ∧ t.travel.state = (if fartherThan s.block.tolerance pos (stopPointOf r.lower r.upper pos p) then .releasing else .held)
      ∧ t.port.mailbox = doneReply []
      ∧ (s.pour.causes = CauseSet.empty →
          t.pour = { s.stoppedBy .map with reAimed := false } ∧ t.bills = s.bills.countSuspension)
      ∧ (s.pour.state = .suspended → t.pour = { s.pour with reAimed := false } ∧ t.bills = s.bills))
  ∧ (∀ (s : State) (k : OwnClaim) (w : Int × Int) (pos tip p : Int), s.quiet → s.port.mode ≠ .config →
    s.port.mailbox = .posted .faultClear → s.travel.state = .faulted → s.travel.cause = some .brake → s.travel.sampleSince = true →
    s.inputs.brakeReleased = false → s.pour.state = .suspended →
    s.pour.causes = { CauseSet.empty with map := true, travel := true } → s.fill.claim = some k →
    s.travel.position = some pos → s.window k.slot k.hold = some w → tip = pos + s.block.spoutOffset → (tip < w.1 ∨ w.2 < tip) →
    p = (if tip < w.1 then w.1 else w.2) - s.block.spoutOffset → fartherThan s.block.tolerance pos p →
    ∃ t r, exec .faultClear s = .next t ∧ s.onlyIn t [.travel, .port, .pour, .line] ∧ t.travel.range = some r
      ∧ t.travel.cause = none ∧ t.travel.target = some p ∧ t.travel.source = some .returning
      ∧ t.pour.state = .suspended ∧ t.pour.causes = { CauseSet.empty with map := true } ∧ t.pour.reAimed = false
      ∧ (if fartherThan s.block.tolerance pos (stopPointOf r.lower r.upper pos p) then
          t.travel.state = .releasing
            ∧ t.port = { s.port.raise s.count (.pourSuspended k.slot k.hold { CauseSet.empty with map := true }) with
                mailbox := doneReply [] }
        else t.travel.state = .held
          ∧ t.port = { (s.port.raise s.count (.travelHeld (if p < pos then r.lowerTerm else r.upperTerm) pos p)).raise s.count
                (.pourSuspended k.slot k.hold { CauseSet.empty with map := true }) with mailbox := doneReply [] }))

/-- The close decision (section 7.7), taken at a pulse in POURING or THROTTLED with the pulse's mass already added, whatever the load
status (one of FAULT has suspended every pour that a run reaches), and at a 16th pulse after the head cell's attribution to the own
line: RUNOUT with cause TARGET and the gate commanded CLOSED as soon as the hold total reaches target less allowance; otherwise the
pour goes on. -/
def Obligations.CloseDecisionMeasuresTheHoldTotal : Prop :=
  ∀ (s : State) (c : OwnClaim) (tail u : Cell) (rest : List Cell) (m : Nat), s.quiet → s.port.mode ≠ .config →
    s.scale.zeroRun = none → s.belt.cells = tail :: rest → (s.pour.state = .pouring ∨ s.pour.state = .throttled) →
    s.pour.gate = .opened → s.pour.causes = CauseSet.empty → s.pour.beltOn = true → s.fill.claim = some c → c.phase = .active →
    m = (match s.scale.status with
      | .ok | .stale => s.scale.load * s.block.pulseLength
      | .overrange => 1500 * s.block.pulseLength
      | .fault => 0) →
    u = ⟨tail.mass + m, tail.marked || s.scale.status == .overrange || s.scale.status == .stale⟩ →
    ∀ reached runout, reached = (((c.target : Int) - (s.pour.allowance.getD 0 : Nat)) * 1000
        ≤ ((s.holdTotal c.slot c.hold + m : Nat) : Int)) →
      runout = { s.pour with
        state := .runout, phase := none, runoutCause := some .target, runoutShifts := 0, gateCommand := .closed
        gate := .closing, gateTimer := some (s.count + s.block.gateLimit * 1000) } →
    (s.belt.phase < 15 →
      ∃ t, exec .beltPulse s = .next t ∧ s.onlyIn t [.belt, .scale, .pour, .line]
        ∧ t.belt = ⟨u :: rest, s.belt.phase + 1, s.belt.content + m⟩
        ∧ t.scale = { s.scale with total := s.scale.total + m }
        ∧ (reached → t.pour = runout) ∧ (¬reached → t.pour = s.pour ∧ t.line = s.line))
    ∧ (∀ (init : List Cell) (head : Cell), s.belt.phase = 15 → u :: rest = init ++ [head] → head.mass ≤ s.belt.content + m →
      (head.mass = 0 ∨ ∃ l rows, s.translate = .ok c.slot c.hold ∧ s.bills.openLine = some l ∧ l.slot = c.slot ∧ l.hold = c.hold
        ∧ s.view c.slot = some rows ∧ 1 ≤ c.hold ∧ c.hold ≤ rows.length) →
      ∃ t, exec .beltPulse s = .next t ∧ s.onlyIn t [.belt, .scale, .pour, .line, .bills, .fill, .berths]
        ∧ t.belt = ⟨⟨0, false⟩ :: init, 0, s.belt.content + m - head.mass⟩
        ∧ t.scale = { s.scale with total := s.scale.total + m }
        ∧ t.holdTotal c.slot c.hold = s.holdTotal c.slot c.hold + m
        ∧ (reached → t.pour = runout) ∧ (¬reached → t.pour = s.pour ∧ t.line = s.line))

/-- R143: at the end of a run-out the allowance moves by half the overshoot, truncated, and is clamped to 0..ceiling, when the cause
is TARGET and no suspension was held; at any other it is unchanged. -/
def Obligations.AllowanceAdaptsByHalfTheOvershoot : Prop :=
  ∀ (s : State) (cause : RunoutCause) (a : Nat), s.pour.allowance = some a →
    (s.endRunout cause).pour.allowance =
      match cause, s.fill.claim with
      | .target, some c =>
        if s.pour.passSuspended then some a
        else some (max 0 (min (s.block.ceiling : Int)
          ((a : Int) + (((s.holdTotal c.slot c.hold / 1000 : Nat) : Int) - (c.target : Int)).tdiv 2))).toNat
      | _, _ => some a

/-- The end of run-out (section 7.8), seen at the gate's closed limit with the belt empty, at the 16th pulse whose leaving cell,
attributed to the line, is the last of the grain, the gate CLOSED or failed to open, and at the 16th pulse that completes twice the cell
count in shifts with grain still on the belt, the gate CLOSED or failed to open: the line is closed with the run-out's cause, the
overshoot for TARGET (the hold total with that cell in own delivered), and the belt content as its residue where there is one; the belt is
OFF, the claim ended, and the pour IDLE; LINE_CLOSED is queued, alone where travel is at rest. That the shift count is cleared is the
model's reading (assumption 25), and that the overshoot is not clamped to its field's range is its choice (assumption 35). -/
def Obligations.RunoutEndsAtTheClosedGate : Prop :=
  ∀ (s : State) (c : OwnClaim) (cause : RunoutCause) (closure : ClosureCause), s.quiet → s.port.mode ≠ .config →
    s.pour.state = .runout → s.pour.runoutCause = some cause → s.fill.claim = some c →
    closure = (match cause with
      | .target => .target
      | .stopped => .stopped
      | .yielded => .yielded) →
    (s.pour.gate = .closing → s.pour.causes.gate = false → s.belt.content = 0 →
      ∀ excess, excess = (if cause = .target then some (((s.holdTotal c.slot c.hold / 1000 : Nat) : Int) - (c.target : Int)) else none) →
      ∃ t, exec .gateClosedLimit s = .next t ∧ t.pour.state = .idle ∧ t.pour.gate = .closed ∧ t.pour.beltOn = false
        ∧ t.pour.watch = .off ∧ t.pour.causes = CauseSet.empty ∧ t.pour.runoutCause = none ∧ t.pour.runoutShifts = 0
        ∧ t.fill.claim = none
        ∧ t.bills = s.bills.closeLine s.count closure excess none
        ∧ (∀ hd, s.hold c.slot c.hold = some hd → t.hold c.slot c.hold = some { hd with tokenPass := false })
        ∧ s.agree t .belt ∧ s.agree t .scale ∧ s.agree t .dust ∧ s.agree t .peers
        ∧ (∀ l, s.travel.state ≠ .moving → s.travel.state ≠ .held → s.bills.openLine = some l →
            t.port = s.port.raise s.count
              (.lineClosed l.slot l.hold l.number closure (l.mass / 1000) excess none (t.pour.allowance.getD 0))))
    ∧ (∀ (tail u : Cell) (rest init : List Cell) (m : Nat), s.scale.zeroRun = none → s.belt.cells = tail :: rest → s.belt.phase = 15 →
      m = (match s.scale.status with
        | .ok | .stale => s.scale.load * s.block.pulseLength
        | .overrange => 1500 * s.block.pulseLength
        | .fault => 0) →
      u = ⟨tail.mass + m, tail.marked || s.scale.status == .overrange || s.scale.status == .stale⟩ →
      (∃ marked, u :: rest = init ++ [⟨0, marked⟩]) → 0 < s.belt.content + m → c.phase = .active →
      (s.pour.gate = .closed ∨ (s.pour.gate = .fault ∧ s.pour.gateFault = some .openFailed)) →
      2 * s.block.cellCount ≤ s.pour.runoutShifts + 1 → s.pour.runoutShifts < 65535 →
      ∀ excess, excess = (if cause = .target then
        some (((((s.holdTotal c.slot c.hold + m) / 1000 : Nat)) : Int) - (c.target : Int)) else none) →
      ∃ t, exec .beltPulse s = .next t ∧ t.pour.state = .idle ∧ t.pour.gate = s.pour.gate ∧ t.pour.beltOn = false
        ∧ t.pour.watch = .off ∧ t.pour.causes = CauseSet.empty ∧ t.pour.runoutCause = none ∧ t.pour.runoutShifts = 0
        ∧ t.fill.claim = none ∧ t.belt = ⟨⟨0, false⟩ :: init, 0, s.belt.content + m⟩
        ∧ t.scale = { s.scale with total := s.scale.total + m }
        ∧ t.bills = s.bills.closeLine s.count closure excess (some ((s.belt.content + m) / 1000))
        ∧ s.agree t .dust ∧ s.agree t .peers
        ∧ (∀ l, s.travel.state ≠ .moving → s.travel.state ≠ .held → s.bills.openLine = some l →
            t.port = s.port.raise s.count (.lineClosed l.slot l.hold l.number closure (l.mass / 1000) excess
              (some ((s.belt.content + m) / 1000)) (t.pour.allowance.getD 0))))
    ∧ (∀ (tail u head : Cell) (rest init : List Cell) (m : Nat) (l : BillLine) (rows : List Row) (row : Row) (ses : Session)
        (d : Hold), s.scale.zeroRun = none → s.belt.cells = tail :: rest → s.belt.phase = 15 →
      m = (match s.scale.status with
        | .ok | .stale => s.scale.load * s.block.pulseLength
        | .overrange => 1500 * s.block.pulseLength
        | .fault => 0) →
      u = ⟨tail.mass + m, tail.marked || s.scale.status == .overrange || s.scale.status == .stale⟩ →
      u :: rest = init ++ [head] → 0 < head.mass → s.belt.content + m = head.mass → c.phase = .active →
      (s.pour.gate = .closed ∨ (s.pour.gate = .fault ∧ s.pour.gateFault = some .openFailed)) →
      s.translate = .ok c.slot c.hold → s.bills.openLines = [l] → l.slot = c.slot → l.hold = c.hold → s.view c.slot = some rows →
      rows[c.hold - 1]? = some row → s.session c.slot = some ses → ses.hold c.hold = some d →
      ∀ excess, excess = (if cause = .target then
        some (((((s.holdTotal c.slot c.hold + m) / 1000 : Nat)) : Int) - (c.target : Int)) else none) →
      ∀ delivered : Bills, delivered = { s.bills with records := s.bills.records.map (fun r => r.map (fun b => { b with
        lines := b.lines.map (fun k => if k.cause = none then
          { k with mass := k.mass + head.mass, estimated := if head.marked then k.estimated + head.mass else k.estimated }
        else k) })) } →
      ∃ t, exec .beltPulse s = .next t ∧ t.pour.state = .idle ∧ t.pour.gate = s.pour.gate ∧ t.pour.beltOn = false
        ∧ t.pour.watch = .off ∧ t.pour.causes = CauseSet.empty ∧ t.pour.runoutCause = none ∧ t.pour.runoutShifts = 0
        ∧ (t.pour.allowance = if cause = .target ∧ s.pour.passSuspended = false then
            s.pour.allowance.map (fun a => adaptAllowance a s.block.ceiling (excess.getD 0)) else s.pour.allowance)
        ∧ t.fill.claim = none ∧ t.belt = ⟨⟨0, false⟩ :: init, 0, 0⟩
        ∧ t.scale = { s.scale with total := s.scale.total + m }
        ∧ t.bills = delivered.closeLine s.count closure excess none ∧ t.bills.billed = s.bills.billed + head.mass
        ∧ (t.row c.slot c.hold).delivered = row.delivered + head.mass
        ∧ t.hold c.slot c.hold = some { d with touched := true, tokenPass := false }
        ∧ s.agree t .dust ∧ s.agree t .peers
        ∧ (s.travel.state ≠ .moving → s.travel.state ≠ .held →
            t.port = s.port.raise s.count (.lineClosed l.slot l.hold l.number closure ((l.mass + head.mass) / 1000) excess
              none (t.pour.allowance.getD 0))))

/-! ## The quay line and the Peer Table -/

/-- A valid frame of another station in RUN (sections 3.3, 4.3 and 4.4), whatever the pour and travel are doing: the entry of its origin
is created or recorded with the distance, the time, the stale timer, the freshness and, from a STATUS, the report; an entry in CONFLICT
stays as it is, and one of the other side goes to CONFLICT; other entries change only by a BREAK. With no ACTIVE claim (`State.noPass`: an
own claim may stand PENDING in its window) no block of the pour, the bills or the scale changes, and on a port that is UP the permitted
range is computed afresh and travel, MOVING or HELD, acts on it (`State.rangeActed`, sections 5.3, 5.6, 5.8 and 5.12). A frame with a hop
count above 7, which no station sends, is taken alike by the model's choice (assumption 27). Frames that are not taken (sections 3.2 and
3.3): one that is not valid counts an error, with FRAME_ERRORS at each sixteenth, and begins the restore count of a LOST port anew; one
that bears the own number queues DUP_STATION; in CONFIG and in BYPASS every frame is discarded. -/
def Obligations.FramesReachTheEntryOfTheirOrigin : Prop :=
  (∀ (s : State) (c : Instr) (p : Side) (bytes : List Byte) (f : Frame), s.quiet → frameOf c = some (p, bytes) →
    s.port.mode = .run → readFrame bytes = some f → f.origin ≠ s.station → s.peersOrdered →
    ∃ t, exec c s = .next t ∧ (s.noPass → s.onlyIn t [.port, .line, .peers, .travel, .fill, .dust, .berths])
      ∧ (s.noPass → (s.line.port p).state = .up → (∀ e, s.entry f.origin = some e → e.freshness ≠ .conflict) → s.rangeActed t)
      ∧ (∀ e, s.entry f.origin = some e → e.freshness = .conflict → (s.line.port p).state = .up → s.agree t .travel)
      ∧ (s.entry f.origin = none → ∃ e, t.entry f.origin = some e ∧ e.station = f.origin ∧ e.side = p
          ∧ e.distance = f.hop + 1 ∧ e.lastTime = s.count ∧ e.staleTimer = some (s.count + 600)
          ∧ (∀ r, e.report = some r ↔ f.content = .status r)
          ∧ e.freshness = if positionKnown e.report then .fresh else .stale)
      ∧ (∀ e, s.entry f.origin = some e → e.freshness = .conflict → t.peers = s.peers)
      ∧ (∀ e, s.entry f.origin = some e → e.freshness ≠ .conflict → e.side ≠ p →
          t.entry f.origin = some { e with freshness := .conflict, staleTimer := none })
      ∧ (∀ e, s.entry f.origin = some e → e.freshness ≠ .conflict → e.side = p →
          ∃ u, t.entry f.origin = some u ∧ u.station = f.origin ∧ u.side = p ∧ u.distance = f.hop + 1
            ∧ u.lastTime = s.count ∧ u.staleTimer = some (s.count + 600)
            ∧ (∀ r, f.content = .status r → u.report = some r)
            ∧ ((∀ r, f.content ≠ .status r) → u.report = e.report)
            ∧ u.freshness = if positionKnown u.report then .fresh else .stale)
      ∧ (∀ n, n ≠ f.origin → (∀ side, f.content ≠ .brk side) → t.entry n = s.entry n)
      ∧ (∀ n e, f.content = .brk (some p) → n ≠ f.origin → s.entry n = some e →
          (∀ o, s.entry f.origin = some o → o.freshness ≠ .conflict ∧ o.side = p) →
          t.entry n = some (if e.side = p ∧ f.hop + 1 < e.distance ∧ (e.freshness = .fresh ∨ e.freshness = .stale)
            then { e with freshness := .cut } else e)))
  ∧ ((∀ (s : State) (p : Side), s.quiet → s.port.mode = .run →
    ∃ t n, exec (.notValidFrame p) s = .next t ∧ s.onlyIn t [.port, .line] ∧ n = min ((s.line.port p).errors + 1) 65535
      ∧ t.line = s.line.onPort p (fun r => { r with errors := n, restoreCount := if r.state = .lost then 0 else r.restoreCount })
      ∧ t.port = if (s.line.port p).errors < 65535 ∧ n % 16 = 0 then s.port.raise s.count (.frameErrors p n) else s.port)
  ∧ (∀ (s : State) (c : Instr) (p : Side) (bytes : List Byte), frameOf c = some (p, bytes) →
    (readFrame bytes = none → exec c s = exec (.notValidFrame p) s)
    ∧ (s.quiet → s.port.mode ≠ .run → exec c s = .next s)
    ∧ (∀ f, s.quiet → s.port.mode = .run → readFrame bytes = some f → f.origin = s.station →
      ∃ t, exec c s = .next t ∧ s.onlyIn t [.port, .line] ∧ t.port = s.port.raise s.count (.dupStation s.station p)
        ∧ t.line = s.line.onPort p (fun r => { r with
            silenceTimer := if r.state = .up then (if r.chainEnd then none else some (s.count + 600)) else r.silenceTimer
            restoreCount := if r.state = .lost then 0 else r.restoreCount }))))

/-- What a peer's STATUS and CLAIM do to the hold table view (sections 4.5, 6.1, 6.5) and to the MISMATCH mark (section 4.6), in RUN,
whatever the pour and travel are doing; in the window of a PENDING own claim too, whose own entry stays. A STATUS sets the peer's figures
in every row of each view: its tally, 0 where it lists none (of two entries for one hold the first, assumption 31), or the old one where
its tag is 0; on-belt where its claim is ACTIVE there; and its claim stands on the named hold and nowhere else. A CLAIM enters its claim
as PENDING in place of the peer's others on that slot; one whose claim is taken as absent leaves the view as it was, by the model's choice
(assumption 48). Own and other peers' figures and claims stay, but that a pass which the frame ends (section 6.7) takes its own claim out.
The mark is then set exactly when a FRESH peer's report or claim tag disagrees, a CLAIM's tag of 0 counting as one that does by the
model's choice (assumption 15) and one whose claim is taken as absent leaving the tag as it was (assumption 47); a peer that alone sets it
is named in PLAN_MISMATCH. -/
def Obligations.PeersReachTheHoldTable : Prop :=
  (∀ (s : State) (c : Instr) (p : Side) (bytes : List Byte) (f : Frame) (x : Slot), s.quiet → frameOf c = some (p, bytes) →
    s.port.mode = .run → readFrame bytes = some f → f.origin ≠ s.station → s.peersOrdered → s.listsOrdered →
    (∀ e, s.entry f.origin = some e → e.freshness ≠ .conflict ∧ e.side = p) →
    ∃ t, exec c s = .next t ∧ (s.noPass → s.onlyIn t [.port, .line, .peers, .travel, .fill, .dust, .berths])
      ∧ (∀ rows r, f.content = .status r → s.view x = some rows →
        (∃ new, t.view x = some new ∧ new.length = rows.length)
        ∧ ∀ h, 1 ≤ h → h ≤ rows.length →
          (t.row x h).delivered = (s.row x h).delivered
          ∧ (∃ g, (t.row x h).peers.find? (fun g => g.station == f.origin) = some g
            ∧ g.deliveredKg = (if r.tag x = 0 then
                (((s.row x h).peers.find? (fun g => g.station == f.origin)).map PeerFigure.deliveredKg).getD 0
              else ((r.tallies.find? (fun k => k.slot == x && k.hold == h)).map Tally.kg).getD 0)
            ∧ (∀ k, r.claim = some k → k.slot = x → k.hold = h → k.phase = .active → g.onBeltKg = r.onBelt)
            ∧ ((∀ k, r.claim = some k → ¬(k.slot = x ∧ k.hold = h ∧ k.phase = .active)) → g.onBeltKg = none))
          ∧ (∀ n, n ≠ f.origin → (t.row x h).peers.find? (fun g => g.station == n) = (s.row x h).peers.find? (fun g => g.station == n))
          ∧ (∀ k, s.noPass ∨ k.station ≠ s.station → (k ∈ (t.row x h).claims ↔ (k ∈ (s.row x h).claims ∧ k.station ≠ f.origin)
              ∨ ∃ rc, r.claim = some rc ∧ rc.slot = x ∧ rc.hold = h ∧ k = ⟨f.origin, rc.pass, rc.target, rc.phase⟩)))
      ∧ (∀ k tag, f.content = .claim (some (k, tag)) →
        (s.noPass → x ≠ k.slot → t.view x = s.view x)
        ∧ (∀ rows, x = k.slot → s.view x = some rows → ∀ h, 1 ≤ h → h ≤ rows.length →
          (t.row x h).delivered = (s.row x h).delivered ∧ (t.row x h).peers = (s.row x h).peers
          ∧ (∀ q, s.noPass ∨ q.station ≠ s.station → (q ∈ (t.row x h).claims ↔ (q ∈ (s.row x h).claims ∧ q.station ≠ f.origin)
              ∨ (k.hold = h ∧ q = ⟨f.origin, k.pass, k.target, .pending⟩)))))
      ∧ (s.noPass → (∀ r, f.content ≠ .status r) → (∀ k, f.content ≠ .claim (some k)) → t.view x = s.view x)
      ∧ (((∃ r, f.content = .status r) ∨ ∃ k, f.content = .claim k) → ∀ ses, s.session x = some ses →
        ((s.noPass → t.session x = some ses) ∧ ((t.berth x).mismatch = true ↔ ∃ e ∈ t.peers, e.freshness = .fresh
          ∧ ((∃ r, e.report = some r ∧ r.tag x ≠ 0 ∧ r.tag x ≠ ses.planTag)
            ∨ ∃ tag, e.claimTag = some (x, tag) ∧ tag ≠ ses.planTag)))))
  ∧ (∀ (s : State) (c : Instr) (p : Side) (f : Frame) (e : PeerEntry) (r : Report) (x : Slot) (ses : Session), s.quiet →
    s.takesFrom c p f e → s.noPass → s.heldShort →
    s.peersOrdered → f.content = .status r → r.positionValid = true → s.session x = some ses → r.tag x ≠ 0 →
    r.tag x ≠ ses.planTag → (s.berth x).mismatch = false → s.berth x.other = ⟨false, none⟩ →
    (∀ o ∈ s.peers, o.station ≠ f.origin → o.freshness ≠ .fresh) →
    ∃ t, exec c s = .next t ∧ (t.berth x).mismatch = true
      ∧ t.port = s.port.raise s.count (.planMismatch x (some (f.origin, r.tag x))))

/-- The late-conflict test (section 6.7) and peers' dust (sections 8.9 and 7.6). The test ranks the ACTIVE claims of the station and of
FRESH peers on the claim's hold by station number: within the spout limit nothing happens; beyond it the yielded flag is set,
LATE_CONFLICT is queued, and the pass is yielded: withdrawn in POSITIONING, RUNOUT with cause YIELDED with a line open. A STATUS that
brings a claim of a lower number beyond the limit yields a pour under way. A DUST frame of a FRESH peer for the claim's hold: TRIP
suspends with DUST_PEER, ALARM throttles, and a later class other than TRIP, with no other FRESH peer in TRIP, removes DUST_PEER. -/
def Obligations.LateConflictAndPeerDustReachThePour : Prop :=
  (∀ (s : State) (c : OwnClaim) (hp : HoldPlan) (ranked : List Nat), s.fill.claim = some c → c.phase = .active →
    s.plan c.slot c.hold = some hp → s.listsOrdered →
    ranked = ((s.row c.slot c.hold).claims.filter (fun k => k.phase == .active
      && (k.station == s.station || s.peers.any (fun e => e.station == k.station && e.freshness == .fresh)))).map ClaimEntry.station →
    s.station ∈ ranked →
    ((c.yielded = true ∨ s.pour.state = .runout ∨ (ranked.filter (fun n => n < s.station)).length < hp.spoutLimit) →
      s.lateConflictTest = s)
    ∧ (c.yielded = false → s.pour.state ≠ .runout → hp.spoutLimit ≤ (ranked.filter (fun n => n < s.station)).length →
      ∀ t port, t = s.lateConflictTest → port = s.port.raise s.count (.lateConflict c.slot c.hold ranked hp.spoutLimit) →
      (s.pour.state = .positioning → t.fill.claim = none ∧ t.pour = { s.pour with state := .idle, positioningTimer := none }
        ∧ t.port = port.raise s.count (.claimWithdrawn c.slot c.hold .yielded c.pass c.target))
      ∧ ((s.pour.state = .starting ∨ s.pour.state = .pouring ∨ s.pour.state = .throttled ∨ s.pour.state = .suspended) →
        (s.pour.gate = .opening ∨ s.pour.gate = .opened ∨ s.pour.gate = .closing) →
        t.fill.claim = some { c with yielded := true } ∧ t.port = port ∧ t.pour.state = .runout
          ∧ t.pour.runoutCause = some .yielded ∧ t.pour.gateCommand = .closed ∧ t.pour.gate = .closing
          ∧ t.pour.causes = s.pour.causes)))
  ∧ (∀ (s : State) (i : Instr) (p : Side) (f : Frame) (e : PeerEntry) (c : OwnClaim) (hp : HoldPlan) (rows : List Row) (r : Report)
      (k : ReportClaim), s.quiet → s.takesFrom i p f e → s.peersOrdered → s.listsOrdered → s.travel.state ≠ .moving →
    s.travel.state ≠ .held → s.fill.claim = some c → c.phase = .active → c.yielded = false → s.plan c.slot c.hold = some hp →
    hp.spoutLimit = 1 → s.view c.slot = some rows → 1 ≤ c.hold → c.hold ≤ rows.length →
    ⟨s.station, c.pass, c.target, .active⟩ ∈ (s.row c.slot c.hold).claims →
    (∀ q ∈ (s.row c.slot c.hold).claims, q.station ≠ f.origin) → (s.pour.state = .pouring ∨ s.pour.state = .throttled) →
    s.pour.gate = .opened → f.content = .status r → r.positionValid = true → r.claim = some k → k.slot = c.slot →
    k.hold = c.hold → k.phase = .active → f.origin < s.station →
    ∃ t, exec i s = .next t ∧ t.fill.claim = some { c with yielded := true } ∧ t.pour.state = .runout
      ∧ t.pour.runoutCause = some .yielded ∧ t.pour.gateCommand = .closed ∧ t.pour.gate = .closing
      ∧ (s.port.select = none → (∃ ranked, ∃ n ∈ t.port.notices, n.body = .lateConflict c.slot c.hold ranked 1) ∨ t.port.overflow = true))
  ∧ (∀ (s : State) (i : Instr) (p : Side) (f : Frame) (e : PeerEntry) (c : OwnClaim) (cls : DustClass), s.quiet → s.takesFrom i p f e →
    positionKnown e.report = true → s.peersOrdered → s.listsOrdered → s.travel.state ≠ .moving → s.travel.state ≠ .held →
    s.fill.claim = some c → c.phase = .active → f.content = .dust cls (some (c.slot, c.hold)) →
    ∃ t, exec i s = .next t ∧ ⟨f.origin, cls, some (c.slot, c.hold), .fresh⟩ ∈ t.dust.peers
      ∧ t.dust.spout = s.dust.spout ∧ t.dust.gallery = s.dust.gallery
      ∧ (cls = .trip → (s.pour.state = .pouring ∨ s.pour.state = .throttled) → s.pour.gate = .opened →
          s.pour.causes = CauseSet.empty →
          s.onlyIn t [.port, .line, .peers, .travel, .dust, .pour, .bills] ∧ t.pour = s.stoppedBy .dustPeer
            ∧ t.bills = s.bills.countSuspension
            ∧ t.port = s.port.raise s.count (.pourSuspended c.slot c.hold { CauseSet.empty with dustPeer := true }))
      ∧ (cls = .alarm → (∀ q ∈ s.dust.peers, q.spout ≠ .trip) → s.pour.state = .pouring → s.pour.gate = .opened →
          s.pour.causes = CauseSet.empty →
          s.onlyIn t [.port, .line, .peers, .travel, .dust, .pour]
            ∧ t.pour = { s.pour with state := .throttled, gateCommand := .openReduced } ∧ t.port = s.port)
      ∧ (cls ≠ .trip → (∀ q ∈ s.dust.peers, q.station ≠ f.origin → q.freshness = .fresh → q.spout ≠ .trip) →
          s.pour.state = .suspended → s.pour.causes = { CauseSet.empty with dustPeer := true } → s.pour.beltOn = false →
          s.inputs.beltRunning = false → s.translate = .ok c.slot c.hold →
          s.onlyIn t [.port, .line, .peers, .travel, .dust, .pour] ∧ t.pour = s.resumed
            ∧ t.port = s.port.raise s.count (.pourSuspended c.slot c.hold CauseSet.empty)))

/-- Repeating (section 3.3), the other port's transmitter SENDING: under the conditions of the rule a copy with the hop count
raised by 1 and a fresh check word joins the other port's pass-through queue, or is dropped and counted when four frames wait
there; otherwise the queue stays. The copy is valid and carries what the frame carried. -/
def Obligations.FramesAreRepeatedOutOfTheOtherPort : Prop :=
  (∀ (s : State) (c : Instr) (p : Side) (bytes : List Byte) (f : Frame), s.quiet → frameOf c = some (p, bytes) →
    s.port.mode = .run → readFrame bytes = some f → f.origin ≠ s.station → (s.line.port (otherSide p)).sending.isSome →
    ∃ t r, exec c s = .next t ∧ r = t.line.port (otherSide p)
      ∧ (f.hop ≤ 6 ∧ (s.line.port p).state = .up ∧ (s.line.port (otherSide p)).chainEnd = false
          ∧ (s.line.port (otherSide p)).state = .up ∧ (s.line.port (otherSide p)).repeatHold = 0 →
        ((s.line.port (otherSide p)).queue.length < 4 →
          r.queue = (s.line.port (otherSide p)).queue ++ [repeatedCopy bytes]
            ∧ r.overflows = (s.line.port (otherSide p)).overflows)
        ∧ (4 ≤ (s.line.port (otherSide p)).queue.length →
          r.queue = (s.line.port (otherSide p)).queue
            ∧ r.overflows = min ((s.line.port (otherSide p)).overflows + 1) 65535))
      ∧ (¬(f.hop ≤ 6 ∧ (s.line.port p).state = .up ∧ (s.line.port (otherSide p)).chainEnd = false
          ∧ (s.line.port (otherSide p)).state = .up ∧ (s.line.port (otherSide p)).repeatHold = 0) →
        r.queue = (s.line.port (otherSide p)).queue ∧ r.overflows = (s.line.port (otherSide p)).overflows))
  ∧ (∀ (bytes : List Byte) (f : Frame), readFrame bytes = some f → f.hop ≤ 6 →
      readFrame (repeatedCopy bytes) = some { f with hop := f.hop + 1 })

/-- FRAME SENT (section 3.5), the other transmitter SENDING and no entry to BYPASS under way: an own frame is marked for the port and
leaves the queue with both marks; the transmitter then takes what the table says: the pass-through frame first, but the waiting own
frame after four have passed it by. With the entry to BYPASS under way (section 3.7), the frame sent that gives the last STATUS its last
mark closes the relay: both ports are UP with their counts cleared, their timers and the status timer stop, and no notice is queued; one
that does not leaves the relay open. That it closes at that event, the status timer stopping with it, is the model's reading (assumption
26). -/
def Obligations.FrameSentTakesTheNextFrame : Prop :=
  (∀ (s : State) (p : Side) (sd : Sending), s.quiet →
    (s.line.port p).sending = some sd → (s.line.port (otherSide p)).sending.isSome → s.line.closing = .none →
    (s.line.port p).chainEnd = false →
    ∀ own : List OwnEntry, own = (match sd.own with
      | none => s.line.own
      | some serial => (s.line.own.map (fun e => if e.serial = serial then
          (match p with
            | .up => { e with upSent := true }
            | .down => { e with downSent := true }) else e)).filter (fun e => !(e.upSent && e.downSent))) →
    ∀ waiting : Option OwnEntry, waiting = own.find? (fun e => match p with
      | .up => !e.upSent
      | .down => !e.downSent) →
    ∀ r : PortRec, r = { s.line.port p with
      repeatHold := if sd.own.isSome then (s.line.port p).repeatHold - 1 else (s.line.port p).repeatHold } →
    ∃ t, exec (.frameSent p) s = .next t ∧ s.onlyIn t [.line] ∧ t.line.own = own
      ∧ t.line.port p = match r.queue, waiting with
        | [], none => { r with sending := none, passOver := 0 }
        | [], some e => { r with sending := some ⟨e.bytes, some e.serial⟩, passOver := 0 }
        | f :: rest, none => { r with sending := some ⟨f, none⟩, queue := rest, passOver := 0 }
        | f :: rest, some e =>
          if r.passOver < 4 then { r with sending := some ⟨f, none⟩, queue := rest, passOver := r.passOver + 1 }
          else { r with sending := some ⟨e.bytes, some e.serial⟩, passOver := 0 })
  ∧ (∀ (s : State) (p : Side) (sd : Sending) (serial : Nat), s.quiet → (s.line.port p).sending = some sd →
    s.line.closing = .sending serial → s.line.relayOpen = true →
    (sd.own = some serial → (∀ e ∈ s.line.own, e.serial = serial → e.sent (otherSide p) = true) →
      ∃ t, exec (.frameSent p) s = .next t ∧ s.onlyIn t [.line, .travel] ∧ t.line.relayOpen = false ∧ t.line.closing = .none
        ∧ t.line.statusTimer = none ∧ (∀ e ∈ t.line.own, e.serial ≠ serial)
        ∧ (∀ q, (t.line.port q).state = .up ∧ (t.line.port q).restoreCount = 0 ∧ (t.line.port q).repeatHold = 0
            ∧ (t.line.port q).silenceTimer = none ∧ (t.line.port q).breakTimer = none
            ∧ (t.line.port q).errors = (s.line.port q).errors)
        ∧ t.travel = { s.travel with edgeUp := t.travel.edgeUp, edgeDown := t.travel.edgeDown })
    ∧ ((∃ e ∈ s.line.own, e.serial = serial ∧ e.sent (otherSide p) = false) →
      ∃ t, exec (.frameSent p) s = .next t ∧ s.onlyIn t [.line] ∧ t.line.relayOpen = true ∧ t.line.closing = s.line.closing))

/-- A silent port in RUN (sections 3.6 and 4.3), whatever the pour and travel are doing: it goes LOST with its pass-through queue empty,
PORT_LOST is queued, a BREAK that names it waits for the other port, the break timer starts, and its FRESH peers go STALE. At the break
timer the BREAK is issued again. At the third frame in a row that came straight from the neighbour, the port is restored: UP, with a
repeat hold of three frames, its silence timer started, its break timer stopped, no BREAK for it waiting, and PORT_RESTORED queued (what
its transmitter takes may change only where travel, MOVING or HELD, acts on that frame and the STATUS of it finds the port idle); a frame
that was repeated to it begins the count anew. A peer's stale timer takes its FRESH entry to STALE, and leaves the freshness of any
other; no other entry changes. With no ACTIVE claim (`State.noPass`) no block of the pour changes at the two expiries, and the permitted
range is computed afresh, on which travel, MOVING or HELD, acts (`State.rangeActed`, sections 5.3, 5.6, 5.8 and 5.12). The count at an
expiry is the model's choice (assumption 2). -/
def Obligations.SilentPortIsLostAndItsPeersGoStale : Prop :=
  ((∀ (s : State) (p : Side) (d : Nat), s.quiet → s.port.mode = .run → s.peersOrdered →
      (s.line.port p).silenceTimer = some d → (s.line.port (otherSide p)).chainEnd = false →
      ∃ t, exec (.silenceTimerExpiry p) s = .next t ∧ t.count = max s.count d
        ∧ (s.noPass → s.onlyIn t [.count, .port, .line, .peers, .travel, .dust, .berths] ∧ s.rangeActed t)
        ∧ ((t.line.port p).state = .lost ∧ (t.line.port p).silenceTimer = none ∧ (t.line.port p).restoreCount = 0
          ∧ (t.line.port p).repeatHold = 0 ∧ (t.line.port p).queue = [] ∧ (t.line.port p).breakTimer = some (t.count + 200))
        ∧ (∃ e ∈ t.line.own, e.kind = .brk p ∧ e.bytes = frameBytes 0x04 s.station 0 [sideCode p]
            ∧ e.sent p = true ∧ e.sent (otherSide p) = false)
        ∧ (s.noPass → s.heldShort → (∀ e ∈ s.peers, e.side = p → e.freshness ≠ .fresh) → t.port = s.port.raise t.count (.portLost p))
        ∧ (s.port.select = none → s.port.masked 3 = false → (∃ n ∈ t.port.notices, n.body = .portLost p) ∨ t.port.overflow = true)
        ∧ (∀ n e, s.entry n = some e → t.entry n = some (if e.side = p ∧ e.freshness = .fresh then { e with freshness := .stale } else e)))
    ∧ (∀ (s : State) (p : Side) (d : Nat), s.quiet → s.port.mode = .run → (s.line.port p).breakTimer = some d →
      (s.line.port (otherSide p)).chainEnd = false →
      ∃ t, exec (.breakTimerExpiry p) s = .next t ∧ s.onlyIn t [.count, .line] ∧ t.count = max s.count d
        ∧ (t.line.port p).breakTimer = some (t.count + 200) ∧ (t.line.port p).state = (s.line.port p).state
        ∧ ∃ e ∈ t.line.own, e.kind = .brk p ∧ e.bytes = frameBytes 0x04 s.station 0 [sideCode p]
            ∧ e.sent p = true ∧ e.sent (otherSide p) = false)
    ∧ (∀ (s : State) (c : Instr) (p : Side) (bytes : List Byte) (f : Frame) (k : DustClass) (h : Option (Slot × Nat)) (e : PeerEntry),
      s.quiet → frameOf c = some (p, bytes) → s.port.mode = .run → readFrame bytes = some f → f.origin ≠ s.station →
      s.noPass → s.heldShort → s.peersOrdered →
      (s.line.port p).state = .lost → (s.line.port p).chainEnd = false →
      f.content = .dust k h → s.entry f.origin = some e → e.side = p → e.freshness = .fresh → positionKnown e.report = true →
      (f.hop = 0 → (s.line.port p).restoreCount = 2 →
        ∃ t, exec c s = .next t ∧ s.onlyIn t [.port, .line, .peers, .travel, .dust]
          ∧ t.line.port p = { s.line.port p with
              state := .up, restoreCount := 0, repeatHold := 3, breakTimer := none, silenceTimer := some (s.count + 600)
              passOver := (t.line.port p).passOver, sending := (t.line.port p).sending, queue := (t.line.port p).queue }
          ∧ ((s.travel.state ≠ .moving ∧ s.travel.state ≠ .held) ∨ (s.line.port p).sending.isSome →
            (t.line.port p).sending = (s.line.port p).sending ∧ (t.line.port p).queue = (s.line.port p).queue)
          ∧ (∀ o ∈ t.line.own, o.kind ≠ .brk p) ∧ t.port = s.port.raise s.count (.portRestored p))
      ∧ (∃ t, exec c s = .next t ∧
          (f.hop = 0 → (s.line.port p).restoreCount < 2 →
            (t.line.port p).state = .lost ∧ (t.line.port p).restoreCount = (s.line.port p).restoreCount + 1 ∧ t.port = s.port)
          ∧ (f.hop ≠ 0 → (t.line.port p).state = .lost ∧ (t.line.port p).restoreCount = 0 ∧ t.port = s.port))))
  ∧ (∀ (s : State) (n d : Nat) (e : PeerEntry), s.quiet → s.peersOrdered → s.entry n = some e → e.staleTimer = some d →
      ∃ t, exec (.peerStaleTimerExpiry n) s = .next t ∧ t.count = max s.count d
        ∧ (s.noPass → s.onlyIn t [.count, .port, .line, .peers, .travel, .dust, .berths] ∧ s.rangeActed t)
        ∧ (s.noPass → s.travel.state ≠ .moving → s.travel.state ≠ .held → t.line = s.line)
        ∧ t.port.mode = s.port.mode ∧ t.port.mailbox = s.port.mailbox
        ∧ t.entry n = some { e with staleTimer := none, freshness := if e.freshness = .fresh then .stale else e.freshness }
        ∧ (∀ m, m ≠ n → t.entry m = s.entry m)
        ∧ (s.noPass → s.heldShort → e.freshness ≠ .fresh → t.port = s.port ∧ t.berths = s.berths ∧ t.dust = s.dust)
        ∧ (e.freshness = .fresh → ∀ q ∈ t.dust.peers, q.station = n → q.freshness = .stale))

/-- The status and spacing timers (section 3.4), no entry to BYPASS under way: at the status timer in RUN, and at the spacing timer with
a change pending, a STATUS of the present report is built and waits, and both timers start anew; at the spacing timer with no change
pending nothing is issued. A status change that finds the spacing timer running only notes itself, and one that finds it stopped issues
at once: whatever the command, in RUN, one that leaves another travel state, pour state, phase of the own claim or class of SPOUT, or
opens or closes a session, has issued a STATUS of the state it leaves, or change-pending is set. That a change acts at the end of its
command is the model's choice (assumption 8), and so is the count at an expiry (assumption 2). -/
def Obligations.StatusFollowsItsTimers : Prop :=
  (∀ (s : State) (c : Instr) (d : Nat), s.quiet → s.port.mode = .run → s.line.closing = .none →
    (s.line.up.chainEnd = false ∨ s.line.down.chainEnd = false) →
    ((c = .statusTimerExpiry ∧ s.line.statusTimer = some d)
      ∨ (c = .spacingTimerExpiry ∧ s.line.spacingTimer = some d ∧ s.line.changePending = true)) →
    ∃ t, exec c s = .next t ∧ s.onlyIn t [.count, .line] ∧ t.count = max s.count d
      ∧ t.line.statusTimer = some (t.count + 200) ∧ t.line.spacingTimer = some (t.count + 50) ∧ t.line.changePending = false
      ∧ ∃ e ∈ t.line.own, e.kind = .status ∧ e.upSent = s.line.up.chainEnd ∧ e.downSent = s.line.down.chainEnd
          ∧ e.bytes = frameBytes 0x01 s.station 0 (s.report .run).payload)
  ∧ (∀ (s : State) (d : Nat), s.quiet → s.line.closing = .none → s.line.spacingTimer = some d → s.line.changePending = false →
    exec .spacingTimerExpiry s = .next { s with count := max s.count d, line := { s.line with spacingTimer := none } })
  ∧ (∀ (c : Instr) (s t : State), s.quiet → s.port.mode = .run → t.port.mode = .run → exec c s = .next t → s.statusChanged t →
    t.statusIssuedOrPending)
  ∧ (∀ (s : State) (d : Nat), s.port.mode = .run → s.line.spacingTimer = some d →
    s.markStatus.finish = { s with line := { s.line with statusDue := false, changePending := true } })
  ∧ (∀ s : State, s.port.mode = .run → s.line.spacingTimer = none →
    (s.line.up.chainEnd = false ∨ s.line.down.chainEnd = false) →
    ∃ t, s.markStatus.finish = t ∧ s.onlyIn t [.line] ∧ t.quiet ∧ t.line.changePending = false
      ∧ t.line.statusTimer = some (s.count + 200) ∧ t.line.spacingTimer = some (s.count + 50)
      ∧ ∃ e ∈ t.line.own, e.kind = .status ∧ e.upSent = s.line.up.chainEnd ∧ e.downSent = s.line.down.chainEnd
          ∧ e.bytes = frameBytes 0x01 s.station 0 (s.report .run).payload)

/-! ## Whole-machine results -/

/-- Section 11.2: every frame that a station sends is read back as what it carries: a STATUS report whose figures fit, a CLAIM, a
DUST frame and a BREAK; with every hop count that the field holds, those above 7, which no station sends, too (assumption 27). -/
def Obligations.QuayFramesReadBackAsSent : Prop :=
  (∀ (station hop : Nat) (r : Report), 1 ≤ station → station ≤ 8 → hop < 256 → r.wellFormed →
    readFrame (frameBytes 0x01 station hop r.payload) = some ⟨station, hop, .status r⟩)
  ∧ (∀ (station hop h pass target tag : Nat) (x : Slot), 1 ≤ station → station ≤ 8 → hop < 256 → holdRefOk (x, h) →
    1 ≤ pass → pass ≤ 6 → target < 4294967296 → tag < 65536 →
    readFrame (frameBytes 0x02 station hop
      (x.code :: (uField 1 h ++ uField 1 pass ++ kgField target ++ uField 2 tag)))
      = some ⟨station, hop, .claim (some (⟨x, h, pass, .pending, target⟩, tag))⟩)
  ∧ (∀ (station hop : Nat) (k : DustClass) (hold : Option (Slot × Nat)), 1 ≤ station → station ≤ 8 → hop < 256 →
    (∀ h, hold = some h → holdRefOk h) →
    readFrame (frameBytes 0x03 station hop (presence [hold.isSome] ++ [k.code] ++ holdField hold))
      = some ⟨station, hop, .dust k hold⟩)
  ∧ (∀ (station hop : Nat) (side : Side), 1 ≤ station → station ≤ 8 → hop < 256 →
    readFrame (frameBytes 0x04 station hop [sideCode side]) = some ⟨station, hop, .brk (some side)⟩)

/-- Invariants of every step, a command's or a tick's: the belt content is the sum of the cells and the phase lies in 0..15 (section
2.5.1), the notice queue holds at most 32 notices, no two of one kind and subject (section 10.8), and no two entries of the peer table
bear one number (section 4.2); that it stands in the order of its numbers is the model's choice (assumption 28). The claim lists and the
peer dust records stand in the order of station numbers (sections 6.1 and 8.9), and so, by that choice again, do the peer figures of
each row. -/
def Obligations.EveryStepKeepsBeltQueueAndPeersLawful : Prop :=
  ∀ s t : State, s.wellKept → Machine.step s = .next t → t.wellKept

/-- An invariant of every step (sections 7.1 and 7.2): the gate is commanded open only in GATE_WAIT, POURING and THROTTLED, at the rate
of the state, and a line-open pour has its claim. -/
def Obligations.EveryStepKeepsTheGateSafe : Prop :=
  ∀ s t : State, s.gateSafe → Machine.step s = .next t → t.gateSafe

/-- The law of section 2.4: the scale total equals the grams added to bill lines, plus the spill tally, plus the belt content. Every
command but a power-on reset, which starts the account, and DISCARD BILL, whose lines leave it, moves both sides alike, and so does a
step with no command waiting; and what the law rests on is kept by every step. -/
def Obligations.EveryStepKeepsTheLedger : Prop :=
  (∀ s t : State, s.ledgerSound → Machine.step s = .next t → t.ledgerSound)
  ∧ (∀ (c : Instr) (s t : State), s.ledgerSound → c ≠ .powerOnReset → c ≠ .discardBill → exec c s = .next t →
      t.scale.total + s.accounted = s.scale.total + t.accounted)
  ∧ (∀ s t : State, s.ledgerSound → s.pending = [] → Machine.step s = .next t →
      t.scale.total + s.accounted = s.scale.total + t.accounted)

/-- The state after a power-on reset meets the invariants of the three statements above. -/
def Obligations.ResetMeetsTheInvariants : Prop :=
  State.reset.quiet ∧ State.reset.wellKept ∧ State.reset.gateSafe ∧ State.reset.ledgerSound
    ∧ State.reset.scale.total = State.reset.accounted
end

