-- ==== Sys2Proof/Laws/Bills.lean ====
section
/-! SUPPORT. What the Bill Store's operations do to its mass: opening, closing and counting on lines leave it; attribution adds to
the open line. -/

namespace Sys2Proof.Machine

/-- The mass on the lines of a record. -/
def recordMass (r : Option Bill) : Nat := ((r.elim [] Bill.lines).map BillLine.mass).sum

/-- The billed mass, record by record. -/
theorem Bills.billed_eq (bs : Bills) : bs.billed = (bs.records.map recordMass).sum := by
  unfold Bills.billed Bills.lines
  induction bs.records with
  | nil => rfl
  | cons r rest ih => simp [recordMass, ih, List.flatMap_cons]

/-- A change of open lines that keeps each line's mass keeps the billed mass. -/
theorem Bills.onOpenLine_billed (bs : Bills) (f : Bill → BillLine → BillLine) (hf : ∀ b l, (f b l).mass = l.mass) :
    (bs.onOpenLine f).billed = bs.billed := by
  rw [Bills.billed_eq, Bills.billed_eq]
  have key : ∀ r : Option Bill, recordMass (r.map (fun b =>
      { b with lines := b.lines.map (fun l => if l.cause.isNone then f b l else l) })) = recordMass r := by
    intro r
    cases r with
    | none => rfl
    | some b =>
      simp only [recordMass, Option.map_some, Option.elim_some, List.map_map]
      congr 1
      apply List.map_congr_left
      intro l _
      simp only [Function.comp]
      split
      · exact hf b l
      · rfl
  unfold Bills.onOpenLine
  simp only [List.map_map]
  congr 1
  exact List.map_congr_left (fun r _ => key r)

@[simp] theorem Bills.onOpenLine_spill (bs : Bills) (f : Bill → BillLine → BillLine) : (bs.onOpenLine f).spill = bs.spill := rfl
@[simp] theorem Bills.onOpenLine_free (bs : Bills) (f : Bill → BillLine → BillLine) : (bs.onOpenLine f).free = bs.free := rfl

@[simp] theorem Bills.closeLine_billed (bs : Bills) (now : Nat) (cause : ClosureCause) (overshoot : Option Int)
    (residue : Option Nat) : (bs.closeLine now cause overshoot residue).billed = bs.billed :=
  Bills.onOpenLine_billed _ _ (fun _ _ => rfl)
@[simp] theorem Bills.closeLine_spill (bs : Bills) (now : Nat) (cause : ClosureCause) (overshoot : Option Int)
    (residue : Option Nat) : (bs.closeLine now cause overshoot residue).spill = bs.spill := rfl

@[simp] theorem Bills.countSuspension_billed (bs : Bills) : bs.countSuspension.billed = bs.billed :=
  Bills.onOpenLine_billed _ _ (fun _ _ => rfl)
@[simp] theorem Bills.countSuspension_spill (bs : Bills) : bs.countSuspension.spill = bs.spill := rfl

/-- A record replaced by one of the same mass. -/
theorem sum_map_set {α : Type} (g : α → Nat) (l : List α) (i : Nat) (a b : α) (h : l[i]? = some a) (hb : g b = g a) :
    ((l.set i b).map g).sum = (l.map g).sum := by
  induction l generalizing i with
  | nil => simp at h
  | cons x rest ih =>
    cases i with
    | zero =>
      simp only [List.getElem?_cons_zero, Option.some.injEq] at h
      subst h
      simp [hb]
    | succ i =>
      have k := ih i (by simpa using h)
      rw [List.set_cons_succ, List.map_cons, List.map_cons, List.sum_cons, List.sum_cons, k]

/-- The line that a pass takes from the pool begins with no mass. -/
@[simp] theorem Bills.takeLine_billed (bs : Bills) (n : Nat) (c : OwnClaim) (now : Nat) :
    (bs.takeLine n c now).billed = bs.billed := by
  unfold Bills.takeLine
  split
  · rename_i b hb
    split
    · rfl
    · unfold Bills.bill at hb
      split at hb
      · cases hb
      · rename_i hn
        split at hb
        · rename_i r hr
          subst hb
          rw [Bills.billed_eq, Bills.billed_eq]
          unfold Bills.setRecord
          rw [if_neg hn]
          exact sum_map_set recordMass _ _ _ _ hr (by simp [recordMass])
        · cases hb
  · rfl
@[simp] theorem Bills.takeLine_spill (bs : Bills) (n : Nat) (c : OwnClaim) (now : Nat) :
    (bs.takeLine n c now).spill = bs.spill := by
  unfold Bills.takeLine Bills.setRecord
  repeat' split
  all_goals rfl

end Sys2Proof.Machine
end

