-- ==== Sys2Proof/Laws/Checks.lean ====
section
/-! SUPPORT. The tables of checks of Safety.lean are the checks that the commands make: a table is met, or gives a refusal, exactly
as the list of checks does. -/

namespace Sys2Proof.Machine

/-- Row by row a table says what a list of checks computes, each row where those before it hold. -/
inductive CheckTable.Matches : CheckTable → List Check → Prop
  | nil : CheckTable.Matches [] []
  | cons {p : Prop} {ok : Bool} {r : Reason × Nat} {table : CheckTable} {checks : List Check} :
      (p ↔ ok = true) → (p → CheckTable.Matches table checks) → CheckTable.Matches ((p, r) :: table) ((ok, r) :: checks)

theorem CheckTable.Matches.holds_iff {table : CheckTable} {checks : List Check} (h : table.Matches checks) :
    table.holds ↔ firstFailure checks = none := by
  induction h with
  | nil => simp [CheckTable.holds, firstFailure]
  | @cons p ok r table checks hp _ ih =>
    by_cases hok : p
    · have := ih hok
      simp only [CheckTable.holds, List.forall_mem_cons, firstFailure, hp.1 hok, if_true] at this ⊢
      rw [← this]; simp [hok]
    · have hf : ok = false := by cases ok <;> simp_all
      simp [CheckTable.holds, firstFailure, hf, hok]

theorem CheckTable.Matches.failsBy_iff {table : CheckTable} {checks : List Check} (h : table.Matches checks) (reason : Reason)
    (index : Nat) : table.failsBy reason index ↔ firstFailure checks = some (reason, index) := by
  induction h with
  | nil => simp [CheckTable.failsBy, firstFailure]
  | @cons p ok r table checks hp _ ih =>
    by_cases hok : p
    · simp only [firstFailure, hp.1 hok, if_true, ← ih hok]
      constructor
      · rintro ⟨before, after, q, he, hb, hq⟩
        cases before with
        | nil => simp only [List.nil_append, List.cons.injEq, Prod.mk.injEq] at he; exact absurd (he.1.1 ▸ hok) hq
        | cons row rest =>
          simp only [List.cons_append, List.cons.injEq] at he
          exact ⟨rest, after, q, he.2, fun x hx => hb x (List.mem_cons_of_mem _ hx), hq⟩
      · rintro ⟨before, after, q, rfl, hb, hq⟩
        exact ⟨(p, r) :: before, after, q, rfl, List.forall_mem_cons.2 ⟨hok, hb⟩, hq⟩
    · have hf : ok = false := by cases ok <;> simp_all
      simp only [firstFailure, hf, Bool.false_eq_true, if_false, Option.some.injEq]
      constructor
      · rintro ⟨before, after, q, he, hb, hq⟩
        cases before with
        | nil => simp only [List.nil_append, List.cons.injEq, Prod.mk.injEq] at he; exact he.1.2
        | cons row rest =>
          simp only [List.cons_append, List.cons.injEq] at he
          exact absurd (he.1 ▸ hb row (List.mem_cons_self ..) : (p, r).1) hok
      · rintro rfl
        exact ⟨[], table, p, rfl, by simp [CheckTable.holds], hok⟩

/-- Two tables one after the other. -/
theorem CheckTable.Matches.append {t₁ t₂ : CheckTable} {c₁ c₂ : List Check} (h₁ : t₁.Matches c₁)
    (h₂ : t₁.holds → CheckTable.Matches t₂ c₂) : CheckTable.Matches (t₁ ++ t₂) (c₁ ++ c₂) := by
  induction h₁ with
  | nil => exact h₂ (by simp [CheckTable.holds])
  | cons hp _ ih => exact .cons hp (fun h => ih h (fun hh => h₂ (List.forall_mem_cons.2 ⟨h, hh⟩)))

variable {s : State}

theorem slotOf_of {n : Nat} {x : Slot} (h : Slot.ofCode? n = some x) : slotOf n = x := by simp [slotOf, h]

theorem State.slotTable_matches (slot : Nat) : (s.slotTable slot).Matches (s.slotChecks slot) := by
  refine .cons (by simp [Option.isSome_iff_exists]) (fun ⟨x, hx⟩ => .cons ?_ (fun _ => .nil))
  simp [slotOf_of hx, hx, Option.isSome_iff_ne_none]

theorem State.holdTable_matches (slot hold : Nat) : (s.holdTable slot hold).Matches (s.holdChecks slot hold) := by
  refine (s.slotTable_matches slot).append (fun h => .cons ?_ (fun _ => .nil))
  simp only [State.slotTable, CheckTable.holds, List.forall_mem_cons] at h
  obtain ⟨⟨x, hx⟩, hs, -⟩ := h
  obtain ⟨ses, hses⟩ := Option.ne_none_iff_exists'.1 (hs x hx)
  constructor
  · intro h
    have := h x ses hx hses
    simp only [slotOf_of hx, State.holdCount, hses, decide_eq_true_eq]
    omega
  · intro h y k hy hk
    obtain rfl : x = y := by simpa [hx] using hy
    obtain rfl : ses = k := by simpa [hses] using hk
    simp only [slotOf_of hx, State.holdCount, hses, decide_eq_true_eq] at h
    omega

theorem onRail_iff (ses : Session) : spanOnRail ses ↔ onRail ses.span = true := by
  unfold spanOnRail onRail
  exact decide_eq_true_iff.symm

theorem spansApart_iff (a b : Session) : spansApart a b ↔ (!overlap a.span b.span) = true := by
  simp only [spansApart, inside, overlap, Bool.not_eq_true', decide_eq_false_iff_not, decide_eq_true_eq]
  constructor
  · intro h hle
    have ha : a.span.1 ≤ a.span.2 := by unfold Session.span; split <;> simp
    have hb : b.span.1 ≤ b.span.2 := by unfold Session.span; split <;> simp
    exact h (max a.span.1 b.span.1) (by omega)
  · intro h p hp
    exact h (by omega)

theorem firstFree_isSome (n : Nat) (records : List (Option Bill)) : none ∈ records ↔ (firstFree n records).isSome = true := by
  induction records generalizing n with
  | nil => simp [firstFree]
  | cons r rest ih => cases r <;> simp [firstFree, ← ih]

theorem State.openTable_matches (f : SessionFields) : (s.openTable f).Matches (s.openChecks f) := by
  unfold State.openTable State.openChecks
  refine .cons (by simp [Option.isSome_iff_exists]) (fun ⟨x, hx⟩ => ?_)
  refine .cons (by simp) (fun _ => .cons (by simp) (fun _ => .cons (by simp [Option.isSome_iff_exists]) (fun _ => ?_)))
  refine .cons (by simp) (fun _ => .cons (by simp) (fun _ => .cons (by simp) (fun _ => ?_)))
  refine .cons (by simp) (fun _ => .cons (by simp) (fun _ => .cons (by simp) (fun _ => ?_)))
  refine .cons (by simp) (fun _ => .cons (by simp) (fun _ => .cons (by simp) (fun _ => .cons (by simp) (fun _ => ?_))))
  refine .cons (by simp) (fun _ => .cons (by simp [onRail_iff]) (fun _ => .cons ?_ (fun _ => .cons ?_ (fun _ => .cons ?_ (fun _ => .nil)))))
  · simp [hx, slotOf_of hx]
  · simp only [hx, slotOf_of hx, State.clearOfOther]
    cases ho : s.session x.other with
    | none =>
      refine iff_of_true (fun y o hy h => ?_) rfl
      obtain rfl : x = y := by simpa using hy
      rw [ho] at h; cases h
    | some o =>
      simp only [spansApart_iff]
      exact ⟨fun h => h x o rfl ho, fun h y k hy hk => by
        obtain rfl : x = y := by simpa using hy
        obtain rfl : o = k := by simpa [ho] using hk
        exact h⟩
  · exact firstFree_isSome 1 _

/-- The windows of a list of descriptors, the first being hold `n`, lie apart from a window. -/
theorem clearOfWindows_iff (hold fore aft n : Nat) (holds : List Hold) :
    clearOfWindows hold fore aft n holds = true
      ↔ ∀ i d p, n + i ≠ hold → holds[i]? = some d → d.plan = some p → overlap (fore, aft) (p.fore, p.aft) = false := by
  induction holds generalizing n with
  | nil => simp [clearOfWindows]
  | cons d rest ih =>
    simp only [clearOfWindows, Bool.and_eq_true, ih]
    constructor
    · rintro ⟨h, hr⟩ i e p hi he hp
      cases i with
      | zero =>
        obtain rfl : d = e := by simpa using he
        simp only [hp, Bool.or_eq_true, beq_iff_eq, Bool.not_eq_true'] at h
        exact h.resolve_left (by simpa using hi)
      | succ i => exact hr i e p (by omega) (by simpa using he) hp
    · intro h
      refine ⟨?_, fun i e p hi he hp => h (i + 1) e p (by omega) (by simpa using he) hp⟩
      split
      · rename_i p hp
        by_cases hn : n = hold
        · simp [hn]
        · simp [h 0 d p (by simpa using hn) (by simp) hp]
      · rfl

theorem rising_iff (l : List Nat) : l.Pairwise (· < ·) ↔ rising l = true := by
  induction l with
  | nil => simp [rising]
  | cons a rest ih =>
    cases rest with
    | nil => simp [rising]
    | cons b rest =>
      simp only [rising, Bool.and_eq_true, decide_eq_true_eq, ← ih, List.pairwise_cons]
      constructor
      · exact fun h => ⟨h.1 b (List.mem_cons_self ..), h.2⟩
      · exact fun h => ⟨fun x hx => by
          rcases List.mem_cons.1 hx with rfl | hx
          · exact h.1
          · exact lt_trans h.1 (h.2.1 x hx), h.2⟩

theorem windowsApart_iff (a b c d : Nat) :
    (∀ q : Nat, ¬((a ≤ q ∧ q ≤ b) ∧ c ≤ q ∧ q ≤ d)) ↔ overlap ((a : Int), (b : Int)) ((c : Int), (d : Int)) = false := by
  simp only [overlap, decide_eq_false_iff_not]
  constructor
  · intro h hle
    exact h (max a c) (by omega)
  · intro h q hq
    exact h (by omega)

theorem State.entryTable_matches (f : HoldFields) {x : Slot} {ses : Session} (hx : Slot.ofCode? f.slot = some x)
    (hs : s.session x = some ses) : (s.entryTable x ses f).Matches (s.entryChecks f) := by
  unfold State.entryTable State.entryChecks
  simp only [slotOf_of hx, hs]
  refine .cons (by simp) (fun _ => .cons (by simp) (fun _ => .cons (by simp) (fun hw => .cons (by simp) (fun _ => ?_))))
  refine .cons (by simp) (fun _ => .cons (by simp) (fun _ => .cons ?_ (fun _ => ?_)))
  · simp [targetsOk, rising_iff, and_assoc]
  refine .cons (by simp [Option.isSome_iff_exists]) (fun _ => .cons (by simp) (fun _ => .cons ?_ (fun _ => .cons ?_ (fun _ => .nil))))
  · simp only [clearOfWindows_iff, windowsApart_iff]
    constructor
    · intro h i d p hi hd hp
      exact h (1 + i) d p hi (by simpa [Session.hold] using hd) hp
    · intro h g d p hg hd hp
      have hg0 : g ≠ 0 := by rintro rfl; simp [Session.hold] at hd
      exact h (g - 1) d p (by omega) (by simpa [Session.hold, hg0] using hd) hp
  · simp only [State.claimOn]
    cases hp : s.plan x f.hold <;> cases hcl : s.fill.claim <;> simp; tauto

/-- The checks of a map request, as its command makes them. -/
def State.mapChecks (s : State) : Request → List Check
  | .openSession f => s.openChecks f
  | .holdEntry f => s.holdChecks f.slot f.hold ++ s.entryChecks f
  | .setHatch slot hold state => s.holdChecks slot hold ++ [fieldIn 3 0 1 state]
  | .permit slot hold => s.holdChecks slot hold ++ [orElse (s.restricted (slotOf slot) hold) .notRestricted]
  | .shiftVessel slot bow => s.slotChecks slot ++ [fieldIn 2 0 1000000 bow, fieldOk 2 (onRail (s.shiftedSpan (slotOf slot) bow)),
      orElse (s.clearOfOther (slotOf slot) (s.shiftedSpan (slotOf slot) bow)) .overlap]
  | .setDraftLimit slot limit => s.slotChecks slot ++ [fieldIn 2 50 1400 limit]
  | .closeSession slot => s.slotChecks slot ++ [orElse (!s.claimOnSlot (slotOf slot)) .stationBusy]
  | _ => []

/-- The slot of a slot table that is met. -/
theorem State.slotTable_holds {slot : Nat} (h : (s.slotTable slot).holds) :
    ∃ x ses, Slot.ofCode? slot = some x ∧ s.session x = some ses := by
  simp only [State.slotTable, CheckTable.holds, List.forall_mem_cons] at h
  obtain ⟨⟨x, hx⟩, hs, -⟩ := h
  obtain ⟨ses, hses⟩ := Option.ne_none_iff_exists'.1 (hs x hx)
  exact ⟨x, ses, hx, hses⟩

theorem State.mapTable_matches (r : Request) : (s.mapTable r).Matches (s.mapChecks r) := by
  cases r <;> try exact .nil
  case openSession f => exact s.openTable_matches f
  case holdEntry f =>
    refine (s.holdTable_matches f.slot f.hold).append (fun h => ?_)
    obtain ⟨x, ses, hx, hses⟩ := State.slotTable_holds (s := s) (slot := f.slot) fun row hr => h row (by simp [State.holdTable, hr])
    simpa only [hx, hses] using State.entryTable_matches f hx hses
  case setHatch slot hold state => exact (s.holdTable_matches slot hold).append (fun _ => .cons (by simp) (fun _ => .nil))
  case permit slot hold =>
    refine (s.holdTable_matches slot hold).append (fun h => .cons ?_ (fun _ => .nil))
    obtain ⟨x, ses, hx, -⟩ := State.slotTable_holds (s := s) (slot := slot) fun row hr => h row (by simp [State.holdTable, hr])
    simp only [hx, Option.some.injEq, slotOf_of hx, State.restricted, exists_and_left, exists_eq_left']
    cases s.hold x hold <;> simp [Option.isSome_iff_ne_none]
  case shiftVessel slot bow =>
    refine (s.slotTable_matches slot).append (fun h => .cons (by simp) (fun _ => ?_))
    obtain ⟨x, ses, hx, hses⟩ := State.slotTable_holds h
    have key : s.shiftedSpan (slotOf slot) bow = ({ ses with bowMark := (bow : Int) } : Session).span := by
      simp [State.shiftedSpan, slotOf_of hx, hses]
    refine .cons ?_ (fun _ => .cons ?_ (fun _ => .nil)) <;> rw [key]
    · rw [← onRail_iff]
      exact ⟨fun h => h x ses hx hses, fun h y k hy hk => by
        obtain rfl : x = y := by simpa [hx] using hy
        obtain rfl : ses = k := by simpa [hses] using hk
        exact h⟩
    · rw [slotOf_of hx]
      simp only [State.clearOfOther]
      cases ho : s.session x.other with
      | none =>
        refine iff_of_true (fun y k o hy hk h => ?_) rfl
        obtain rfl : x = y := by simpa [hx] using hy
        rw [ho] at h; cases h
      | some o =>
        simp only [← spansApart_iff]
        exact ⟨fun h => h x ses o hx hses ho, fun h y k q hy hk hq => by
          obtain rfl : x = y := by simpa [hx] using hy
          obtain rfl : ses = k := by simpa [hses] using hk
          obtain rfl : o = q := by simpa [ho] using hq
          exact h⟩
  case setDraftLimit slot limit => exact (s.slotTable_matches slot).append (fun _ => .cons (by simp) (fun _ => .nil))
  case closeSession slot =>
    refine (s.slotTable_matches slot).append (fun h => .cons ?_ (fun _ => .nil))
    obtain ⟨x, ses, hx, -⟩ := State.slotTable_holds h
    simp only [hx, Option.some.injEq, slotOf_of hx, State.claimOnSlot]
    cases s.fill.claim <;> simp

/-! ## The claim window -/

theorem Session.limits_cases (ses : Session) (r : TrimDraft) :
    ses.limits r = none ∨ ses.limits r = some .trim ∨ ses.limits r = some .draft := by
  unfold Session.limits
  split
  · simp
  · split <;> simp

/-- The checks of the claim window, with E4 as two rows. -/
def State.windowChecks (s : State) (c : OwnClaim) (o : Option Reason) : List Check :=
  s.e1 c.slot ++ [orElse (s.ready c.slot c.hold) .notReady,
    orElse (decide (s.holdTotal c.slot c.hold < c.target * 1000)) .holdComplete,
    orElse (s.e3 c.slot c.hold c.pass) .order,
    orElse (decide (s.activePeers c.slot c.hold + (s.lowerPending c.slot c.hold).length
      < s.spoutLimit c.slot c.hold)) .holdBusy]
    ++ [(o != some .trim, .trim, 0), (o != some .draft, .draft, 0)]

theorem firstFailure_append (a b : List Check) :
    firstFailure (a ++ b) = (firstFailure a).or (firstFailure b) := by
  induction a with
  | nil => simp [firstFailure]
  | cons c rest ih =>
    obtain ⟨ok, r⟩ := c
    cases ok <;> simp [firstFailure, ih]

theorem State.aheadOfUs_eq (x : Slot) (h : Nat) : s.aheadOfUs x h = s.lowerPending x h := by
  simp only [State.aheadOfUs, State.peerClaims, State.lowerPending, List.filter_filter, State.fresh]
  refine List.filter_congr fun k _ => ?_
  by_cases hk : k.station < s.station
  · have hne : (k.station != s.station) = true := by simp; omega
    simp [hk, hne, Bool.and_comm]
  · simp [hk]

theorem State.totalsWithRank_eq (c : OwnClaim) : s.totalsWithRank c = s.rankedTotals c := by
  funext i
  have key : ∀ (l : List ClaimEntry) (m : Nat), (l.map ClaimEntry.target).foldl max m = max m (maxTarget l) := by
    intro l
    unfold maxTarget
    have gen : ∀ (l : List ClaimEntry) (m n : Nat),
        (l.map ClaimEntry.target).foldl max (max m n) = max m (l.foldl (fun k c => max k c.target) n) := by
      intro l
      induction l with
      | nil => simp
      | cons a rest ih => intro m n; simp only [List.map_cons, List.foldl_cons, max_assoc, ih]
    intro m
    simpa using gen l m 0
  simp only [State.totalsWithRank, key, s.aheadOfUs_eq, State.rankedTotals]
  omega

theorem State.adjacentOk_iff (x : Slot) (h n : Nat) (hn : 2 ≤ n) : s.adjacentOk x h n = true
    ↔ ∀ p t, s.plan x h = some p → p.targets[n - 2]? = some t → t * 1000 ≤ s.holdTotal x h := by
  unfold State.adjacentOk
  rw [if_neg (by omega)]
  cases s.plan x h with
  | none => simp
  | some p =>
    simp only [Option.some.injEq]
    cases hp : p.targets[n - 2]? with
    | none => exact iff_of_true rfl fun q t hq ht => by subst hq; rw [hp] at ht; cases ht
    | some v =>
      refine decide_eq_true_iff.trans ⟨fun h q t hq ht => ?_, fun h => h p v rfl hp⟩
      subst hq; rw [hp] at ht; cases ht; exact h

/-- The condition of E2 is what `State.ready` computes (R17, R107). -/
theorem State.ready_iff (x : Slot) (h : Nat) : (∃ d p, s.hold x h = some d ∧ d.plan = some p ∧ p.targets ≠ [] ∧ d.hatchOpen = true
    ∧ (d.permission = .opened ∨ (d.permission = .restricted ∧ d.token = true))) ↔ s.ready x h = true := by
  simp only [State.ready]
  cases s.hold x h with
  | none => simp
  | some d => cases hp : d.plan <;> simp [hp, and_assoc]

/-- The condition of E3 is what `State.e3` computes (R108). -/
theorem State.e3_iff (x : Slot) (h n : Nat) : (2 ≤ n → ∀ g, (g + 1 = h ∨ g = h + 1) → ∀ p t, s.plan x g = some p →
    p.targets[n - 2]? = some t → t * 1000 ≤ s.holdTotal x g) ↔ s.e3 x h n = true := by
  simp only [State.e3, Bool.and_eq_true]
  by_cases hn : 2 ≤ n
  · rw [State.adjacentOk_iff _ _ _ hn, State.adjacentOk_iff _ _ _ hn]
    constructor
    · intro k
      refine ⟨?_, k hn (h + 1) (.inr rfl)⟩
      by_cases h0 : h = 0
      · intro p t hp
        have : s.plan x 0 = none := by
          unfold State.plan State.hold Session.hold
          cases s.session x <;> simp
        simp [h0, this] at hp
      · exact k hn (h - 1) (.inl (by omega))
    · rintro ⟨h₁, h₂⟩ - g hg
      rcases hg with hg | rfl
      · obtain rfl : g = h - 1 := by omega
        exact h₁
      · exact h₂
  · have : n ≤ 1 := by omega
    simp [State.adjacentOk, this, hn]

theorem State.decisionTable_matches (c : OwnClaim) (o : Option Reason)
    (ho : ∀ ses, s.session c.slot = some ses → o = limitCheck ses (s.rankedTotals c)) :
    (s.decisionTable c).Matches (s.windowChecks c o) := by
  unfold State.decisionTable State.windowChecks State.e1
  refine .cons (by simp [Option.isSome_iff_ne_none]) (fun hs => .cons (by simp) (fun _ => .cons ?_ (fun hr => .cons (by simp) (fun _ => ?_))))
  · exact s.ready_iff _ _
  refine .cons ?_ (fun _ => .cons ?_ (fun _ => ?_))
  · exact s.e3_iff _ _ _
  · have ha : (s.peerClaims c.slot c.hold .active).length = s.activePeers c.slot c.hold := rfl
    rw [ha, s.aheadOfUs_eq]
    refine Iff.trans ?_ decide_eq_true_iff.symm
    unfold State.spoutLimit
    split <;> simp [*]
  obtain ⟨ses, hses⟩ := Option.ne_none_iff_exists'.1 hs
  have key : ses.limits (ses.trimDraft (s.totalsWithRank c)) = o := by
    rw [s.totalsWithRank_eq, ho ses hses]; rfl
  refine .cons ?_ (fun _ => .cons ?_ (fun _ => .nil)) <;> simp [hses, key]

/-- The rows of E4 refuse as its check does. -/
theorem firstFailure_limits (ses : Session) (pred : Nat → Nat) :
    firstFailure [(limitCheck ses pred != some .trim, .trim, 0), (limitCheck ses pred != some .draft, .draft, 0)]
      = firstFailure (limitChecks ses pred) := by
  unfold limitChecks
  rcases Session.limits_cases ses (ses.trimDraft pred) with h | h | h <;> simp [limitCheck, h, firstFailure, orElse]

theorem State.windowChecks_eq (c : OwnClaim) : ∃ o, (∀ ses, s.session c.slot = some ses → o = limitCheck ses (s.rankedTotals c))
    ∧ firstFailure (s.windowChecks c o) = firstFailure (s.decisionChecks c) := by
  cases h : s.session c.slot with
  | none => exact ⟨none, nofun, by simp [State.windowChecks, State.decisionChecks, State.e1, h, firstFailure, orElse]⟩
  | some ses =>
    refine ⟨limitCheck ses (s.rankedTotals c), fun k hk => by cases hk; rfl, ?_⟩
    rw [State.windowChecks, State.decisionChecks, h, firstFailure_append, firstFailure_limits, ← firstFailure_append]

/-- The table of R116 is met exactly where the model's checks pass. -/
theorem State.decisionTable_holds_iff (c : OwnClaim) : (s.decisionTable c).holds ↔ firstFailure (s.decisionChecks c) = none := by
  obtain ⟨o, ho, he⟩ := s.windowChecks_eq c
  rw [(s.decisionTable_matches c o ho).holds_iff, he]

theorem State.decisionTable_failsBy_iff (c : OwnClaim) (reason : Reason) (index : Nat) :
    (s.decisionTable c).failsBy reason index ↔ firstFailure (s.decisionChecks c) = some (reason, index) := by
  obtain ⟨o, ho, he⟩ := s.windowChecks_eq c
  rw [(s.decisionTable_matches c o ho).failsBy_iff, he]

/-! ## POUR (R106 to R112) -/

theorem State.askTable_matches (slot hold override : Nat) :
    (s.askTable slot hold override).Matches (s.pourChecks slot hold override) := by
  unfold State.askTable State.pourChecks State.e1
  refine .cons (by simp [Option.isSome_iff_exists]) (fun ⟨x, hx⟩ => .cons (by simp) (fun _ => .cons ?_ (fun _ => ?_)))
  · by_cases h : override = 0 <;> simp [h]
  refine .cons (by simp [hx, slotOf_of hx, Option.isSome_iff_ne_none]) (fun hs => .cons (by simp [hx, slotOf_of hx]) (fun _ => ?_))
  obtain ⟨ses, hses⟩ := Option.ne_none_iff_exists'.1 (hs x hx)
  refine .cons ?_ (fun _ => .nil)
  simp only [hx, slotOf_of hx, Option.some.injEq, State.holdCount, hses]
  by_cases h : hold = 0
  · simp [h]
  · simp only [h, beq_iff_eq, Bool.or_eq_true, decide_eq_true_eq, false_or]
    exact ⟨fun k => k x ses rfl hses, by rintro k _ _ rfl hk; cases hses.symm.trans hk; exact k⟩

/-- The pass and the pass target that a POUR on a hold finds (R107). -/
def State.foundPass (s : State) (x : Slot) (hold : Nat) : Nat × Nat := (s.nextPass x hold).getD (0, 0)

/-- The target that it proposes (R107). -/
def State.proposed (s : State) (x : Slot) (hold override : Nat) : Nat := if override = 0 then (s.foundPass x hold).2 else override

/-- The checks of a named hold, E4 as two rows. -/
def State.passRows (s : State) (x : Slot) (ses : Session) (hold override : Nat) : List Check :=
  [orElse (s.ready x hold) .notReady, orElse (s.nextPass x hold).isSome .holdComplete,
    fieldOk 3 (s.overrideOk x hold (s.foundPass x hold).2 (if override = 0 then none else some override)),
    orElse (s.e3 x hold (s.foundPass x hold).1) .order]
    ++ [(limitCheck ses (s.proposal x hold (s.proposed x hold override)) != some .trim, .trim, 0),
      (limitCheck ses (s.proposal x hold (s.proposed x hold override)) != some .draft, .draft, 0)]
    ++ [orElse (s.e5 x hold) .outOfReach, orElse (decide (s.activePeers x hold < s.spoutLimit x hold)) .holdBusy,
      orElse s.e7 .stationBusy]

/-- E5: with the position known, a position lies in the range and in the window (R110). -/
theorem State.e5_iff (x : Slot) (hold : Nat) : (s.travel.position ≠ none ∧ ∃ lo hi w pos, s.computeEdge .up none = some lo
    ∧ s.computeEdge .down none = some hi ∧ s.loaderWindow x hold = some w ∧ (lo.1 ≤ pos ∧ pos ≤ hi.1) ∧ w.1 ≤ pos ∧ pos ≤ w.2)
    ↔ s.e5 x hold = true := by
  unfold State.e5 State.computeRange
  cases hu : s.computeEdge .up none <;> cases hd : s.computeEdge .down none <;> cases hw : s.loaderWindow x hold <;>
    simp [Range.of, overlap, Option.isSome_iff_ne_none]
  intro _
  constructor
  · rintro ⟨pos, h⟩; omega
  · rename_i a b w _
    intro h
    exact ⟨max a.1 w.1, by omega⟩

theorem State.passTable_matches (x : Slot) (ses : Session) (hold override : Nat) :
    (s.passTable x ses hold override).Matches (s.passRows x ses hold override) := by
  unfold State.passTable State.passRows
  refine .cons (s.ready_iff x hold) (fun hr => .cons (by simp [Option.isSome_iff_ne_none]) (fun hn => ?_))
  obtain ⟨⟨n, k⟩, hnk⟩ := Option.ne_none_iff_exists'.1 hn
  have hf : s.foundPass x hold = (n, k) := by simp [State.foundPass, hnk]
  have hp : s.proposal x hold (s.proposed x hold override) = fun i =>
      if i = hold then max (s.predicted x i) (if override = 0 then k else override) else s.predicted x i := by
    funext i; simp [State.proposal, State.proposed, hf]
  simp only [hnk, Option.some.injEq, Prod.mk.injEq, and_imp, hf]
  refine .cons ?_ (fun _ => .cons ?_ (fun _ => .cons ?_ (fun _ => .cons ?_ (fun _ => .cons (s.e5_iff x hold) (fun _ => .cons ?_ (fun _ => .cons ?_ (fun _ => .nil)))))))
  · by_cases h : override = 0
    · simp [h, State.overrideOk]
    · simp only [h, if_false, State.overrideOk, decide_eq_true_eq]
      constructor
      · intro h'; have := h' n k rfl rfl h; omega
      · rintro h' _ _ rfl rfl -; omega
  · rw [← s.e3_iff]; exact ⟨fun h => h n k rfl rfl, by rintro h _ _ rfl rfl; exact h⟩
  · rw [hp]; simp [limitCheck]
  · rw [hp]; simp [limitCheck]
  · obtain ⟨d, p, hd, hpl, -⟩ := hr
    have : s.plan x hold = some p := by simp [State.plan, hd, hpl]
    simp only [this, Option.some.injEq, forall_eq', State.spoutLimit, decide_eq_true_eq]
    exact Iff.rfl
  · simp only [State.e7, State.dustOwn, DustClass.stops, Bool.and_eq_true, Option.isNone_iff_eq_none, bne_iff_ne, Bool.not_eq_true',
      Bool.or_eq_false_iff, beq_eq_false_iff_ne, decide_eq_true_eq]
    constructor
    · rintro ⟨a, b, c, d, e, f⟩; exact ⟨⟨⟨⟨⟨a, b⟩, c⟩, d⟩, e .spout, e .gallery⟩, f⟩
    · rintro ⟨⟨⟨⟨⟨a, b⟩, c⟩, d⟩, e, e'⟩, f⟩; exact ⟨a, b, c, d, by rintro (_ | _) <;> assumption, f⟩

/-- A POUR that names its hold refuses as its rows do, and where they pass it takes the pass found with the target proposed
(R106 to R112). -/
theorem State.judgePour_named (slot hold override : Nat) (x : Slot) (ses : Session) (hx : Slot.ofCode? slot = some x)
    (hs : s.session x = some ses) (hh : hold ≠ 0) : s.judgePour slot hold override =
      match firstFailure (s.pourChecks slot hold override ++ s.passRows x ses hold override) with
      | some r => .error r
      | none => .ok (hold, ⟨(s.foundPass x hold).1, s.proposed x hold override⟩) := by
  rw [firstFailure_append]
  unfold State.judgePour
  cases firstFailure (s.pourChecks slot hold override) with
  | some r => simp
  | none =>
    simp only [slotOf_of hx, hs, hh, if_false, Option.none_or, State.eligible, State.passRows, State.foundPass, State.proposed]
    cases s.ready x hold with
    | false => simp [firstFailure, orElse]
    | true =>
      cases hn : s.nextPass x hold with
      | none => simp [firstFailure, orElse]
      | some nk =>
        obtain ⟨n, k⟩ := nk
        have ht : (if override = 0 then none else some override).getD k = if override = 0 then k else override := by split <;> rfl
        simp only [Option.getD_some, ht, State.proposalChecks]
        cases s.overrideOk x hold k (if override = 0 then none else some override) with
        | false => simp [firstFailure, orElse, fieldOk]
        | true =>
          simp only [firstFailure_append, firstFailure_limits]
          simp only [firstFailure, orElse, fieldOk, Bool.not_true, Bool.false_eq_true, if_false, if_true, Option.isSome_some]
          cases s.e3 x hold n with
          | false => simp
          | true =>
            simp only [if_true, Option.none_or]
            generalize Option.or _ _ = o
            cases o <;> rfl

theorem State.pourTable_matches (slot hold override : Nat) (x : Slot) (ses : Session) (hx : Slot.ofCode? slot = some x)
    (hs : s.session x = some ses) : (s.pourTable slot hold override).Matches
      (s.pourChecks slot hold override ++ s.passRows x ses hold override) := by
  unfold State.pourTable
  rw [hx]; simp only [hs]
  exact (s.askTable_matches slot hold override).append fun _ => s.passTable_matches x ses hold override

end Sys2Proof.Machine
end

