-- ==== Sys2Proof/Laws/State.lean ====
section
/-! SUPPORT. The small lemmas of the block updates: for each update, what each field of the state holds afterwards. All but
a few hold by unfolding one definition; proofs cite them and never unfold a record update. -/

namespace Sys2Proof.Machine

variable (s : State)

/-! ## onPort -/

section
variable (f : LocalPort → LocalPort)

@[simp] theorem State.onPort_count : (s.onPort f).count = s.count := rfl
@[simp] theorem State.onPort_cfg : (s.onPort f).cfg = s.cfg := rfl
@[simp] theorem State.onPort_inputs : (s.onPort f).inputs = s.inputs := rfl
@[simp] theorem State.onPort_port : (s.onPort f).port = f s.port := rfl
@[simp] theorem State.onPort_berths : (s.onPort f).berths = s.berths := rfl
@[simp] theorem State.onPort_scale : (s.onPort f).scale = s.scale := rfl
@[simp] theorem State.onPort_belt : (s.onPort f).belt = s.belt := rfl
@[simp] theorem State.onPort_line : (s.onPort f).line = s.line := rfl
@[simp] theorem State.onPort_peers : (s.onPort f).peers = s.peers := rfl
@[simp] theorem State.onPort_travel : (s.onPort f).travel = s.travel := rfl
@[simp] theorem State.onPort_fill : (s.onPort f).fill = s.fill := rfl
@[simp] theorem State.onPort_pour : (s.onPort f).pour = s.pour := rfl
@[simp] theorem State.onPort_dust : (s.onPort f).dust = s.dust := rfl
@[simp] theorem State.onPort_bills : (s.onPort f).bills = s.bills := rfl
@[simp] theorem State.onPort_pending : (s.onPort f).pending = s.pending := rfl
@[simp] theorem State.onPort_block : (s.onPort f).block = s.block := rfl
@[simp] theorem State.onPort_timer (ms : Nat) : (s.onPort f).timer ms = s.timer ms := rfl
@[simp] theorem State.onPort_lineOpen : (s.onPort f).lineOpen = s.lineOpen := rfl
@[simp] theorem State.onPort_berth (x : Slot) : (s.onPort f).berth x = s.berth x := rfl
@[simp] theorem State.onPort_session (x : Slot) : (s.onPort f).session x = s.session x := rfl
@[simp] theorem State.onPort_view (x : Slot) : (s.onPort f).view x = s.view x := by cases x <;> rfl

end

/-! ## onBerths -/

section
variable (f : Berths → Berths)

@[simp] theorem State.onBerths_count : (s.onBerths f).count = s.count := rfl
@[simp] theorem State.onBerths_cfg : (s.onBerths f).cfg = s.cfg := rfl
@[simp] theorem State.onBerths_inputs : (s.onBerths f).inputs = s.inputs := rfl
@[simp] theorem State.onBerths_port : (s.onBerths f).port = s.port := rfl
@[simp] theorem State.onBerths_berths : (s.onBerths f).berths = f s.berths := rfl
@[simp] theorem State.onBerths_scale : (s.onBerths f).scale = s.scale := rfl
@[simp] theorem State.onBerths_belt : (s.onBerths f).belt = s.belt := rfl
@[simp] theorem State.onBerths_line : (s.onBerths f).line = s.line := rfl
@[simp] theorem State.onBerths_peers : (s.onBerths f).peers = s.peers := rfl
@[simp] theorem State.onBerths_travel : (s.onBerths f).travel = s.travel := rfl
@[simp] theorem State.onBerths_fill : (s.onBerths f).fill = s.fill := rfl
@[simp] theorem State.onBerths_pour : (s.onBerths f).pour = s.pour := rfl
@[simp] theorem State.onBerths_dust : (s.onBerths f).dust = s.dust := rfl
@[simp] theorem State.onBerths_bills : (s.onBerths f).bills = s.bills := rfl
@[simp] theorem State.onBerths_pending : (s.onBerths f).pending = s.pending := rfl
@[simp] theorem State.onBerths_block : (s.onBerths f).block = s.block := rfl
@[simp] theorem State.onBerths_timer (ms : Nat) : (s.onBerths f).timer ms = s.timer ms := rfl
@[simp] theorem State.onBerths_configured : (s.onBerths f).configured = s.configured := rfl
@[simp] theorem State.onBerths_inRun : (s.onBerths f).inRun = s.inRun := rfl
@[simp] theorem State.onBerths_lineOpen : (s.onBerths f).lineOpen = s.lineOpen := rfl
@[simp] theorem State.onBerths_view (x : Slot) : (s.onBerths f).view x = s.view x := by cases x <;> rfl

end

/-! ## onScale -/

section
variable (f : Scale → Scale)

@[simp] theorem State.onScale_count : (s.onScale f).count = s.count := rfl
@[simp] theorem State.onScale_cfg : (s.onScale f).cfg = s.cfg := rfl
@[simp] theorem State.onScale_inputs : (s.onScale f).inputs = s.inputs := rfl
@[simp] theorem State.onScale_port : (s.onScale f).port = s.port := rfl
@[simp] theorem State.onScale_berths : (s.onScale f).berths = s.berths := rfl
@[simp] theorem State.onScale_scale : (s.onScale f).scale = f s.scale := rfl
@[simp] theorem State.onScale_belt : (s.onScale f).belt = s.belt := rfl
@[simp] theorem State.onScale_line : (s.onScale f).line = s.line := rfl
@[simp] theorem State.onScale_peers : (s.onScale f).peers = s.peers := rfl
@[simp] theorem State.onScale_travel : (s.onScale f).travel = s.travel := rfl
@[simp] theorem State.onScale_fill : (s.onScale f).fill = s.fill := rfl
@[simp] theorem State.onScale_pour : (s.onScale f).pour = s.pour := rfl
@[simp] theorem State.onScale_dust : (s.onScale f).dust = s.dust := rfl
@[simp] theorem State.onScale_bills : (s.onScale f).bills = s.bills := rfl
@[simp] theorem State.onScale_pending : (s.onScale f).pending = s.pending := rfl
@[simp] theorem State.onScale_block : (s.onScale f).block = s.block := rfl
@[simp] theorem State.onScale_timer (ms : Nat) : (s.onScale f).timer ms = s.timer ms := rfl
@[simp] theorem State.onScale_configured : (s.onScale f).configured = s.configured := rfl
@[simp] theorem State.onScale_inRun : (s.onScale f).inRun = s.inRun := rfl
@[simp] theorem State.onScale_lineOpen : (s.onScale f).lineOpen = s.lineOpen := rfl
@[simp] theorem State.onScale_berth (x : Slot) : (s.onScale f).berth x = s.berth x := rfl
@[simp] theorem State.onScale_session (x : Slot) : (s.onScale f).session x = s.session x := rfl
@[simp] theorem State.onScale_view (x : Slot) : (s.onScale f).view x = s.view x := by cases x <;> rfl

end

/-! ## onBelt -/

section
variable (f : Belt → Belt)

@[simp] theorem State.onBelt_count : (s.onBelt f).count = s.count := rfl
@[simp] theorem State.onBelt_cfg : (s.onBelt f).cfg = s.cfg := rfl
@[simp] theorem State.onBelt_inputs : (s.onBelt f).inputs = s.inputs := rfl
@[simp] theorem State.onBelt_port : (s.onBelt f).port = s.port := rfl
@[simp] theorem State.onBelt_berths : (s.onBelt f).berths = s.berths := rfl
@[simp] theorem State.onBelt_scale : (s.onBelt f).scale = s.scale := rfl
@[simp] theorem State.onBelt_belt : (s.onBelt f).belt = f s.belt := rfl
@[simp] theorem State.onBelt_line : (s.onBelt f).line = s.line := rfl
@[simp] theorem State.onBelt_peers : (s.onBelt f).peers = s.peers := rfl
@[simp] theorem State.onBelt_travel : (s.onBelt f).travel = s.travel := rfl
@[simp] theorem State.onBelt_fill : (s.onBelt f).fill = s.fill := rfl
@[simp] theorem State.onBelt_pour : (s.onBelt f).pour = s.pour := rfl
@[simp] theorem State.onBelt_dust : (s.onBelt f).dust = s.dust := rfl
@[simp] theorem State.onBelt_bills : (s.onBelt f).bills = s.bills := rfl
@[simp] theorem State.onBelt_pending : (s.onBelt f).pending = s.pending := rfl
@[simp] theorem State.onBelt_block : (s.onBelt f).block = s.block := rfl
@[simp] theorem State.onBelt_timer (ms : Nat) : (s.onBelt f).timer ms = s.timer ms := rfl
@[simp] theorem State.onBelt_configured : (s.onBelt f).configured = s.configured := rfl
@[simp] theorem State.onBelt_inRun : (s.onBelt f).inRun = s.inRun := rfl
@[simp] theorem State.onBelt_lineOpen : (s.onBelt f).lineOpen = s.lineOpen := rfl
@[simp] theorem State.onBelt_berth (x : Slot) : (s.onBelt f).berth x = s.berth x := rfl
@[simp] theorem State.onBelt_session (x : Slot) : (s.onBelt f).session x = s.session x := rfl
@[simp] theorem State.onBelt_view (x : Slot) : (s.onBelt f).view x = s.view x := by cases x <;> rfl

end

/-! ## onLine -/

section
variable (f : QuayLine → QuayLine)

@[simp] theorem State.onLine_count : (s.onLine f).count = s.count := rfl
@[simp] theorem State.onLine_cfg : (s.onLine f).cfg = s.cfg := rfl
@[simp] theorem State.onLine_inputs : (s.onLine f).inputs = s.inputs := rfl
@[simp] theorem State.onLine_port : (s.onLine f).port = s.port := rfl
@[simp] theorem State.onLine_berths : (s.onLine f).berths = s.berths := rfl
@[simp] theorem State.onLine_scale : (s.onLine f).scale = s.scale := rfl
@[simp] theorem State.onLine_belt : (s.onLine f).belt = s.belt := rfl
@[simp] theorem State.onLine_line : (s.onLine f).line = f s.line := rfl
@[simp] theorem State.onLine_peers : (s.onLine f).peers = s.peers := rfl
@[simp] theorem State.onLine_travel : (s.onLine f).travel = s.travel := rfl
@[simp] theorem State.onLine_fill : (s.onLine f).fill = s.fill := rfl
@[simp] theorem State.onLine_pour : (s.onLine f).pour = s.pour := rfl
@[simp] theorem State.onLine_dust : (s.onLine f).dust = s.dust := rfl
@[simp] theorem State.onLine_bills : (s.onLine f).bills = s.bills := rfl
@[simp] theorem State.onLine_pending : (s.onLine f).pending = s.pending := rfl
@[simp] theorem State.onLine_block : (s.onLine f).block = s.block := rfl
@[simp] theorem State.onLine_timer (ms : Nat) : (s.onLine f).timer ms = s.timer ms := rfl
@[simp] theorem State.onLine_configured : (s.onLine f).configured = s.configured := rfl
@[simp] theorem State.onLine_inRun : (s.onLine f).inRun = s.inRun := rfl
@[simp] theorem State.onLine_lineOpen : (s.onLine f).lineOpen = s.lineOpen := rfl
@[simp] theorem State.onLine_berth (x : Slot) : (s.onLine f).berth x = s.berth x := rfl
@[simp] theorem State.onLine_session (x : Slot) : (s.onLine f).session x = s.session x := rfl
@[simp] theorem State.onLine_view (x : Slot) : (s.onLine f).view x = s.view x := by cases x <;> rfl

end

/-! ## onPeers -/

section
variable (f : List PeerEntry → List PeerEntry)

@[simp] theorem State.onPeers_count : (s.onPeers f).count = s.count := rfl
@[simp] theorem State.onPeers_cfg : (s.onPeers f).cfg = s.cfg := rfl
@[simp] theorem State.onPeers_inputs : (s.onPeers f).inputs = s.inputs := rfl
@[simp] theorem State.onPeers_port : (s.onPeers f).port = s.port := rfl
@[simp] theorem State.onPeers_berths : (s.onPeers f).berths = s.berths := rfl
@[simp] theorem State.onPeers_scale : (s.onPeers f).scale = s.scale := rfl
@[simp] theorem State.onPeers_belt : (s.onPeers f).belt = s.belt := rfl
@[simp] theorem State.onPeers_line : (s.onPeers f).line = s.line := rfl
@[simp] theorem State.onPeers_peers : (s.onPeers f).peers = f s.peers := rfl
@[simp] theorem State.onPeers_travel : (s.onPeers f).travel = s.travel := rfl
@[simp] theorem State.onPeers_fill : (s.onPeers f).fill = s.fill := rfl
@[simp] theorem State.onPeers_pour : (s.onPeers f).pour = s.pour := rfl
@[simp] theorem State.onPeers_dust : (s.onPeers f).dust = s.dust := rfl
@[simp] theorem State.onPeers_bills : (s.onPeers f).bills = s.bills := rfl
@[simp] theorem State.onPeers_pending : (s.onPeers f).pending = s.pending := rfl
@[simp] theorem State.onPeers_block : (s.onPeers f).block = s.block := rfl
@[simp] theorem State.onPeers_timer (ms : Nat) : (s.onPeers f).timer ms = s.timer ms := rfl
@[simp] theorem State.onPeers_configured : (s.onPeers f).configured = s.configured := rfl
@[simp] theorem State.onPeers_inRun : (s.onPeers f).inRun = s.inRun := rfl
@[simp] theorem State.onPeers_lineOpen : (s.onPeers f).lineOpen = s.lineOpen := rfl
@[simp] theorem State.onPeers_berth (x : Slot) : (s.onPeers f).berth x = s.berth x := rfl
@[simp] theorem State.onPeers_session (x : Slot) : (s.onPeers f).session x = s.session x := rfl
@[simp] theorem State.onPeers_view (x : Slot) : (s.onPeers f).view x = s.view x := by cases x <;> rfl

end

/-! ## onTravel -/

section
variable (f : Travel → Travel)

@[simp] theorem State.onTravel_count : (s.onTravel f).count = s.count := rfl
@[simp] theorem State.onTravel_cfg : (s.onTravel f).cfg = s.cfg := rfl
@[simp] theorem State.onTravel_inputs : (s.onTravel f).inputs = s.inputs := rfl
@[simp] theorem State.onTravel_port : (s.onTravel f).port = s.port := rfl
@[simp] theorem State.onTravel_berths : (s.onTravel f).berths = s.berths := rfl
@[simp] theorem State.onTravel_scale : (s.onTravel f).scale = s.scale := rfl
@[simp] theorem State.onTravel_belt : (s.onTravel f).belt = s.belt := rfl
@[simp] theorem State.onTravel_line : (s.onTravel f).line = s.line := rfl
@[simp] theorem State.onTravel_peers : (s.onTravel f).peers = s.peers := rfl
@[simp] theorem State.onTravel_travel : (s.onTravel f).travel = f s.travel := rfl
@[simp] theorem State.onTravel_fill : (s.onTravel f).fill = s.fill := rfl
@[simp] theorem State.onTravel_pour : (s.onTravel f).pour = s.pour := rfl
@[simp] theorem State.onTravel_dust : (s.onTravel f).dust = s.dust := rfl
@[simp] theorem State.onTravel_bills : (s.onTravel f).bills = s.bills := rfl
@[simp] theorem State.onTravel_pending : (s.onTravel f).pending = s.pending := rfl
@[simp] theorem State.onTravel_block : (s.onTravel f).block = s.block := rfl
@[simp] theorem State.onTravel_timer (ms : Nat) : (s.onTravel f).timer ms = s.timer ms := rfl
@[simp] theorem State.onTravel_configured : (s.onTravel f).configured = s.configured := rfl
@[simp] theorem State.onTravel_inRun : (s.onTravel f).inRun = s.inRun := rfl
@[simp] theorem State.onTravel_lineOpen : (s.onTravel f).lineOpen = s.lineOpen := rfl
@[simp] theorem State.onTravel_berth (x : Slot) : (s.onTravel f).berth x = s.berth x := rfl
@[simp] theorem State.onTravel_session (x : Slot) : (s.onTravel f).session x = s.session x := rfl
@[simp] theorem State.onTravel_view (x : Slot) : (s.onTravel f).view x = s.view x := by cases x <;> rfl

end

/-! ## onFill -/

section
variable (f : Fill → Fill)

@[simp] theorem State.onFill_count : (s.onFill f).count = s.count := rfl
@[simp] theorem State.onFill_cfg : (s.onFill f).cfg = s.cfg := rfl
@[simp] theorem State.onFill_inputs : (s.onFill f).inputs = s.inputs := rfl
@[simp] theorem State.onFill_port : (s.onFill f).port = s.port := rfl
@[simp] theorem State.onFill_berths : (s.onFill f).berths = s.berths := rfl
@[simp] theorem State.onFill_scale : (s.onFill f).scale = s.scale := rfl
@[simp] theorem State.onFill_belt : (s.onFill f).belt = s.belt := rfl
@[simp] theorem State.onFill_line : (s.onFill f).line = s.line := rfl
@[simp] theorem State.onFill_peers : (s.onFill f).peers = s.peers := rfl
@[simp] theorem State.onFill_travel : (s.onFill f).travel = s.travel := rfl
@[simp] theorem State.onFill_fill : (s.onFill f).fill = f s.fill := rfl
@[simp] theorem State.onFill_pour : (s.onFill f).pour = s.pour := rfl
@[simp] theorem State.onFill_dust : (s.onFill f).dust = s.dust := rfl
@[simp] theorem State.onFill_bills : (s.onFill f).bills = s.bills := rfl
@[simp] theorem State.onFill_pending : (s.onFill f).pending = s.pending := rfl
@[simp] theorem State.onFill_block : (s.onFill f).block = s.block := rfl
@[simp] theorem State.onFill_timer (ms : Nat) : (s.onFill f).timer ms = s.timer ms := rfl
@[simp] theorem State.onFill_configured : (s.onFill f).configured = s.configured := rfl
@[simp] theorem State.onFill_inRun : (s.onFill f).inRun = s.inRun := rfl
@[simp] theorem State.onFill_lineOpen : (s.onFill f).lineOpen = s.lineOpen := rfl
@[simp] theorem State.onFill_berth (x : Slot) : (s.onFill f).berth x = s.berth x := rfl
@[simp] theorem State.onFill_session (x : Slot) : (s.onFill f).session x = s.session x := rfl

end

/-! ## onPour -/

section
variable (f : Pour → Pour)

@[simp] theorem State.onPour_count : (s.onPour f).count = s.count := rfl
@[simp] theorem State.onPour_cfg : (s.onPour f).cfg = s.cfg := rfl
@[simp] theorem State.onPour_inputs : (s.onPour f).inputs = s.inputs := rfl
@[simp] theorem State.onPour_port : (s.onPour f).port = s.port := rfl
@[simp] theorem State.onPour_berths : (s.onPour f).berths = s.berths := rfl
@[simp] theorem State.onPour_scale : (s.onPour f).scale = s.scale := rfl
@[simp] theorem State.onPour_belt : (s.onPour f).belt = s.belt := rfl
@[simp] theorem State.onPour_line : (s.onPour f).line = s.line := rfl
@[simp] theorem State.onPour_peers : (s.onPour f).peers = s.peers := rfl
@[simp] theorem State.onPour_travel : (s.onPour f).travel = s.travel := rfl
@[simp] theorem State.onPour_fill : (s.onPour f).fill = s.fill := rfl
@[simp] theorem State.onPour_pour : (s.onPour f).pour = f s.pour := rfl
@[simp] theorem State.onPour_dust : (s.onPour f).dust = s.dust := rfl
@[simp] theorem State.onPour_bills : (s.onPour f).bills = s.bills := rfl
@[simp] theorem State.onPour_pending : (s.onPour f).pending = s.pending := rfl
@[simp] theorem State.onPour_block : (s.onPour f).block = s.block := rfl
@[simp] theorem State.onPour_timer (ms : Nat) : (s.onPour f).timer ms = s.timer ms := rfl
@[simp] theorem State.onPour_configured : (s.onPour f).configured = s.configured := rfl
@[simp] theorem State.onPour_inRun : (s.onPour f).inRun = s.inRun := rfl
@[simp] theorem State.onPour_berth (x : Slot) : (s.onPour f).berth x = s.berth x := rfl
@[simp] theorem State.onPour_session (x : Slot) : (s.onPour f).session x = s.session x := rfl
@[simp] theorem State.onPour_view (x : Slot) : (s.onPour f).view x = s.view x := by cases x <;> rfl

end

/-! ## onDust -/

section
variable (f : Dust → Dust)

@[simp] theorem State.onDust_count : (s.onDust f).count = s.count := rfl
@[simp] theorem State.onDust_cfg : (s.onDust f).cfg = s.cfg := rfl
@[simp] theorem State.onDust_inputs : (s.onDust f).inputs = s.inputs := rfl
@[simp] theorem State.onDust_port : (s.onDust f).port = s.port := rfl
@[simp] theorem State.onDust_berths : (s.onDust f).berths = s.berths := rfl
@[simp] theorem State.onDust_scale : (s.onDust f).scale = s.scale := rfl
@[simp] theorem State.onDust_belt : (s.onDust f).belt = s.belt := rfl
@[simp] theorem State.onDust_line : (s.onDust f).line = s.line := rfl
@[simp] theorem State.onDust_peers : (s.onDust f).peers = s.peers := rfl
@[simp] theorem State.onDust_travel : (s.onDust f).travel = s.travel := rfl
@[simp] theorem State.onDust_fill : (s.onDust f).fill = s.fill := rfl
@[simp] theorem State.onDust_pour : (s.onDust f).pour = s.pour := rfl
@[simp] theorem State.onDust_dust : (s.onDust f).dust = f s.dust := rfl
@[simp] theorem State.onDust_bills : (s.onDust f).bills = s.bills := rfl
@[simp] theorem State.onDust_pending : (s.onDust f).pending = s.pending := rfl
@[simp] theorem State.onDust_block : (s.onDust f).block = s.block := rfl
@[simp] theorem State.onDust_timer (ms : Nat) : (s.onDust f).timer ms = s.timer ms := rfl
@[simp] theorem State.onDust_configured : (s.onDust f).configured = s.configured := rfl
@[simp] theorem State.onDust_inRun : (s.onDust f).inRun = s.inRun := rfl
@[simp] theorem State.onDust_lineOpen : (s.onDust f).lineOpen = s.lineOpen := rfl
@[simp] theorem State.onDust_berth (x : Slot) : (s.onDust f).berth x = s.berth x := rfl
@[simp] theorem State.onDust_session (x : Slot) : (s.onDust f).session x = s.session x := rfl
@[simp] theorem State.onDust_view (x : Slot) : (s.onDust f).view x = s.view x := by cases x <;> rfl

end

/-! ## onBills -/

section
variable (f : Bills → Bills)

@[simp] theorem State.onBills_count : (s.onBills f).count = s.count := rfl
@[simp] theorem State.onBills_cfg : (s.onBills f).cfg = s.cfg := rfl
@[simp] theorem State.onBills_inputs : (s.onBills f).inputs = s.inputs := rfl
@[simp] theorem State.onBills_port : (s.onBills f).port = s.port := rfl
@[simp] theorem State.onBills_berths : (s.onBills f).berths = s.berths := rfl
@[simp] theorem State.onBills_scale : (s.onBills f).scale = s.scale := rfl
@[simp] theorem State.onBills_belt : (s.onBills f).belt = s.belt := rfl
@[simp] theorem State.onBills_line : (s.onBills f).line = s.line := rfl
@[simp] theorem State.onBills_peers : (s.onBills f).peers = s.peers := rfl
@[simp] theorem State.onBills_travel : (s.onBills f).travel = s.travel := rfl
@[simp] theorem State.onBills_fill : (s.onBills f).fill = s.fill := rfl
@[simp] theorem State.onBills_pour : (s.onBills f).pour = s.pour := rfl
@[simp] theorem State.onBills_dust : (s.onBills f).dust = s.dust := rfl
@[simp] theorem State.onBills_bills : (s.onBills f).bills = f s.bills := rfl
@[simp] theorem State.onBills_pending : (s.onBills f).pending = s.pending := rfl
@[simp] theorem State.onBills_block : (s.onBills f).block = s.block := rfl
@[simp] theorem State.onBills_timer (ms : Nat) : (s.onBills f).timer ms = s.timer ms := rfl
@[simp] theorem State.onBills_configured : (s.onBills f).configured = s.configured := rfl
@[simp] theorem State.onBills_inRun : (s.onBills f).inRun = s.inRun := rfl
@[simp] theorem State.onBills_lineOpen : (s.onBills f).lineOpen = s.lineOpen := rfl
@[simp] theorem State.onBills_berth (x : Slot) : (s.onBills f).berth x = s.berth x := rfl
@[simp] theorem State.onBills_session (x : Slot) : (s.onBills f).session x = s.session x := rfl
@[simp] theorem State.onBills_view (x : Slot) : (s.onBills f).view x = s.view x := by cases x <;> rfl

end

/-! ## notify -/

@[simp] theorem State.notify_count (b : NoticeBody) : (s.notify b).count = s.count := rfl
@[simp] theorem State.notify_cfg (b : NoticeBody) : (s.notify b).cfg = s.cfg := rfl
@[simp] theorem State.notify_inputs (b : NoticeBody) : (s.notify b).inputs = s.inputs := rfl
@[simp] theorem State.notify_berths (b : NoticeBody) : (s.notify b).berths = s.berths := rfl
@[simp] theorem State.notify_scale (b : NoticeBody) : (s.notify b).scale = s.scale := rfl
@[simp] theorem State.notify_belt (b : NoticeBody) : (s.notify b).belt = s.belt := rfl
@[simp] theorem State.notify_line (b : NoticeBody) : (s.notify b).line = s.line := rfl
@[simp] theorem State.notify_peers (b : NoticeBody) : (s.notify b).peers = s.peers := rfl
@[simp] theorem State.notify_travel (b : NoticeBody) : (s.notify b).travel = s.travel := rfl
@[simp] theorem State.notify_fill (b : NoticeBody) : (s.notify b).fill = s.fill := rfl
@[simp] theorem State.notify_pour (b : NoticeBody) : (s.notify b).pour = s.pour := rfl
@[simp] theorem State.notify_dust (b : NoticeBody) : (s.notify b).dust = s.dust := rfl
@[simp] theorem State.notify_bills (b : NoticeBody) : (s.notify b).bills = s.bills := rfl
@[simp] theorem State.notify_pending (b : NoticeBody) : (s.notify b).pending = s.pending := rfl

@[simp] theorem State.notify_port (b : NoticeBody) : (s.notify b).port = s.port.raise s.count b := rfl

/-! ## markStatus -/

@[simp] theorem State.markStatus_count  : (s.markStatus).count = s.count := rfl
@[simp] theorem State.markStatus_cfg  : (s.markStatus).cfg = s.cfg := rfl
@[simp] theorem State.markStatus_inputs  : (s.markStatus).inputs = s.inputs := rfl
@[simp] theorem State.markStatus_port  : (s.markStatus).port = s.port := rfl
@[simp] theorem State.markStatus_berths  : (s.markStatus).berths = s.berths := rfl
@[simp] theorem State.markStatus_scale  : (s.markStatus).scale = s.scale := rfl
@[simp] theorem State.markStatus_belt  : (s.markStatus).belt = s.belt := rfl
@[simp] theorem State.markStatus_peers  : (s.markStatus).peers = s.peers := rfl
@[simp] theorem State.markStatus_travel  : (s.markStatus).travel = s.travel := rfl
@[simp] theorem State.markStatus_fill  : (s.markStatus).fill = s.fill := rfl
@[simp] theorem State.markStatus_pour  : (s.markStatus).pour = s.pour := rfl
@[simp] theorem State.markStatus_dust  : (s.markStatus).dust = s.dust := rfl
@[simp] theorem State.markStatus_bills  : (s.markStatus).bills = s.bills := rfl
@[simp] theorem State.markStatus_pending  : (s.markStatus).pending = s.pending := rfl

@[simp] theorem State.markStatus_line : s.markStatus.line = { s.line with statusDue := true } := rfl

/-! ## reply -/

@[simp] theorem State.reply_count (o : ReplyOutcome) (p : List (List Byte)) : (s.reply o p).count = s.count := rfl
@[simp] theorem State.reply_cfg (o : ReplyOutcome) (p : List (List Byte)) : (s.reply o p).cfg = s.cfg := rfl
@[simp] theorem State.reply_inputs (o : ReplyOutcome) (p : List (List Byte)) : (s.reply o p).inputs = s.inputs := rfl
@[simp] theorem State.reply_berths (o : ReplyOutcome) (p : List (List Byte)) : (s.reply o p).berths = s.berths := rfl
@[simp] theorem State.reply_scale (o : ReplyOutcome) (p : List (List Byte)) : (s.reply o p).scale = s.scale := rfl
@[simp] theorem State.reply_belt (o : ReplyOutcome) (p : List (List Byte)) : (s.reply o p).belt = s.belt := rfl
@[simp] theorem State.reply_line (o : ReplyOutcome) (p : List (List Byte)) : (s.reply o p).line = s.line := rfl
@[simp] theorem State.reply_peers (o : ReplyOutcome) (p : List (List Byte)) : (s.reply o p).peers = s.peers := rfl
@[simp] theorem State.reply_travel (o : ReplyOutcome) (p : List (List Byte)) : (s.reply o p).travel = s.travel := rfl
@[simp] theorem State.reply_fill (o : ReplyOutcome) (p : List (List Byte)) : (s.reply o p).fill = s.fill := rfl
@[simp] theorem State.reply_pour (o : ReplyOutcome) (p : List (List Byte)) : (s.reply o p).pour = s.pour := rfl
@[simp] theorem State.reply_dust (o : ReplyOutcome) (p : List (List Byte)) : (s.reply o p).dust = s.dust := rfl
@[simp] theorem State.reply_bills (o : ReplyOutcome) (p : List (List Byte)) : (s.reply o p).bills = s.bills := rfl
@[simp] theorem State.reply_pending (o : ReplyOutcome) (p : List (List Byte)) : (s.reply o p).pending = s.pending := rfl

@[simp] theorem State.reply_port (o : ReplyOutcome) (p : List (List Byte)) :
    (s.reply o p).port = { s.port with mailbox := .taken ⟨o, p, 0, false⟩ } := rfl

/-! ## placeReply -/

@[simp] theorem State.placeReply_count : s.placeReply.count = s.count := rfl
@[simp] theorem State.placeReply_cfg : s.placeReply.cfg = s.cfg := rfl
@[simp] theorem State.placeReply_inputs : s.placeReply.inputs = s.inputs := rfl
@[simp] theorem State.placeReply_berths : s.placeReply.berths = s.berths := rfl
@[simp] theorem State.placeReply_scale : s.placeReply.scale = s.scale := rfl
@[simp] theorem State.placeReply_belt : s.placeReply.belt = s.belt := rfl
@[simp] theorem State.placeReply_line : s.placeReply.line = s.line := rfl
@[simp] theorem State.placeReply_peers : s.placeReply.peers = s.peers := rfl
@[simp] theorem State.placeReply_travel : s.placeReply.travel = s.travel := rfl
@[simp] theorem State.placeReply_fill : s.placeReply.fill = s.fill := rfl
@[simp] theorem State.placeReply_pour : s.placeReply.pour = s.pour := rfl
@[simp] theorem State.placeReply_dust : s.placeReply.dust = s.dust := rfl
@[simp] theorem State.placeReply_bills : s.placeReply.bills = s.bills := rfl
@[simp] theorem State.placeReply_pending : s.placeReply.pending = s.pending := rfl

@[simp] theorem State.placeReply_port : s.placeReply.port = { s.port with mailbox := s.port.mailbox.placed } := rfl

/-- With no reply waiting, placing one changes nothing. -/
theorem State.placeReply_idle (h : ∀ r, s.port.mailbox ≠ .taken r) : s.placeReply = s := by
  have : s.port.mailbox.placed = s.port.mailbox := by
    unfold Mailbox.placed
    split
    · exact absurd ‹_› (h _)
    · rfl
  simp only [State.placeReply, State.onPort, this]

/-! ## done -/

@[simp] theorem State.done_count (b : List Byte) : (s.done b).count = s.count := rfl
@[simp] theorem State.done_cfg (b : List Byte) : (s.done b).cfg = s.cfg := rfl
@[simp] theorem State.done_inputs (b : List Byte) : (s.done b).inputs = s.inputs := rfl
@[simp] theorem State.done_berths (b : List Byte) : (s.done b).berths = s.berths := rfl
@[simp] theorem State.done_scale (b : List Byte) : (s.done b).scale = s.scale := rfl
@[simp] theorem State.done_belt (b : List Byte) : (s.done b).belt = s.belt := rfl
@[simp] theorem State.done_line (b : List Byte) : (s.done b).line = s.line := rfl
@[simp] theorem State.done_peers (b : List Byte) : (s.done b).peers = s.peers := rfl
@[simp] theorem State.done_travel (b : List Byte) : (s.done b).travel = s.travel := rfl
@[simp] theorem State.done_fill (b : List Byte) : (s.done b).fill = s.fill := rfl
@[simp] theorem State.done_pour (b : List Byte) : (s.done b).pour = s.pour := rfl
@[simp] theorem State.done_dust (b : List Byte) : (s.done b).dust = s.dust := rfl
@[simp] theorem State.done_bills (b : List Byte) : (s.done b).bills = s.bills := rfl
@[simp] theorem State.done_pending (b : List Byte) : (s.done b).pending = s.pending := rfl

@[simp] theorem State.done_port (b : List Byte) :
    (s.done b).port = { s.port with mailbox := .taken ⟨.done, [b], 0, false⟩ } := rfl

/-! ## refuse -/

@[simp] theorem State.refuse_count (r : Reason × Nat) : (s.refuse r).count = s.count := rfl
@[simp] theorem State.refuse_cfg (r : Reason × Nat) : (s.refuse r).cfg = s.cfg := rfl
@[simp] theorem State.refuse_inputs (r : Reason × Nat) : (s.refuse r).inputs = s.inputs := rfl
@[simp] theorem State.refuse_berths (r : Reason × Nat) : (s.refuse r).berths = s.berths := rfl
@[simp] theorem State.refuse_scale (r : Reason × Nat) : (s.refuse r).scale = s.scale := rfl
@[simp] theorem State.refuse_belt (r : Reason × Nat) : (s.refuse r).belt = s.belt := rfl
@[simp] theorem State.refuse_line (r : Reason × Nat) : (s.refuse r).line = s.line := rfl
@[simp] theorem State.refuse_peers (r : Reason × Nat) : (s.refuse r).peers = s.peers := rfl
@[simp] theorem State.refuse_travel (r : Reason × Nat) : (s.refuse r).travel = s.travel := rfl
@[simp] theorem State.refuse_fill (r : Reason × Nat) : (s.refuse r).fill = s.fill := rfl
@[simp] theorem State.refuse_pour (r : Reason × Nat) : (s.refuse r).pour = s.pour := rfl
@[simp] theorem State.refuse_dust (r : Reason × Nat) : (s.refuse r).dust = s.dust := rfl
@[simp] theorem State.refuse_bills (r : Reason × Nat) : (s.refuse r).bills = s.bills := rfl
@[simp] theorem State.refuse_pending (r : Reason × Nat) : (s.refuse r).pending = s.pending := rfl

@[simp] theorem State.refuse_port (r : Reason × Nat) :
    (s.refuse r).port = { s.port with mailbox := .taken ⟨.refused r.1 r.2, [[]], 0, false⟩ } := rfl

/-! ## onBerth -/

@[simp] theorem State.onBerth_count (x : Slot) (f : Berth → Berth) : (s.onBerth x f).count = s.count := rfl
@[simp] theorem State.onBerth_cfg (x : Slot) (f : Berth → Berth) : (s.onBerth x f).cfg = s.cfg := rfl
@[simp] theorem State.onBerth_inputs (x : Slot) (f : Berth → Berth) : (s.onBerth x f).inputs = s.inputs := rfl
@[simp] theorem State.onBerth_port (x : Slot) (f : Berth → Berth) : (s.onBerth x f).port = s.port := rfl
@[simp] theorem State.onBerth_scale (x : Slot) (f : Berth → Berth) : (s.onBerth x f).scale = s.scale := rfl
@[simp] theorem State.onBerth_belt (x : Slot) (f : Berth → Berth) : (s.onBerth x f).belt = s.belt := rfl
@[simp] theorem State.onBerth_line (x : Slot) (f : Berth → Berth) : (s.onBerth x f).line = s.line := rfl
@[simp] theorem State.onBerth_peers (x : Slot) (f : Berth → Berth) : (s.onBerth x f).peers = s.peers := rfl
@[simp] theorem State.onBerth_travel (x : Slot) (f : Berth → Berth) : (s.onBerth x f).travel = s.travel := rfl
@[simp] theorem State.onBerth_fill (x : Slot) (f : Berth → Berth) : (s.onBerth x f).fill = s.fill := rfl
@[simp] theorem State.onBerth_pour (x : Slot) (f : Berth → Berth) : (s.onBerth x f).pour = s.pour := rfl
@[simp] theorem State.onBerth_dust (x : Slot) (f : Berth → Berth) : (s.onBerth x f).dust = s.dust := rfl
@[simp] theorem State.onBerth_bills (x : Slot) (f : Berth → Berth) : (s.onBerth x f).bills = s.bills := rfl
@[simp] theorem State.onBerth_pending (x : Slot) (f : Berth → Berth) : (s.onBerth x f).pending = s.pending := rfl

/-! ## onSession -/

@[simp] theorem State.onSession_count (x : Slot) (f : Session → Session) : (s.onSession x f).count = s.count := rfl
@[simp] theorem State.onSession_cfg (x : Slot) (f : Session → Session) : (s.onSession x f).cfg = s.cfg := rfl
@[simp] theorem State.onSession_inputs (x : Slot) (f : Session → Session) : (s.onSession x f).inputs = s.inputs := rfl
@[simp] theorem State.onSession_port (x : Slot) (f : Session → Session) : (s.onSession x f).port = s.port := rfl
@[simp] theorem State.onSession_scale (x : Slot) (f : Session → Session) : (s.onSession x f).scale = s.scale := rfl
@[simp] theorem State.onSession_belt (x : Slot) (f : Session → Session) : (s.onSession x f).belt = s.belt := rfl
@[simp] theorem State.onSession_line (x : Slot) (f : Session → Session) : (s.onSession x f).line = s.line := rfl
@[simp] theorem State.onSession_peers (x : Slot) (f : Session → Session) : (s.onSession x f).peers = s.peers := rfl
@[simp] theorem State.onSession_travel (x : Slot) (f : Session → Session) : (s.onSession x f).travel = s.travel := rfl
@[simp] theorem State.onSession_fill (x : Slot) (f : Session → Session) : (s.onSession x f).fill = s.fill := rfl
@[simp] theorem State.onSession_pour (x : Slot) (f : Session → Session) : (s.onSession x f).pour = s.pour := rfl
@[simp] theorem State.onSession_dust (x : Slot) (f : Session → Session) : (s.onSession x f).dust = s.dust := rfl
@[simp] theorem State.onSession_bills (x : Slot) (f : Session → Session) : (s.onSession x f).bills = s.bills := rfl
@[simp] theorem State.onSession_pending (x : Slot) (f : Session → Session) : (s.onSession x f).pending = s.pending := rfl

/-! ## onHold -/

@[simp] theorem State.onHold_count (x : Slot) (h : Nat) (f : Hold → Hold) : (s.onHold x h f).count = s.count := by
  unfold State.onHold; split <;> rfl
@[simp] theorem State.onHold_cfg (x : Slot) (h : Nat) (f : Hold → Hold) : (s.onHold x h f).cfg = s.cfg := by
  unfold State.onHold; split <;> rfl
@[simp] theorem State.onHold_inputs (x : Slot) (h : Nat) (f : Hold → Hold) : (s.onHold x h f).inputs = s.inputs := by
  unfold State.onHold; split <;> rfl
@[simp] theorem State.onHold_port (x : Slot) (h : Nat) (f : Hold → Hold) : (s.onHold x h f).port = s.port := by
  unfold State.onHold; split <;> rfl
@[simp] theorem State.onHold_scale (x : Slot) (h : Nat) (f : Hold → Hold) : (s.onHold x h f).scale = s.scale := by
  unfold State.onHold; split <;> rfl
@[simp] theorem State.onHold_belt (x : Slot) (h : Nat) (f : Hold → Hold) : (s.onHold x h f).belt = s.belt := by
  unfold State.onHold; split <;> rfl
@[simp] theorem State.onHold_line (x : Slot) (h : Nat) (f : Hold → Hold) : (s.onHold x h f).line = s.line := by
  unfold State.onHold; split <;> rfl
@[simp] theorem State.onHold_peers (x : Slot) (h : Nat) (f : Hold → Hold) : (s.onHold x h f).peers = s.peers := by
  unfold State.onHold; split <;> rfl
@[simp] theorem State.onHold_travel (x : Slot) (h : Nat) (f : Hold → Hold) : (s.onHold x h f).travel = s.travel := by
  unfold State.onHold; split <;> rfl
@[simp] theorem State.onHold_fill (x : Slot) (h : Nat) (f : Hold → Hold) : (s.onHold x h f).fill = s.fill := by
  unfold State.onHold; split <;> rfl
@[simp] theorem State.onHold_pour (x : Slot) (h : Nat) (f : Hold → Hold) : (s.onHold x h f).pour = s.pour := by
  unfold State.onHold; split <;> rfl
@[simp] theorem State.onHold_dust (x : Slot) (h : Nat) (f : Hold → Hold) : (s.onHold x h f).dust = s.dust := by
  unfold State.onHold; split <;> rfl
@[simp] theorem State.onHold_bills (x : Slot) (h : Nat) (f : Hold → Hold) : (s.onHold x h f).bills = s.bills := by
  unfold State.onHold; split <;> rfl
@[simp] theorem State.onHold_pending (x : Slot) (h : Nat) (f : Hold → Hold) : (s.onHold x h f).pending = s.pending := by
  unfold State.onHold; split <;> rfl

/-! ## The end of a command -/

/-- With no status change of its own, a command ends as its effect leaves it. -/
theorem State.finish_of_quiet {s : State} (h : s.line.statusDue = false) : s.finish = s := by
  simp [State.finish, h]

/-- Whatever a command did, no status change waits after it. -/
theorem State.finish_quiet : s.finish.line.statusDue = false := by
  unfold State.finish State.issueStatus State.issueStatusAs
  split
  · split
    · split <;> rfl
    · rfl
  · simp_all

@[simp] theorem State.issueStatusAs_count (m : PartMode) : (s.issueStatusAs m).count = s.count := rfl
@[simp] theorem State.issueStatusAs_cfg (m : PartMode) : (s.issueStatusAs m).cfg = s.cfg := rfl
@[simp] theorem State.issueStatusAs_inputs (m : PartMode) : (s.issueStatusAs m).inputs = s.inputs := rfl
@[simp] theorem State.issueStatusAs_port (m : PartMode) : (s.issueStatusAs m).port = s.port := rfl
@[simp] theorem State.issueStatusAs_berths (m : PartMode) : (s.issueStatusAs m).berths = s.berths := rfl
@[simp] theorem State.issueStatusAs_scale (m : PartMode) : (s.issueStatusAs m).scale = s.scale := rfl
@[simp] theorem State.issueStatusAs_belt (m : PartMode) : (s.issueStatusAs m).belt = s.belt := rfl
@[simp] theorem State.issueStatusAs_peers (m : PartMode) : (s.issueStatusAs m).peers = s.peers := rfl
@[simp] theorem State.issueStatusAs_travel (m : PartMode) : (s.issueStatusAs m).travel = s.travel := rfl
@[simp] theorem State.issueStatusAs_fill (m : PartMode) : (s.issueStatusAs m).fill = s.fill := rfl
@[simp] theorem State.issueStatusAs_pour (m : PartMode) : (s.issueStatusAs m).pour = s.pour := rfl
@[simp] theorem State.issueStatusAs_dust (m : PartMode) : (s.issueStatusAs m).dust = s.dust := rfl
@[simp] theorem State.issueStatusAs_bills (m : PartMode) : (s.issueStatusAs m).bills = s.bills := rfl
@[simp] theorem State.issueStatusAs_pending (m : PartMode) : (s.issueStatusAs m).pending = s.pending := rfl
@[simp] theorem State.issueStatus_count : s.issueStatus.count = s.count := rfl
@[simp] theorem State.issueStatus_cfg : s.issueStatus.cfg = s.cfg := rfl
@[simp] theorem State.issueStatus_inputs : s.issueStatus.inputs = s.inputs := rfl
@[simp] theorem State.issueStatus_port : s.issueStatus.port = s.port := rfl
@[simp] theorem State.issueStatus_berths : s.issueStatus.berths = s.berths := rfl
@[simp] theorem State.issueStatus_scale : s.issueStatus.scale = s.scale := rfl
@[simp] theorem State.issueStatus_belt : s.issueStatus.belt = s.belt := rfl
@[simp] theorem State.issueStatus_peers : s.issueStatus.peers = s.peers := rfl
@[simp] theorem State.issueStatus_travel : s.issueStatus.travel = s.travel := rfl
@[simp] theorem State.issueStatus_fill : s.issueStatus.fill = s.fill := rfl
@[simp] theorem State.issueStatus_pour : s.issueStatus.pour = s.pour := rfl
@[simp] theorem State.issueStatus_dust : s.issueStatus.dust = s.dust := rfl
@[simp] theorem State.issueStatus_bills : s.issueStatus.bills = s.bills := rfl
@[simp] theorem State.issueStatus_pending : s.issueStatus.pending = s.pending := rfl
@[simp] theorem State.finish_count : s.finish.count = s.count := by
  unfold State.finish; repeat' split
  all_goals rfl
@[simp] theorem State.finish_cfg : s.finish.cfg = s.cfg := by
  unfold State.finish; repeat' split
  all_goals rfl
@[simp] theorem State.finish_inputs : s.finish.inputs = s.inputs := by
  unfold State.finish; repeat' split
  all_goals rfl
@[simp] theorem State.finish_port : s.finish.port = s.port := by
  unfold State.finish; repeat' split
  all_goals rfl
@[simp] theorem State.finish_berths : s.finish.berths = s.berths := by
  unfold State.finish; repeat' split
  all_goals rfl
@[simp] theorem State.finish_scale : s.finish.scale = s.scale := by
  unfold State.finish; repeat' split
  all_goals rfl
@[simp] theorem State.finish_belt : s.finish.belt = s.belt := by
  unfold State.finish; repeat' split
  all_goals rfl
@[simp] theorem State.finish_peers : s.finish.peers = s.peers := by
  unfold State.finish; repeat' split
  all_goals rfl
@[simp] theorem State.finish_travel : s.finish.travel = s.travel := by
  unfold State.finish; repeat' split
  all_goals rfl
@[simp] theorem State.finish_fill : s.finish.fill = s.fill := by
  unfold State.finish; repeat' split
  all_goals rfl
@[simp] theorem State.finish_pour : s.finish.pour = s.pour := by
  unfold State.finish; repeat' split
  all_goals rfl
@[simp] theorem State.finish_dust : s.finish.dust = s.dust := by
  unfold State.finish; repeat' split
  all_goals rfl
@[simp] theorem State.finish_bills : s.finish.bills = s.bills := by
  unfold State.finish; repeat' split
  all_goals rfl
@[simp] theorem State.finish_pending : s.finish.pending = s.pending := by
  unfold State.finish; repeat' split
  all_goals rfl

end Sys2Proof.Machine
end

