-- ==== Sys2Proof/Laws/Line.lean ====
section
/-! SUPPORT. What the transmitters and the issue of an own frame can do: a take changes no more of a port than what its transmitter
sends, its pass-through queue and its pass-over count, and nothing of the line beside its ports. -/

namespace Sys2Proof.Machine

/-- What a transmitter's take leaves of a port's record. -/
def PortRec.taken (r : PortRec) (sending : Option Sending) (queue : List (List Byte)) (passOver : Nat) : PortRec :=
  { r with sending := sending, queue := queue, passOver := passOver }

/-- A line whose two ports have at most taken frames, and whose other fields stand. -/
structure QuayLine.TakenOnly (l m : QuayLine) : Prop where
  up : ∃ f q n, m.up = l.up.taken f q n
  down : ∃ f q n, m.down = l.down.taken f q n
  rest : m = { l with up := m.up, down := m.down }

theorem QuayLine.TakenOnly.refl (l : QuayLine) : l.TakenOnly l := ⟨⟨_, _, _, rfl⟩, ⟨_, _, _, rfl⟩, rfl⟩

theorem QuayLine.TakenOnly.trans {l m n : QuayLine} (h : l.TakenOnly m) (k : m.TakenOnly n) : l.TakenOnly n := by
  obtain ⟨⟨f, q, c, hu⟩, ⟨g, r, d, hd⟩, hr⟩ := h
  obtain ⟨⟨f', q', c', ku⟩, ⟨g', r', d', kd⟩, kr⟩ := k
  exact ⟨⟨f', q', c', by rw [ku, hu]; rfl⟩, ⟨g', r', d', by rw [kd, hd]; rfl⟩, by rw [kr, hr]⟩

/-- A change of one port to what a take leaves. -/
theorem QuayLine.TakenOnly.onPort (l : QuayLine) (p : Side) (f : PortRec → PortRec)
    (hf : ∃ g q n, f (l.port p) = (l.port p).taken g q n) : l.TakenOnly (l.onPort p f) := by
  cases p with
  | up => exact ⟨hf, ⟨_, _, _, rfl⟩, rfl⟩
  | down => exact ⟨⟨_, _, _, rfl⟩, hf, rfl⟩

theorem QuayLine.take_takenOnly (l : QuayLine) (p : Side) : l.TakenOnly (l.take p) := by
  unfold QuayLine.take
  repeat' split
  · exact .refl l
  all_goals exact .onPort l p _ ⟨_, _, _, rfl⟩

theorem QuayLine.takeBoth_takenOnly (l : QuayLine) : l.TakenOnly l.takeBoth :=
  (l.take_takenOnly .up).trans ((l.take .up).take_takenOnly .down)

theorem QuayLine.settlePassOver_takenOnly (l : QuayLine) : l.TakenOnly l.settlePassOver := by
  have key : ∀ (m : QuayLine) (p : Side), m.TakenOnly (match m.waiting p with
      | none => m.onPort p (fun r => { r with passOver := 0 })
      | some _ => m) := by
    intro m p
    split
    · exact .onPort m p _ ⟨_, _, _, rfl⟩
    · exact .refl m
  exact (key l .up).trans (key _ .down)

/-- An issue enters its frame in the own-frame queue under a new serial; beside that the transmitters may take. -/
theorem QuayLine.issue_spec (l : QuayLine) (kind : OwnKind) (bytes : List Byte) :
    ({ l with
        serial := l.serial + 1
        own := enterOwn ⟨kind, l.serial, bytes, l.up.chainEnd || kind == .brk .up, l.down.chainEnd || kind == .brk .down⟩ l.own }
      : QuayLine).TakenOnly (l.issue kind bytes) :=
  (QuayLine.settlePassOver_takenOnly _).trans (QuayLine.takeBoth_takenOnly _)

/-- An issue leaves the port states, timers and counts, and the line's own timers. -/
theorem QuayLine.issue_ports (l : QuayLine) (kind : OwnKind) (bytes : List Byte) (p : Side) :
    ((l.issue kind bytes).port p).state = (l.port p).state ∧ ((l.issue kind bytes).port p).chainEnd = (l.port p).chainEnd
      ∧ ((l.issue kind bytes).port p).silenceTimer = (l.port p).silenceTimer
      ∧ ((l.issue kind bytes).port p).breakTimer = (l.port p).breakTimer
      ∧ ((l.issue kind bytes).port p).errors = (l.port p).errors
      ∧ ((l.issue kind bytes).port p).overflows = (l.port p).overflows
      ∧ ((l.issue kind bytes).port p).restoreCount = (l.port p).restoreCount
      ∧ ((l.issue kind bytes).port p).repeatHold = (l.port p).repeatHold := by
  obtain ⟨⟨f, q, c, hu⟩, ⟨g, r, d, hd⟩, -⟩ := l.issue_spec kind bytes
  cases p with
  | up => simp [QuayLine.port, hu, PortRec.taken]
  | down => simp [QuayLine.port, hd, PortRec.taken]

theorem QuayLine.issue_timers (l : QuayLine) (kind : OwnKind) (bytes : List Byte) :
    (l.issue kind bytes).own = enterOwn
        ⟨kind, l.serial, bytes, l.up.chainEnd || kind == .brk .up, l.down.chainEnd || kind == .brk .down⟩ l.own
      ∧ (l.issue kind bytes).statusTimer = l.statusTimer ∧ (l.issue kind bytes).spacingTimer = l.spacingTimer
      ∧ (l.issue kind bytes).changePending = l.changePending ∧ (l.issue kind bytes).closing = l.closing
      ∧ (l.issue kind bytes).relayOpen = l.relayOpen ∧ (l.issue kind bytes).statusDue = l.statusDue := by
  have h := (l.issue_spec kind bytes).rest
  rw [h]
  exact ⟨rfl, rfl, rfl, rfl, rfl, rfl, rfl⟩

/-- A frame not marked for both ports is in the own-frame queue after its issue. -/
theorem mem_enterOwn (e : OwnEntry) (queue : List OwnEntry) (h : (e.upSent && e.downSent) = false) : e ∈ enterOwn e queue := by
  unfold enterOwn
  rw [h]
  split
  · rename_i hf; cases hf
  · split
    · rename_i hq
      obtain ⟨q, hq, hk⟩ := List.any_eq_true.1 hq
      exact List.mem_map.2 ⟨q, hq, if_pos hk⟩
    · split <;> simp

end Sys2Proof.Machine
end

