-- ==== Sys2Proof/Laws/Port.lean ====
section
/-! SUPPORT. What raising a notice can do: the notice queue and what follows from it change; the mode, the mailbox, the masks, the
trigger level and the pins do not. -/

namespace Sys2Proof.Machine

/-- What every notice leaves of the Local Port. -/
structure LocalPort.Kept (p q : LocalPort) : Prop where
  mode : q.mode = p.mode
  mailbox : q.mailbox = p.mailbox
  mask2 : q.mask2 = p.mask2
  mask3 : q.mask3 = p.mask3
  mask4 : q.mask4 = p.mask4
  trigger : q.trigger = p.trigger
  spiOut : q.spiOut = p.spiOut
  selected : q.select.isSome = p.select.isSome

theorem LocalPort.Kept.refl (p : LocalPort) : p.Kept p := ⟨rfl, rfl, rfl, rfl, rfl, rfl, rfl, rfl⟩

theorem LocalPort.Kept.trans {p q r : LocalPort} (h : p.Kept q) (k : q.Kept r) : p.Kept r :=
  ⟨k.mode.trans h.mode, k.mailbox.trans h.mailbox, k.mask2.trans h.mask2, k.mask3.trans h.mask3, k.mask4.trans h.mask4,
    k.trigger.trans h.trigger, k.spiOut.trans h.spiOut, k.selected.trans h.selected⟩

/-- The age timer follows the queue and changes nothing else. -/
theorem LocalPort.followAge_kept (p : LocalPort) (before now : Nat) : p.Kept (p.followAge before now) := by
  unfold LocalPort.followAge
  repeat' split
  all_goals exact ⟨rfl, rfl, rfl, rfl, rfl, rfl, rfl, rfl⟩

/-- The age timer does not touch the queue or the select period. -/
theorem LocalPort.followAge_queue (p : LocalPort) (before now : Nat) :
    (p.followAge before now).notices = p.notices ∧ (p.followAge before now).overflow = p.overflow
      ∧ (p.followAge before now).dropped = p.dropped ∧ (p.followAge before now).select = p.select := by
  unfold LocalPort.followAge
  repeat' split
  all_goals exact ⟨rfl, rfl, rfl, rfl⟩

theorem LocalPort.enter_kept (p : LocalPort) (now : Nat) (body : NoticeBody) (time : Nat) : p.Kept (p.enter now body time) := by
  unfold LocalPort.enter
  repeat' split
  · exact ⟨rfl, rfl, rfl, rfl, rfl, rfl, rfl, rfl⟩
  · exact ⟨rfl, rfl, rfl, rfl, rfl, rfl, rfl, rfl⟩
  · refine LocalPort.Kept.trans ?_ (LocalPort.followAge_kept _ _ _)
    exact ⟨rfl, rfl, rfl, rfl, rfl, rfl, rfl, rfl⟩
  · refine LocalPort.Kept.trans ?_ (LocalPort.followAge_kept _ _ _)
    exact ⟨rfl, rfl, rfl, rfl, rfl, rfl, rfl, rfl⟩
  · exact ⟨rfl, rfl, rfl, rfl, rfl, rfl, rfl, rfl⟩

theorem LocalPort.raise_kept (p : LocalPort) (now : Nat) (body : NoticeBody) : p.Kept (p.raise now body) := by
  unfold LocalPort.raise
  split
  · exact ⟨rfl, rfl, rfl, rfl, rfl, rfl, rfl, by simp⟩
  · exact LocalPort.enter_kept _ _ _ _

/-- Outside a select period a raised notice is entered at once. -/
theorem LocalPort.raise_of_unselected (p : LocalPort) (now : Nat) (body : NoticeBody) (h : p.select = none) :
    p.raise now body = p.enter now body now := by
  simp [LocalPort.raise, LocalPort.fetching, h]

@[simp] theorem LocalPort.raise_mode (p : LocalPort) (now : Nat) (body : NoticeBody) : (p.raise now body).mode = p.mode :=
  (p.raise_kept now body).mode
@[simp] theorem LocalPort.raise_mailbox (p : LocalPort) (now : Nat) (body : NoticeBody) :
    (p.raise now body).mailbox = p.mailbox := (p.raise_kept now body).mailbox
@[simp] theorem LocalPort.raise_trigger (p : LocalPort) (now : Nat) (body : NoticeBody) :
    (p.raise now body).trigger = p.trigger := (p.raise_kept now body).trigger
@[simp] theorem LocalPort.raise_spiOut (p : LocalPort) (now : Nat) (body : NoticeBody) :
    (p.raise now body).spiOut = p.spiOut := (p.raise_kept now body).spiOut

end Sys2Proof.Machine
end

