-- ==== Sys2Proof/Laws/Travel.lean ====
section
/-! SUPPORT. What the Travel Controller's operations can do: they write the travel record, queue notices and note a status change;
every other block, the part mode, the mailbox and the accepted position stay. One lemma for each operation. -/

namespace Sys2Proof.Machine

/-! ## The permitted range (R85) -/

/-- Both edges are computed exactly when the range is, and they are its ends and terms. -/
theorem Range.of_eq {lo hi : Option (Int × EdgeTerm)} {r : Range} :
    Range.of lo hi = some r ↔ lo = some (r.lower, r.lowerTerm) ∧ hi = some (r.upper, r.upperTerm) := by
  cases lo <;> cases hi <;> cases r <;> simp [Range.of, Prod.ext_iff, and_assoc]

/-- With a position known every bound has its value. -/
theorem State.bound_value {s : State} {side : Side} {v : Option Int} {term : EdgeTerm} (h : s.travel.position.isSome)
    (hb : s.bound side = some (v, term)) : v.isSome := by
  unfold State.bound at hb
  repeat' split at hb
  all_goals first | (simp only [Option.some.injEq, Prod.mk.injEq] at hb; obtain ⟨rfl, -⟩ := hb; first | exact h | rfl) | simp at hb

/-- With a position known every edge is computed. -/
theorem State.computeEdge_isSome (s : State) (side : Side) (w : Option (Int × Int)) (h : s.travel.position.isSome) :
    (s.computeEdge side w).isSome := by
  unfold State.computeEdge
  split
  · rfl
  · rfl
  · exact absurd (State.bound_value h ‹_›) (by simp)

/-! ## Frames -/

/-- What every operation of the Travel Controller leaves as it was. -/
structure State.TravelOnly (s t : State) : Prop where
  count : t.count = s.count
  cfg : t.cfg = s.cfg
  inputs : t.inputs = s.inputs
  port : s.port.Kept t.port
  berths : t.berths = s.berths
  scale : t.scale = s.scale
  belt : t.belt = s.belt
  line : t.line = { s.line with statusDue := t.line.statusDue }
  peers : t.peers = s.peers
  position : t.travel.position = s.travel.position
  fill : t.fill = s.fill
  pour : t.pour = s.pour
  dust : t.dust = s.dust
  bills : t.bills = s.bills
  pending : t.pending = s.pending

variable {s t u : State}

theorem State.TravelOnly.refl (s : State) : s.TravelOnly s :=
  ⟨rfl, rfl, rfl, .refl _, rfl, rfl, rfl, rfl, rfl, rfl, rfl, rfl, rfl, rfl, rfl⟩

theorem State.TravelOnly.trans (h : s.TravelOnly t) (k : t.TravelOnly u) : s.TravelOnly u where
  count := k.count.trans h.count
  cfg := k.cfg.trans h.cfg
  inputs := k.inputs.trans h.inputs
  port := h.port.trans k.port
  berths := k.berths.trans h.berths
  scale := k.scale.trans h.scale
  belt := k.belt.trans h.belt
  line := by rw [k.line, h.line]
  peers := k.peers.trans h.peers
  position := k.position.trans h.position
  fill := k.fill.trans h.fill
  pour := k.pour.trans h.pour
  dust := k.dust.trans h.dust
  bills := k.bills.trans h.bills
  pending := k.pending.trans h.pending

theorem State.TravelOnly.onTravel (h : s.TravelOnly t) (f : Travel → Travel) (hf : (f t.travel).position = t.travel.position) :
    s.TravelOnly (t.onTravel f) :=
  h.trans ⟨rfl, rfl, rfl, .refl _, rfl, rfl, rfl, rfl, rfl, hf, rfl, rfl, rfl, rfl, rfl⟩

theorem State.TravelOnly.notify (h : s.TravelOnly t) (body : NoticeBody) : s.TravelOnly (t.notify body) :=
  h.trans ⟨rfl, rfl, rfl, LocalPort.raise_kept _ _ _, rfl, rfl, rfl, rfl, rfl, rfl, rfl, rfl, rfl, rfl, rfl⟩

theorem State.TravelOnly.markStatus (h : s.TravelOnly t) : s.TravelOnly t.markStatus :=
  h.trans ⟨rfl, rfl, rfl, .refl _, rfl, rfl, rfl, rfl, rfl, rfl, rfl, rfl, rfl, rfl, rfl⟩

theorem State.TravelOnly.recompute (h : s.TravelOnly t) : s.TravelOnly t.recompute := h.onTravel _ rfl

theorem State.TravelOnly.enterReleasing (h : s.TravelOnly t) : s.TravelOnly t.enterReleasing := (h.onTravel _ rfl).markStatus

theorem State.TravelOnly.enterSettling (h : s.TravelOnly t) (mark : StopMark) : s.TravelOnly (t.enterSettling mark) :=
  (h.onTravel _ rfl).markStatus

theorem State.TravelOnly.park (h : s.TravelOnly t) : s.TravelOnly t.park := by
  unfold State.park
  split
  · exact h.onTravel _ rfl
  · exact (h.onTravel _ rfl).markStatus

theorem State.TravelOnly.enterHeld (h : s.TravelOnly t) : s.TravelOnly t.enterHeld := by
  unfold State.enterHeld
  split
  · exact ((h.onTravel _ rfl).markStatus).notify _
  · exact (h.onTravel _ rfl).markStatus

theorem State.TravelOnly.arrive (h : s.TravelOnly t) : s.TravelOnly t.arrive.1 := by
  unfold State.arrive
  split
  · exact h.park.notify _
  · exact h.park

theorem State.TravelOnly.movingAct (h : s.TravelOnly t) : s.TravelOnly t.movingAct := by
  unfold State.movingAct
  split
  · repeat' split
    · exact h.enterSettling _
    · exact h.enterSettling _
    · exact h.onTravel _ rfl
  · exact h

theorem State.TravelOnly.heldAct (h : s.TravelOnly t) : s.TravelOnly t.heldAct.1 := by
  unfold State.heldAct
  split
  · repeat' split
    · exact h.arrive
    · exact h.enterReleasing
    · exact h
    · exact h.enterReleasing
  · exact h

theorem State.TravelOnly.travelAct (h : s.TravelOnly t) : s.TravelOnly t.travelAct.1 := by
  unfold State.travelAct
  split
  · exact h.movingAct
  · exact h.heldAct
  · exact h

theorem State.TravelOnly.rangeEvent (h : s.TravelOnly t) : s.TravelOnly t.rangeEvent.1 := h.recompute.travelAct

theorem State.TravelOnly.enterMoving (h : s.TravelOnly t) : s.TravelOnly t.enterMoving := by
  unfold State.enterMoving
  split
  · split
    · exact h.enterSettling _
    · exact (h.onTravel _ rfl).markStatus
  · exact h

theorem State.TravelOnly.parkedAct (h : s.TravelOnly t) : s.TravelOnly t.parkedAct.1 := by
  unfold State.parkedAct
  split
  · repeat' split
    · exact h.arrive
    · exact h.enterHeld
    · exact h.enterReleasing
  · exact h

theorem State.TravelOnly.redirect (h : s.TravelOnly t) : s.TravelOnly t.redirect := by
  unfold State.redirect
  split
  · split
    · exact h.enterSettling _
    · exact h.movingAct
  · exact h

theorem State.TravelOnly.placeOrder (h : s.TravelOnly t) (target : Int) (source : OrderSource) :
    s.TravelOnly (t.placeOrder target source).1 := by
  have k : s.TravelOnly (t.onTravel (fun r => { r with target := some target, source := some source })) := h.onTravel _ rfl
  unfold State.placeOrder
  split
  · exact h
  · dsimp only
    split
    · exact k.parkedAct
    · exact k.redirect
    · exact k.heldAct
    · exact k

theorem State.TravelOnly.stopTravel (h : s.TravelOnly t) : s.TravelOnly t.stopTravel := by
  unfold State.stopTravel
  split
  · exact h
  · exact h
  · exact (h.onTravel _ rfl).enterSettling _
  · exact (h.onTravel _ rfl).enterSettling _
  · exact h.onTravel _ rfl
  · exact h.park

theorem State.TravelOnly.enterFaulted (h : s.TravelOnly t) (cause : TravelFault) : s.TravelOnly (t.enterFaulted cause) := by
  unfold State.enterFaulted
  split
  · exact (h.onTravel _ rfl).notify _
  · exact ((h.onTravel _ rfl).markStatus).notify _

theorem State.TravelOnly.settled (h : s.TravelOnly t) : s.TravelOnly t.settled.1 := by
  unfold State.settled
  split
  · repeat' split
    · exact h.arrive
    · exact h.enterReleasing
    · exact h.enterHeld
    · exact h.enterReleasing
  · exact h.park

end Sys2Proof.Machine
end

