-- ==== Sys2Proof/Laws/Pour.lean ====
section
/-! SUPPORT. What the Pour Sequencer's operations can do: they write the pour record, the own claim, the lines' fields other than
mass, the travel record but its position, and queue notices; time, the start block, the inputs, the scale, the belt, the
peers, the dust records, the part mode, the mailbox, the MISMATCH marks and every mass of the Bill Store stay. One lemma for
each operation. -/

namespace Sys2Proof.Machine

/-- Claims of a station taken out twice go as they go once. -/
theorem removeClaims_twice (n : Nat) (rows : List Row) : removeClaims n (removeClaims n rows) = removeClaims n rows := by
  simp [removeClaims]

/-- What every operation of the Pour Sequencer leaves as it was; of the views all but the own claim's entry. -/
structure State.PourKept (s t : State) : Prop where
  count : t.count = s.count
  cfg : t.cfg = s.cfg
  inputs : t.inputs = s.inputs
  port : s.port.Kept t.port
  mismatch : ∀ x, (t.berth x).mismatch = (s.berth x).mismatch
  scale : t.scale = s.scale
  belt : t.belt = s.belt
  line : t.line = { s.line with statusDue := t.line.statusDue }
  peers : t.peers = s.peers
  position : t.travel.position = s.travel.position
  dust : t.dust = s.dust
  views : ∀ x, (t.view x).map (removeClaims s.station) = (s.view x).map (removeClaims s.station)
  billed : t.bills.billed = s.bills.billed
  spill : t.bills.spill = s.bills.spill
  pending : t.pending = s.pending

variable {s t u : State}

theorem State.PourKept.refl (s : State) : s.PourKept s :=
  ⟨rfl, rfl, rfl, .refl _, fun _ => rfl, rfl, rfl, rfl, rfl, rfl, rfl, fun _ => rfl, rfl, rfl, rfl⟩

theorem State.PourKept.trans (h : s.PourKept t) (k : t.PourKept u) : s.PourKept u where
  count := k.count.trans h.count
  cfg := k.cfg.trans h.cfg
  inputs := k.inputs.trans h.inputs
  port := h.port.trans k.port
  mismatch := fun x => (k.mismatch x).trans (h.mismatch x)
  scale := k.scale.trans h.scale
  belt := k.belt.trans h.belt
  line := by rw [k.line, h.line]
  peers := k.peers.trans h.peers
  position := k.position.trans h.position
  dust := k.dust.trans h.dust
  views := fun x => by
    have e := k.views x
    have c : t.station = s.station := by unfold State.station State.block; rw [h.cfg]
    rw [c] at e; exact e.trans (h.views x)
  billed := k.billed.trans h.billed
  spill := k.spill.trans h.spill
  pending := k.pending.trans h.pending

theorem State.PourKept.ite {p : Prop} [Decidable p] (h : s.PourKept t) (k : s.PourKept u) : s.PourKept (if p then t else u) := by
  split
  · exact h
  · exact k

/-- An operation of the Travel Controller is one. -/
theorem State.TravelOnly.pourKept (h : s.TravelOnly t) : s.PourKept t where
  count := h.count
  cfg := h.cfg
  inputs := h.inputs
  port := h.port
  mismatch := fun x => by cases x <;> simp [State.berth, h.berths]
  scale := h.scale
  belt := h.belt
  line := h.line
  peers := h.peers
  position := h.position
  dust := h.dust
  views := fun x => by cases x <;> simp [State.view, h.fill]
  billed := by rw [h.bills]
  spill := by rw [h.bills]
  pending := h.pending

theorem State.PourKept.travel (h : s.PourKept t) (k : t.TravelOnly u) : s.PourKept u := h.trans k.pourKept

theorem State.PourKept.onPour (h : s.PourKept t) (f : Pour → Pour) : s.PourKept (t.onPour f) :=
  h.trans ⟨rfl, rfl, rfl, .refl _, fun _ => rfl, rfl, rfl, rfl, rfl, rfl, rfl, fun _ => rfl, rfl, rfl, rfl⟩

theorem State.PourKept.onFill (h : s.PourKept t) (f : Fill → Fill)
    (hf : ∀ x, ((t.onFill f).view x).map (removeClaims t.station) = (t.view x).map (removeClaims t.station)) :
    s.PourKept (t.onFill f) :=
  h.trans ⟨rfl, rfl, rfl, .refl _, fun _ => rfl, rfl, rfl, rfl, rfl, rfl, rfl, hf, rfl, rfl, rfl⟩

/-- The row of a hold keeps every figure, and every claim but the station's own. -/
theorem State.PourKept.row (h : s.PourKept t) (x : Slot) (n : Nat) :
    { t.row x n with claims := (t.row x n).claims.filter (fun c => c.station != s.station) }
      = { s.row x n with claims := (s.row x n).claims.filter (fun c => c.station != s.station) } := by
  have e := h.views x
  unfold State.row
  cases ht : t.view x <;> cases hs : s.view x <;> simp only [ht, hs, Option.map_none, Option.map_some, reduceCtorEq,
    Option.some.injEq] at e
  · rfl
  · rename_i a b
    by_cases h0 : n = 0
    · simp [h0]
    · have := congrArg (fun l => l[n - 1]?) e
      simp only [removeClaims, List.getElem?_map] at this
      cases ha : a[n - 1]? <;> cases hb : b[n - 1]? <;> simp_all

theorem State.PourKept.mem_claims (h : s.PourKept t) (x : Slot) (n : Nat) (c : ClaimEntry) (hc : c.station ≠ s.station) :
    c ∈ (t.row x n).claims ↔ c ∈ (s.row x n).claims := by
  have e := congrArg (fun r => c ∈ r.claims) (h.row x n)
  simpa [hc] using e

/-- An own claim taken out of its view. -/
theorem State.PourKept.dropClaim (h : s.PourKept t) (x : Slot) : s.PourKept (t.onFill (fun f =>
    { f.onView x (removeClaims t.station) with claim := none, claimTimer := none })) := by
  refine h.onFill _ fun y => ?_
  cases x <;> cases y <;>
    simp [State.onFill, State.view, Fill.onView, Function.comp_def, removeClaims_twice]

theorem State.PourKept.onBills (h : s.PourKept t) (f : Bills → Bills) (hb : (f t.bills).billed = t.bills.billed)
    (hs : (f t.bills).spill = t.bills.spill) : s.PourKept (t.onBills f) :=
  h.trans ⟨rfl, rfl, rfl, .refl _, fun _ => rfl, rfl, rfl, rfl, rfl, rfl, rfl, fun _ => rfl, hb, hs, rfl⟩

theorem State.PourKept.onHold (h : s.PourKept t) (x : Slot) (n : Nat) (f : Hold → Hold) : s.PourKept (t.onHold x n f) := by
  refine h.trans ?_
  unfold State.onHold
  split
  · exact .refl _
  · exact ⟨rfl, rfl, rfl, .refl _, fun y => by cases x <;> cases y <;> rfl, rfl, rfl, rfl, rfl, rfl, rfl, fun y => by cases x <;> cases y <;> rfl, rfl, rfl, rfl⟩

theorem State.PourKept.notify (h : s.PourKept t) (body : NoticeBody) : s.PourKept (t.notify body) :=
  h.travel ((State.TravelOnly.refl t).notify body)

theorem State.PourKept.markStatus (h : s.PourKept t) : s.PourKept t.markStatus := h.travel (State.TravelOnly.refl t).markStatus

theorem State.PourKept.setPour (h : s.PourKept t) (x : PourState) : s.PourKept (t.setPour x) := by
  unfold State.setPour
  split
  · exact h.onPour _
  · exact (h.onPour _).markStatus

theorem State.PourKept.setGate (h : s.PourKept t) (c : GateCommand) : s.PourKept (t.setGate c) := h.onPour _

theorem State.PourKept.setBelt (h : s.PourKept t) (on : Bool) : s.PourKept (t.setBelt on) := h.onPour _

theorem State.PourKept.beltByCauses (h : s.PourKept t) : s.PourKept t.beltByCauses := h.setBelt _

theorem State.PourKept.setCauses (h : s.PourKept t) (c : CauseSet) : s.PourKept (t.setCauses c) := by
  unfold State.setCauses
  split
  · exact h
  · dsimp only
    repeat' split
    · exact (h.onPour _).notify _
    · exact h.onPour _
    · exact h.onPour _

theorem State.PourKept.lineClosedToTravel (h : s.PourKept t) : s.PourKept t.lineClosedToTravel :=
  h.travel (State.TravelOnly.refl t).rangeEvent

theorem State.PourKept.endClaim (h : s.PourKept t) : s.PourKept t.endClaim := by
  unfold State.endClaim
  split
  · exact h
  · exact ((h.dropClaim _).onHold _ _ _).markStatus

theorem State.PourKept.notifyLineClosed (h : s.PourKept t) (line : Option BillLine) (cause : ClosureCause)
    (overshoot : Option Int) (residue : Option Nat) : s.PourKept (t.notifyLineClosed line cause overshoot residue) := by
  unfold State.notifyLineClosed
  split
  · exact h.notify _
  · exact h

theorem State.PourKept.withdrawPass (h : s.PourKept t) : s.PourKept t.withdrawPass := by
  unfold State.withdrawPass
  exact ((((((((((h.setGate _).setBelt _).onPour _).setCauses _).onBills _ (Bills.closeLine_billed _ _ _ _ _) rfl).onPour
    _).setPour _).lineClosedToTravel).endClaim).notifyLineClosed _ _ _ _)

theorem State.PourKept.adapt (h : s.PourKept t) (cause : RunoutCause) (o : Option Int) : s.PourKept (t.adapt cause o) := by
  unfold State.adapt
  repeat' split
  · exact h
  · exact h.onPour _
  · exact h

theorem State.PourKept.endRunout (h : s.PourKept t) (cause : RunoutCause) : s.PourKept (t.endRunout cause) := by
  unfold State.endRunout
  exact (((((((h.onBills _ (Bills.closeLine_billed _ _ _ _ _) rfl).setBelt _).onPour _).setPour
    _).lineClosedToTravel).adapt _ _).endClaim).notifyLineClosed _ _ _ _

theorem State.PourKept.runoutTest (h : s.PourKept t) : s.PourKept t.runoutTest := by
  unfold State.runoutTest
  repeat' split
  · exact h.endRunout _
  · exact h
  · exact h

theorem State.PourKept.enterRunout (h : s.PourKept t) (cause : RunoutCause) : s.PourKept (t.enterRunout cause) :=
  ((((h.setGate _).onPour _).setPour _).beltByCauses).runoutTest

theorem State.PourKept.placeOrder (h : s.PourKept t) (target : Int) (source : OrderSource) :
    s.PourKept (t.placeOrder target source).1 := h.travel ((State.TravelOnly.refl t).placeOrder target source)

theorem State.PourKept.reAim (h : s.PourKept t) (source : OrderSource) : s.PourKept (t.reAim source) := by
  unfold State.reAim
  split
  · exact h
  · dsimp only
    split
    · exact (h.onPour _).placeOrder _ _
    · exact h.onPour _

theorem State.PourKept.arrivalOpen (h : s.PourKept t) (source : OrderSource) : s.PourKept (t.arrivalOpen source) := by
  unfold State.arrivalOpen
  split
  · exact h
  · exact h.reAim _

theorem State.PourKept.placeReturn (h : s.PourKept t) : s.PourKept t.placeReturn := by
  unfold State.placeReturn
  split
  · split
    · rename_i p _
      have k : s.PourKept ((t.onPour (fun q => { q with reAimed := false })).placeOrder p .returning).1 :=
        (h.onPour _).placeOrder _ _
      split
      · rename_i e; rw [e] at k; exact k.arrivalOpen _
      · rename_i e; rw [e] at k; exact k
    · exact h
  · exact h

theorem State.PourKept.enterSuspended (h : s.PourKept t) : s.PourKept t.enterSuspended :=
  ((((h.setGate _).onPour _).setPour _).beltByCauses).onBills _ (Bills.countSuspension_billed _) rfl

theorem State.PourKept.reactAdd (h : s.PourKept t) : s.PourKept t.reactAdd := by
  unfold State.reactAdd
  split
  · exact h.enterSuspended
  · exact h.enterSuspended
  · exact h.enterSuspended
  · exact h.beltByCauses
  · exact h.beltByCauses
  · exact h

theorem State.PourKept.addCause (h : s.PourKept t) (c : SuspendCause) : s.PourKept (t.addCause c) := by
  unfold State.addCause
  split
  · dsimp only
    split
    · exact ((h.setCauses _).reactAdd).placeReturn
    · exact (h.setCauses _).reactAdd
  · exact h

theorem State.PourKept.failCause (h : s.PourKept t) (c : SuspendCause) : s.PourKept (t.failCause c) := by
  unfold State.failCause
  split
  · exact .ite ((h.setCauses _).onPour _).withdrawPass ((h.setCauses _).onPour _).reactAdd
  · exact h

theorem State.PourKept.retestThrottle (h : s.PourKept t) : s.PourKept t.retestThrottle := by
  unfold State.retestThrottle
  repeat' split
  · exact (h.setGate _).setPour _
  · exact h
  · exact h
  · exact (h.setGate _).setPour _
  · exact h.setGate _
  · exact h

theorem State.PourKept.gateWait (h : s.PourKept t) : s.PourKept t.gateWait := by
  unfold State.gateWait
  repeat' split
  · exact h.enterRunout _
  · exact h.failCause _
  · exact (h.onPour _).setGate _

theorem State.PourKept.beltWait (h : s.PourKept t) : s.PourKept t.beltWait := by
  unfold State.beltWait
  dsimp only
  split
  · exact ((h.onPour _).setBelt _).gateWait
  · exact (h.onPour _).setBelt _

theorem State.PourKept.reEnterStarting (h : s.PourKept t) : s.PourKept t.reEnterStarting := by
  unfold State.reEnterStarting
  dsimp only
  split
  · exact ((h.onPour _).setPour _).beltWait
  · exact ((h.onPour _).setPour _).addCause _

theorem State.PourKept.removeCause (h : s.PourKept t) (c : SuspendCause) : s.PourKept (t.removeCause c) := by
  have after : ∀ u : State, s.PourKept u → s.PourKept (match u.pour.state with
      | .suspended => if u.pour.causes.isEmpty then u.reEnterStarting else u.beltByCauses
      | .runout => u.beltByCauses
      | _ => u) := by
    intro u k
    split
    · exact .ite k.reEnterStarting k.beltByCauses
    · exact k.beltByCauses
    · exact k
  unfold State.removeCause
  split
  · exact after _ ((h.setCauses _).onPour _)
  · exact h

theorem State.PourKept.syncCause (h : s.PourKept t) (c : SuspendCause) (held : Bool) : s.PourKept (t.syncCause c held) := by
  unfold State.syncCause
  split
  · exact h.addCause _
  · exact h.removeCause _

theorem State.PourKept.enterStarting (h : s.PourKept t) : s.PourKept t.enterStarting := by
  unfold State.enterStarting
  split
  · exact h
  · dsimp only
    have k := fun n c => ((((h.onBills (fun b => b.takeLine n c t.count) (Bills.takeLine_billed _ _ _ _)
      (Bills.takeLine_spill _ _ _ _)).onPour (fun p => { p with
        positioningTimer := none, failures := 0, passSuspended := false, phase := some .beltWait
        causes := CauseSet.empty })).setPour .starting).travel (State.TravelOnly.refl _).recompute)
    exact .ite ((k _ _).setCauses _).beltWait ((k _ _).setCauses _).enterSuspended

theorem State.PourKept.arrivalPositioning (h : s.PourKept t) (source : OrderSource) :
    s.PourKept (t.arrivalPositioning source) := by
  unfold State.arrivalPositioning
  split
  · exact h.enterStarting
  · exact h.reAim _

theorem State.PourKept.tellArrival {r : State × Option OrderSource} (h : s.PourKept r.1) : s.PourKept (State.tellArrival r) := by
  unfold State.tellArrival
  repeat' split
  · exact h
  · exact h.arrivalPositioning _
  · exact h.arrivalOpen _
  · exact h
  · exact h

theorem State.PourKept.travelEvent (h : s.PourKept t) : s.PourKept t.travelEvent :=
  State.PourKept.tellArrival (h.travel (State.TravelOnly.refl t).rangeEvent)

theorem State.PourKept.positioningCases (h : s.PourKept t) : s.PourKept t.positioningCases := by
  unfold State.positioningCases
  dsimp only
  split
  · exact h.onPour _
  · split
    · exact (h.onPour _).enterStarting
    · split
      · rename_i p _
        have k : s.PourKept ((t.onPour (fun q => { q with reAimed := false })).placeOrder p .position).1 :=
          (h.onPour _).placeOrder _ _
        split
        · rename_i e; rw [e] at k; exact k.arrivalPositioning _
        · rename_i e; rw [e] at k; exact k
      · exact h.onPour _

theorem State.PourKept.enterPositioning (h : s.PourKept t) : s.PourKept t.enterPositioning :=
  ((h.onPour _).setPour _).positioningCases

theorem State.PourKept.withdrawClaim (h : s.PourKept t) (cause : WithdrawCause) : s.PourKept (t.withdrawClaim cause) := by
  unfold State.withdrawClaim
  split
  · exact h
  · dsimp only
    split
    · exact ((((h.onPour _).travel (State.TravelOnly.refl _).stopTravel).endClaim).notify _).setPour _
    · exact (((h.onPour _).endClaim).notify _).setPour _

theorem State.PourKept.loseClaim (h : s.PourKept t) (reason : Reason) : s.PourKept (t.loseClaim reason) := by
  unfold State.loseClaim
  split
  · exact h
  · exact (((h.dropClaim _).markStatus).notify _).setPour _

theorem State.PourKept.mapTest (h : s.PourKept t) : s.PourKept t.mapTest := by
  unfold State.mapTest
  split
  · exact h.syncCause _ _
  · exact h

theorem State.PourKept.syncDustOwn (h : s.PourKept t) : s.PourKept t.syncDustOwn := h.syncCause _ _

theorem State.PourKept.syncDustPeer (h : s.PourKept t) : s.PourKept t.syncDustPeer := (h.syncCause _ _).retestThrottle

theorem State.PourKept.faultTravel (h : s.PourKept t) (cause : TravelFault) : s.PourKept (t.faultTravel cause) :=
  (h.travel ((State.TravelOnly.refl t).enterFaulted cause)).addCause _

theorem State.PourKept.stopPour (h : s.PourKept t) : s.PourKept t.stopPour := by
  unfold State.stopPour
  split
  · exact h
  · exact h
  · exact h.loseClaim _
  · exact h.withdrawClaim _
  all_goals exact h.enterRunout _

theorem State.PourKept.yieldPour (h : s.PourKept t) : s.PourKept t.yieldPour := by
  unfold State.yieldPour
  split
  · exact h.withdrawClaim _
  · exact h.enterRunout _
  · exact h.enterRunout _
  · exact h.enterRunout _
  · exact h.enterRunout _
  · exact h

theorem State.PourKept.closeDecision (h : s.PourKept t) : s.PourKept t.closeDecision := by
  unfold State.closeDecision
  repeat' split
  · exact h.enterRunout _
  · exact h
  · exact h.enterRunout _
  · exact h
  · exact h

theorem State.PourKept.lateConflictTest (h : s.PourKept t) : s.PourKept t.lateConflictTest := by
  unfold State.lateConflictTest
  repeat' split
  · exact h
  · exact h
  · exact .ite ((h.onFill _ fun _ => rfl).notify _).yieldPour h

end Sys2Proof.Machine
end

