-- ==== Sys2Proof/Laws/Scale.lean ====
section
/-! SUPPORT. What the Belt Scale's and the zero run's operations can do, and where the mass of a leaving cell goes. -/

namespace Sys2Proof.Machine

/-- What the zero run's operations and the load's own bookkeeping leave: every block but the scale and the notices. -/
structure State.ScaleOnly (s t : State) : Prop where
  state : t = { s with scale := t.scale, port := t.port }
  port : s.port.Kept t.port
  total : t.scale.total = s.scale.total

variable {s t : State}

theorem State.ScaleOnly.refl (s : State) : s.ScaleOnly s := ⟨rfl, .refl _, rfl⟩

theorem State.ScaleOnly.onScale (h : s.ScaleOnly t) (f : Scale → Scale) (hf : (f t.scale).total = t.scale.total) :
    s.ScaleOnly (t.onScale f) :=
  ⟨by rw [h.state]; rfl, h.port, by rw [← h.total]; exact hf⟩

theorem State.ScaleOnly.notify (h : s.ScaleOnly t) (body : NoticeBody) : s.ScaleOnly (t.notify body) :=
  ⟨by rw [h.state]; rfl, h.port.trans (LocalPort.raise_kept _ _ _), h.total⟩

theorem State.ScaleOnly.failZeroRun (h : s.ScaleOnly t) (reason : ZeroFailure) (raw : Option Nat) :
    s.ScaleOnly (t.failZeroRun reason raw) := by
  unfold State.failZeroRun
  split
  · exact (h.onScale _ rfl).notify _
  · exact h

theorem State.ScaleOnly.endZeroRun (h : s.ScaleOnly t) (z : ZeroRun) : s.ScaleOnly (t.endZeroRun z) := by
  unfold State.endZeroRun
  repeat' split
  · exact h.failZeroRun _ _
  · exact h.failZeroRun _ _
  · exact (h.onScale _ rfl).notify _

theorem State.ScaleOnly.zeroSample (h : s.ScaleOnly t) (raw : Nat) : s.ScaleOnly (t.zeroSample raw) := by
  unfold State.zeroSample
  split
  · exact h
  · dsimp only
    split
    · exact (h.onScale _ rfl).failZeroRun _ _
    · exact h.onScale _ rfl

theorem State.ScaleOnly.zeroPulse (h : s.ScaleOnly t) : s.ScaleOnly t.zeroPulse := by
  unfold State.zeroPulse
  split
  · exact h
  · dsimp only
    split
    · exact (h.onScale _ rfl).endZeroRun _
    · exact h.onScale _ rfl

theorem State.ScaleOnly.episodeAct (h : s.ScaleOnly t) (raw : Nat) (high : Bool) : s.ScaleOnly (t.episodeAct raw high) := by
  unfold State.episodeAct
  dsimp only
  split
  · exact (h.onScale _ rfl).notify _
  · exact h.onScale _ rfl

theorem State.ScaleOnly.startLoadTimers (h : s.ScaleOnly t) : s.ScaleOnly t.startLoadTimers := h.onScale _ rfl

/-- Spilt mass goes into the spill tally and nowhere else. -/
theorem State.spill_bills (s : State) (cause : SpillCause) (mass : Nat) :
    (s.spill cause mass).bills = { s.bills with spill := s.bills.spill + mass } := rfl

/-- Delivered mass goes into the open line. -/
theorem State.deliver_bills (s : State) (x : Slot) (h : Nat) (c : Cell) :
    (s.deliver x h c).bills = s.bills.addMass c.mass c.marked := by
  unfold State.deliver; simp

/-- A leaving cell goes to the open line or to the spill tally, and an empty one nowhere. -/
theorem State.attribute_bills (s : State) (c : Cell) :
    (c.mass = 0 ∧ s.attribute c = s)
      ∨ (∃ l, s.bills.openLine = some l ∧ s.translate = .ok l.slot l.hold
          ∧ (s.attribute c).bills = s.bills.addMass c.mass c.marked)
      ∨ (s.attribute c).bills = { s.bills with spill := s.bills.spill + c.mass } := by
  unfold State.attribute
  split
  · exact .inl ⟨‹_›, rfl⟩
  · split
    · rename_i x h l ht hl
      split
      · rename_i e
        exact .inr (.inl ⟨l, hl, by rw [ht, e.1, e.2], State.deliver_bills s x h c⟩)
      · exact .inr (.inr rfl)
    · exact .inr (.inr rfl)

end Sys2Proof.Machine
end

