-- ==== Sys2Proof/Laws/Peers.lean ====
section
/-! SUPPORT. What the Peer Table's operations can do before they reach travel and the pour: they write the entries, the MISMATCH
marks, the views, the peers' dust records and the notices, and nothing else. -/

namespace Sys2Proof.Machine

/-- What the Peer Table's own operations leave. -/
structure State.TableOnly (s t : State) : Prop where
  state : t = { s with peers := t.peers, port := t.port, dust := t.dust, fill := t.fill, berths := t.berths }
  port : s.port.Kept t.port
  channels : t.dust.spout = s.dust.spout ∧ t.dust.gallery = s.dust.gallery
  claim : t.fill.claim = s.fill.claim ∧ t.fill.claimTimer = s.fill.claimTimer
  sessions : ∀ x, t.session x = s.session x

variable {s t : State}

theorem State.TableOnly.refl (s : State) : s.TableOnly s := ⟨rfl, .refl _, ⟨rfl, rfl⟩, ⟨rfl, rfl⟩, fun _ => rfl⟩

theorem State.TableOnly.onPeers (h : s.TableOnly t) (f : List PeerEntry → List PeerEntry) : s.TableOnly (t.onPeers f) :=
  ⟨by rw [h.state]; rfl, h.port, h.channels, h.claim, h.sessions⟩

theorem State.TableOnly.notify (h : s.TableOnly t) (body : NoticeBody) : s.TableOnly (t.notify body) :=
  ⟨by rw [h.state]; rfl, h.port.trans (LocalPort.raise_kept _ _ _), h.channels, h.claim, h.sessions⟩

theorem State.TableOnly.onDustPeers (h : s.TableOnly t) (f : List PeerDust → List PeerDust) :
    s.TableOnly (t.onDust (fun d => { d with peers := f d.peers })) :=
  ⟨by rw [h.state]; rfl, h.port, h.channels, h.claim, h.sessions⟩

theorem State.TableOnly.onFill (h : s.TableOnly t) (f : Fill → Fill)
    (hf : (f t.fill).claim = t.fill.claim ∧ (f t.fill).claimTimer = t.fill.claimTimer) : s.TableOnly (t.onFill f) :=
  ⟨by rw [h.state]; rfl, h.port, h.channels, ⟨hf.1.trans h.claim.1, hf.2.trans h.claim.2⟩, h.sessions⟩

/-- A mark changed on a berth keeps its session. -/
theorem State.TableOnly.mark (h : s.TableOnly t) (x : Slot) (m : Bool) :
    s.TableOnly (t.onBerth x (fun b => { b with mismatch := m })) :=
  ⟨by rw [h.state]; rfl, h.port, h.channels, h.claim, fun y => by rw [← h.sessions]; cases x <;> cases y <;> rfl⟩

theorem State.TableOnly.putChanged (h : s.TableOnly t) (e : PeerEntry) : s.TableOnly (t.putChanged e) :=
  ((h.onPeers _).notify _).onDustPeers _

theorem State.TableOnly.putEntry (h : s.TableOnly t) (before : Freshness) (e : PeerEntry) : s.TableOnly (t.putEntry before e) := by
  unfold State.putEntry
  split
  · exact h.onPeers _
  · exact h.putChanged _

/-- A view written leaves the own claim and its window. -/
theorem Fill.handed_claim (f : Fill) (station : Nat) (c : Content) :
    (f.handed station c).claim = f.claim ∧ (f.handed station c).claimTimer = f.claimTimer := by
  have key : ∀ (f : Fill) (x : Slot) (g : List Row → List Row),
      (f.onView x g).claim = f.claim ∧ (f.onView x g).claimTimer = f.claimTimer := by
    intro f x g; cases x <;> exact ⟨rfl, rfl⟩
  unfold Fill.handed
  split
  · exact ⟨((key _ _ _).1).trans (key _ _ _).1, ((key _ _ _).2).trans (key _ _ _).2⟩
  · exact key _ _ _
  all_goals exact ⟨rfl, rfl⟩

theorem State.TableOnly.handOn (h : s.TableOnly t) (e : PeerEntry) (c : Content) : s.TableOnly (t.handOn e c) := by
  have k := h.onFill (fun f => f.handed e.station c) (Fill.handed_claim _ _ _)
  unfold State.handOn
  cases c with
  | status r => exact k.onDustPeers _
  | dust d x => exact k.onDustPeers _
  | claim _ => exact k.onDustPeers id
  | brk _ => exact k.onDustPeers id

/-- A fold of such operations is one. -/
theorem State.TableOnly.fold (h : s.TableOnly t) (f : State → PeerEntry → State) (hf : ∀ u e, s.TableOnly u → s.TableOnly (f u e))
    (l : List PeerEntry) : s.TableOnly (l.foldl f t) := by
  induction l generalizing t with
  | nil => exact h
  | cons e rest ih => exact ih (hf _ e h)

theorem State.TableOnly.markCut (h : s.TableOnly t) (side : Side) (d : Nat) : s.TableOnly (t.markCut side d) :=
  h.fold _ (fun _ _ k => k.putChanged _) _

theorem State.TableOnly.useBreak (h : s.TableOnly t) (port : Side) (d : Nat) (c : Content) : s.TableOnly (t.useBreak port d c) := by
  unfold State.useBreak
  repeat' split
  · exact h.markCut _ _
  · exact h
  · exact h

theorem State.TableOnly.decideMismatch (h : s.TableOnly t) (x : Slot) : s.TableOnly (t.decideMismatch x) := by
  unfold State.decideMismatch
  repeat' split
  · exact h
  · exact (h.mark x true).notify _
  · exact (h.mark x false).notify _
  · exact h

theorem State.TableOnly.goStale (h : s.TableOnly t) (e : PeerEntry) : s.TableOnly (t.goStale e) := by
  unfold State.goStale
  split
  · exact h.putChanged _
  · exact h

/-- An entry set in a table in the order of its numbers is found under its number, and every other as before. -/
theorem setEntry_ordered (e : PeerEntry) (l : List PeerEntry) (h : l.Pairwise (fun a b => a.station < b.station)) :
    (setEntry e l).Pairwise (fun a b => a.station < b.station)
      ∧ ∀ x ∈ setEntry e l, x = e ∨ (x ∈ l ∧ x.station ≠ e.station) := by
  induction l with
  | nil => simp [setEntry]
  | cons f rest ih =>
    obtain ⟨hf, hr⟩ := List.pairwise_cons.1 h
    obtain ⟨io, im⟩ := ih hr
    unfold setEntry
    split
    · rename_i hlt
      refine ⟨List.pairwise_cons.2 ⟨fun b hb => ?_, io⟩, fun x hx => ?_⟩
      · rcases im b hb with rfl | ⟨hm, -⟩
        · exact hlt
        · exact hf b hm
      · rcases List.mem_cons.1 hx with rfl | hx
        · exact .inr ⟨List.mem_cons_self, by omega⟩
        · rcases im x hx with rfl | ⟨hm, hn⟩
          · exact .inl rfl
          · exact .inr ⟨List.mem_cons_of_mem _ hm, hn⟩
    · split
      · rename_i heq
        refine ⟨List.pairwise_cons.2 ⟨fun b hb => heq ▸ hf b hb, hr⟩, fun x hx => ?_⟩
        rcases List.mem_cons.1 hx with rfl | hx
        · exact .inl rfl
        · exact .inr ⟨List.mem_cons_of_mem _ hx, by have := hf x hx; omega⟩
      · rename_i hge hne
        refine ⟨List.pairwise_cons.2 ⟨fun b hb => ?_, h⟩, fun x hx => ?_⟩
        · rcases List.mem_cons.1 hb with rfl | hb
          · omega
          · have := hf b hb; omega
        · rcases List.mem_cons.1 hx with rfl | hx
          · exact .inl rfl
          · refine .inr ⟨hx, ?_⟩
            rcases List.mem_cons.1 hx with rfl | hx
            · exact hne
            · have := hf x hx; omega

end Sys2Proof.Machine
end

