-- ==== Sys2Proof/Tests/Slice0.lean ====
section
/-! SUPPORT. The model's own tests: the ill-formed terms that WellFormed refuses, the words that spell no command, the worked
examples of the manual (each names its section), and for every statement with hypotheses a state and operands that meet them.
The helper states are small and need not be reachable. -/

namespace Sys2Proof.Tests

open Sys2Proof Sys2Proof.Machine

set_option Elab.async false

/-! ## Helpers -/

/-- The state that a command leaves. -/
def after (c : Instr) (s : State) : State :=
  match exec c s with
  | .next t => t
  | .fault _ | .refused _ => s

/-- `s` with a request posted in its mailbox. -/
def asked (r : Request) (s : State) : State := s.withMailbox (.posted r)

/-- The state after a posted request has been taken. -/
def taken (r : Request) (s : State) : State := after r.row (asked r s)

/-- A start block in range: station 4, spout offset +3,500 mm (section 1.8), thresholds 40, 80, 150 (section 8.11). -/
def startFields : StartFields where
  station := 4
  chainEndUp := 0
  chainEndDown := 0
  railLower := 0
  railUpper := 1000000
  spoutOffset := 3500
  separation := 10000
  slowDown := 5000
  creep := 1000
  tolerance := 50
  releaseDelay := 500
  pulseLength := 25
  cellCount := 2
  beltLoop := 16
  span := 32
  zeroBand := 3
  gateLimit := 10
  spout := ⟨40, 80, 150⟩
  gallery := ⟨40, 80, 150⟩
  allowance := 1500
  ceiling := 5000
  trigger := 4

/-- The part in RUN at rail position 395,000, parked, with two empty cells. -/
def run : State := { State.reset with
  count := 5000
  cfg := some startFields.block
  port := { LocalPort.reset with mode := .run, trigger := 4 }
  belt := ⟨[⟨0, false⟩, ⟨0, false⟩], 0, 0⟩
  scale := { Scale.reset with status := .ok, staleTimer := some 5200, faultTimer := some 7000 }
  line := { QuayLine.reset with
    relayOpen := true, statusTimer := some 5200, spacingTimer := some 5050
    up := { PortRec.reset with silenceTimer := some 5600 }, down := { PortRec.reset with silenceTimer := some 5600 } }
  travel := { Travel.reset with position := some 395000, encoderTimer := some 5100, edgeUp := some (0, .rail), edgeDown := some (1000000, .rail) }
  pour := { Pour.reset with allowance := some 1500 }
  dust := ⟨{ DustChannel.reset with timer := some 6000 }, { DustChannel.reset with timer := some 6000 }, []⟩ }

/-- The part in BYPASS. -/
def bypassed : State := { run with port := { run.port with mode := .bypass } }

/-- A hold descriptor. -/
def holdOf (fore aft margin : Nat) (lever : Int) (targets : List Nat) (hatch : Bool) (p : Permission) : Hold :=
  ⟨some ⟨fore, aft, margin, lever, 2, targets⟩, hatch, p, false, false, false⟩

/-- The vessel of section 1.8, with the vessel data and the levers of section 6.3.1, its trim band widened to ±90. -/
def vessel : Session where
  planTag := 77
  bowMark := 412000
  orientation := .bowDown
  length := 96000
  holdCount := 4
  displacement := 20000
  moment := 3000
  mct := 120
  tpc := 18
  meanDraft := 160
  draftLimit := 360
  bandLower := -90
  bandUpper := 90
  bill := 1
  holds := [holdOf 6000 26000 1500 (-450) [300000, 600000] true .opened,
    holdOf 28000 48000 1500 (-150) [350000, 700000] false .opened,
    holdOf 50000 70000 1500 150 [400000] true .restricted, holdOf 72000 90000 1200 450 [] true .opened]

/-- The OPEN SESSION of that vessel. -/
def vesselFields : SessionFields where
  slot := 1
  planTag := 77
  bowMark := 412000
  orientation := 2
  length := 96000
  holdCount := 4
  displacement := 20000
  moment := 3000
  mct := 120
  tpc := 18
  meanDraft := 160
  draftLimit := 360
  bandLower := -90
  bandUpper := 90

/-- The bill of that vessel, in record 1. -/
def bill (lines : List BillLine) : Bill := ⟨.a, 77, 2000, lines, 0, none⟩

def emptyRow : Row := ⟨0, [], []⟩

/-- The vessel on slot A. -/
def moored : State := { run with
  berths := ⟨⟨false, some vessel⟩, Berth.free⟩
  fill := ⟨some [emptyRow, emptyRow, emptyRow, emptyRow], none, none, none⟩
  bills := ⟨[some (bill []), none, none, none], 160, 0⟩ }

/-- The same with the loader elsewhere. -/
def mooredAt (position : Int) : State := { moored with travel := { moored.travel with position := some position } }

/-- The own claim on hold 1, its first pass. -/
def claim (phase : ClaimPhase) : OwnClaim := ⟨.a, 1, 1, 300000, false, phase, false⟩

/-- The claim's window is running. -/
def claiming : State := { moored with
  fill := { moored.fill with claim := some (claim .pending), claimTimer := some 5400 }
  pour := { moored.pour with state := .claiming } }

/-- The claim is ACTIVE, its spout still travelling. -/
def positioning : State := { moored with
  fill := { moored.fill with claim := some (claim .active) }
  pour := { moored.pour with state := .positioning, positioningTimer := some 6000 } }

/-- The open line of the claim. -/
def openLine : BillLine := ⟨1, .a, 1, 1, 300000, 1, none, 1776000, 0, 0, none, none, none⟩

/-- The pass is pouring: line open, belt running, gate OPEN. -/
def pouring : State := { moored with
  inputs := ⟨false, true⟩
  fill := { moored.fill with claim := some (claim .active) }
  pour := { moored.pour with
    state := .pouring, beltOn := true, watch := .running, gateCommand := .openFull, gate := .opened }
  bills := ⟨[some (bill [openLine]), none, none, none], 159, 0⟩ }

/-- The same in another pour state. -/
def pourIn (state : PourState) : State := { pouring with pour := { pouring.pour with state := state } }

/-- The pour SUSPENDED by one cause, its belt at rest if the cause stops it, its gate CLOSED. -/
def suspendedBy (c : SuspendCause) : State := { pouring with
  inputs := ⟨false, !(CauseSet.empty.put true c).stopsBelt⟩
  pour := { pouring.pour with
    state := .suspended, causes := CauseSet.empty.put true c, passSuspended := true, gateCommand := .closed, gate := .closed
    beltOn := !(CauseSet.empty.put true c).stopsBelt
    watch := if (CauseSet.empty.put true c).stopsBelt then .off else .running } }

/-- SUSPENDED by MAP, the gate still CLOSING. -/
def gateClosing : State := { suspendedBy .map with pour := { (suspendedBy .map).pour with gate := .closing, gateTimer := some 6000 } }

/-- SUSPENDED by MAP, the hatch of the hold closed. -/
def closedHatch : State := { suspendedBy .map with berths := ⟨⟨false, some { vessel with
  holds := vessel.holds.set 0 (holdOf 6000 26000 1500 (-450) [300000, 600000] false .opened) }⟩, Berth.free⟩ }

/-- STARTING in a phase, the belt's start timer running. -/
def starting (phase : StartPhase) (watch : BeltWatch) (gate : GateState) : State := { pouring with
  inputs := ⟨false, false⟩
  pour := { pouring.pour with
    state := .starting, phase := some phase, watch := watch, gate := gate
    gateCommand := if gate = .opening then .openFull else .closed
    beltStartTimer := if watch = .waiting then some 7000 else none } }

/-- A run-out whose belt has failed, its retry timer running; and one waiting for its gate. -/
def runoutFailed : State := { pourIn .runout with
  inputs := ⟨false, false⟩
  pour := { (pourIn .runout).pour with
    causes := { CauseSet.empty with belt := true }, beltOn := false, watch := .off, beltRetryTimer := some 7000
    gateCommand := .closed, gate := .closing, runoutCause := some .target } }
def runoutClosing : State := { pourIn .runout with
  pour := { (pourIn .runout).pour with gateCommand := .closed, gate := .closing, runoutCause := some .target } }

/-- Travel in a state with a target. -/
def travelling (state : TravelState) (target : Option Int) (s : State) : State := { s with
  travel := { s.travel with
    state := state, target := target, source := target.map (fun _ => .host)
    direction := if state = .moving then some .down else none } }

/-- The load status FAULT. -/
def unweighed (s : State) : State := { s with scale := { s.scale with status := .fault } }

/-- A peer's report at a position, in RUN, parked and idle. -/
def reportAt (position : Int) : Report := ⟨0x02, 0, 0, position, true, 0x01, none, 0x01, none, .clear, none, [], none⟩

/-- A peer entry, FRESH. -/
def peer (station : Nat) (side : Side) (distance : Nat) (report : Option Report) : PeerEntry :=
  ⟨station, side, distance, report, 4900, some 5500, .fresh, none⟩

/-- Two peers upstream and one downstream. -/
def peered : State := { run with
  peers := [peer 2 .up 2 none, peer 3 .up 1 (some (reportAt 300000)), peer 5 .down 1 (some (reportAt 600000))] }

/-- A STATUS frame of a station after its kind byte. -/
def statusRest (origin hop : Nat) (position : Int) : List Byte :=
  (frameBytes 0x01 origin hop (reportAt position).payload).drop 1

/-! ## WellFormed: each check refuses an ill-formed term -/

theorem test_wf_post_too_long : (Instr.post .whole (List.replicate 65536 0)).WellFormed = false := by
  show decide ((List.replicate 65536 (0 : Byte)).length < 65536) = false
  rw [List.length_replicate]
  rfl
theorem test_wf_unknown_transaction_is_known : (Instr.unknownTransaction 0x10).WellFormed = false := by decide
theorem test_wf_unknown_transaction : (Instr.unknownTransaction 0x7F).WellFormed = true := by decide
theorem test_wf_status_frame_short : (Instr.statusFrame .up [1, 2, 3, 4]).WellFormed = false := by decide
theorem test_wf_claim_frame_short : (Instr.claimFrame .up [1, 2, 3, 4]).WellFormed = false := by decide
theorem test_wf_dust_frame_short : (Instr.dustFrame .down [1, 2, 3, 4]).WellFormed = false := by decide
theorem test_wf_break_frame_short : (Instr.breakFrame .down []).WellFormed = false := by decide
theorem test_wf_peer_zero : (Instr.peerStaleTimerExpiry 0).WellFormed = false := by decide
theorem test_wf_peer_nine : (Instr.peerStaleTimerExpiry 9).WellFormed = false := by decide

/-! ## No table word spells a command -/

theorem test_word_spells_nothing : decodeTableWord 8 0x10 = none := by decide
theorem test_fetch_word_changes_nothing : run.withFetchWord 8 0x10 = run := by decide +kernel

/-! ## The manual's worked examples -/

/-- Section 1.8: the table of results. -/
theorem test_translation_table :
    (mooredAt 310000).translate = .fault .noVessel ∧ (mooredAt 330000).translate = .fault .noPlan
      ∧ (mooredAt 350000).translate = .fault .notPermitted ∧ (mooredAt 380000).translate = .fault .hatchClosed
      ∧ (mooredAt 395000).translate = .ok .a 1 ∧ (mooredAt 401500).translate = .fault .margin
      ∧ (mooredAt 404000).translate = .fault .betweenHolds := by decide +kernel

/-- Section 1.8: the pour window of hold 1 in loader positions, before and after the mooring drift. -/
theorem test_drift_moves_the_window :
    moored.loaderWindow .a 1 = some (384000, 401000)
      ∧ (taken (.shiftVessel 1 411200) moored).loaderWindow .a 1 = some (383200, 400200)
      ∧ (taken (.shiftVessel 1 411200) (mooredAt 401000)).translate = .fault .margin := by decide +kernel

/-- Section 1.8: PERMIT gives the token, and the translation still answers NOT_PERMITTED. -/
theorem test_permit_gives_the_token :
    ((taken (.permit 1 3) (mooredAt 350000)).hold .a 3).map Hold.token = some true
      ∧ (taken (.permit 1 3) (mooredAt 350000)).translate = .fault .notPermitted := by decide +kernel

/-- Section 1.8: a second vessel that shares one end position is refused, one clear of it is accepted. -/
theorem test_second_vessel_overlap :
    (taken (.openSession { vesselFields with slot := 2, bowMark := 300000, orientation := 1, length := 15200 })
        (taken (.shiftVessel 1 411200) moored)).port.mailbox = refusedReply .overlap 0
      ∧ (taken (.openSession { vesselFields with slot := 2, bowMark := 300000, orientation := 1, length := 15000 })
        (taken (.shiftVessel 1 411200) moored)).port.mailbox = doneReply [2] := by decide +kernel

/-- Section 2.9: net loads at tare 2,240. -/
theorem test_net_loads :
    let s : State := { run with scale := { run.scale with tare := 2240 } }
    (after (.loadSample 2100) s).scale.load = 0 ∧ (after (.loadSample 2500) s).scale.load = 0
      ∧ (after (.loadSample 16448) s).scale.load = 111 ∧ (after (.loadSample 65535) s).scale.load = 494 := by decide +kernel

/-- Section 2.9: a pulse at 111 kg/m adds 2,775 g to the tail. -/
theorem test_pulse_mass :
    (after .beltPulse { run with scale := { run.scale with load := 111 } }).belt = ⟨[⟨2775, false⟩, ⟨0, false⟩], 1, 2775⟩ := by
  decide +kernel

/-- Section 2.9: the shifts of the pass. A marked cell goes whole to the line's estimated mass; after the drift the next cell
is spilt with cause MARGIN. -/
def passing (marked : Bool) : State := { pouring with
  travel := { pouring.travel with position := some 401000 }
  scale := { pouring.scale with load := 111 }
  belt := ⟨[⟨41625, false⟩, ⟨44400, marked⟩], 15, 86025⟩ }

theorem test_shift_goes_to_the_line :
    ((after .beltPulse (passing true)).bills.openLine.map fun l => (l.mass, l.estimated)) = some (1820400, 44400)
      ∧ ((after .beltPulse (passing false)).bills.openLine.map fun l => (l.mass, l.estimated)) = some (1820400, 0)
      ∧ (after .beltPulse (passing false)).belt.content = 88800 - 44400 + 0
      ∧ ((after .beltPulse (passing false)).hold .a 1).map Hold.touched = some true := by decide +kernel

theorem test_shift_after_drift_is_spilt :
    let s := taken (.shiftVessel 1 411200) (passing false)
    s.pour.causes.map = true ∧ (after .beltPulse s).bills.spill = 44400
      ∧ (after .beltPulse s).port.notices.map Notice.body
        = s.port.notices.map Notice.body ++ [.spill (.fault .margin) 44 44] := by decide +kernel

/-- A zero run with old tare 2,240. -/
def zeroing (z : ZeroRun) : State := { run with
  scale := { run.scale with tare := 2240, zeroRun := some z, stillTimer := some 15000 } }

/-- Section 2.9: 4,863 passes the excess test and 4,864 does not; the mean of the run. -/
theorem test_zero_run_excess :
    (after (.loadSample 4863) (zeroing ⟨2240, 0, 0, 0⟩)).scale.zeroRun = some ⟨2240, 0, 4863, 1⟩
      ∧ (after (.loadSample 4864) (zeroing ⟨2240, 0, 0, 0⟩)).scale.zeroRun = none := by decide +kernel
theorem test_zero_run_mean : (after .beltPulse (zeroing ⟨2240, 15, 4323050, 1920⟩)).scale.tare = 2252 := by decide +kernel

/-- Section 3.9: P4 is the fourth passed-over take; after it C1 goes out, and the count begins anew. -/
def sendingDown (passOver : Nat) : State := { run with
  line := { run.line with
    up := { run.line.up with sending := some ⟨[], none⟩ }
    down := { run.line.down with sending := some ⟨[0], none⟩, passOver := passOver, queue := [[5], [6], [7]] }
    own := [⟨.claim, 8, [0xC1], false, false⟩, ⟨.status, 7, [0x51], true, false⟩] } }

theorem test_transmitter_takes_the_pass_through_frame :
    ((after (.frameSent .down) (sendingDown 3)).line.down.sending, (after (.frameSent .down) (sendingDown 3)).line.down.passOver)
      = (some ⟨[5], none⟩, 4) := by decide +kernel
theorem test_transmitter_takes_the_own_frame_after_four :
    (after (.frameSent .down) (sendingDown 4)).line.down
      = { (sendingDown 4).line.down with sending := some ⟨[0xC1], some 8⟩, passOver := 0 } := by decide +kernel

/-- Section 6.3.1: the present figures and the two proposals. -/
def totals (h1 h4 : Nat) : Nat → Nat
  | 1 => h1
  | 2 => 600000
  | 3 => 650000
  | 4 => h4
  | _ => 0

/-- Its trim band is −60..+60. -/
def narrow : Session := { vessel with bandLower := -60, bandUpper := 60 }

theorem test_trim_present : vessel.trimDraft (totals 800000 500000) = ⟨2550000, -97500000, -81, 302, 343⟩ := by decide +kernel
theorem test_trim_hold_four :
    vessel.trimDraft (totals 800000 800000) = ⟨2850000, 37500000, 31, 319, 335⟩
      ∧ narrow.limits (narrow.trimDraft (totals 800000 800000)) = none := by decide +kernel
theorem test_trim_hold_one :
    vessel.trimDraft (totals 1000000 500000) = ⟨2750000, -187500000, -156, 313, 391⟩
      ∧ narrow.limits (narrow.trimDraft (totals 1000000 500000)) = some .trim := by decide +kernel

/-- Section 7.9: the allowance after a run-out, with this allowance, target and hold total (kg). -/
def adapted (allowance target total : Nat) : Option Nat :=
  (({ pouring with
      fill := { pouring.fill with
        viewA := some [⟨total * 1000, [], []⟩], claim := some { claim .active with target := target } }
      pour := { pouring.pour with state := .runout, allowance := some allowance } } : State).endRunout .target).pour.allowance

theorem test_allowance_table :
    adapted 1500 800000 800900 = some 1950 ∧ adapted 1950 800000 799301 = some 1601 ∧ adapted 100 600000 599650 = some 0 := by
  decide +kernel

/-- Section 8.11: the rise of the spout channel. -/
def dustRise : List Nat → DustChannel → List DustClass
  | [], _ => []
  | v :: rest, r => (r.sample ⟨40, 80, 150⟩ v false).state :: dustRise rest (r.sample ⟨40, 80, 150⟩ v false)

theorem test_dust_rise :
    dustRise [95, 110, 130, 160, 175, 120, 30] { DustChannel.reset with history := List.replicate 32 30 }
      = [.watch, .watch, .watch, .alarm, .trip, .trip, .trip] := by decide +kernel

/-- A posted request taken, and its reply placed. -/
def replied (r : Request) (s : State) : State := (taken r s).tick

/-- Section 4.5 of 00_scope.md and R180: RESTART's reply, when fetched, restarts the part. R173: in TAKEN there is none to fetch. -/
theorem test_restart : (after (.fetchReply .whole) (replied .restart pouring)).pour.state = .idle
    ∧ (after (.fetchReply .whole) (replied .restart pouring)).bills.openLine = none
    ∧ (after (.fetchReply .whole) (taken .restart pouring)).pour.state = .pouring := by decide +kernel

/-- Section 11.2: the check word is the CCITT remainder with initial value FFFFh; an altered byte makes a frame not valid. -/
theorem test_altered_frame_is_not_valid :
    readFrame (frameBytes 0x04 5 0 [1]) = some ⟨5, 0, .brk (some .up)⟩
      ∧ readFrame ((frameBytes 0x04 5 0 [1]).set 2 1) = none := by decide +kernel

/-- R46: the check word of the nine characters 1 to 9, the published check value of this generator and preset. -/
theorem test_check_word : checkWord [0x31, 0x32, 0x33, 0x34, 0x35, 0x36, 0x37, 0x38, 0x39] = 0x29B1 := by decide +kernel

/-- An absent value meets whatever is said of a present one. -/
theorem none_of {α : Type} {P : α → Prop} {x : Option α} (h : x = none) : ∀ o, x = some o → P o := by
  rintro o ho
  rw [h] at ho
  cases ho

/-- The lists of a state are ordered, computed. -/
theorem listsOrdered_of {s : State} (h : (([s.fill.viewA, s.fill.viewB].all fun v => (v.getD []).all fun r =>
    decide (r.peers.Pairwise (fun f g => f.station < g.station)) && decide (r.claims.Pairwise (fun c d => c.station < d.station)))
      && decide (s.dust.peers.Pairwise (fun q r => q.station < r.station))) = true) : s.listsOrdered := by
  simp only [Bool.and_eq_true, List.all_cons, List.all_nil, Bool.and_true, List.all_eq_true, decide_eq_true_eq] at h
  refine ⟨fun x rows hx r hr => ?_, h.2⟩
  cases x <;> simp only [State.view] at hx
  · exact h.1.1 r (by simpa [hx] using hr)
  · exact h.1.2 r (by simpa [hx] using hr)

/-! ## Witnesses: for each statement with hypotheses, a state and operands that meet them -/

theorem witness_IdleStep :
    run.pending = [] ∧ ∀ e ∈ timers, ∀ d, e.1 run = some d → run.count + 1 < d := by
  refine ⟨rfl, fun e he d hd => ?_⟩
  have h : timers.all (fun e => (e.1 run).all (fun d => decide (run.count + 1 < d))) = true := by decide +kernel
  have := List.all_eq_true.1 h e he
  rw [hd] at this
  simpa using this

theorem witness_NoStatusChange : run.quiet ∧ Machine.step run = .next run.tick := ⟨by decide +kernel, rfl⟩

theorem witness_Protected_mode_and_block :
    exec .startBlock (asked (.startBlock startFields) State.reset) = .next (taken (.startBlock startFields) State.reset)
      ∧ (taken (.startBlock startFields) State.reset).port.mode ≠ State.reset.port.mode
      ∧ (taken (.startBlock startFields) State.reset).cfg ≠ State.reset.cfg :=
  ⟨rfl, by decide +kernel, by decide +kernel⟩
theorem witness_Protected_tare_and_total :
    (after .beltPulse (zeroing ⟨2240, 15, 4323050, 1920⟩)).scale.tare ≠ (zeroing ⟨2240, 15, 4323050, 1920⟩).scale.tare
      ∧ (after .beltPulse (passing false)).scale.total ≠ (passing false).scale.total := by decide +kernel

theorem witness_RefusedRequests :
    (asked (.move 5) State.reset).quiet
      ∧ exec (Request.move 5).row (asked (.move 5) State.reset) = .next (taken (.move 5) State.reset)
      ∧ (taken (.move 5) State.reset).port.mailbox = refusedReply .wrongMode 0
      ∧ (taken (.permit 1 9) moored).port.mailbox = refusedReply .badField 2 :=
  ⟨by decide +kernel, rfl, by decide +kernel, by decide +kernel⟩

theorem witness_RefusedRequests_mode :
    (asked .zeroScale bypassed).quiet ∧ (asked .zeroScale bypassed).port.mailbox = .posted .zeroScale
      ∧ (asked .zeroScale bypassed).port.mode ∉ Request.zeroScale.takenIn
      ∧ (asked (.unknown [0x99]) State.reset).port.mailbox = .posted (.unknown [0x99]) := by decide +kernel
theorem witness_RefusedRequests_table :
    let s := asked (.permit 1 9) moored
    s.quiet ∧ s.port.mode ≠ .config ∧ (s.mapTable (.permit 1 9)).failsBy .badField 2
      ∧ ((asked (.setHatch 3 1 0) moored).mapTable (.setHatch 3 1 0)).failsBy .badField 1 :=
  ⟨by decide +kernel, by decide +kernel, (State.mapTable_matches _).failsBy_iff _ _ |>.2 (by decide +kernel),
    (State.mapTable_matches _).failsBy_iff _ _ |>.2 (by decide +kernel)⟩

/-- POST: EMPTY with a record of a known length, with one of none, and not EMPTY. -/
theorem witness_Post :
    run.quiet ∧ run.port.select = none ∧ run.port.mailbox = .empty ∧ Request.read [0x21] = some .stopTravel
      ∧ Request.read [0x40, 1, 2] = none ∧ Request.read [] = none ∧ (asked .endPour run).port.mailbox ≠ .empty := by decide +kernel
theorem witness_Withdraw :
    (asked .endPour run).quiet ∧ (asked .endPour run).port.select = none
      ∧ (asked .endPour run).port.mailbox = .posted .endPour
      ∧ (run.withMailbox (doneReply [])).port.mailbox = .taken ⟨.done, [[]], 0, false⟩
      ∧ (run.withMailbox (.replied ⟨.done, [[]], 0, false⟩)).port.mailbox = .replied ⟨.done, [[]], 0, false⟩ := by decide +kernel

theorem witness_FetchReply :
    ∀ s, s = run.withMailbox (.replied ⟨.done, [[1], [2]], 1, true⟩) →
      s.quiet ∧ s.port.select = none ∧ (∀ r, s.port.mailbox = .replied r → r.outcome ≠ .restarted)
        ∧ s.port.mailbox = .replied ⟨.done, [[1], [2]], 1, true⟩ ∧ [[(1 : Byte)], [2]][1]? = some [2] := by
  rintro s rfl
  refine ⟨by decide +kernel, by decide +kernel, ?_, rfl, rfl⟩
  rintro r h
  cases h
  decide
theorem witness_FetchReply_none : run.quiet ∧ ∀ r, run.port.mailbox ≠ .replied r := ⟨by decide +kernel, fun _ => (nomatch ·)⟩
theorem witness_FetchReply_taken :
    (taken .endPour run).port.mailbox = .taken ⟨.refused .noPour 0, [[]], 0, false⟩
      ∧ (taken .endPour run).quiet ∧ (taken .endPour run).port.select = none
      ∧ (after (.fetchReply .whole) (taken .endPour run)).port.spiOut = [0x05]
      ∧ (after (.fetchReply .whole) (taken .endPour run)).port.mailbox = (taken .endPour run).port.mailbox := by decide +kernel

/-- Section 10.10: a request posted at 120 and taken at 121 leaves TAKEN, and its reply stands at 122; withdrawn while TAKEN it is too
late. -/
theorem test_reply_is_placed_after_the_take :
    (taken .zeroScale run).port.mailbox = doneReply []
      ∧ (taken .zeroScale run).tick.port.mailbox = .replied ⟨.done, [[]], 0, false⟩
      ∧ (after (.withdraw .whole) (taken .zeroScale run)).tick.port.mailbox = .replied ⟨.done, [[]], 0, true⟩ := by decide +kernel

/-- A queue with a class-2 notice between two of class 4, and one that is full. -/
def queued : State := { run with port := { run.port with
  notices := [⟨.zeroDone 1 2, 7, 0⟩, ⟨.arrived 1 2 .host, 8, 255⟩, ⟨.loadOverrange 9, 9, 0⟩] } }
def fullPort : LocalPort := { run.port with
  notices := (List.range 32).map (fun i => ⟨.lineClosed .a 1 i .target 0 none none 0, i, 0⟩), mask3 := true }

/-- A full queue with notices of class 4 among those of class 2. -/
def crowdedPort : LocalPort := { fullPort with
  notices := ⟨.zeroDone 1 2, 7, 0⟩ :: (fullPort.notices.take 20 ++ ⟨.loadOverrange 9, 9, 0⟩ :: (fullPort.notices.drop 20).take 10) }

theorem witness_Notices_lawful : queued.port.queueLawful ∧ fullPort.queueLawful ∧ crowdedPort.queueLawful := by
  unfold LocalPort.queueLawful; decide +kernel
theorem witness_Notices_merge :
    queued.port.notices = [⟨.zeroDone 1 2, 7, 0⟩] ++ ⟨.arrived 1 2 .host, 8, 255⟩ :: [⟨.loadOverrange 9, 9, 0⟩]
      ∧ (NoticeBody.arrived 1 2 .host).sameKey (.arrived 5 6 .position) = true
      ∧ (NoticeBody.arrived 5 6 .position).cls ≤ 2 := by decide +kernel
theorem witness_Notices_masked_and_full :
    3 ≤ (NoticeBody.portLost .up).cls ∧ fullPort.masked (NoticeBody.portLost .up).cls = true
      ∧ fullPort.notices.length = 32 ∧ (∀ m ∈ fullPort.notices, m.body.sameKey (.arrived 1 2 .host) = false)
      ∧ (∀ m ∈ fullPort.notices, m.body.cls ≤ (NoticeBody.arrived 1 2 .host).cls) := by decide +kernel
theorem witness_Notices_join_and_evict :
    queued.port.notices.length < 32 ∧ (∀ m ∈ queued.port.notices, m.body.sameKey (.portLost .up) = false)
      ∧ (NoticeBody.portLost .up).cls ≤ 3 ∧ queued.port.masked (NoticeBody.portLost .up).cls = false
      ∧ (queued.port.enter 5000 (.portLost .up) 5000).notices.length = 4
      ∧ crowdedPort.notices.length = 32 ∧ (∀ m ∈ crowdedPort.notices, m.body.sameKey (.arrived 1 2 .host) = false)
      ∧ (∃ m ∈ crowdedPort.notices, (NoticeBody.arrived 1 2 .host).cls < m.body.cls)
      ∧ (crowdedPort.enter 5000 (.arrived 1 2 .host) 5000).notices
        = ⟨.zeroDone 1 2, 7, 0⟩ :: (fullPort.notices.take 30 ++ [⟨.arrived 1 2 .host, 5000, 0⟩]) := by decide +kernel
theorem witness_Notices_fetch :
    queued.quiet ∧ queued.port.select = none ∧ queued.port.notices ≠ [] ∧ run.port.notices = [] := by decide +kernel

theorem witness_FetchReply_phases :
    ((∃ record, (fun ph => Instr.post ph [0x21]) = fun ph => .post ph record)
        ∨ (fun ph => Instr.post ph [0x21]) = .withdraw ∨ (fun ph => Instr.post ph [0x21]) = .fetchReply
        ∨ (fun ph => Instr.post ph [0x21]) = .fetchNotice)
      ∧ run.quiet ∧ run.port.select = none ∧ exec (.post .status [0x21]) run = .next (after (.post .status [0x21]) run) :=
  ⟨.inl ⟨_, rfl⟩, by decide +kernel, by decide +kernel, rfl⟩

theorem witness_Notices_masks :
    (taken (.setMasks 1 1 0 1 8) queued).port.mailbox = refusedReply .badField 1
      ∧ (asked (.setMasks 0 1 0 1 8) queued).quiet ∧ (asked (.setMasks 0 1 0 1 8) queued).port.mode ≠ .config
      ∧ (asked (.setMasks 0 1 0 1 8) queued).port.mailbox = .posted (.setMasks 0 1 0 1 8)
      ∧ (asked (.setMasks 1 1 0 1 8) queued).port.mailbox = .posted (.setMasks 1 1 0 1 8)
      ∧ (asked (.setMasks 0 1 0 1 7) queued).port.mailbox = .posted (.setMasks 0 1 0 1 7)
      ∧ (taken (.setMasks 0 1 0 1 8) queued).port.attentionEntries = 0
      ∧ (taken (.setMasks 0 0 0 0 8) { queued with port := { queued.port with mask2 := true, mask4 := true } }).port.attentionEntries = 3
      ∧ ({ queued with port := { queued.port with mask2 := true, mask4 := true } } : State).port.attentionEntries = 0
      ∧ ({ queued with port := { queued.port with ageTimer := some 5500 } } : State).port.ageTimer = some 5500 := by
  decide +kernel

theorem witness_StartBlock :
    (asked (.startBlock startFields) State.reset).quiet ∧ (asked (.startBlock startFields) State.reset).port.mode = .config
      ∧ startFields.inRange ∧ ¬({ startFields with trigger := 2 } : StartFields).inRange := by
  refine ⟨by decide +kernel, by decide +kernel, ?_, ?_⟩ <;> simp [StartFields.inRange, Thresholds.inRange, startFields]

theorem witness_Restart_taken :
    (asked .restart pouring).quiet ∧ (asked .restart pouring).port.mode ≠ .config
      ∧ (asked .restart pouring).port.mailbox = .posted .restart := by decide +kernel
theorem witness_Restart_fetched :
    (replied .restart pouring).quiet ∧ (replied .restart pouring).port.select = none ∧ (replied .restart pouring).port.mode ≠ .config
      ∧ (replied .restart pouring).port.mailbox = .replied ⟨.restarted, [[]], 0, false⟩
      ∧ (replied .restart pouring).hold .a 1 = some (holdOf 6000 26000 1500 (-450) [300000, 600000] true .opened)
      ∧ (replied .restart pouring).bills.openLine = some openLine := by decide +kernel
/-- R65 step 7, R20 and R42: the one STATUS of a restart stands alone and is taken by the idle port that is no chain end, the session's
marker is cleared, and the belt content is spilled. -/
theorem witness_Restart_keeps :
    let s : State := replied .restart { pouring with
      belt := ⟨[⟨0, false⟩, ⟨44400, true⟩], 2, 44400⟩
      berths := ⟨⟨true, some { vessel with holds := [{ holdOf 6000 26000 1500 (-450) [300000] true .restricted with tokenPass := true }] }⟩,
        Berth.free⟩
      line := { pouring.line with up := { pouring.line.up with chainEnd := true }, down := { pouring.line.down with queue := [[1]] } } }
    let t := after (.fetchReply .whole) s
    s.quiet ∧ s.line.down.chainEnd = false
      ∧ t.line.own.map OwnEntry.bytes = [frameBytes 0x01 4 0 (t.report .run).payload]
      ∧ t.line.down.sending.map Sending.bytes = some (frameBytes 0x01 4 0 (t.report .run).payload) ∧ t.line.down.queue = []
      ∧ t.session .a = some { vessel with holds := [holdOf 6000 26000 1500 (-450) [300000] true .restricted] }
      ∧ t.bills.spill = 44400 ∧ t.port.notices.length = 2 := by decide +kernel

theorem witness_Bypass_on :
    (asked .bypassOn run).quiet ∧ (asked .bypassOn run).port.mode = .run ∧ run.pour.state = .idle ∧ run.travel.state = .parked
      ∧ run.scale.zeroRun = none ∧ run.line.spacingTimer.isSome ∧ ¬(claiming.pour.state = .idle) := by decide +kernel
theorem witness_Bypass_chain_ends :
    let s : State := asked .bypassOn { run with line := { run.line with
      spacingTimer := none, up := { run.line.up with chainEnd := true }, down := { run.line.down with chainEnd := true } } }
    s.quiet ∧ s.line.spacingTimer = none ∧ s.line.up.chainEnd = true ∧ s.line.down.chainEnd = true
      ∧ (after .bypassOn s).line.relayOpen = false ∧ (after .bypassOn s).line.statusTimer = none := by decide +kernel
/-- R63 step 4: the last STATUS at once, and at the spacing timer's expiry. -/
theorem witness_Bypass_last :
    let s : State := asked .bypassOn { run with line := { run.line with spacingTimer := none, down := { run.line.down with chainEnd := true } } }
    let u : State := { bypassed with line := { bypassed.line with spacingTimer := some 5030, closing := .spacing } }
    s.line.spacingTimer = none ∧ s.line.up.chainEnd = false
      ∧ (after .bypassOn s).line.own.map OwnEntry.bytes = [frameBytes 0x01 4 0 (s.report .bypass).payload]
      ∧ u.quiet ∧ u.line.own = [] ∧ (∀ q, (u.line.port q).queue = []) ∧ u.line.up.chainEnd = false
      ∧ (after .spacingTimerExpiry u).line.own.map OwnEntry.bytes = [frameBytes 0x01 4 0 (u.report .bypass).payload]
      ∧ (after .spacingTimerExpiry u).line.closing = .sending u.line.serial :=
  ⟨by decide +kernel, by decide +kernel, by decide +kernel, by decide +kernel, by decide +kernel, fun q => by cases q <;> decide +kernel,
    by decide +kernel, by decide +kernel, by decide +kernel⟩
theorem witness_Bypass_last_ends :
    let u : State := { bypassed with line := { bypassed.line with
      spacingTimer := some 5030, closing := .spacing
      up := { bypassed.line.up with chainEnd := true }, down := { bypassed.line.down with chainEnd := true } } }
    u.quiet ∧ u.line.own = [] ∧ (after .spacingTimerExpiry u).line.relayOpen = false := by decide +kernel
theorem witness_Bypass_off :
    (asked .bypassOff bypassed).quiet ∧ (asked .bypassOff bypassed).port.mode = .bypass
      ∧ (asked .bypassOff bypassed).travel.state = .parked
      ∧ (taken .bypassOff bypassed).port.mode = .run := by decide +kernel

theorem witness_Reads :
    (asked .readStation State.reset).quiet ∧ (asked (.readBill 1 160) moored).quiet ∧ (asked (.readBill 4 1) moored).quiet
      ∧ moored.bills.bill 1 = some (bill []) ∧ Slot.ofCode? 1 = some .a ∧ moored.session .a = some vessel := by decide +kernel
theorem witness_Pages : ∀ p ∈ [List.replicate 384 (0 : Byte), [1]], p.length ≤ 384 := by decide +kernel

theorem witness_Span :
    (asked (.shiftVessel 1 411200) moored).port.mailbox = .posted (.shiftVessel 1 411200)
      ∧ exec .shiftVessel (asked (.shiftVessel 1 411200) moored) = .next (taken (.shiftVessel 1 411200) moored)
      ∧ (taken (.shiftVessel 1 411200) moored).port.mailbox = doneReply [] ∧ vessel.orientation = .bowDown :=
  ⟨by decide +kernel, rfl, by decide +kernel, by decide +kernel⟩

theorem witness_Translation_found : (mooredAt 384000).translate = .ok .a 1 ∧ (mooredAt 401000).translate = .ok .a 1 := by
  decide +kernel
theorem witness_Translation_windows :
    moored.tip = some 398500 ∧ inside vessel.span 398500 = true ∧ (∀ o, moored.session .b = some o → inside o.span 398500 = false)
      ∧ (∀ i j a b, vessel.hold i = some a → vessel.hold j = some b → i ≠ j → ∀ q r, a.plan = some q → b.plan = some r →
        overlap (q.fore, q.aft) (r.fore, r.aft) = false) := by
  refine ⟨by decide +kernel, by decide +kernel, none_of (by decide +kernel), ?_⟩
  have key : ∀ i j : Fin 5, i ≠ j → ((vessel.hold i).bind Hold.plan).all (fun q =>
      ((vessel.hold j).bind Hold.plan).all (fun r => !overlap (q.fore, q.aft) (r.fore, r.aft))) = true := by decide +kernel
  have bound : ∀ i a, vessel.hold i = some a → i < 5 := by
    intro i a h
    by_contra hi
    have : vessel.holds[i - 1]? = none := List.getElem?_eq_none (by simp [vessel]; omega)
    simp [Session.hold, this] at h
  intro i j a b ha hb hij q r hq hr
  have := key ⟨i, bound i a ha⟩ ⟨j, bound j b hb⟩ (by simpa using hij)
  simpa [ha, hb, hq, hr] using this

/-- The faults of a translation, each where its hypotheses are met: a hold's window holds the tip up to its ends. -/
theorem witness_Translation_faults :
    State.reset.travel.position = none ∧ run.tip = some 398500 ∧ (run.session .a = none ∧ run.session .b = none)
      ∧ run.translate = .fault .noVessel ∧ (mooredAt 408500).tip = some 412000 ∧ inside vessel.span 412000 = true
      ∧ ((List.range 5).all fun h => ((vessel.hold h).bind Hold.plan).all fun p => !decide (p.fore ≤ 0)) = true
      ∧ (mooredAt 408500).translate = .fault .betweenHolds ∧ (mooredAt 402500).translate = .fault .margin
      ∧ (mooredAt 402501).translate = .fault .betweenHolds ∧ (mooredAt 380000).translate = .fault .hatchClosed
      ∧ (mooredAt 350000).translate = .fault .notPermitted ∧ (mooredAt 330000).translate = .fault .noPlan := by decide +kernel

theorem witness_OpenSession :
    let s := asked (.openSession vesselFields) run
    s.quiet ∧ s.port.mode ≠ .config ∧ Slot.ofCode? vesselFields.slot = some .a ∧ (s.openTable vesselFields).holds
      ∧ firstFree 1 s.bills.records = some 1 ∧ s.mapStands (taken (.openSession vesselFields) run) :=
  ⟨by decide +kernel, by decide +kernel, rfl, (State.openTable_matches _).holds_iff.2 (by decide +kernel), by decide +kernel,
    .inl (by decide +kernel)⟩
/-- With a line open, a second vessel on slot B. -/
def secondFields : SessionFields := { vesselFields with slot := 2, bowMark := 0, orientation := 1, length := 300000 }
theorem witness_OpenSession_pouring :
    let s := asked (.openSession secondFields) pouring
    s.quiet ∧ Slot.ofCode? secondFields.slot = some .b ∧ (s.openTable secondFields).holds ∧ firstFree 1 s.bills.records = some 2
      ∧ s.mapStands (taken (.openSession secondFields) pouring)
      ∧ (taken (.openSession secondFields) pouring).pour = pouring.pour
      ∧ ((taken (.openSession secondFields) pouring).bills.bill 2).isSome :=
  ⟨by decide +kernel, rfl, (State.openTable_matches _).holds_iff.2 (by decide +kernel), by decide +kernel,
    .inr ⟨claim .active, by decide +kernel⟩, by decide +kernel⟩

/-- HOLD ENTRY of hold 4 of the vessel with a pass. -/
def entryFields : HoldFields := ⟨1, 4, 72000, 96000, 1200, 450, 1, [4000000], 2⟩

theorem witness_HoldEntry :
    let s := asked (.holdEntry entryFields) pouring
    s.quiet ∧ s.port.mode ≠ .config ∧ Slot.ofCode? entryFields.slot = some .a
      ∧ Permission.ofCode? entryFields.permission = some .restricted
      ∧ s.hold .a 4 = some (holdOf 72000 90000 1200 450 [] true .opened)
      ∧ (s.mapTable (.holdEntry entryFields)).holds ∧ s.mapStands (taken (.holdEntry entryFields) pouring)
      ∧ (taken (.holdEntry entryFields) pouring).pour = pouring.pour :=
  ⟨by decide +kernel, by decide +kernel, rfl, rfl, by decide +kernel, (State.mapTable_matches _).holds_iff.2 (by decide +kernel),
    .inr ⟨claim .active, by decide +kernel⟩, by decide +kernel⟩
theorem witness_SetHatch_and_Permit :
    (asked (.setHatch 1 4 1) moored).quiet ∧ moored.session .a = some vessel ∧ 4 ≤ vessel.holdCount
      ∧ moored.hold .a 3 = some (holdOf 50000 70000 1500 150 [400000] true .restricted)
      ∧ moored.hold .a 4 = some (holdOf 72000 90000 1200 450 [] true .opened)
      ∧ (taken (.permit 1 4) moored).port.mailbox = refusedReply .notRestricted 0 := by decide +kernel
theorem witness_SetHatch_pouring :
    ((asked (.setHatch 1 4 0) pouring).mapTable (.setHatch 1 4 0)).holds
      ∧ (asked (.setHatch 1 4 0) pouring).mapStands (taken (.setHatch 1 4 0) pouring)
      ∧ ((asked (.permit 1 3) closedHatch).mapTable (.permit 1 3)).holds
      ∧ (asked (.permit 1 3) closedHatch).mapStands (taken (.permit 1 3) closedHatch)
      ∧ (taken (.permit 1 3) closedHatch).port = { closedHatch.port with mailbox := doneReply [] } :=
  ⟨(State.mapTable_matches _).holds_iff.2 (by decide +kernel), .inr ⟨claim .active, by decide +kernel⟩,
    (State.mapTable_matches _).holds_iff.2 (by decide +kernel), .inr ⟨claim .active, by decide +kernel⟩, by decide +kernel⟩

/-- A second vessel on slot B, from rail position 0 to 300,000. -/
def twoMoored : State := { moored with
  berths := ⟨⟨false, some vessel⟩, ⟨false, some { vessel with orientation := .bowUp, bowMark := 0, length := 300000 }⟩⟩ }

theorem witness_ShiftVessel :
    (asked (.shiftVessel 1 96000) moored).quiet ∧ moored.fill.claim = none ∧ moored.session .a = some vessel
      ∧ ({ vessel with bowMark := 96000 } : Session).span = (0, 96000) ∧ ({ vessel with bowMark := 95999 } : Session).span.1 < 0
      ∧ (∃ o p, twoMoored.session .b = some o ∧ inside o.span p = true
          ∧ inside ({ vessel with bowMark := 396000 } : Session).span p = true)
      ∧ (∀ o p, moored.session .b = some o → inside o.span p = true →
          inside ({ vessel with bowMark := 96000 } : Session).span p = false) :=
  ⟨by decide +kernel, rfl, rfl, by decide +kernel, by decide +kernel, ⟨_, 300000, rfl, by decide +kernel, by decide +kernel⟩,
    fun o p h => none_of (P := fun _ => _) (by decide +kernel) o h⟩
theorem witness_SetDraftLimit :
    (asked (.setDraftLimit 1 50) moored).quiet ∧ (taken (.setDraftLimit 1 50) moored).port.mailbox = doneReply []
      ∧ (taken (.setDraftLimit 1 1400) moored).port.mailbox = doneReply []
      ∧ (taken (.setDraftLimit 1 1401) moored).port.mailbox = refusedReply .badField 2
      ∧ (taken (.setDraftLimit 1 49) moored).port.mailbox = refusedReply .badField 2 := by decide +kernel
theorem witness_SetDraftLimit_pouring :
    (asked (.setDraftLimit 1 400) pouring).mapStands (taken (.setDraftLimit 1 400) pouring)
      ∧ (taken (.setDraftLimit 1 400) pouring).pour = pouring.pour := ⟨.inr ⟨claim .active, by decide +kernel⟩, by decide +kernel⟩

/-- A sealed bill in record 4. -/
def sealed : State := { moored with
  bills := ⟨[some (bill []), none, none, some { bill [{ openLine with cause := some .target }] with
    summary := some ⟨[1776000], 1, 0, 20000, 1500, 3⟩ }], 159, 0⟩ }

theorem witness_CloseSession :
    (asked (.closeSession 1) moored).quiet ∧ moored.lineOpen = false ∧ moored.bills.bill vessel.bill = some (bill [])
      ∧ (∃ c, claiming.fill.claim = some c ∧ c.slot = .a) ∧ (∀ c, moored.fill.claim = some c → c.slot ≠ .a) :=
  ⟨by decide +kernel, by decide +kernel, by decide +kernel, ⟨_, rfl, rfl⟩, fun _ h => nomatch h⟩
/-- Pouring on slot A with a second vessel on slot B, its bill in record 2. -/
def pouringTwo : State := taken (.openSession secondFields) pouring
theorem witness_CloseSession_pouring :
    (asked (.closeSession 2) pouringTwo).quiet ∧ (pouringTwo.session .b).map Session.bill = some 2 ∧ (pouringTwo.bills.bill 2).isSome
      ∧ (asked (.closeSession 2) pouringTwo).mapStands (taken (.closeSession 2) pouringTwo)
      ∧ (taken (.closeSession 2) pouringTwo).berth .b = ⟨false, none⟩ ∧ (taken (.closeSession 2) pouringTwo).pour = pouring.pour :=
  ⟨by decide +kernel, by decide +kernel, by decide +kernel, .inr ⟨claim .active, by decide +kernel⟩, by decide +kernel⟩
theorem witness_DiscardBill :
    (asked (.discardBill 4) sealed).quiet ∧ (sealed.bills.bill 4).any (fun b => b.summary.isSome) = true
      ∧ (∀ b, sealed.bills.bill 1 = some b → b.summary = none)
      ∧ (taken (.discardBill 4) sealed).port.mailbox = doneReply [1]
      ∧ (taken (.discardBill 0) sealed).port.mailbox = refusedReply .badField 1
      ∧ (taken (.discardBill 5) sealed).port.mailbox = refusedReply .badField 1 :=
  ⟨by decide +kernel, by decide +kernel, by rintro b ⟨⟩; rfl, by decide +kernel, by decide +kernel, by decide +kernel⟩

/-- LOAD SAMPLE: in CONFIG; in RUN low, in the zero band, above the limit with and without an episode; after STALE. -/
theorem witness_LoadSample :
    State.reset.quiet ∧ State.reset.port.mode = .config ∧ run.quiet ∧ run.port.mode ≠ .config ∧ run.scale.zeroRun = none
      ∧ run.lineOpen = false ∧ pouring.lineOpen = true ∧ pouring.pour.causes.scale = false
      ∧ ({ run with cfg := some { startFields.block with span := 4096 } } : State).block.span = 4096
      ∧ (after (.loadSample 1501) { run with cfg := some { startFields.block with span := 4096 } }).scale.status = .overrange
      ∧ (after (.loadSample 1500) { run with cfg := some { startFields.block with span := 4096 } }).scale.status = .ok
      ∧ ({ run with scale := { run.scale with status := .stale } } : State).scale.status = .stale := by decide +kernel
theorem witness_LoadSample_scale :
    let s := unweighed (suspendedBy .scale)
    s.quiet ∧ s.port.mode ≠ .config ∧ s.scale.zeroRun = none ∧ s.scale.status = .fault ∧ s.pour.state = .suspended
      ∧ s.pour.causes = { CauseSet.empty with scale := true } ∧ s.pour.beltOn = true ∧ s.pour.watch = .running ∧ s.pour.gate = .closed
      ∧ s.fill.claim = some (claim .active) ∧ s.translate = .ok .a 1 ∧ (s.holdTotal .a 1 : Int) < ((300000 : Int) - 1500) * 1000
      ∧ (after (.loadSample 65535) s).pour = { s.pour with
          state := .starting, phase := some .gateWait, causes := CauseSet.empty, gate := .opening
          gateTimer := some 15000, gateCommand := .openFull }
      ∧ (after (.loadSample 65535) s).port
        = s.port.raiseAll 5000 [.scaleState .ok, .pourSuspended .a 1 CauseSet.empty] := by decide +kernel
theorem witness_LoadTimers :
    run.scale.staleTimer = some 5200 ∧ run.scale.status = .ok ∧ run.scale.faultTimer = some 7000
      ∧ pouring.quiet ∧ pouring.scale.faultTimer = some 7000 ∧ pouring.pour.causes = CauseSet.empty
      ∧ pouring.fill.claim = some (claim .active) ∧ pouring.pour.gate = .opened
      ∧ (after .loadFaultTimerExpiry { pouring with scale := { pouring.scale with status := .stale } }).pour.state = .suspended := by
  decide +kernel

theorem witness_BeltPulse :
    State.reset.quiet ∧ State.reset.port.mode = .config ∧ run.quiet ∧ run.belt.cells = ⟨0, false⟩ :: [⟨0, false⟩] ∧ run.port.mode ≠ .config ∧ run.scale.zeroRun = none
      ∧ run.belt.phase < 15 ∧ ({ run with belt := { run.belt with phase := 14 } } : State).belt.phase < 15
      ∧ pouring.pour.state = .pouring ∧ pouring.fill.claim = some (claim .active)
      ∧ ((pouring.holdTotal .a 1 + 0 : Nat) : Int) < ((300000 : Int) - 1500) * 1000
      ∧ runoutClosing.pour.state = .runout ∧ runoutClosing.pour.gate = .closing := by decide +kernel

/-- The loader elsewhere: the tip is in the pour window of hold 1 from 384,000 to 401,000. -/
def pouringAt (position : Int) (s : State) : State := { s with travel := { s.travel with position := some position } }

/-- A cell about to leave an IDLE part's belt, and a belt of one cell. -/
def leavingIdle (mass : Nat) : State := { unweighed moored with belt := ⟨[⟨0, false⟩, ⟨mass, false⟩], 15, mass⟩ }
def oneCell : State := { moored with scale := { moored.scale with load := 111 }, belt := ⟨[⟨41625, false⟩], 15, 41625⟩ }

theorem witness_LeavingCell_line :
    let s := passing true
    s.quiet ∧ s.scale.status = .ok ∧ s.belt.cells = ⟨41625, false⟩ :: [⟨44400, true⟩] ∧ s.belt.phase = 15
      ∧ (⟨41625 + 2775, false⟩ : Cell) :: [⟨44400, true⟩] = [⟨44400, false⟩] ++ [⟨44400, true⟩]
      ∧ s.lineOpen = true ∧ s.translate = .ok .a 1 ∧ s.bills.openLines = [openLine] ∧ s.view .a = some [emptyRow, emptyRow, emptyRow, emptyRow]
      ∧ s.hold .a 1 = some (holdOf 6000 26000 1500 (-450) [300000, 600000] true .opened)
      ∧ s.fill.claim = some (claim .active) ∧ ((s.holdTotal .a 1 + 2775 : Nat) : Int) < ((300000 : Int) - 1500) * 1000 := by
  decide +kernel
theorem witness_LeavingCell_spill :
    (leavingIdle 44400).quiet ∧ (leavingIdle 44400).pour.state = .idle ∧ (leavingIdle 44400).bills.openLine = none
      ∧ (leavingIdle 44400).belt.cells = [⟨0, false⟩] ++ [⟨44400, false⟩] ∧ (leavingIdle 44400).translate = .ok .a 1
      ∧ (leavingIdle 0).belt.cells = [⟨0, false⟩] ++ [⟨0, false⟩]
      ∧ ({ leavingIdle 44400 with travel := run.travel, berths := run.berths } : State).translate = .fault .noVessel
      ∧ oneCell.belt.cells = [⟨41625, false⟩] ∧ (after .beltPulse oneCell).belt = ⟨[⟨0, false⟩], 0, 0⟩
      ∧ (after .beltPulse oneCell).bills.spill = 44400 := by decide +kernel
/-- With a line open: a cell that leaves the tip short of the window, one over another hold, and an empty one. -/
theorem witness_LeavingCell_spill_open :
    let s := pouringAt 401500 (passing false)
    let b := { passing false with bills := ⟨[some (bill [{ openLine with hold := 2 }]), none, none, none], 159, 0⟩ }
    let z := { passing false with belt := ⟨[⟨41625, false⟩, ⟨0, false⟩], 15, 41625⟩ }
    s.lineOpen = true ∧ s.translate = .fault .margin ∧ s.quiet ∧ ((s.holdTotal .a 1 + 2775 : Nat) : Int) < ((300000 : Int) - 1500) * 1000
      ∧ (after .beltPulse s).port = s.port.raise 5000 (.spill (.fault .margin) 44 44)
      ∧ b.lineOpen = true ∧ b.translate = .ok .a 1 ∧ (b.bills.openLine).map BillLine.hold = some 2
      ∧ (after .beltPulse b).port = b.port.raise 5000 (.spill .unbilled 44 44)
      ∧ z.lineOpen = true ∧ (after .beltPulse z).bills = z.bills ∧ (after .beltPulse z).port = z.port := by decide +kernel
/-- The tail of a run-out, its gate already CLOSED: of two cells one leaves, and the run-out goes on. -/
def runoutTail : State := { pourIn .runout with
  belt := ⟨[⟨41625, false⟩, ⟨44400, true⟩], 15, 86025⟩
  pour := { (pourIn .runout).pour with gateCommand := .closed, gate := .closed, runoutCause := some .target } }
theorem witness_LeavingCell_runout :
    runoutTail.quiet ∧ runoutTail.scale.zeroRun = none ∧ runoutTail.scale.load = 0 ∧ runoutTail.belt.phase = 15
      ∧ runoutTail.pour.state = .runout ∧ runoutTail.pour.gate = .closed
      ∧ 0 < runoutTail.belt.content + 0 - 44400 ∧ runoutTail.pour.runoutShifts + 1 < 2 * runoutTail.block.cellCount
      ∧ runoutTail.translate = .ok .a 1 ∧ runoutTail.bills.openLines = [openLine]
      ∧ (after .beltPulse runoutTail).pour = { runoutTail.pour with runoutShifts := 1 }
      ∧ (after .beltPulse runoutTail).bills.openLines = [{ openLine with mass := 1820400, estimated := 44400 }] := by decide +kernel

theorem witness_ZeroScale :
    (asked .zeroScale run).quiet ∧ (asked .zeroScale run).port.mode = .run ∧ run.scale.zeroRun = none ∧ run.pour.state = .idle
      ∧ run.pour.gate = .closed ∧ (∀ c ∈ [Channel.spout, .gallery], (run.dust.channel c).state ≠ .trip)
      ∧ (taken .zeroScale (zeroing ⟨2240, 0, 0, 0⟩)).port.mailbox = refusedReply .stationBusy 0
      ∧ (taken .zeroScale run).port.mailbox = doneReply [] := by decide +kernel
theorem witness_ZeroSample :
    let s := { zeroing ⟨2240, 0, 0, 0⟩ with cfg := some { startFields.block with span := 4096 } }
    (zeroing ⟨2240, 0, 0, 0⟩).quiet ∧ (zeroing ⟨2240, 0, 0, 0⟩).port.mode ≠ .config
      ∧ (zeroing ⟨2240, 0, 0, 0⟩).scale.zeroRun = some ⟨2240, 0, 0, 0⟩ ∧ (zeroing ⟨2240, 0, 0, 0⟩).lineOpen = false
      ∧ (zeroing ⟨2240, 0, 0, 0⟩).block.span = 32
      ∧ (after (.loadSample 4864) (zeroing ⟨2240, 0, 0, 0⟩)).port
        = (zeroing ⟨2240, 0, 0, 0⟩).port.raise 5000 (.zeroFailed .notEmpty (some 4864))
      ∧ (after (.loadSample 9000) s).port = s.port.raiseAll 5000 [.loadOverrange 9000, .zeroFailed .notEmpty (some 9000)] := by
  decide +kernel
theorem witness_ZeroPulse :
    (zeroing ⟨2240, 14, 0, 0⟩).quiet ∧ (zeroing ⟨2240, 14, 0, 0⟩).port.mode ≠ .config
      ∧ (zeroing ⟨2240, 14, 0, 0⟩).pour.state = .idle ∧ (zeroing ⟨2240, 14, 0, 0⟩).belt.phase < 15
      ∧ 14 + 1 < (zeroing ⟨2240, 14, 0, 0⟩).block.beltLoop ∧ (zeroing ⟨2240, 15, 0, 0⟩).block.beltLoop ≤ 15 + 1
      ∧ (zeroing ⟨2240, 15, 0, 0⟩).scale.status = .ok ∧ (unweighed (zeroing ⟨2240, 15, 0, 0⟩)).scale.status = .fault
      ∧ (zeroing ⟨2240, 15, 0, 0⟩).scale.stillTimer = some 15000 := by decide +kernel

/-- A channel in a state with a latch, an acknowledge flag and a good run. -/
def channelIn (state : DustClass) (acknowledged latch : Bool) (good : Nat) : DustChannel := { DustChannel.reset with
  state := state, history := [95, 160], clearCount := 2, raiseRun := 2, tripRun := 1, acknowledged := acknowledged
  latchKept := latch, goodRun := good, timer := some 6000 }
def dustIn (state : DustClass) (acknowledged latch : Bool) : State := { run with
  dust := { run.dust with gallery := channelIn state acknowledged latch 0 } }

theorem witness_DustSample_classified :
    (channelIn .held true false 0).state ≠ .failed ∧ (channelIn .held true false 0).history.length ≤ 32
      ∧ ({ DustChannel.reset with history := List.replicate 32 30 } : DustChannel).history.length ≤ 32
      ∧ 2 ≤ ((channelIn .held true false 0).sample ⟨40, 80, 150⟩ 151 false).tripRun
      ∧ ((channelIn .held true false 0).sample ⟨40, 80, 150⟩ 150 false).tripRun < 2 := by decide +kernel
theorem witness_DustSample_channel :
    State.reset.quiet ∧ State.reset.port.mode = .config ∧ run.quiet ∧ run.port.mode ≠ .config
      ∧ ((run.dust.channel .spout).sample run.block.spout 80 false).state = (run.dust.channel .spout).state
      ∧ (channelIn .failed false true 7).state = .failed ∧ (channelIn .failed false true 7).goodRun = 7
      ∧ (channelIn .failed false true 6).goodRun + 1 < 8 ∧ (channelIn .trip true false 0).state ≠ .failed := by decide +kernel
theorem witness_DustSilent :
    run.quiet ∧ (run.dust.channel .gallery).timer = some 6000 ∧ (run.dust.channel .gallery).state ≠ .failed ∧ run.lineOpen = false
      ∧ (after (.dustSampleTimerExpiry .gallery) (dustIn .held true false)).port
        = run.port.raiseAll 6000 [.dustTrip .gallery .failed none none, .dustFailed .gallery .failed (some .silent) true]
      ∧ (after (.dustSampleTimerExpiry .gallery) (dustIn .failed true false)).port = run.port := by decide +kernel
theorem witness_DustAcknowledge :
    (asked (.dustAcknowledge 2) (dustIn .trip false false)).quiet
      ∧ (dustIn .trip false false).port.mode ≠ .config
      ∧ ((dustIn .trip false false).dust.channel .gallery).state = .trip
      ∧ ((dustIn .held false false).dust.channel .gallery).state = .held
      ∧ ((dustIn .failed false true).dust.channel .gallery).latchKept = true
      ∧ ((dustIn .failed false false).dust.channel .gallery).latchKept = false
      ∧ ((dustIn .alarm false false).dust.channel .gallery).state = .alarm
      ∧ (taken (.dustAcknowledge 2) (dustIn .held false false)).port.mailbox = doneReply []
      ∧ (dustIn .held false false).lineOpen = false := by decide +kernel

/-- SPOUT in a state in which the next sample above 150 mg/m³ trips it, and one in which a low one clears it. -/
def spoutIn (r : DustChannel) (s : State) : State := { s with dust := { s.dust with spout := r } }
def nearTrip : DustChannel := channelIn .alarm false false 0
def tripAcknowledged : DustChannel := { channelIn .trip true false 0 with history := [30] }

/-- R153 and R156: SPOUT acknowledged in HELD takes DUST_OWN off the pour and starts its belt again, unless GALLERY is in TRIP. -/
theorem witness_DustAcknowledge_pour :
    let s : State := asked (.dustAcknowledge 1) (spoutIn (channelIn .held false false 0) (suspendedBy .dustOwn))
    let u : State := { s with dust := { s.dust with gallery := channelIn .trip false false 0 } }
    (s.dust.channel .spout).state = .held ∧ s.pour.state = .suspended ∧ s.pour.causes = { CauseSet.empty with dustOwn := true }
      ∧ s.pour.beltOn = false ∧ s.inputs.beltRunning = false ∧ s.translate = .ok .a 1 ∧ s.dust.gallery.state = .clear
      ∧ (after .dustAcknowledge s).pour = s.resumed ∧ (after .dustAcknowledge u).pour = u.pour := by decide +kernel
/-- R151 and R156: SPOUT silent out of TRIP, and out of HELD with the pour SUSPENDED, and in CLEAR while the gate opens and pours. -/
theorem witness_DustSilent_pour :
    let s : State := spoutIn (channelIn .trip false false 0) run
    let u : State := spoutIn (channelIn .held false false 0) (suspendedBy .dustOwn)
    let g : State := { u with dust := { u.dust with gallery := channelIn .held false false 0 } }
    s.port.mode = .run ∧ s.line.up.chainEnd = false ∧ (s.dust.channel .spout).timer = some 6000
      ∧ (after (.dustSampleTimerExpiry .spout) s).line.own.any (fun e => e.kind == .dust) = true
      ∧ (after (.dustSampleTimerExpiry .spout) u).pour = ({ u with count := 6000 } : State).resumed
      ∧ (after (.dustSampleTimerExpiry .spout) g).pour = g.pour
      ∧ (pouring.dust.channel .spout).timer = some 6000
      ∧ (after (.dustSampleTimerExpiry .spout) pouring).pour = { pouring.pour with state := .throttled, gateCommand := .openReduced }
      ∧ (after (.dustSampleTimerExpiry .spout) (starting .gateWait .running .opening)).pour.gateCommand = .openReduced := by decide +kernel

theorem witness_DustChanges_idle :
    (spoutIn nearTrip (zeroing ⟨2240, 0, 0, 0⟩)).quiet
      ∧ ((spoutIn nearTrip (zeroing ⟨2240, 0, 0, 0⟩)).dustSampled .spout 160 false).state = .trip
      ∧ (after (.dustSample .spout 160 false) (spoutIn nearTrip (zeroing ⟨2240, 0, 0, 0⟩))).port
        = (zeroing ⟨2240, 0, 0, 0⟩).port.raiseAll 5000 [.dustAlarm .spout .trip (some 160) none, .dustTrip .spout .trip (some 160) none,
          .zeroFailed .dust none]
      ∧ (run.dustSampled .gallery 100 false).state = .watch ∧ run.scale.zeroRun = none := by decide +kernel
theorem witness_DustChanges_suspend :
    ((spoutIn nearTrip pouring).dustSampled .spout 160 false).state = .trip ∧ pouring.scale.zeroRun = none
      ∧ (after (.dustSample .spout 160 false) (spoutIn nearTrip pouring)).pour = pouring.stoppedBy .dustOwn
      ∧ ((spoutIn tripAcknowledged (suspendedBy .dustOwn)).dustSampled .spout 30 false).state = .clear
      ∧ (suspendedBy .dustOwn).dust.gallery.state = .clear ∧ (suspendedBy .dustOwn).translate = .ok .a 1
      ∧ (after (.dustSample .spout 30 false) (spoutIn tripAcknowledged (suspendedBy .dustOwn))).pour = (suspendedBy .dustOwn).resumed := by
  decide +kernel
theorem witness_DustChanges_throttle :
    let rising := { channelIn .watch false false 0 with raiseRun := 3, tripRun := 0 }
    let low := { nearTrip with history := [30] }
    ((spoutIn rising pouring).dustSampled .spout 100 false).state = .alarm
      ∧ (after (.dustSample .spout 100 false) (spoutIn rising pouring)).pour
        = { pouring.pour with state := .throttled, gateCommand := .openReduced }
      ∧ (after (.dustSample .spout 100 false) (spoutIn rising (starting .gateWait .running .opening))).pour.gateCommand = .openReduced
      ∧ ((spoutIn low (pourIn .throttled)).dustSampled .spout 30 false).state = .clear
      ∧ (after (.dustSample .spout 30 false) (spoutIn low (pourIn .throttled))).pour
        = { pouring.pour with state := .pouring, gateCommand := .openFull } := by decide +kernel

/-- The part near an edge of the range: the upper edge at 395,040, within the tolerance of the position. -/
def atEdge : State := { run with travel := { run.travel with edgeUp := some (0, .rail), edgeDown := some (395050, .peer 5) } }

theorem witness_Move :
    (asked (.move 395050) run).quiet ∧ (asked (.move 395050) run).port.mode = .run
      ∧ run.block.railLower ≤ 0 ∧ (1000000 : Int) ≤ run.block.railUpper ∧ run.travel.position = some 395000
      ∧ run.travel.state = .parked ∧ run.fill.claim = none ∧ run.lineOpen = false
      ∧ ¬fartherThan run.block.tolerance 395000 395050 ∧ fartherThan run.block.tolerance 395000 395051
      ∧ atEdge.travel.range = some ⟨0, .rail, 395050, .peer 5⟩
      ∧ ¬fartherThan run.block.tolerance 395000 (stopPointOf 0 395050 395000 395051)
      ∧ fartherThan run.block.tolerance 395000 (stopPointOf 0 1000000 395000 395051) := by decide +kernel
/-- The loader stands in hold 1's window; MOVE within it with the line open. -/
theorem witness_Move_pouring :
    (asked (.move 395060) pouring).quiet ∧ pouring.lineOpen = true ∧ pouring.loaderWindow .a 1 = some (384000, 401000)
      ∧ pouring.fill.claim = some (claim .active) ∧ pouring.travel.state = .parked
      ∧ pouring.travel.range = some ⟨0, .rail, 1000000, .rail⟩
      ∧ (taken (.move 395060) pouring).travel.state = .releasing ∧ (taken (.move 395060) pouring).pour = pouring.pour
      ∧ (taken (.move 395050) pouring).port = { pouring.port.raise 5000 (.arrived 395000 395050 .host) with mailbox := doneReply [] } := by
  decide +kernel

theorem witness_Orders_refused :
    (asked (.move 1000001) run).quiet ∧ (taken (.move 1000001) run).port.mailbox = refusedReply .outOfRange 0
      ∧ (taken (.move 5) { run with travel := { run.travel with position := none } }).port.mailbox = refusedReply .noPosition 0
      ∧ (taken (.move 5) { run with travel := { run.travel with state := .faulted } }).port.mailbox = refusedReply .travelFaulted 0
      ∧ (taken (.move 5) claiming).port.mailbox = refusedReply .stationBusy 0
      ∧ pouring.lineOpen = true ∧ pouring.loaderWindow .a 1 = some (384000, 401000)
      ∧ (taken (.move 401001) pouring).port.mailbox = refusedReply .outOfWindow 0
      ∧ (taken (.move 401000) pouring).port.mailbox = doneReply [] := by decide +kernel
/-- Moving downstream, the range computed; HELD at its edge by station 5. -/
def movingOn : State := { travelling .moving (some 500000) run with travel := { (travelling .moving (some 500000) run).travel with
  edgeDown := some (590000, .peer 5) } }
def heldAtEdge : State := { peered with travel := { (travelling .held (some 500000) atEdge).travel with direction := none } }

theorem witness_Orders_replaced :
    movingOn.travel.direction = some .down ∧ movingOn.travel.range = some ⟨0, .rail, 590000, .peer 5⟩
      ∧ (taken (.move 395050) movingOn).travel.stopMark = some .target ∧ (taken (.move 394949) movingOn).travel.stopMark = some .reversal
      ∧ (taken (.move 700000) movingOn).travel.step = .fast ∧ (travelling .releasing (some 5) run).travel.state = .releasing
      ∧ heldAtEdge.travel.range = some ⟨0, .rail, 395050, .peer 5⟩ ∧ (taken (.move 395050) heldAtEdge).travel.state = .parked
      ∧ (taken (.move 395051) heldAtEdge).travel.state = .held ∧ (taken (.move 390000) heldAtEdge).travel.state = .releasing := by
  decide +kernel
theorem witness_Orders_held_sample :
    heldAtEdge.quiet ∧ heldAtEdge.port.mode ≠ .config ∧ heldAtEdge.pour.state = .idle ∧ heldAtEdge.travel.position = some 395000
      ∧ heldAtEdge.travel.target = some 500000 ∧ heldAtEdge.travel.source = some .host ∧ ¬fartherThan 300 395300 395000
      ∧ (after (.positionSample 395300) heldAtEdge).travel.state = .releasing := by decide +kernel

theorem witness_StopTravel :
    (asked .stopTravel run).quiet ∧ (asked .stopTravel run).port.mode ≠ .config ∧ run.pour.state = .idle
      ∧ (travelling .moving (some 500000) run).travel.state = .moving ∧ (travelling .held (some 500000) run).travel.state = .held
      ∧ claiming.pour.state = .claiming ∧ claiming.fill.claim = some (claim .pending)
      ∧ (taken .stopTravel claiming).port = { claiming.port.raise 5000
          (.claimResult .a 1 1 300000 (some .stopped)) with mailbox := doneReply [] }
      ∧ positioning.pour.state = .positioning ∧ positioning.fill.claim = some (claim .active)
      ∧ (taken .stopTravel positioning).port = { positioning.port.raise 5000
          (.claimWithdrawn .a 1 .stopped 1 300000) with mailbox := doneReply [] } := by decide +kernel
theorem witness_StopTravel_pouring :
    pouring.lineOpen = true ∧ pouring.pour.state ≠ .runout ∧ pouring.runoutGoesOn
      ∧ (asked .stopTravel pouring).stoppedPour (taken .stopTravel pouring) :=
  ⟨by decide +kernel, by decide +kernel, .inr (.inl rfl), by unfold State.stoppedPour; decide +kernel⟩

/-- Travel FAULTED by the encoder, with this recovery sample, or by the brake, with a sample since or not. -/
def faultedEncoder (recovery : Option Int) : State := { run with
  travel := { run.travel with state := .faulted, cause := some .encoderSilent, recovery := recovery } }
def faultedBrake (since : Bool) : State := { run with
  travel := { run.travel with state := .faulted, cause := some .brake, sampleSince := since } }

theorem witness_FaultClear :
    (asked .faultClear run).quiet ∧ run.travel.state ≠ .faulted
      ∧ (faultedEncoder none).travel.encoderFault = true ∧ (faultedEncoder none).travel.recovery = none
      ∧ (faultedBrake false).travel.encoderFault = false ∧ (faultedBrake false).travel.sampleSince = false
      ∧ (faultedEncoder (some 400000)).travel.recovery ≠ none ∧ (faultedBrake true).travel.sampleSince = true
      ∧ (faultedBrake true).inputs.brakeReleased = false ∧ (faultedBrake true).pour.causes.map = false
      ∧ ({ faultedBrake true with inputs := ⟨true, false⟩ } : State).inputs.brakeReleased = true := by decide +kernel

/-- SUSPENDED by TRAVEL alone, FAULTED by the brake with a sample since. -/
def travelHeld : State := { suspendedBy .travel with
  travel := { run.travel with state := .faulted, cause := some .brake, sampleSince := true } }
theorem witness_FaultClear_suspended :
    (asked .faultClear travelHeld).quiet ∧ travelHeld.pour.causes = { CauseSet.empty with travel := true } ∧ travelHeld.pour.beltOn = true
      ∧ travelHeld.pour.watch = .running ∧ travelHeld.pour.gate = .closed ∧ travelHeld.fill.claim = some (claim .active)
      ∧ travelHeld.translate = .ok .a 1 ∧ (travelHeld.holdTotal .a 1 : Int) < ((300000 : Int) - 1500) * 1000
      ∧ (taken .faultClear travelHeld).travel.state = .parked
      ∧ (taken .faultClear travelHeld).pour = { travelHeld.pour with
          state := .starting, phase := some .gateWait, causes := CauseSet.empty, gate := .opening
          gateTimer := some 15000, gateCommand := .openFull }
      ∧ (taken .faultClear travelHeld).port
        = { travelHeld.port.raise 5000 (.pourSuspended .a 1 CauseSet.empty) with mailbox := doneReply [] } := by decide +kernel

theorem witness_PositionSample :
    run.quiet ∧ run.port.mode ≠ .config ∧ run.lineOpen = false ∧ State.reset.port.mode = .config
      ∧ (1000000 : Int) < (1000001 : BitVec 20).toNat ∧ ((1000000 : BitVec 20).toNat : Int) ≤ 1000000
      ∧ (faultedEncoder none).travel.encoderFault = true ∧ run.travel.encoderFault = false ∧ run.travel.state ≠ .faulted
      ∧ fartherThan 300 395301 395000 ∧ ¬fartherThan 300 395300 395000 ∧ run.travel.state ≠ .moving ∧ run.travel.state ≠ .held := by
  decide +kernel

/-- Moving downstream to 500,000. -/
def moving : State := travelling .moving (some 500000) peered

theorem witness_PositionSample_moving :
    moving.quiet ∧ moving.port.mode ≠ .config ∧ moving.lineOpen = false ∧ moving.travel.position = some 395000
      ∧ moving.travel.target = some 500000 ∧ moving.travel.direction = some .down ∧ ¬fartherThan 300 395300 395000
      ∧ (after (.positionSample 395300) moving).travel.range = some ⟨310000, .peer 3, 590000, .peer 5⟩
      ∧ (after (.positionSample 395300) moving).travel.step = .fast
      ∧ (after (.positionSample 499950) { moving with travel := { moving.travel with position := some 499900 } }).travel.state
          = .settling := by decide +kernel

theorem witness_PermittedRange :
    (peered.computeRange none).isSome ∧ peered.nearest .up = some (peer 3 .up 1 (some (reportAt 300000)))
      ∧ peered.nearest .down = some (peer 5 .down 1 (some (reportAt 600000))) ∧ (reportAt 300000).positionValid = true
      ∧ (moored.computeRange (some (384000, 401000))).isSome ∧ run.nearest .up = none ∧ run.line.up.chainEnd = false
      ∧ positionKnown (peer 2 .up 2 none).report = false ∧ run.travel.position = some 395000 := by decide +kernel
/-- The edges by their terms: PEER of each side, the window's end, the rail limit, and NO_PEER at the present position. -/
theorem witness_PermittedRange_terms :
    peered.computeEdge .up none = some (310000, .peer 3) ∧ peered.computeEdge .down none = some (590000, .peer 5)
      ∧ peered.computeEdge .up (some (384000, 401000)) = some (384000, .window)
      ∧ run.computeEdge .up none = some (395000, .noPeer)
      ∧ ({ run with line := { run.line with up := { run.line.up with chainEnd := true } } } : State).computeEdge .up none
        = some (0, .rail) := by decide +kernel

theorem witness_EncoderTimer :
    run.quiet ∧ run.travel.encoderTimer = some 5100 ∧ run.travel.encoderFault = false ∧ run.lineOpen = false
      ∧ (faultedEncoder none).travel.encoderTimer = some 5100 ∧ (faultedEncoder none).travel.encoderFault = true := by
  decide +kernel
theorem witness_Brake :
    run.travel.state = .parked ∧ moving.travel.state = .moving ∧ run.port.mode ≠ .config ∧ run.lineOpen = false
      ∧ (after (.brakeReleasedChange true) run).travel.state = .faulted
      ∧ (after (.brakeReleasedChange false) moving).travel.state = .faulted := by decide +kernel
/-- The same faults with a line open. -/
theorem witness_Fault_pouring :
    let b := { gateClosing with inputs := ⟨false, false⟩ }
    pouring.quiet ∧ pouring.faultsTravel (.brakeReleasedChange true) .brake
      ∧ pouring.faultsTravel (.positionSample 1000001) .encoderRange ∧ pouring.faultsTravel (.positionSample 395301) .encoderJump
      ∧ ({ pouring with count := 5100 } : State).faultsTravel .encoderTimerExpiry .encoderSilent
      ∧ pouring.pour.beltOn = true ∧ (after (.brakeReleasedChange true) pouring).pour = pouring.heldBy .travel
      ∧ b.faultsTravel (.brakeReleasedChange true) .brake ∧ b.pour.causes.travel = false ∧ b.pour.watch = .off
      ∧ (after (.brakeReleasedChange true) b).pour = { b.pour with
          causes := { CauseSet.empty with map := true, travel := true }, passSuspended := true } :=
  ⟨by decide +kernel, ⟨by decide +kernel, by decide +kernel⟩, ⟨by decide +kernel, by decide +kernel, .inl (by decide +kernel)⟩,
    ⟨by decide +kernel, by decide +kernel, .inr ⟨by decide +kernel, rfl, 395000, by decide +kernel⟩⟩,
    ⟨by decide +kernel, rfl, 5100, by decide +kernel⟩, by decide +kernel, by decide +kernel,
    ⟨by decide +kernel, by decide +kernel⟩, by decide +kernel⟩

/-- RELEASING to 500,000 with or without the release timer, and SETTLING there. -/
def releasing (timer : Timer) : State := { travelling .releasing (some 500000) run with
  travel := { (travelling .releasing (some 500000) run).travel with releaseTimer := timer, brakeFailTimer := some 6500 } }
def settling (target : Option Int) (brake : Bool) : State := { travelling .settling target run with
  inputs := ⟨brake, false⟩
  travel := { (travelling .settling target run).travel with settleTimer := some 6000, stopMark := some .target } }

theorem witness_Releasing :
    (releasing (some 5500)).quiet ∧ (releasing (some 5500)).travel.state = .releasing
      ∧ (releasing (some 5500)).travel.position = some 395000 ∧ (releasing (some 5500)).travel.range = some ⟨0, .rail, 1000000, .rail⟩
      ∧ (releasing (some 5500)).travel.target = some 500000 ∧ (releasing (some 5500)).travel.releaseTimer = some 5500
      ∧ (releasing none).travel.releaseTimer = none ∧ (releasing none).travel.brakeFailTimer = some 6500
      ∧ fartherThan 50 395000 (stopPointOf 0 1000000 395000 500000) ∧ (releasing none).lineOpen = false := by decide +kernel
theorem witness_Settling :
    (settling none false).quiet ∧ (settling none false).travel.state = .settling ∧ (settling none false).travel.settleTimer = some 6000
      ∧ (settling none false).pour.state = .idle ∧ (settling none true).inputs.brakeReleased = true
      ∧ (settling (some 395050) false).travel.source = some .host ∧ (settling (some 395050) false).travel.target = some 395050
      ∧ (settling (some 395051) false).travel.range = some ⟨0, .rail, 1000000, .rail⟩ := by decide +kernel

theorem witness_Trim : 10 ≤ vessel.mct ∧ 2 ≤ vessel.tpc := by decide

theorem witness_PourJudged :
    Slot.ofCode? 1 = some .a ∧ moored.judgePour 1 1 0 = .ok (1, ⟨1, 300000⟩) ∧ moored.judgePour 1 4 0 ≠ .ok (4, ⟨1, 1⟩) := by
  decide +kernel
/-- Holds 2 and 3 are not ready, hold 4 is complete: hold 1 ranks first by its distance; with its hatch closed none passes. -/
theorem witness_PourAny :
    moored.session .a = some vessel ∧ vessel.holdCount ≤ 9 ∧ moored.judgePour 1 0 0 = .ok (1, ⟨1, 300000⟩)
      ∧ moored.nextPass .a 1 = some (1, 300000) ∧ moored.nextPass .a 4 = none
      ∧ (moored.tipDistance .a 1, moored.tipDistance .a 2, moored.tipDistance .a 3) = (some 0, some 16000, some 38000)
      ∧ (closedHatch.judgePour 1 0 0).toOption = none ∧ (closedHatch.judgePour 1 1 0).toOption = none := by decide +kernel

/-- A POUR on a closed hatch, one on a slot that is not OPEN, an override at the pass target, one below it, and one with hold ANY. -/
theorem witness_PourRefused :
    (moored.pourTable 1 2 0).failsBy .notReady 0 ∧ (moored.pourTable 2 1 0).failsBy .noSession 0
      ∧ (moored.pourTable 1 1 300000).failsBy .badField 3 ∧ (moored.pourTable 1 1 299999).holds
      ∧ moored.nextPass .a 1 = some (1, 300000) ∧ (moored.askTable 1 0 1).failsBy .badField 3
      ∧ (asked (.pour 1 2 0) moored).quiet
      ∧ moored.judgePour 1 1 299999 = .ok (1, ⟨1, 299999⟩) ∧ moored.judgePour 1 2 0 = .error (.notReady, 0) := by
  refine ⟨?_, ?_, ?_, ?_, by decide +kernel, ?_, by decide +kernel⟩
  · exact ((State.pourTable_matches 1 2 0 .a vessel rfl rfl).failsBy_iff _ _).2 (by decide +kernel)
  · have : moored.pourTable 2 1 0 = moored.askTable 2 1 0 := List.append_nil _
    rw [this]
    exact ((State.askTable_matches 2 1 0).failsBy_iff _ _).2 (by decide +kernel)
  · exact ((State.pourTable_matches 1 1 300000 .a vessel rfl rfl).failsBy_iff _ _).2 (by decide +kernel)
  · exact (State.pourTable_matches 1 1 299999 .a vessel rfl rfl).holds_iff.2 (by decide +kernel)
  · exact ((State.askTable_matches 1 0 1).failsBy_iff _ _).2 (by decide +kernel)

theorem witness_PourEnters :
    (asked (.pour 1 1 0) moored).quiet ∧ moored.port.mode = .run ∧ moored.pour.state = .idle
      ∧ (asked (.pour 1 1 0) moored).judgePour 1 1 0 = .ok (1, ⟨1, 300000⟩)
      ∧ moored.view .a = some [emptyRow, emptyRow, emptyRow, emptyRow] ∧ moored.line.up.chainEnd = false := by decide +kernel

/-- A claim whose pass has been completed within the window. -/
def claimingAt : State := { claiming with
  fill := { claiming.fill with viewA := some [⟨300000000, [], []⟩, emptyRow, emptyRow, emptyRow] } }

theorem witness_ClaimWindow_lost :
    claimingAt.quiet ∧ claimingAt.pour.state = .claiming ∧ claimingAt.fill.claimTimer = some 5400
      ∧ claimingAt.fill.claim = some (claim .pending) ∧ (claimingAt.decisionTable (claim .pending)).failsBy .holdComplete 0 :=
  ⟨by decide +kernel, by decide +kernel, by decide +kernel, by decide +kernel,
    (State.decisionTable_failsBy_iff _ _ _).2 (by decide +kernel)⟩
/-- Two lower-numbered claims, one ACTIVE and one PENDING, take the two spouts of the hold. -/
def claimingThird : State := { claiming with
  peers := [peer 2 .up 2 (some (reportAt 300000)), peer 3 .up 1 (some (reportAt 310000))]
  fill := { claiming.fill with viewA := some [⟨0, [], [⟨2, 1, 300000, .active⟩, ⟨3, 1, 300000, .pending⟩, ⟨4, 1, 300000, .pending⟩]⟩,
    emptyRow, emptyRow, emptyRow] } }
theorem witness_ClaimWindow_busy :
    claimingThird.quiet ∧ (claimingThird.decisionTable (claim .pending)).failsBy .holdBusy 0 :=
  ⟨by decide +kernel, (State.decisionTable_failsBy_iff _ _ _).2 (by decide +kernel)⟩
theorem witness_ClaimWindow_granted :
    (claiming.decisionTable (claim .pending)).holds
      ∧ ((travelling .settling (some 1) claiming).decisionTable (claim .pending)).holds
      ∧ claiming.hold .a 1 = some (holdOf 6000 26000 1500 (-450) [300000, 600000] true .opened)
      ∧ claiming.window .a 1 = some (387500, 404500) ∧ claiming.tip = some 398500
      ∧ (travelling .settling (some 1) claiming).travel.state = .settling :=
  ⟨(State.decisionTable_holds_iff _).2 (by decide +kernel), (State.decisionTable_holds_iff _).2 (by decide +kernel),
    by decide +kernel⟩
/-- Granted outside the window, 384,000 being the pour point: from PARKED, HELD, MOVING away, and FAULTED. -/
def grantedAt (state : TravelState) : State := travelling state (some 500000) (pouringAt 380000 claiming)
theorem witness_ClaimWindow_orders :
    ((grantedAt .parked).decisionTable (claim .pending)).holds ∧ ((grantedAt .faulted).decisionTable (claim .pending)).holds
      ∧ (grantedAt .parked).window .a 1 = some (387500, 404500) ∧ (grantedAt .parked).tip = some 383500
      ∧ (grantedAt .parked).travel.range = some ⟨0, .rail, 1000000, .rail⟩ ∧ fartherThan 50 380000 384000
      ∧ (grantedAt .moving).travel.direction = some .down
      ∧ (after .claimWindowExpiry (grantedAt .parked)).travel.state = .releasing
      ∧ (after .claimWindowExpiry (grantedAt .held)).travel.state = .releasing
      ∧ (after .claimWindowExpiry (grantedAt .moving)).travel.state = .moving
      ∧ (after .claimWindowExpiry (grantedAt .moving)).travel.target = some 384000
      ∧ (after .claimWindowExpiry (grantedAt .faulted)).pour.state = .positioning :=
  ⟨(State.decisionTable_holds_iff _).2 (by decide +kernel), (State.decisionTable_holds_iff _).2 (by decide +kernel),
    by decide +kernel⟩
theorem witness_PositioningLimit :
    positioning.quiet ∧ positioning.pour.state = .positioning ∧ positioning.pour.positioningTimer = some 6000
      ∧ positioning.fill.claim = some (claim .active) ∧ positioning.travel.source ≠ some .position := by decide +kernel

theorem witness_Starting_decision : (claiming.decisionTable (claim .pending)).holds :=
  (State.decisionTable_holds_iff _).2 (by decide +kernel)
theorem witness_Starting :
    claiming.session .a = some vessel ∧ claiming.bills.bill vessel.bill = some (bill []) ∧ 0 < claiming.bills.free
      ∧ claiming.bills.openLines = [] ∧ claiming.travel.state = .parked ∧ claiming.tipInside = true
      ∧ claiming.translate = .ok .a 1 ∧ claiming.dustOwn = false ∧ (∀ q ∈ claiming.dust.peers, q.spout ≠ .trip)
      ∧ claiming.scale.status ≠ .fault ∧ claiming.pour.gate = .closed ∧ claiming.pour.beltOn = false
      ∧ claiming.inputs.beltRunning = false ∧ claiming.pour.causes = CauseSet.empty
      ∧ (claiming.hold .a 1).all (fun d => d.permission == .opened) = true
      ∧ (after .claimWindowExpiry claiming).pour.phase = some .beltWait := by decide +kernel

theorem witness_EndPour :
    (asked .endPour moored).quiet ∧ moored.pour.state = .idle ∧ (pourIn .runout).pour.state = .runout
      ∧ claiming.fill.claim = some (claim .pending) ∧ positioning.fill.claim = some (claim .active)
      ∧ positioning.travel.source ≠ some .position ∧ pouring.pour.state = .pouring ∧ pouring.pour.gate = .opened
      ∧ (starting .beltWait .waiting .closed).pour.gate = .closed ∧ (starting .beltWait .waiting .closed).belt.content = 0
      ∧ (taken .endPour (starting .beltWait .waiting .closed)).pour.state = .idle
      ∧ (starting .gateWait .running .opening).pour.gate = .opening
      ∧ (taken .endPour gateClosing).pour.state = .runout ∧ (taken .endPour gateClosing).pour.beltOn = false := by
  decide +kernel
/-- POSITIONING, the loader on its way with the order POSITION. -/
def positioningMove (state : TravelState) : State := { positioning with
  travel := { positioning.travel with state := state, target := some 390000, source := some .position } }
theorem witness_PositioningLimit_order :
    (positioningMove .held).travel.source = some .position ∧ (positioningMove .held).pour.positioningTimer = some 6000
      ∧ (after .positioningTimerExpiry (positioningMove .held)).travel = (positioningMove .held).travelStopped
      ∧ (after .positioningTimerExpiry (positioningMove .releasing)).travel
        = ({ positioningMove .releasing with count := 6000 } : State).travelStopped := by decide +kernel
theorem witness_EndPour_order :
    (positioningMove .held).travel.source = some .position
      ∧ (taken .endPour (positioningMove .held)).travel = (positioningMove .held).travelStopped
      ∧ (taken .endPour (positioningMove .releasing)).travel = (positioningMove .releasing).travelStopped := by decide +kernel
/-- A run-out whose gate is CLOSED with grain on the belt, and one ended at its entry with the gate in FAULT. -/
theorem witness_EndPour_goes_on :
    (starting .beltWait .waiting .opening).runoutGoesOn ∧ (suspendedBy .map).belt.content = 0
      ∧ ({ suspendedBy .map with belt := ⟨[⟨0, false⟩, ⟨44400, false⟩], 0, 44400⟩ } : State).runoutGoesOn
      ∧ (taken .endPour { suspendedBy .map with belt := ⟨[⟨0, false⟩, ⟨44400, false⟩], 0, 44400⟩ }).pour.state = .runout
      ∧ ({ suspendedBy .gate with pour := { (suspendedBy .gate).pour with
          gate := .fault, gateFault := some .closeFailed } } : State).runoutGoesOn
      ∧ (taken .endPour { suspendedBy .gate with pour := { (suspendedBy .gate).pour with
          gate := .fault, gateFault := some .openFailed } }).pour.state = .idle :=
  ⟨.inl rfl, by decide +kernel, .inr (.inr (.inr (.inr (by decide +kernel)))), by decide +kernel,
    .inr (.inr (.inr (.inl (by decide +kernel)))), by decide +kernel⟩

/-- SETTLING in POSITIONING, the order arrived at this position. -/
def arriving (position : Int) (reAimed : Bool) : State := { pouringAt position positioning with
  travel := { positioning.travel with
    state := .settling, position := some position, target := some position, source := some .position, settleTimer := some 6000 }
  pour := { positioning.pour with reAimed := reAimed } }
/-- FAULTED in POSITIONING by the brake, a sample arrived since. -/
def positioningFaulted (position : Int) : State := { positioning with
  travel := { positioning.travel with position := some position, state := .faulted, cause := some .brake, sampleSince := true } }
/-- Nothing holds the start of the claim's pass. -/
theorem clear_of {s : State} (h : s.translate = .ok .a 1 ∧ (∀ k ∈ [Channel.spout, .gallery], (s.dust.channel k).state ≠ .trip
      ∧ (s.dust.channel k).state ≠ .held) ∧ (∀ q ∈ s.dust.peers, q.spout ≠ .trip) ∧ s.travel.state ≠ .faulted
      ∧ s.scale.status ≠ .fault ∧ s.pour.gate = .closed ∧ s.pour.beltOn = false ∧ s.inputs.beltRunning = false ∧ 0 < s.bills.free)
    (ses : Session) (b : Bill) (hs : s.session .a = some ses) (hb : s.bills.bill ses.bill = some b) :
    s.clearToStart (claim .active) :=
  ⟨h.1, fun k => h.2.1 k (by cases k <;> simp), h.2.2.1, h.2.2.2.1, h.2.2.2.2.1, h.2.2.2.2.2.1, h.2.2.2.2.2.2.1, h.2.2.2.2.2.2.2.1,
    h.2.2.2.2.2.2.2.2, ses, b, hs, hb⟩

theorem witness_Positioning_arrival :
    (arriving 395000 false).quiet ∧ (arriving 395000 false).clearToStart (claim .active)
      ∧ (arriving 395000 false).travel.range = some ⟨0, .rail, 1000000, .rail⟩
      ∧ (after .settleTimerExpiry (arriving 395000 false)).pour.state = .starting
      ∧ (arriving 383900 true).window .a 1 = some (387500, 404500)
      ∧ (after .settleTimerExpiry (arriving 383900 true)).pour = (arriving 383900 true).pour
      ∧ fartherThan 50 383900 (387500 + 50 - 3500) ∧ (after .settleTimerExpiry (arriving 383900 false)).travel.target = some 384050
      ∧ (after .settleTimerExpiry (arriving 383900 false)).pour.reAimed = true :=
  ⟨by decide +kernel, clear_of (by decide +kernel) vessel (bill []) (by decide +kernel) (by decide +kernel), by decide +kernel⟩
theorem witness_Positioning_clear :
    (asked .faultClear (positioningFaulted 395000)).quiet ∧ (positioningFaulted 395000).travel.encoderFault = false
      ∧ ({ positioningFaulted 395000 with travel := { (positioningFaulted 395000).travel with
          state := .parked, position := some 395000, cause := none, recovery := none, sampleSince := false } } : State).clearToStart
        (claim .active)
      ∧ (taken .faultClear (positioningFaulted 395000)).pour.state = .starting
      ∧ (positioningFaulted 380000).window .a 1 = some (387500, 404500) ∧ fartherThan 50 380000 384000
      ∧ (taken .faultClear (positioningFaulted 380000)).travel.target = some 384000 :=
  ⟨by decide +kernel, by decide +kernel, clear_of (by decide +kernel) vessel (bill []) (by decide +kernel) (by decide +kernel),
    by decide +kernel⟩
theorem witness_Positioning_shift :
    let s := pouringAt 401100 positioning
    ((asked (.shiftVessel 1 412200) s).mapTable (.shiftVessel 1 412200)).holds
      ∧ ((asked (.shiftVessel 1 412200) s).onSession .a (fun _ => { vessel with bowMark := 412200 })).clearToStart (claim .active)
      ∧ (taken (.shiftVessel 1 412200) s).pour.state = .starting
      ∧ (taken (.shiftVessel 1 411200) s).travel.target = some 400200
      ∧ (taken (.shiftVessel 1 411200) { s with travel := { s.travel with state := .settling } }).travel.target = some 400200
      ∧ (taken (.shiftVessel 1 411200) (positioningFaulted 401100)).pour = (positioningFaulted 401100).pour :=
  ⟨(State.mapTable_matches _).holds_iff.2 (by decide +kernel),
    clear_of (by decide +kernel) { vessel with bowMark := 412200 } (bill []) (by decide +kernel) (by decide +kernel), by decide +kernel⟩

/-- The gate in a state, no line open. -/
def gateIn (g : GateState) : State := { run with pour := { run.pour with gate := g, gateTimer := some 6000 } }

theorem witness_Gate :
    State.reset.quiet ∧ State.reset.port.mode = .config ∧ (gateIn .opening).quiet ∧ (gateIn .opening).port.mode ≠ .config ∧ (gateIn .opening).lineOpen = false
      ∧ (gateIn .opening).pour.gateTimer = some 6000 ∧ (gateIn .closing).pour.gate = .closing ∧ (gateIn .fault).pour.gate = .fault
      ∧ (starting .gateWait .running .opening).pour.phase = some .gateWait
      ∧ (starting .gateWait .running .opening).pour.gate = .opening := by decide +kernel

theorem witness_BeltFeedback :
    run.quiet ∧ run.pour.watch = .off ∧ (starting .beltWait .waiting .closed).pour.watch = .waiting
      ∧ (starting .beltWait .waiting .closed).pour.phase = some .beltWait
      ∧ (starting .beltWait .waiting .closed).pour.gateCommand = .closed
      ∧ (starting .beltWait .waiting .closed).holdTotal .a 1 < (300000 - 1500) * 1000
      ∧ pouring.quiet ∧ pouring.pour.watch = .running ∧ pouring.pour.failures < 2 ∧ pouring.pour.gate = .opened
      ∧ (starting .beltWait .waiting .closed).pour.beltStartTimer = some 7000 := by decide +kernel

/-- BELT_WAIT with the hold already full, grain on the belt. -/
def startingFull : State := { starting .beltWait .waiting .closed with
  belt := ⟨[⟨0, false⟩, ⟨44400, false⟩], 0, 44400⟩
  fill := { pouring.fill with viewA := some [⟨298500000 - 44400, [], []⟩, emptyRow, emptyRow, emptyRow] } }
theorem witness_BeltFeedback_reached :
    startingFull.quiet ∧ startingFull.pour.causes = CauseSet.empty ∧ startingFull.pour.beltOn = true
      ∧ startingFull.fill.claim = some (claim .active) ∧ (300000 - 1500) * 1000 ≤ startingFull.holdTotal .a 1
      ∧ 0 < startingFull.belt.content ∧ 0 < startingFull.block.cellCount
      ∧ (after (.beltRunningChange true) startingFull).pour = { startingFull.pour with
          watch := .running, beltStartTimer := none, state := .runout, phase := none, runoutCause := some .target
          runoutShifts := 0, gateCommand := .closed } := by decide +kernel
/-- GATE_WAIT would follow, with the gate in FAULT. -/
theorem witness_BeltFeedback_gate_fault :
    let s := starting .beltWait .waiting .fault
    s.quiet ∧ s.port.mode ≠ .config ∧ s.pour.gate = .fault ∧ s.pour.causes = CauseSet.empty ∧ s.pour.beltOn = true
      ∧ s.pour.failures < 2 ∧ s.fill.claim = some (claim .active) ∧ (s.holdTotal .a 1 : Int) < ((300000 : Int) - 1500) * 1000
      ∧ (after (.beltRunningChange true) s).pour = { s.pour with
          watch := .running, beltStartTimer := none, state := .suspended, phase := none
          causes := { CauseSet.empty with gate := true }, passSuspended := true, failures := 1, gateCommand := .closed } := by
  decide +kernel

/-- A pour SUSPENDED by BELT alone, the retry timer running. -/
def beltHeld : State := { suspendedBy .belt with pour := { (suspendedBy .belt).pour with beltRetryTimer := some 7000 } }
theorem witness_BeltRetry_suspended :
    beltHeld.quiet ∧ beltHeld.pour.state = .suspended ∧ beltHeld.pour.causes = { CauseSet.empty with belt := true }
      ∧ beltHeld.pour.beltOn = false ∧ beltHeld.inputs.beltRunning = false ∧ beltHeld.fill.claim = some (claim .active)
      ∧ beltHeld.translate = .ok .a 1
      ∧ (after .beltRetryTimerExpiry beltHeld).pour = { ({ beltHeld with count := 7000 } : State).resumed with beltRetryTimer := none } := by
  decide +kernel
theorem witness_BeltRetry :
    runoutFailed.quiet ∧ runoutFailed.pour.state = .runout ∧ runoutFailed.pour.causes = { CauseSet.empty with belt := true }
      ∧ runoutFailed.pour.beltRetryTimer = some 7000 ∧ runoutFailed.pour.beltOn = false
      ∧ runoutFailed.inputs.beltRunning = false := by decide +kernel
/-- The gate OPENING in GATE_WAIT after some failures, its timer running; and the gate in FAULT in SUSPENDED. -/
def gateWaiting (failures : Nat) : State := { starting .gateWait .running .opening with
  pour := { (starting .gateWait .running .opening).pour with failures := failures, gateTimer := some 6000 } }
def gateStuck : State := { suspendedBy .gate with pour := { (suspendedBy .gate).pour with gate := .fault, gateFault := some .openFailed } }

theorem witness_Failures_third :
    ({ pouring with pour := { pouring.pour with failures := 2 } } : State).quiet
      ∧ pouring.port.mode ≠ .config ∧ pouring.pour.watch = .running ∧ pouring.pour.state = .pouring
      ∧ ({ pouring with pour := { pouring.pour with failures := 2 } } : State).pour.failures = 2
      ∧ pouring.fill.claim = some (claim .active) ∧ (gateWaiting 2).pour.failures = 2
      ∧ (after .gateTimerExpiry (gateWaiting 2)).pour.state = .idle
      ∧ (after .gateTimerExpiry (gateWaiting 2)).bills = (gateWaiting 2).bills.closeLine 6000 .withdrawn none none := by decide +kernel
theorem witness_Failures_gate :
    (gateWaiting 1).quiet ∧ (gateWaiting 1).pour.gateTimer = some 6000 ∧ (gateWaiting 1).pour.gate = .opening
      ∧ (gateWaiting 1).pour.phase = some .gateWait ∧ (gateWaiting 1).pour.causes = CauseSet.empty ∧ (gateWaiting 1).pour.beltOn = true
      ∧ (after .gateTimerExpiry (gateWaiting 1)).pour = { (gateWaiting 1).pour with
          state := .suspended, phase := none, causes := { CauseSet.empty with gate := true }, passSuspended := true
          failures := 2, gateCommand := .closed, gate := .fault, gateFault := some .openFailed, gateTimer := none }
      ∧ gateClosing.pour.gate = .closing ∧ gateClosing.pour.causes.gate = false
      ∧ gateClosing.pour.beltOn = !gateClosing.pour.causes.stopsBelt ∧ gateClosing.pour.watch = .off
      ∧ gateClosing.pour.beltStartTimer = none
      ∧ (after .gateTimerExpiry gateClosing).pour.causes = { CauseSet.empty with map := true, gate := true } := by decide +kernel
theorem witness_Failures_limit :
    gateStuck.quiet ∧ gateStuck.pour.gate = .fault ∧ gateStuck.pour.causes = { CauseSet.empty with gate := true }
      ∧ gateStuck.pour.beltOn = true ∧ gateStuck.pour.watch = .running ∧ gateStuck.translate = .ok .a 1
      ∧ (gateStuck.holdTotal .a 1 : Int) < ((300000 : Int) - 1500) * 1000
      ∧ (after .gateClosedLimit gateStuck).pour = { gateStuck.pour with
          state := .starting, phase := some .gateWait, causes := CauseSet.empty, gate := .opening, gateFault := none
          gateTimer := some 15000, gateCommand := .openFull } := by decide +kernel

theorem witness_Map_hatch :
    (asked (.setHatch 1 1 0) pouring).quiet ∧ Slot.ofCode? 1 = some .a ∧ pouring.session .a = some vessel ∧ 1 ≤ vessel.holdCount
      ∧ pouring.translate = .ok .a 1 ∧ (taken (.setHatch 1 1 0) pouring).pour = pouring.stoppedBy .map
      ∧ closedHatch.pour.causes = { CauseSet.empty with map := true } ∧ closedHatch.pour.beltOn = false
      ∧ (taken (.setHatch 1 1 1) closedHatch).translate = .ok .a 1 ∧ (taken (.setHatch 1 1 1) closedHatch).pour = closedHatch.resumed
      ∧ (taken (.setHatch 1 1 1) (pouringAt 401500 closedHatch)).translate = .fault .margin
      ∧ (taken (.setHatch 1 1 1) (pouringAt 401500 closedHatch)).pour = closedHatch.pour := by decide +kernel
theorem witness_Map_sample :
    let s := peered
    let p := { pouringAt 401000 pouring with peers := s.peers }
    let b := pouringAt 401100 (suspendedBy .map)
    p.quiet ∧ p.window .a 1 = some (387500, 404500) ∧ (401100 : Int) + p.block.spoutOffset = 404600 ∧ ¬fartherThan 300 401100 401000
      ∧ fartherThan p.block.tolerance 401100 401000 ∧ (after (.positionSample 401100) p).travel.target = some 401000
      ∧ (after (.positionSample 401100) p).travel.state = .releasing
      ∧ (after (.positionSample 401100) p).pour = { pouring.stoppedBy .map with reAimed := false }
      ∧ b.travel.state = .parked ∧ (after (.positionSample 401000) b).translate = .ok .a 1
      ∧ (after (.positionSample 401000) b).pour = b.resumed ∧ (after (.positionSample 401001) b).pour = b.pour := by decide +kernel
theorem witness_Map_shift_and_clear :
    let p := { pouringAt 401000 pouring with peers := peered.peers }
    let b := { pouringAt 401000 (suspendedBy .map) with peers := peered.peers }
    let f := { b with
      travel := { b.travel with state := .faulted, cause := some .brake, sampleSince := true }
      pour := { b.pour with causes := { CauseSet.empty with map := true, travel := true } } }
    (asked (.shiftVessel 1 411200) p).quiet ∧ 0 ≤ ({ vessel with bowMark := 411200 } : Session).span.1
      ∧ p.plan .a 1 = some ⟨6000, 26000, 1500, -450, 2, [300000, 600000]⟩
      ∧ ({ vessel with bowMark := 411200 } : Session).pourWindow ⟨6000, 26000, 1500, -450, 2, [300000, 600000]⟩ = (386700, 403700)
      ∧ fartherThan p.block.tolerance 401000 400200 ∧ p.travel.state = .parked
      ∧ (taken (.shiftVessel 1 411200) p).travel.target = some 400200
      ∧ (taken (.shiftVessel 1 411200) p).pour = { p.stoppedBy .map with reAimed := false }
      ∧ (taken (.shiftVessel 1 411200) b).travel.target = some 400200 ∧ (taken (.shiftVessel 1 411200) b).pour = b.pour
      ∧ (taken .faultClear (pouringAt 401100 f)).travel.target = some 401000
      ∧ (taken .faultClear (pouringAt 401100 f)).pour.causes = { CauseSet.empty with map := true } := by decide +kernel

/-- Own delivered grams, a load of 111 kg/m, and the pulse phase. -/
def delivered (grams phase : Nat) : State := { pouring with
  scale := { pouring.scale with load := 111 }
  belt := ⟨[⟨41625, false⟩, ⟨44400, false⟩], phase, 86025⟩
  fill := { pouring.fill with viewA := some [⟨grams, [], []⟩, emptyRow, emptyRow, emptyRow] } }

/-- The pulse of 2,775 g brings the hold total to the threshold of 298,500 kg, or to one gram below it; so does the 16th. -/
theorem witness_CloseDecision :
    let s := delivered (298500000 - 86025 - 2775) 14
    s.quiet ∧ s.scale.status = .ok ∧ s.scale.zeroRun = none ∧ s.belt.cells = ⟨41625, false⟩ :: [⟨44400, false⟩] ∧ s.belt.phase < 15
      ∧ s.pour.gate = .opened ∧ s.pour.causes = CauseSet.empty ∧ s.pour.beltOn = true ∧ s.fill.claim = some (claim .active)
      ∧ (300000 - 1500) * 1000 ≤ s.holdTotal .a 1 + 2775
      ∧ (after .beltPulse s).pour.state = .runout
      ∧ (after .beltPulse (delivered (298500000 - 86025 - 2776) 14)).pour.state = .pouring := by decide +kernel
theorem witness_CloseDecision_sixteenth :
    let s := delivered (298500000 - 86025 - 2775) 15
    s.belt.phase = 15 ∧ s.translate = .ok .a 1 ∧ s.bills.openLine = some openLine ∧ (s.view .a).map List.length = some 4
      ∧ (after .beltPulse s).pour.state = .runout ∧ (after .beltPulse s).holdTotal .a 1 = s.holdTotal .a 1 + 2775
      ∧ (after .beltPulse (delivered (298500000 - 86025 - 2776) 15)).pour.state = .pouring := by decide +kernel
theorem witness_Runout :
    runoutClosing.quiet ∧ runoutClosing.port.mode ≠ .config ∧ runoutClosing.pour.state = .runout
      ∧ runoutClosing.pour.runoutCause = some .target ∧ runoutClosing.pour.gate = .closing
      ∧ runoutClosing.pour.causes.gate = false ∧ runoutClosing.belt.content = 0
      ∧ runoutClosing.fill.claim = some (claim .active) ∧ pouring.pour.allowance = some 1500 := by decide +kernel
/-- The fourth shift of a belt of two cells, 86,025 g still on it, ends the run-out. -/
def lastShift : State := { runoutClosing with
  belt := ⟨[⟨86025, false⟩, ⟨0, true⟩], 15, 86025⟩, scale := { pouring.scale with load := 111 }
  pour := { runoutClosing.pour with gate := .closed, runoutShifts := 3 } }
theorem witness_Runout_distance :
    lastShift.quiet ∧ lastShift.scale.zeroRun = none ∧ lastShift.belt.cells = ⟨86025, false⟩ :: [⟨0, true⟩]
      ∧ lastShift.belt.phase = 15 ∧ lastShift.scale.status = .ok ∧ lastShift.pour.gate = .closed
      ∧ 2 * lastShift.block.cellCount ≤ 3 + 1 ∧ lastShift.bills.openLine = some openLine ∧ lastShift.travel.state = .parked
      ∧ (after .beltPulse lastShift).port = lastShift.port.raise 5000
          (.lineClosed .a 1 1 .target 1776 (some (88 - 300000)) (some 88) 0) := by decide +kernel

/-- The last of the grain leaves, over the line's hold, with the gate CLOSED. -/
def lastGrain : State := { runoutTail with belt := ⟨[⟨0, false⟩, ⟨44400, true⟩], 15, 44400⟩ }
theorem witness_Runout_last_grain :
    lastGrain.quiet ∧ lastGrain.scale.zeroRun = none ∧ lastGrain.scale.status = .ok ∧ lastGrain.scale.load = 0
      ∧ lastGrain.belt.cells = ⟨0, false⟩ :: [⟨44400, true⟩] ∧ lastGrain.belt.phase = 15
      ∧ (⟨0, false⟩ : Cell) :: [⟨44400, true⟩] = [⟨0, false⟩] ++ [⟨44400, true⟩] ∧ lastGrain.belt.content + 0 = 44400
      ∧ lastGrain.fill.claim = some (claim .active) ∧ lastGrain.pour.runoutCause = some .target ∧ lastGrain.pour.gate = .closed
      ∧ lastGrain.translate = .ok .a 1 ∧ lastGrain.bills.openLines = [openLine]
      ∧ lastGrain.view .a = some [emptyRow, emptyRow, emptyRow, emptyRow] ∧ lastGrain.session .a = some vessel
      ∧ lastGrain.holdTotal .a 1 = 44400 ∧ lastGrain.travel.state = .parked
      ∧ (after .beltPulse lastGrain).port = lastGrain.port.raise 5000
          (.lineClosed .a 1 1 .target 1820 (some (44 - 300000)) none 0) := by decide +kernel

theorem witness_Frames_valid :
    frameOf (.statusFrame .up (statusRest 3 0 300000)) = some (.up, 0x01 :: statusRest 3 0 300000)
      ∧ readFrame (0x01 :: statusRest 3 0 300000) = some ⟨3, 0, .status (reportAt 300000)⟩ ∧ run.station ≠ 3
      ∧ run.quiet ∧ run.port.mode = .run ∧ run.lineOpen = false ∧ run.fill.claim = none ∧ run.travel.state ≠ .moving
      ∧ run.travel.state ≠ .held ∧ run.entry 3 = none ∧ (peered.entry 3).isSome := by decide +kernel
theorem witness_Frames_ordered : peered.peersOrdered := by
  unfold State.peersOrdered; decide +kernel
/-- A STATUS of station 3 with the plan tag, the claim and the tallies given. -/
def tallied (tag : Nat) (c : Option ReportClaim) (tallies : List Tally) : Report := { reportAt 300000 with
  tagA := tag, claim := c, tallies := tallies, onBelt := c.map (fun _ => 44) }
def statusOf (r : Report) : Instr := .statusFrame .up ((frameBytes 0x01 3 0 r.payload).drop 1)

/-- A frame with an own claim PENDING, with the loader MOVING, and with it HELD short of its target, which it then releases for. -/
theorem witness_Frames_pending_and_moving :
    claiming.noPass ∧ claiming.fill.claim = some (claim .pending) ∧ moving.noPass ∧ moving.quiet
      ∧ heldAtEdge.noPass ∧ heldAtEdge.heldShort ∧ heldAtEdge.quiet
      ∧ (after (statusOf (reportAt 300000)) moving).travel.state = .moving
      ∧ (after (statusOf (reportAt 300000)) moving).travel.edgeDown = some (590000, .peer 5)
      ∧ (after (statusOf (reportAt 300000)) heldAtEdge).travel.state = .releasing
      ∧ (after (statusOf (reportAt 300000)) heldAtEdge).travel.edgeDown = some (590000, .peer 5) := by
  refine ⟨⟨.inr rfl, fun c h => by cases h; rfl⟩, rfl, ⟨.inl rfl, nofun⟩, by decide +kernel, ⟨.inl rfl, nofun⟩, ?_,
    by decide +kernel⟩
  intro _ p x hp hx
  cases hp; cases hx; decide +kernel
theorem witness_Frames_break :
    readFrame (frameBytes 0x04 3 0 [sideCode .up]) = some ⟨3, 0, .brk (some .up)⟩
      ∧ peered.entry 2 = some (peer 2 .up 2 none) := by decide +kernel
theorem witness_Frames_conflict :
    ({ peered with peers := [{ peer 3 .up 1 none with freshness := .conflict }] } : State).entry 3
      = some { peer 3 .up 1 none with freshness := .conflict } := by decide +kernel
theorem witness_Frames_not_taken :
    readFrame [0x01, 9, 0, 0, 0] = none ∧ frameOf (.statusFrame .up [9, 0, 0, 0]) = some (.up, [0x01, 9, 0, 0, 0])
      ∧ bypassed.quiet ∧ bypassed.port.mode ≠ .run
      ∧ readFrame (frameBytes 0x04 4 0 [sideCode .up]) = some ⟨4, 0, .brk (some .up)⟩ ∧ run.station = 4 := by decide +kernel

/-- A CLAIM of station 3, a DUST frame of it. -/
def claimOf (hold : Nat) : Instr :=
  .claimFrame .up ((frameBytes 0x02 3 0 (Slot.a.code :: (uField 1 hold ++ uField 1 2 ++ kgField 600000 ++ uField 2 77))).drop 1)
def dustOf (k : DustClass) : Instr :=
  .dustFrame .up ((frameBytes 0x03 3 0 (presence [true] ++ [k.code] ++ holdField (some (.a, 1)))).drop 1)
/-- A state with station 3 FRESH upstream. -/
def withPeer (s : State) : State := { s with peers := [peer 3 .up 1 (some (reportAt 300000))] }

theorem witness_HoldTable :
    let r := tallied 77 (some ⟨.a, 2, 1, .active, 350000⟩) [⟨.a, 1, 5⟩, ⟨.a, 2, 7⟩, ⟨.a, 2, 9⟩]
    let s := withPeer moored
    let t := after (statusOf r) s
    frameOf (statusOf r) = some (.up, frameBytes 0x01 3 0 r.payload) ∧ readFrame (frameBytes 0x01 3 0 r.payload) = some ⟨3, 0, .status r⟩
      ∧ s.quiet ∧ s.lineOpen = false ∧ s.fill.claim = none ∧ s.entry 3 = some (peer 3 .up 1 (some (reportAt 300000)))
      ∧ s.view .a = some [emptyRow, emptyRow, emptyRow, emptyRow]
      ∧ t.view .a = some [⟨0, [⟨3, 5, none⟩], []⟩, ⟨0, [⟨3, 7, some 44⟩], [⟨3, 1, 350000, .active⟩]⟩, ⟨0, [⟨3, 0, none⟩], []⟩,
          ⟨0, [⟨3, 0, none⟩], []⟩]
      ∧ ((after (claimOf 4) t).row .a 4).claims = [⟨3, 2, 600000, .pending⟩] ∧ ((after (claimOf 4) t).row .a 2).claims = []
      ∧ ((after (statusOf (tallied 0 none [])) t).row .a 1).peers = [⟨3, 5, none⟩] := by decide +kernel
/-- In the window of the own claim: the peer's claim enters beside it, by STATUS and by CLAIM. -/
theorem witness_HoldTable_window :
    let s := withPeer { claiming with
      fill := { claiming.fill with viewA := some [⟨0, [], [⟨4, 1, 300000, .pending⟩]⟩, emptyRow, emptyRow, emptyRow] } }
    let t := after (statusOf (tallied 77 (some ⟨.a, 1, 1, .active, 300000⟩) [])) s
    s.quiet ∧ s.fill.claim = some (claim .pending) ∧ s.pour.state = .claiming
      ∧ (t.row .a 1).claims = [⟨3, 1, 300000, .active⟩, ⟨4, 1, 300000, .pending⟩] ∧ t.fill.claim = s.fill.claim
      ∧ ((after (claimOf 1) s).row .a 1).claims = [⟨3, 2, 600000, .pending⟩, ⟨4, 1, 300000, .pending⟩]
      ∧ ((after (claimOf 4) t).row .a 1).claims = [⟨4, 1, 300000, .pending⟩]
      ∧ (after (claimOf 0) t).fill = t.fill ∧ (after (claimOf 10) t).fill = t.fill := by decide +kernel
theorem witness_HoldTable_lists : (withPeer moored).peersOrdered ∧ (withPeer moored).listsOrdered :=
  ⟨by unfold State.peersOrdered; decide +kernel, listsOrdered_of (by decide +kernel)⟩
theorem witness_HoldTable_mismatch :
    (withPeer moored).takesFrom (statusOf (tallied 78 none [])) .up ⟨3, 0, .status (tallied 78 none [])⟩
        (peer 3 .up 1 (some (reportAt 300000)))
      ∧ (withPeer moored).berth Slot.a.other = ⟨false, none⟩ ∧ (tallied 78 none []).tag .a ≠ vessel.planTag
      ∧ (after (statusOf (tallied 78 none [])) (withPeer moored)).port = moored.port.raise 5000 (.planMismatch .a (some (3, 78))) :=
  ⟨⟨_, rfl, by decide +kernel⟩, by decide +kernel⟩

/-- Pouring into a hold for one spout, the own claim in its row. -/
def narrowPour (state : PourState) : State := withPeer { pourIn state with
  berths := ⟨⟨false, some { vessel with
    holds := [⟨some ⟨6000, 26000, 1500, -450, 1, [300000, 600000]⟩, true, .opened, false, false, false⟩] }⟩, Berth.free⟩
  fill := { pouring.fill with viewA := some [⟨0, [], [⟨4, 1, 300000, .active⟩]⟩, emptyRow, emptyRow, emptyRow] } }

theorem witness_LateConflict :
    let r := tallied 77 (some ⟨.a, 1, 1, .active, 300000⟩) []
    let s := narrowPour .pouring
    s.takesFrom (statusOf r) .up ⟨3, 0, .status r⟩ (peer 3 .up 1 (some (reportAt 300000)))
      ∧ s.quiet ∧ s.fill.claim = some (claim .active) ∧ s.plan .a 1 = some ⟨6000, 26000, 1500, -450, 1, [300000, 600000]⟩
      ∧ ⟨s.station, 1, 300000, .active⟩ ∈ (s.row .a 1).claims ∧ (∀ q ∈ (s.row .a 1).claims, q.station ≠ 3) ∧ s.pour.gate = .opened
      ∧ (after (statusOf r) s).pour.runoutCause = some .yielded
      ∧ ((after (statusOf r) s).port.notices.map Notice.body) = [.lateConflict .a 1 [3, 4] 1] :=
  ⟨⟨_, rfl, by decide +kernel⟩, by decide +kernel⟩
theorem witness_LateConflict_lists : (narrowPour .pouring).peersOrdered ∧ (narrowPour .pouring).listsOrdered :=
  ⟨by unfold State.peersOrdered; decide +kernel, listsOrdered_of (by decide +kernel)⟩
/-- The test with station 3's claim already in the row: beyond the limit in POSITIONING and POURING, and in RUNOUT. -/
def conflicting (state : PourState) : State := { narrowPour state with
  fill := { (narrowPour state).fill with
    viewA := some [⟨0, [], [⟨3, 1, 300000, .active⟩, ⟨4, 1, 300000, .active⟩]⟩, emptyRow, emptyRow, emptyRow] } }
theorem witness_LateConflict_test :
    (conflicting .pouring).lateConflictTest.pour.state = .runout ∧ (conflicting .positioning).lateConflictTest.pour.state = .idle
      ∧ (conflicting .runout).lateConflictTest = conflicting .runout
      ∧ (narrowPour .pouring).lateConflictTest = narrowPour .pouring
      ∧ (conflicting .pouring).activeClaim = some (claim .active) := by decide +kernel
theorem witness_LateConflict_test_lists : (conflicting .pouring).listsOrdered := listsOrdered_of (by decide +kernel)
theorem witness_PeerDust :
    (narrowPour .pouring).takesFrom (dustOf .trip) .up ⟨3, 0, .dust .trip (some (.a, 1))⟩ (peer 3 .up 1 (some (reportAt 300000)))
      ∧ positionKnown (peer 3 .up 1 (some (reportAt 300000))).report = true
      ∧ (after (dustOf .trip) (narrowPour .pouring)).pour = (narrowPour .pouring).stoppedBy .dustPeer
      ∧ (after (dustOf .alarm) (narrowPour .pouring)).pour
        = { (narrowPour .pouring).pour with state := .throttled, gateCommand := .openReduced }
      ∧ (withPeer (suspendedBy .dustPeer)).translate = .ok .a 1
      ∧ (after (dustOf .clear) (withPeer (suspendedBy .dustPeer))).pour = (suspendedBy .dustPeer).resumed :=
  ⟨⟨_, rfl, by decide +kernel⟩, by decide +kernel⟩

/-- The DOWN transmitter SENDING with this pass-through queue. -/
def repeating (queue : List (List Byte)) : State := { run with
  line := { run.line with down := { run.line.down with sending := some ⟨[0], none⟩, queue := queue } } }

theorem witness_Repeat :
    (repeating []).quiet ∧ (repeating []).line.down.sending.isSome ∧ (repeating []).line.up.state = .up
      ∧ (repeating []).line.down.chainEnd = false ∧ (repeating []).line.down.repeatHold = 0
      ∧ (repeating [[1], [2], [3]]).line.down.queue.length < 4 ∧ 4 ≤ (repeating [[1], [2], [3], [4]]).line.down.queue.length
      ∧ readFrame (frameBytes 0x04 3 6 [1]) = some ⟨3, 6, .brk (some .up)⟩
      ∧ readFrame (frameBytes 0x04 3 7 [1]) = some ⟨3, 7, .brk (some .up)⟩ := by decide +kernel
theorem witness_FrameSent :
    (sendingDown 4).quiet ∧ (sendingDown 4).line.down.sending = some ⟨[0], none⟩ ∧ (sendingDown 4).line.up.sending.isSome
      ∧ (sendingDown 4).line.closing = .none ∧ (sendingDown 4).line.down.chainEnd = false := by decide +kernel

/-- The entry to BYPASS under way: the last STATUS still owed to the DOWN port, which is sending it. -/
def closing (upSent : Bool) : State := { run with
  line := { run.line with
    closing := .sending 7, own := [⟨.status, 7, [0x51], upSent, false⟩]
    down := { run.line.down with sending := some ⟨[0x51], some 7⟩ } } }
theorem witness_FrameSent_closes :
    (closing true).quiet ∧ (closing true).line.relayOpen = true ∧ (closing true).line.closing = .sending 7
      ∧ (∀ e ∈ (closing true).line.own, e.serial = 7 → e.sent .up = true) ∧ (after (.frameSent .down) (closing true)).line.relayOpen = false
      ∧ (∃ e ∈ (closing false).line.own, e.serial = 7 ∧ e.sent .up = false)
      ∧ (after (.frameSent .down) (closing false)).line.relayOpen = true := by decide +kernel

/-- One FRESH peer upstream. -/
def onePeer : State := { run with peers := [peer 3 .up 1 (some (reportAt 300000))] }

theorem witness_Silence :
    onePeer.quiet ∧ onePeer.port.mode = .run ∧ onePeer.lineOpen = false ∧ onePeer.fill.claim = none
      ∧ onePeer.travel.state ≠ .moving ∧ onePeer.travel.state ≠ .held ∧ onePeer.line.up.silenceTimer = some 5600
      ∧ onePeer.line.down.chainEnd = false ∧ onePeer.entry 3 = some (peer 3 .up 1 (some (reportAt 300000)))
      ∧ (peer 3 .up 1 (some (reportAt 300000))).staleTimer = some 5500
      ∧ ({ onePeer with line := { onePeer.line with up := { onePeer.line.up with breakTimer := some 5300 } } } : State).line.up.breakTimer
          = some 5300 := by decide +kernel
/-- A port loss and a stale timer with the loader MOVING toward a peer: once the peer is STALE the step is CREEP. -/
theorem witness_Silence_moving :
    moving.line.down.silenceTimer = some 5600 ∧ moving.line.up.chainEnd = false ∧ moving.entry 5 = some (peer 5 .down 1 (some (reportAt 600000)))
      ∧ (after (.silenceTimerExpiry .down) moving).travel.state = .moving
      ∧ (after (.silenceTimerExpiry .down) moving).travel.step = .creep
      ∧ (after (.peerStaleTimerExpiry 5) moving).travel.step = .creep := by decide +kernel
/-- The UP port LOST, with this restore count. -/
def lost (count : Nat) : State := { onePeer with
  line := { onePeer.line with
    up := { onePeer.line.up with state := .lost, silenceTimer := none, restoreCount := count, breakTimer := some 5200 }
    own := [⟨.brk .up, 3, [4], true, false⟩] } }
theorem witness_Restore :
    (lost 2).quiet ∧ readFrame (frameBytes 0x03 3 0 (presence [true] ++ [DustClass.clear.code] ++ holdField (some (.a, 1))))
        = some ⟨3, 0, .dust .clear (some (.a, 1))⟩
      ∧ (lost 2).port.mode = .run ∧ (lost 2).entry 3 = some (peer 3 .up 1 (some (reportAt 300000)))
      ∧ (lost 2).line.up.chainEnd = false
      ∧ (after (dustOf .clear) (lost 2)).line.up = { (lost 2).line.up with
          state := .up, restoreCount := 0, repeatHold := 3, breakTimer := none, silenceTimer := some 5600 }
      ∧ (after (dustOf .clear) (lost 2)).line.own = [] ∧ (after (dustOf .clear) (lost 1)).line.up.restoreCount = 2
      ∧ (after (dustOf .clear) (lost 2)).port = onePeer.port.raise 5000 (.portRestored .up) := by decide +kernel

/-- The restoring frame brings a MOVING loader's next peer nearer: it settles, and the idle port takes the STATUS of it. -/
def lostMoving : State := { lost 2 with
  peers := [peer 2 .up 1 (some (reportAt 300000)), peer 3 .up 2 (some (reportAt 384950))]
  line := { (lost 2).line with spacingTimer := none }
  travel := { (travelling .moving (some 380000) run).travel with direction := some .up } }
theorem witness_Restore_moving :
    lostMoving.quiet ∧ lostMoving.noPass ∧ lostMoving.heldShort ∧ lostMoving.entry 3 = some (peer 3 .up 2 (some (reportAt 384950)))
      ∧ (after (dustOf .clear) lostMoving).travel.state = .settling ∧ (lostMoving.line.port .up).sending = none
      ∧ (after (dustOf .clear) lostMoving).line.up.state = .up ∧ (after (dustOf .clear) lostMoving).line.up.sending.isSome :=
  ⟨by decide +kernel, ⟨.inl rfl, nofun⟩, nofun, by decide +kernel⟩
theorem witness_Silence_ordered : onePeer.peersOrdered := by unfold State.peersOrdered; decide +kernel
theorem witness_Status :
    run.quiet ∧ run.port.mode = .run ∧ run.line.closing = .none ∧ run.line.up.chainEnd = false
      ∧ run.line.statusTimer = some 5200 ∧ run.line.spacingTimer = some 5050 ∧ run.line.changePending = false
      ∧ ({ run with line := { run.line with changePending := true } } : State).line.changePending = true := by decide +kernel

theorem witness_Status_at_once :
    let s : State := { run with line := { run.line with spacingTimer := none, up := { run.line.up with chainEnd := true } } }
    s.port.mode = .run ∧ s.line.spacingTimer = none ∧ s.line.down.chainEnd = false ∧ s.markStatus.finish.quiet
      ∧ s.markStatus.finish.line.own.map OwnEntry.downSent = [false] := by decide +kernel
theorem witness_Status_changed :
    run.quiet ∧ exec (.brakeReleasedChange true) run = .next (after (.brakeReleasedChange true) run)
      ∧ run.statusChanged (after (.brakeReleasedChange true) run)
      ∧ (after (.brakeReleasedChange true) run).line.changePending = true
      ∧ run.statusChanged (taken (.openSession vesselFields) run) :=
  ⟨by decide +kernel, rfl, .inl (by decide +kernel), by decide +kernel, .inr (.inr (.inr (.inr ⟨.a, by decide +kernel⟩)))⟩

theorem witness_Quay : (reportAt 300000).wellFormed ∧ holdRefOk (.a, 1) ∧ holdRefOk (.b, 9) := by
  simp [Report.wellFormed, holdRefOk, reportAt]

/-- The invariants' premises are met by a part that is pouring, with a command that steps. -/
def pouringPulse : State := { pouring with pending := [.beltPulse] }

theorem witness_WellKept : pouringPulse.wellKept ∧ Machine.step pouringPulse = .next (after .beltPulse pouring) :=
  ⟨⟨by unfold Belt.lawful; decide +kernel, by unfold LocalPort.queueLawful; decide +kernel, by unfold State.peersOrdered; decide +kernel,
    listsOrdered_of (by decide +kernel)⟩, rfl⟩
theorem witness_GateSafe : pouringPulse.gateSafe :=
  ⟨.inl rfl, fun h => absurd h (by decide +kernel), fun _ => rfl, fun h => absurd h (by decide +kernel)⟩
theorem witness_Ledger : pouringPulse.ledgerSound ∧ Instr.beltPulse ≠ .discardBill := by
  refine ⟨⟨by unfold Belt.lawful; decide +kernel, fun h => absurd h ?_, ?_, fun _ => rfl, fun _ => rfl, fun h => absurd h ?_⟩, ?_⟩
    <;> decide +kernel
theorem witness_Ledger_idle : pouring.ledgerSound ∧ pouring.pending = [] ∧ Machine.step pouring = .next pouring.tick := by
  refine ⟨⟨by unfold Belt.lawful; decide +kernel, fun h => absurd h ?_, ?_, fun _ => rfl, fun _ => rfl, fun h => absurd h ?_⟩, rfl, rfl⟩
    <;> decide +kernel

end Sys2Proof.Tests
end

section
/-! SUPPORT. The sessions through a pour: every operation that a change of the map sets off leaves the sessions of both slots as
they are but for the token pass markers of their holds, which the end of a claim clears (R119). One lemma for each operation, in
the order of the definitions. -/

namespace Sys2Proof.Machine

/-- A hold with its token pass marker taken away. -/
def Hold.unpassed (d : Hold) : Hold := { d with tokenPass := false }

/-- A session with the token pass markers of its holds taken away. -/
def Session.unpassed (ses : Session) : Session := { ses with holds := ses.holds.map Hold.unpassed }

/-- The session of a slot, its holds' token pass markers aside. -/
def State.unpassed (s : State) (x : Slot) : Option Session := (s.session x).map Session.unpassed

/-- The span does not depend on the markers. -/
@[simp] theorem Session.unpassed_span (ses : Session) : ses.unpassed.span = ses.span := rfl

/-- States that agree up to the markers agree on each slot's span. -/
theorem State.span_of_unpassed {s t : State} {x : Slot} (h : t.unpassed x = s.unpassed x) :
    (t.session x).map Session.span = (s.session x).map Session.span := by
  simpa [State.unpassed, Function.comp_def] using congrArg (Option.map Session.span) h

variable (t : State) (x : Slot)

/-! ## Block updates -/

theorem State.unpassed_of_berths {s t : State} (h : t.berths = s.berths) (x : Slot) : t.unpassed x = s.unpassed x := by
  cases x <;> simp [State.unpassed, State.session, State.berth, h]

theorem State.TravelOnly.unpassed {s t : State} (h : s.TravelOnly t) (x : Slot) : t.unpassed x = s.unpassed x :=
  State.unpassed_of_berths h.berths x

@[simp] theorem State.onPour_unpassed (f : Pour → Pour) : (t.onPour f).unpassed x = t.unpassed x := rfl
@[simp] theorem State.onFill_unpassed (f : Fill → Fill) : (t.onFill f).unpassed x = t.unpassed x := rfl
@[simp] theorem State.onBills_unpassed (f : Bills → Bills) : (t.onBills f).unpassed x = t.unpassed x := rfl
@[simp] theorem State.notify_unpassed (b : NoticeBody) : (t.notify b).unpassed x = t.unpassed x := rfl
@[simp] theorem State.markStatus_unpassed : t.markStatus.unpassed x = t.unpassed x := rfl
@[simp] theorem State.recompute_unpassed : t.recompute.unpassed x = t.unpassed x := rfl
@[simp] theorem State.done_unpassed (b : List Byte) : (t.done b).unpassed x = t.unpassed x := rfl
@[simp] theorem State.finish_unpassed : t.finish.unpassed x = t.unpassed x := State.unpassed_of_berths t.finish_berths x

theorem State.onSession_session (f : Session → Session) : (t.onSession x f).session x = (t.session x).map f := by
  cases x <;> rfl

theorem State.onSession_session_of_ne {x y : Slot} (h : x ≠ y) (f : Session → Session) :
    (t.onSession y f).session x = t.session x := by
  cases x <;> cases y <;> trivial

/-- A change of a session that touches only markers. -/
theorem State.onSession_unpassed (y : Slot) {f : Session → Session} (hf : ∀ ses, (f ses).unpassed = ses.unpassed) :
    (t.onSession y f).unpassed x = t.unpassed x := by
  unfold State.unpassed
  by_cases h : x = y
  · subst h
    simp [State.onSession_session, Function.comp_def, hf]
  · rw [State.onSession_session_of_ne t h]

/-- One hold changed in its marker only leaves the list as it was, the markers aside. -/
theorem map_unpassed_modify (l : List Hold) (i : Nat) {f : Hold → Hold} (hf : ∀ d, (f d).unpassed = d.unpassed) :
    (l.modify i f).map Hold.unpassed = l.map Hold.unpassed := by
  refine List.ext_getElem? fun j => ?_
  simp only [List.getElem?_map, List.getElem?_modify]
  split <;> simp [Function.comp_def, hf]

theorem State.onHold_unpassed (y : Slot) (n : Nat) {f : Hold → Hold} (hf : ∀ d, (f d).unpassed = d.unpassed) :
    (t.onHold y n f).unpassed x = t.unpassed x := by
  unfold State.onHold
  split
  · rfl
  · exact t.onSession_unpassed x y fun ses => by simp only [Session.unpassed, map_unpassed_modify _ _ hf]

/-! ## Travel -/

@[simp] theorem State.rangeEvent_unpassed : t.rangeEvent.1.unpassed x = t.unpassed x :=
  (State.TravelOnly.refl t).rangeEvent.unpassed x

theorem State.placeOrder_unpassed {u : State} {target : Int} {source : OrderSource} {o : Option OrderSource}
    (h : t.placeOrder target source = (u, o)) : u.unpassed x = t.unpassed x := by
  simpa [h] using ((State.TravelOnly.refl t).placeOrder target source).unpassed x

/-! ## The pour's own record -/

@[simp] theorem State.setPour_unpassed (p : PourState) : (t.setPour p).unpassed x = t.unpassed x := by
  unfold State.setPour
  split <;> rfl

@[simp] theorem State.setGate_unpassed (c : GateCommand) : (t.setGate c).unpassed x = t.unpassed x := rfl
@[simp] theorem State.setBelt_unpassed (on : Bool) : (t.setBelt on).unpassed x = t.unpassed x := rfl
@[simp] theorem State.beltByCauses_unpassed : t.beltByCauses.unpassed x = t.unpassed x := rfl

@[simp] theorem State.setCauses_unpassed (c : CauseSet) : (t.setCauses c).unpassed x = t.unpassed x := by
  unfold State.setCauses
  dsimp only
  repeat' split
  all_goals rfl

@[simp] theorem State.adapt_unpassed (c : RunoutCause) (o : Option Int) : (t.adapt c o).unpassed x = t.unpassed x := by
  unfold State.adapt
  repeat' split
  all_goals rfl

/-! ## The end of a line -/

/-- The end of the own claim clears a token pass marker and nothing else of the map. -/
@[simp] theorem State.endClaim_unpassed : t.endClaim.unpassed x = t.unpassed x := by
  unfold State.endClaim
  split
  · rfl
  · exact State.onHold_unpassed _ x _ _ fun _ => rfl

@[simp] theorem State.notifyLineClosed_unpassed (l : Option BillLine) (c : ClosureCause) (o : Option Int) (r : Option Nat) :
    (t.notifyLineClosed l c o r).unpassed x = t.unpassed x := by
  cases l <;> rfl

@[simp] theorem State.withdrawPass_unpassed : t.withdrawPass.unpassed x = t.unpassed x := by
  simp [State.withdrawPass, State.lineClosedToTravel]

@[simp] theorem State.endRunout_unpassed (c : RunoutCause) : (t.endRunout c).unpassed x = t.unpassed x := by
  simp [State.endRunout, State.lineClosedToTravel]

@[simp] theorem State.enterRunout_unpassed (c : RunoutCause) : (t.enterRunout c).unpassed x = t.unpassed x := by
  unfold State.enterRunout State.runoutTest
  repeat' split
  all_goals simp

/-! ## Orders and suspension -/

@[simp] theorem State.reAim_unpassed (source : OrderSource) : (t.reAim source).unpassed x = t.unpassed x := by
  unfold State.reAim
  dsimp only
  repeat' split
  · rfl
  · exact State.placeOrder_unpassed (t.onPour _) x rfl
  · rfl

@[simp] theorem State.arrivalOpen_unpassed (source : OrderSource) : (t.arrivalOpen source).unpassed x = t.unpassed x := by
  unfold State.arrivalOpen
  split <;> simp

@[simp] theorem State.placeReturn_unpassed : t.placeReturn.unpassed x = t.unpassed x := by
  unfold State.placeReturn
  repeat' split
  · simp [State.placeOrder_unpassed _ x ‹_›]
  · simp [State.placeOrder_unpassed _ x ‹_›]
  · rfl
  · rfl

@[simp] theorem State.enterSuspended_unpassed : t.enterSuspended.unpassed x = t.unpassed x := by
  simp [State.enterSuspended]

@[simp] theorem State.reactAdd_unpassed : t.reactAdd.unpassed x = t.unpassed x := by
  unfold State.reactAdd
  split <;> simp

@[simp] theorem State.addCause_unpassed (c : SuspendCause) : (t.addCause c).unpassed x = t.unpassed x := by
  unfold State.addCause
  dsimp only
  repeat' split
  all_goals simp

@[simp] theorem State.failCause_unpassed (c : SuspendCause) : (t.failCause c).unpassed x = t.unpassed x := by
  unfold State.failCause
  dsimp only
  repeat' split
  all_goals simp

/-! ## Starting and positioning -/

@[simp] theorem State.gateWait_unpassed : t.gateWait.unpassed x = t.unpassed x := by
  unfold State.gateWait
  repeat' split
  all_goals simp

@[simp] theorem State.beltWait_unpassed : t.beltWait.unpassed x = t.unpassed x := by
  unfold State.beltWait
  dsimp only
  split <;> simp

@[simp] theorem State.reEnterStarting_unpassed : t.reEnterStarting.unpassed x = t.unpassed x := by
  unfold State.reEnterStarting
  dsimp only
  split <;> simp

@[simp] theorem State.removeCause_unpassed (c : SuspendCause) : (t.removeCause c).unpassed x = t.unpassed x := by
  unfold State.removeCause
  dsimp only
  repeat' split
  all_goals simp

@[simp] theorem State.mapTest_unpassed : t.mapTest.unpassed x = t.unpassed x := by
  unfold State.mapTest State.syncCause
  repeat' split
  all_goals simp

@[simp] theorem State.enterStarting_unpassed : t.enterStarting.unpassed x = t.unpassed x := by
  unfold State.enterStarting
  dsimp only
  repeat' split
  all_goals simp

@[simp] theorem State.arrivalPositioning_unpassed (source : OrderSource) :
    (t.arrivalPositioning source).unpassed x = t.unpassed x := by
  unfold State.arrivalPositioning
  split <;> simp

@[simp] theorem State.travelEvent_unpassed : t.travelEvent.unpassed x = t.unpassed x := by
  unfold State.travelEvent State.tellArrival
  repeat' split
  all_goals simp

@[simp] theorem State.positioningCases_unpassed : t.positioningCases.unpassed x = t.unpassed x := by
  unfold State.positioningCases
  dsimp only
  repeat' split
  · rfl
  · simp
  · simp [State.placeOrder_unpassed _ x ‹_›]
  · simp [State.placeOrder_unpassed _ x ‹_›]
  · rfl

/-! ## SHIFT VESSEL -/

@[simp] theorem State.shiftPour_unpassed : t.shiftPour.unpassed x = t.unpassed x := by
  unfold State.shiftPour
  dsimp only
  repeat' split
  all_goals simp

/-- An accepted SHIFT VESSEL writes the bow mark; what it does to travel and to the pour leaves the map but for the markers. -/
theorem State.shiftVessel_unpassed (bow : Nat) :
    (t.shiftVessel x bow).unpassed x = (t.onSession x (fun ses => { ses with bowMark := bow })).unpassed x := by
  unfold State.shiftVessel
  dsimp only
  split <;> simp

end Sys2Proof.Machine
end

section
/-! SUPPORT. A request answered DONE was neither in a wrong mode nor refused by a check (R3, R177). -/

namespace Sys2Proof.Machine

variable {s t : State}

theorem State.refuse_ne_done (r : Reason × Nat) (fields : List Byte) : (s.refuse r).port.mailbox ≠ doneReply fields := by
  simp [doneReply]

theorem State.whenMode_of_done {modes : List PartMode} {body : State} {fields : List Byte}
    (h : (s.whenMode modes body).port.mailbox = doneReply fields) : s.whenMode modes body = body := by
  unfold State.whenMode at h ⊢
  split at h
  · exact if_pos ‹_›
  · exact absurd h (s.refuse_ne_done _ _)

theorem State.judged_of_done {checks : List Check} {act : State} {fields : List Byte}
    (h : (s.judged checks act).port.mailbox = doneReply fields) : s.judged checks act = act := by
  unfold State.judged at h ⊢
  split at h
  · exact absurd h (s.refuse_ne_done _ _)
  · simp [*]

theorem exec_shiftVessel (s : State) : exec .shiftVessel s = execShiftVessel s := rfl

/-- The next state of a SHIFT VESSEL that is answered DONE. -/
theorem exec_shiftVessel_of_done {slot bow : Nat} {x : Slot} (hm : s.port.mailbox = .posted (.shiftVessel slot bow))
    (hx : Slot.ofCode? slot = some x) (ht : exec .shiftVessel s = .next t) (hd : t.port.mailbox = doneReply []) :
    t = ((s.shiftVessel x bow).done []).finish := by
  simp only [exec_shiftVessel, execShiftVessel, hm, Host.Outcome.next.injEq] at ht
  subst ht
  rw [State.finish_port] at hd
  have hj := State.whenMode_of_done hd
  rw [hj] at hd
  rw [hj, State.judged_of_done hd, slotOf_of hx]

end Sys2Proof.Machine
end

section
/-! The span of a session (R2). -/

namespace Sys2Proof.Machine

theorem inside_iff (i : Int × Int) (p : Int) : inside i p = true ↔ i.1 ≤ p ∧ p ≤ i.2 := by simp [inside]

theorem Session.span_of_bowUp {ses : Session} (h : ses.orientation = .bowUp) :
    ses.span = (ses.bowMark, ses.bowMark + ses.length) := by simp [Session.span, h]

theorem Session.span_of_bowDown {ses : Session} (h : ses.orientation = .bowDown) :
    ses.span = (ses.bowMark - ses.length, ses.bowMark) := by simp [Session.span, h]

/-- Spans overlap exactly when some position belongs to both: that they do not is `spansApart`. -/
theorem overlap_span_iff (a b : Session) :
    overlap a.span b.span = true ↔ ∃ p, inside a.span p = true ∧ inside b.span p = true := by
  have h := not_congr (spansApart_iff a b)
  simpa [spansApart] using h.symm

/-- After an accepted SHIFT VESSEL the slot's span is that of the session with the new bow mark. -/
theorem State.shiftVessel_span {s : State} {x : Slot} {ses : Session} (hs : s.session x = some ses) (bow : Nat) :
    ((s.shiftVessel x bow).session x).map Session.span = some ({ ses with bowMark := (bow : Int) } : Session).span := by
  rw [State.span_of_unpassed (s.shiftVessel_unpassed x bow), State.onSession_session, hs]
  rfl

/-- Settles O15: the span's ends by orientation, overlap from `spansApart_iff`, and the moved span from the map an accepted
SHIFT VESSEL leaves. -/
theorem spanIsClosedAndFollowsTheBowMark : Obligations.SpanIsClosedAndFollowsTheBowMark := by
  refine ⟨fun ses => ⟨fun h p => ?_, fun h p => ?_⟩, overlap_span_iff, ?_⟩
  · rw [Session.span_of_bowUp h, inside_iff]
  · rw [Session.span_of_bowDown h, inside_iff]
  · intro s t slot bow x ses hm hx hs ht hd
    obtain rfl := exec_shiftVessel_of_done hm hx ht hd
    have kept : (((s.shiftVessel x bow).done []).finish).unpassed x = (s.shiftVessel x bow).unpassed x := by simp
    rw [State.span_of_unpassed kept, State.shiftVessel_span hs]

end Sys2Proof.Machine
end

section
/-! SUPPORT. The nearest peer of a side (R75). The model compares two entries case by case; here its order is the order of one
key, so that the nearest entry is a least one. -/

namespace Sys2Proof.Machine

/-! ## The order of the entries -/

/-- A position as the side counts it, smaller nearer this station. -/
def outward (side : Side) (p : Int) : Int :=
  match side with
  | .up => -p
  | .down => p

/-- The second step of R75: the reported position counted outward, an absent report after every position. -/
def PeerEntry.place (side : Side) (e : PeerEntry) : WithTop Int := e.report.elim ⊤ fun r => outward side r.position

/-- R75's order as one key: distance, place, number. -/
def PeerEntry.rank (side : Side) (e : PeerEntry) : Nat ×ₗ WithTop Int ×ₗ Nat :=
  toLex (e.distance, toLex (e.place side, e.station))

section
variable {side : Side} {e f : PeerEntry}

theorem outward_le_iff {p q : Int} :
    outward side p ≤ outward side q ↔ (side = .up → q ≤ p) ∧ (side = .down → p ≤ q) := by
  cases side <;> simp [outward]

theorem PeerEntry.place_of_some {r : Report} (h : e.report = some r) : e.place side = outward side r.position := by
  simp [place, h]

theorem PeerEntry.place_eq_top_iff : e.place side = ⊤ ↔ e.report = none := by
  cases h : e.report <;> simp [place, h]

theorem PeerEntry.rank_lt_iff : e.rank side < f.rank side ↔ e.distance < f.distance
    ∨ e.distance = f.distance ∧ (e.place side < f.place side ∨ e.place side = f.place side ∧ e.station < f.station) := by
  simp only [rank, Prod.Lex.toLex_lt_toLex]

/-- The model's comparison is the strict order of the keys, so it is irreflexive, transitive and total. -/
theorem PeerEntry.before_iff_rank_lt : e.before side f = true ↔ e.rank side < f.rank side := by
  rw [rank_lt_iff]
  unfold before
  by_cases hd : e.distance = f.distance
  · cases he : e.report <;> cases hf : f.report
    case some.some r q =>
      rw [place_of_some he, place_of_some hf, WithTop.coe_lt_coe, WithTop.coe_inj]
      by_cases hp : r.position = q.position
      · simp [hd, hp]
      · cases side <;> simp [hd, hp, outward]
    all_goals simp [hd, place, he, hf]
  · simp [hd]

theorem PeerEntry.distance_le_of_rank_le (h : e.rank side ≤ f.rank side) : e.distance ≤ f.distance :=
  Prod.Lex.monotone_fst _ _ h

theorem PeerEntry.place_le_of_rank_le (h : e.rank side ≤ f.rank side) (hd : f.distance = e.distance) :
    e.place side ≤ f.place side := by
  obtain hlt | ⟨-, htail⟩ := Prod.Lex.toLex_le_toLex.mp h
  · exact absurd hlt (by simp [hd])
  · exact Prod.Lex.monotone_fst _ _ htail

theorem PeerEntry.station_le_of_rank_le (h : e.rank side ≤ f.rank side) (hd : f.distance = e.distance)
    (hp : f.place side = e.place side) : e.station ≤ f.station := by
  simpa [rank, Prod.Lex.toLex_le_toLex, hd, hp] using h

end

/-! ## The choice -/

section
variable {side : Side}

theorem nearestOf_cons_of_ne {e : PeerEntry} (h : e.side ≠ side) (rest : List PeerEntry) :
    nearestOf side (e :: rest) = nearestOf side rest := if_neg h

theorem nearestOf_cons_of_none {e : PeerEntry} {rest : List PeerEntry} (h : e.side = side) (hr : nearestOf side rest = none) :
    nearestOf side (e :: rest) = some e := by
  simp [nearestOf, h, hr]

/-- Of an entry of the side and the choice among the rest the one of lower rank, the entry where they are equal. -/
theorem nearestOf_cons_of_some {e f : PeerEntry} {rest : List PeerEntry} (h : e.side = side)
    (hr : nearestOf side rest = some f) :
    nearestOf side (e :: rest) = if f.rank side < e.rank side then some f else some e := by
  simp [nearestOf, h, hr, PeerEntry.before_iff_rank_lt]

theorem nearestOf_eq_none_iff {l : List PeerEntry} : nearestOf side l = none ↔ ∀ e ∈ l, e.side ≠ side := by
  induction l with
  | nil => simp [nearestOf]
  | cons e rest ih =>
    by_cases he : e.side = side
    · cases hr : nearestOf side rest with
      | none => simp [nearestOf_cons_of_none he hr, he]
      | some f => rw [nearestOf_cons_of_some he hr]; split <;> simp [he]
    · simp [nearestOf_cons_of_ne he, ih, he]

/-- `n` is an entry of the side in `l`, and none of them has a lower rank. -/
structure RanksFirst (side : Side) (l : List PeerEntry) (n : PeerEntry) : Prop where
  mem : n ∈ l
  side_eq : n.side = side
  rank_le : ∀ e ∈ l, e.side = side → n.rank side ≤ e.rank side

theorem nearestOf_ranksFirst {l : List PeerEntry} {n : PeerEntry} (h : nearestOf side l = some n) : RanksFirst side l n := by
  induction l generalizing n with
  | nil => cases h
  | cons e rest ih =>
    by_cases he : e.side = side
    · cases hr : nearestOf side rest with
      | none =>
        obtain rfl : e = n := by simpa [nearestOf_cons_of_none he hr] using h
        have hrest := nearestOf_eq_none_iff.mp hr
        exact ⟨by simp, he, by simpa using fun f hf hs => absurd hs (hrest f hf)⟩
      | some f =>
        obtain ⟨hmem, hside, hle⟩ := ih hr
        rw [nearestOf_cons_of_some he hr] at h
        split at h
        next hlt =>
          obtain rfl : f = n := by simpa using h
          exact ⟨by simp [hmem], hside, List.forall_mem_cons.mpr ⟨fun _ => hlt.le, hle⟩⟩
        next hnot =>
          obtain rfl : e = n := by simpa using h
          have hef : e.rank side ≤ f.rank side := not_lt.mp hnot
          exact ⟨by simp, he, List.forall_mem_cons.mpr ⟨fun _ => le_rfl, fun g hg hs => hef.trans (hle g hg hs)⟩⟩
    · rw [nearestOf_cons_of_ne he] at h
      obtain ⟨hmem, hside, hle⟩ := ih h
      exact ⟨by simp [hmem], hside, List.forall_mem_cons.mpr ⟨fun hs => absurd hs he, hle⟩⟩

/-- A change of the entries that leaves each one's side and rank as it was does not move the choice. -/
theorem nearestOf_map {f : PeerEntry → PeerEntry} (hside : ∀ e, (f e).side = e.side)
    (hrank : ∀ e, (f e).rank side = e.rank side) (l : List PeerEntry) :
    nearestOf side (l.map f) = (nearestOf side l).map f := by
  induction l with
  | nil => rfl
  | cons e rest ih =>
    by_cases he : e.side = side
    · have hfe : (f e).side = side := (hside e).trans he
      cases hr : nearestOf side rest with
      | none =>
        rw [hr] at ih
        rw [List.map_cons, nearestOf_cons_of_none he hr, nearestOf_cons_of_none hfe ih, Option.map_some]
      | some m =>
        rw [hr] at ih
        rw [List.map_cons, nearestOf_cons_of_some he hr, nearestOf_cons_of_some hfe ih, hrank, hrank]
        split <;> rfl
    · rw [List.map_cons, nearestOf_cons_of_ne he, nearestOf_cons_of_ne (by rwa [hside]), ih]

end

/-- Freshness takes no part in the choice. -/
theorem State.nearest_of_freshness (s : State) (side : Side) (g : PeerEntry → Freshness) :
    ({ s with peers := s.peers.map (fun e => { e with freshness := g e }) } : State).nearest side
      = (s.nearest side).map fun e => { e with freshness := g e } :=
  nearestOf_map (f := fun e => { e with freshness := g e }) (fun _ => rfl) (fun _ => rfl) s.peers

/-- Settles O34: the nearest entry has the least rank, and each clause reads one component of the rank. -/
theorem nearestPeerRanksFirst : Obligations.NearestPeerRanksFirst := by
  refine fun s side => ⟨nearestOf_eq_none_iff, fun n hn => ?_⟩
  obtain ⟨hmem, hside, hle⟩ := nearestOf_ranksFirst hn
  refine ⟨hmem, hside, fun e he hes => ?_⟩
  have hrank := hle e he hes
  refine ⟨PeerEntry.distance_le_of_rank_le hrank, fun hd hnone => ?_, fun hd hnone henone => ?_, fun q r hd hq hr => ?_,
    fun g => ?_⟩
  · have hplace := PeerEntry.place_le_of_rank_le hrank hd
    rw [PeerEntry.place_eq_top_iff.mpr hnone, top_le_iff] at hplace
    exact PeerEntry.place_eq_top_iff.mp hplace
  · exact PeerEntry.station_le_of_rank_le hrank hd <|
      (PeerEntry.place_eq_top_iff.mpr henone).trans (PeerEntry.place_eq_top_iff.mpr hnone).symm
  · have hplace := PeerEntry.place_le_of_rank_le hrank hd
    rw [PeerEntry.place_of_some hq, PeerEntry.place_of_some hr, WithTop.coe_le_coe, outward_le_iff] at hplace
    obtain ⟨hup, hdown⟩ := hplace
    refine ⟨hup, hdown, fun hp => PeerEntry.station_le_of_rank_le hrank hd ?_⟩
    rw [PeerEntry.place_of_some hq, PeerEntry.place_of_some hr, hp]
  · rw [State.nearest_of_freshness, hn]
    rfl

end Sys2Proof.Machine
end

section
/-! The allowance at the end of a run-out (R140 step 5, R143). The steps before the adaptation hand it the allowance, the pass
suspended flag and the block as the run-out found them, and the steps after it leave the pour record alone. -/

namespace Sys2Proof.Machine

variable {s t : State}

/-! ## The adaptation -/

theorem clampTo_eq_max_min {i : Int × Int} (h : i.1 ≤ i.2) (x : Int) : clampTo i x = max i.1 (min i.2 x) := by
  unfold clampTo
  split
  · omega
  · split <;> omega

theorem adaptAllowance_eq (a ceiling : Nat) (o : Int) :
    adaptAllowance a ceiling o = (max 0 (min (ceiling : Int) (a + o.tdiv 2))).toNat :=
  congrArg Int.toNat (clampTo_eq_max_min (Int.natCast_nonneg ceiling) _)

theorem State.overshoot_of_claim {c : OwnClaim} (h : s.fill.claim = some c) :
    s.overshoot = some (((s.holdTotal c.slot c.hold / 1000 : Nat) : Int) - (c.target : Int)) := by
  simp [State.overshoot, h]

theorem State.overshoot_of_no_claim (h : s.fill.claim = none) : s.overshoot = none := by
  simp [State.overshoot, h]

theorem State.adapt_target_allowance (t : State) (o : Int) :
    (t.adapt .target (some o)).pour.allowance =
      if t.pour.passSuspended then t.pour.allowance
      else t.pour.allowance.map (adaptAllowance · t.block.ceiling o) := by
  simp only [State.adapt]
  split <;> rfl

@[simp] theorem State.adapt_none (t : State) (cause : RunoutCause) : t.adapt cause none = t := by
  cases cause <;> rfl

/-- The adaptation reads these three values of the state and no other. -/
theorem State.adapt_allowance_congr (ha : t.pour.allowance = s.pour.allowance)
    (hp : t.pour.passSuspended = s.pour.passSuspended) (hb : t.block = s.block) (cause : RunoutCause) (o : Option Int) :
    (t.adapt cause o).pour.allowance = (s.adapt cause o).pour.allowance := by
  cases o with
  | none => simpa using ha
  | some o =>
    cases cause with
    | target => rw [State.adapt_target_allowance, State.adapt_target_allowance, ha, hp, hb]
    | stopped | yielded => exact ha

/-! ## The other steps of R140 -/

@[simp] theorem State.setPour_block (t : State) (x : PourState) : (t.setPour x).block = t.block := by
  unfold State.setPour
  split <;> rfl

@[simp] theorem State.setPour_pour (t : State) (x : PourState) : (t.setPour x).pour = { t.pour with state := x } := by
  unfold State.setPour
  split <;> rfl

@[simp] theorem State.setBelt_block (t : State) (on : Bool) : (t.setBelt on).block = t.block := rfl

@[simp] theorem State.setBelt_off_pour (t : State) :
    (t.setBelt false).pour = { t.pour with beltOn := false, watch := .off, beltStartTimer := none } := rfl

@[simp] theorem State.lineClosedToTravel_pour (t : State) : t.lineClosedToTravel.pour = t.pour :=
  (State.TravelOnly.refl t).rangeEvent.pour

@[simp] theorem State.lineClosedToTravel_block (t : State) : t.lineClosedToTravel.block = t.block := by
  simp only [State.lineClosedToTravel, State.block, (State.TravelOnly.refl t).rangeEvent.cfg]

@[simp] theorem State.endClaim_pour (t : State) : t.endClaim.pour = t.pour := by
  unfold State.endClaim
  split <;> simp

@[simp] theorem State.notifyLineClosed_pour (t : State) (line : Option BillLine) (cause : ClosureCause) (o : Option Int)
    (residue : Option Nat) : (t.notifyLineClosed line cause o residue).pour = t.pour := by
  cases line <;> rfl

/-! ## The end of a run-out -/

/-- The allowance after a run-out is what step 5 makes of the one before it: no other step of R140 touches it. -/
theorem State.endRunout_allowance (s : State) (cause : RunoutCause) :
    (s.endRunout cause).pour.allowance
      = (s.adapt cause (if cause = .target then s.overshoot else none)).pour.allowance := by
  simp only [State.endRunout, State.notifyLineClosed_pour, State.endClaim_pour]
  exact State.adapt_allowance_congr (by simp) (by simp) (by simp) cause _

/-- Settles O47: by the cause, and at TARGET by whether there is a claim to measure an overshoot against and whether the pass was
suspended. -/
theorem allowanceAdaptsByHalfTheOvershoot : Obligations.AllowanceAdaptsByHalfTheOvershoot := by
  intro s cause a ha
  rw [State.endRunout_allowance]
  cases cause with
  | stopped | yielded => exact ha
  | target =>
    rw [if_pos rfl]
    cases hc : s.fill.claim with
    | none => rw [State.overshoot_of_no_claim hc, State.adapt_none, ha]
    | some c =>
      rw [State.overshoot_of_claim hc, State.adapt_target_allowance, ha]
      simp only [Option.map_some, adaptAllowance_eq]

end Sys2Proof.Machine
end

section
/-! The dust channel at an accepted sample (R149, R150): the update writes the figures, and the classification then writes the state
and the acknowledge flag and nothing else. -/

namespace Sys2Proof.Machine

variable (r : DustChannel) (t : Thresholds) (v : Nat)

/-! ## The update (R149) -/

theorem pushHistory_eq (history : List Nat) :
    pushHistory v history = if history.length < 32 then history ++ [v] else history.tail ++ [v] := by
  cases history with
  | nil => rfl
  | cons x rest => rfl

theorem DustChannel.sample_of_accepted {r : DustChannel} (h : r.state ≠ .failed) :
    r.sample t v false = (r.update t (min v 4095)).classify := by
  simp [DustChannel.sample, h, Config.dustMax]

@[simp] theorem DustChannel.update_state : (r.update t v).state = r.state := rfl

@[simp] theorem DustChannel.update_acknowledged : (r.update t v).acknowledged = r.acknowledged := rfl

@[simp] theorem DustChannel.update_last : (r.update t v).last = some v := rfl

theorem DustChannel.update_history : (r.update t v).history = pushHistory v r.history := rfl

theorem DustChannel.update_clearCount :
    (r.update t v).clearCount = ((r.update t v).history.filter (fun x => t.clear < x)).length := rfl

theorem DustChannel.update_raiseRun :
    (r.update t v).raiseRun = if t.raise < v then min (r.raiseRun + 1) 255 else 0 := by
  simp [DustChannel.update, runAfter, Config.runMax]

theorem DustChannel.update_tripRun :
    (r.update t v).tripRun = if t.trip < v then min (r.tripRun + 1) 255 else 0 := by
  simp [DustChannel.update, runAfter, Config.runMax]

/-! ## The classification (R150) -/

/-- The frame of the classification: no other field is written. -/
theorem DustChannel.classify_eq :
    r.classify = { r with state := r.classify.state, acknowledged := r.classify.acknowledged } := by
  unfold DustChannel.classify DustChannel.trip
  repeat' split
  all_goals rfl

@[simp] theorem DustChannel.classify_history : r.classify.history = r.history := by rw [DustChannel.classify_eq]

@[simp] theorem DustChannel.classify_last : r.classify.last = r.last := by rw [DustChannel.classify_eq]

@[simp] theorem DustChannel.classify_clearCount : r.classify.clearCount = r.clearCount := by rw [DustChannel.classify_eq]

@[simp] theorem DustChannel.classify_raiseRun : r.classify.raiseRun = r.raiseRun := by rw [DustChannel.classify_eq]

@[simp] theorem DustChannel.classify_tripRun : r.classify.tripRun = r.tripRun := by rw [DustChannel.classify_eq]

section
variable {r : DustChannel}

theorem DustChannel.clearCriterion_iff : r.clearCriterion = true ↔ r.clearCount < 4 :=
  decide_eq_true_iff

/-- The trip condition, tested first in every state but FAILED. -/
theorem DustChannel.classify_of_tripCondition (hf : r.state ≠ .failed) (ht : 2 ≤ r.tripRun) :
    (r.classify.state, r.classify.acknowledged) = (.trip, if r.state = .trip then r.acknowledged else false) := by
  cases hs : r.state with
  | clear | watch | alarm | trip | held => simp [DustChannel.classify, DustChannel.trip, hs, ht]
  | failed => exact absurd hs hf

theorem DustChannel.classify_of_clear_or_watch (hs : r.state = .clear ∨ r.state = .watch) (ht : ¬ 2 ≤ r.tripRun) :
    r.classify = { r with state := if 4 ≤ r.raiseRun then .alarm else if 1 ≤ r.raiseRun then .watch else .clear } := by
  rcases hs with hs | hs <;> simp only [DustChannel.classify, hs, if_neg ht]

theorem DustChannel.classify_of_alarm (hs : r.state = .alarm) (ht : ¬ 2 ≤ r.tripRun) :
    r.classify = { r with state := if r.clearCount < 4 then .clear else .alarm } := by
  simp only [DustChannel.classify, hs, if_neg ht, DustChannel.clearCriterion_iff]
  split
  · rfl
  · rw [← hs]

/-- The latch: it ends by the clear criterion, at once where the acknowledgement came before. -/
theorem DustChannel.classify_of_trip (hs : r.state = .trip) (ht : ¬ 2 ≤ r.tripRun) :
    (r.classify.state, r.classify.acknowledged) =
      if r.clearCount < 4 then (if r.acknowledged then (.clear, false) else (.held, false)) else (.trip, r.acknowledged) := by
  simp only [DustChannel.classify, hs, if_neg ht, DustChannel.clearCriterion_iff]
  split
  · cases r.acknowledged <;> rfl
  · rw [hs]

theorem DustChannel.classify_of_held (hs : r.state = .held) (ht : ¬ 2 ≤ r.tripRun) : r.classify = r := by
  simp only [DustChannel.classify, hs, if_neg ht]

end

/-- Settles O25: the figures are those of the update, which the classification leaves; the class is by the trip condition, and where
that does not hold, by the state before. -/
theorem dustSampleIsClassified : Obligations.DustSampleIsClassified := by
  intro r th v hf _
  refine ⟨_, rfl, ?_⟩
  rw [DustChannel.sample_of_accepted th v hf]
  generalize min v 4095 = w
  simp only [DustChannel.classify_history, DustChannel.classify_last, DustChannel.classify_clearCount,
    DustChannel.classify_raiseRun, DustChannel.classify_tripRun]
  refine ⟨pushHistory_eq w r.history, rfl, r.update_clearCount th w, r.update_raiseRun th w, r.update_tripRun th w, ?_⟩
  have hs := r.update_state th w
  have ha := r.update_acknowledged th w
  generalize r.update th w = u at hs ha ⊢
  rw [← hs] at hf
  rw [← hs, ← ha]
  split
  case isTrue ht => exact DustChannel.classify_of_tripCondition hf ht
  case isFalse ht =>
    cases h : u.state with
    | clear => rw [DustChannel.classify_of_clear_or_watch (.inl h) ht]
    | watch => rw [DustChannel.classify_of_clear_or_watch (.inr h) ht]
    | alarm => rw [DustChannel.classify_of_alarm h ht]
    | trip => exact DustChannel.classify_of_trip h ht
    | held => rw [DustChannel.classify_of_held h ht, h]
    | failed => exact absurd h hf

end Sys2Proof.Machine
end

section
/-! SUPPORT. What a command can do, said once: the state that each command's effect leaves before the end of the command (R52), as one
inductive relation; and the induction that carries an invariant of every command to every step. -/

namespace Sys2Proof.Machine

/-! ## The effects that the commands do not name -/

/-- The state at the moment at which the expiry of a timer that ends at `d` is taken (assumption 2). -/
def State.upTo (s : State) (d : Nat) : State := { s with count := max s.count d }

/-- What the load stale timer does (R23). -/
def State.loadStales (s : State) : State :=
  let u := s.onScale (fun c => { c with staleTimer := none })
  if u.scale.status = .ok ∨ u.scale.status = .overrange then u.setLoadStatus .stale else u

/-- What the load fault timer does (R23). -/
def State.loadFaults (s : State) : State :=
  let u := s.onScale (fun c => { c with faultTimer := none })
  if u.scale.status = .stale then u.setLoadStatus .fault else u

/-- What the release timer does (R89). -/
def State.releaseEnds (s : State) : State :=
  let u := s.onTravel (fun v => { v with releaseTimer := none })
  if u.travel.state = .releasing ∧ u.inputs.brakeReleased then u.enterMoving else u

/-- What the brake fail timer does (R89). -/
def State.brakeFailEnds (s : State) : State :=
  let u := s.onTravel (fun v => { v with brakeFailTimer := none })
  if u.travel.state = .releasing then u.faultTravel .brake else u

/-- What the positioning timer does (R126). -/
def State.positioningEnds (s : State) : State :=
  if s.pour.state = .positioning then s.withdrawClaim .positionTimeout
  else s.onPour (fun p => { p with positioningTimer := none })

/-- What the belt start timer does (R131). -/
def State.beltStartEnds (s : State) : State :=
  if s.pour.watch = .waiting then s.beltFails else s.onPour (fun p => { p with beltStartTimer := none })

/-- What the belt retry timer does (R136). -/
def State.beltRetryEnds (s : State) : State := (s.onPour (fun p => { p with beltRetryTimer := none })).removeCause .belt

/-! ## The effect of a command -/

/-- What a command other than POWER ON RESET can make of a state before its end: nothing, the refusal of a request, or its own effect
under the conditions that its checks leave. -/
inductive State.Acts (s : State) : Instr → State → Prop
  | nothing (c : Instr) : s.Acts c s
  | refused (c : Instr) (r : Reason × Nat) : s.Acts c (s.refuse r)
  | post (phase : SpiPhase) (record : List Byte) : s.Acts (.post phase record) (s.transact (.post record) phase)
  | withdraw (phase : SpiPhase) : s.Acts (.withdraw phase) (s.transact .withdraw phase)
  | fetchReply (phase : SpiPhase) : s.Acts (.fetchReply phase) (s.transact .fetchReply phase)
  | fetchNotice (phase : SpiPhase) : s.Acts (.fetchNotice phase) (s.transact .fetchNotice phase)
  | portState : s.Acts .portState (s.onPort (fun p => let q := p.release s.count; { q with spiOut := 0x00 :: q.record }))
  | unknownTransaction (b : Byte) :
      s.Acts (.unknownTransaction b) (s.onPort (fun p => { p.release s.count with spiOut := [0x0F] }))
  | startBlock (f : StartFields) : s.port.mode = .config → firstFailure f.checks = none →
      s.Acts .startBlock (((s.startBlocks f.block).openLineUnit.recompute.issueStatus).done [])
  | restart : s.Acts .restart (s.reply .restarted [[]])
  | setMasks (m2 m3 m4 trigger : Nat) : s.Acts .setMasks ((s.setMasks m2 m3 m4 trigger).done [])
  | bypassOn : firstFailure s.bypassChecks = none →
      s.Acts .bypassOn (((s.onPort (fun p => { p with mode := .bypass })).bypassLine).done [])
  | bypassOff : s.port.mode = .bypass →
      s.Acts .bypassOff (((s.onPort (fun p => { p with mode := .run })).reopenLine.travelEvent.issueStatus).done [])
  | openSession (f : SessionFields) (n : Nat) : firstFailure (s.openChecks f) = none → firstFree 1 s.bills.records = some n →
      s.Acts .openSession ((s.openSession f n).mapTest.done (uField 1 n))
  | holdEntry (f : HoldFields) : s.Acts .holdEntry ((s.onHold (slotOf f.slot) f.hold (fun d => d.entered f)).mapTest.done [])
  | setHatch (slot hold state : Nat) :
      s.Acts .setHatch ((s.onHold (slotOf slot) hold (fun d => { d with hatchOpen := state == 1 })).mapTest.done [])
  | permit (slot hold : Nat) :
      s.Acts .permit ((s.onHold (slotOf slot) hold (fun d => { d with token := true })).mapTest.done [])
  | shiftVessel (slot bow : Nat) : s.Acts .shiftVessel ((s.shiftVessel (slotOf slot) bow).done [])
  | setDraftLimit (slot limit : Nat) : s.Acts .setDraftLimit ((s.setDraftLimit (slotOf slot) limit).mapTest.done [])
  | closeSession (slot : Nat) (ses : Session) : s.claimOnSlot (slotOf slot) = false → s.session (slotOf slot) = some ses →
      s.Acts .closeSession ((s.closeSession (slotOf slot) ses).mapTest.done (uField 1 ses.bill))
  | move (target : Nat) : firstFailure (s.moveChecks target) = none →
      s.Acts .move ((State.tellArrival (s.placeOrder target .host)).done [])
  | stopTravel : s.Acts .stopTravel (s.stopTravel.stopPour.done [])
  | faultClear : firstFailure s.clearChecks = none → s.Acts .faultClear (s.clearFault.done [])
  | pour (slot hold override h : Nat) (p : Proposal) : s.judgePour slot hold override = .ok (h, p) →
      s.Acts .pour ((s.enterClaim (p.claim (slotOf slot) h override)).done (p.claim (slotOf slot) h override).fields)
  | endPour : s.pour.state ≠ .idle → s.Acts .endPour (s.stopPour.done [])
  | zeroScale : firstFailure s.zeroChecks = none → s.Acts .zeroScale (s.startZeroRun.done [])
  | dustAcknowledge (n : Nat) (r : DustChannel) : (s.dust.channel (channelOf n)).acknowledge = some r →
      s.Acts .dustAcknowledge ((s.applyChannel (channelOf n) r).done [])
  | discardBill (n : Nat) (b : Bill) : s.bills.sealed? n = some b →
      s.Acts .discardBill ((s.onBills (fun bs => bs.discard n b)).done (uField 1 b.lines.length))
  | read (c : Instr) (pages : List (List Byte)) : s.Acts c (s.reply .done pages)
  | readHolds (slot : Nat) (pages : List (List Byte)) : s.Acts .readHolds ((s.clearTouched (slotOf slot)).reply .done pages)
  | loadSample (raw : BitVec 16) : s.configured = true → s.Acts (.loadSample raw) (s.takeLoad raw.toNat)
  | beltPulse : s.configured = true → s.Acts .beltPulse s.pulse
  | positionSample (v : BitVec 20) : s.configured = true →
      s.Acts (.positionSample v) ((s.onTravel (fun t => { t with encoderTimer := s.timer Config.encoderMs })).judgeSample v.toNat)
  | dustSample (c : Channel) (v : BitVec 16) (fault : Bool) : s.configured = true →
      s.Acts (.dustSample c v fault) (s.takeDust c v.toNat fault)
  | brakeLevel (active : Bool) : s.Acts (.brakeReleasedChange active) { s with inputs := { s.inputs with brakeReleased := active } }
  | brakeReleasedChange (active : Bool) : s.configured = true →
      s.Acts (.brakeReleasedChange active) (({ s with inputs := { s.inputs with brakeReleased := active } } : State).brakeInput active)
  | gateOpenLimit : s.pour.gate = .opening → s.Acts .gateOpenLimit s.gateOpened
  | gateClosedLimit : s.Acts .gateClosedLimit s.gateShut
  | beltLevel (active : Bool) : s.Acts (.beltRunningChange active) { s with inputs := { s.inputs with beltRunning := active } }
  | beltRunningChange (active : Bool) : s.configured = true →
      s.Acts (.beltRunningChange active) (({ s with inputs := { s.inputs with beltRunning := active } } : State).beltInput active)
  | frame (c : Instr) (p : Side) (bytes : List Byte) : frameOf c = some (p, bytes) → s.Acts c (s.frameArrives p bytes)
  | notValidFrame (p : Side) : s.inRun = true → s.Acts (.notValidFrame p) (s.dropInvalid p)
  | frameSent (p : Side) : s.Acts (.frameSent p) (s.frameSent p)
  | loadStale (d : Nat) : s.scale.staleTimer = some d → s.Acts .loadStaleTimerExpiry (s.upTo d).loadStales
  | loadFault (d : Nat) : s.scale.faultTimer = some d → s.Acts .loadFaultTimerExpiry (s.upTo d).loadFaults
  | still (d : Nat) : s.scale.stillTimer = some d →
      s.Acts .stillTimerExpiry (((s.upTo d).onScale (fun c => { c with stillTimer := none })).failZeroRun .noBelt none)
  | silence (p : Side) (d : Nat) : (s.line.port p).silenceTimer = some d →
      s.Acts (.silenceTimerExpiry p) ((s.upTo d).losePort p)
  | brk (p : Side) (d : Nat) : (s.line.port p).breakTimer = some d → s.Acts (.breakTimerExpiry p) ((s.upTo d).reissueBreak p)
  | status (d : Nat) : s.line.statusTimer = some d → s.Acts .statusTimerExpiry (s.upTo d).statusExpiry
  | spacing (d : Nat) : s.line.spacingTimer = some d → s.Acts .spacingTimerExpiry (s.upTo d).spacingExpiry
  | peerStale (n : Nat) (e : PeerEntry) (d : Nat) : s.entry n = some e → e.staleTimer = some d →
      s.Acts (.peerStaleTimerExpiry n) ((s.upTo d).staleExpiry e)
  | encoder (d : Nat) : s.travel.encoderTimer = some d → s.Acts .encoderTimerExpiry (s.upTo d).encoderExpiry
  | release (d : Nat) : s.travel.releaseTimer = some d → s.Acts .releaseTimerExpiry (s.upTo d).releaseEnds
  | brakeFail (d : Nat) : s.travel.brakeFailTimer = some d → s.Acts .brakeFailTimerExpiry (s.upTo d).brakeFailEnds
  | settle (d : Nat) : s.travel.settleTimer = some d → s.Acts .settleTimerExpiry (s.upTo d).settleExpiry
  | claimWindow (d : Nat) : s.fill.claimTimer = some d → s.Acts .claimWindowExpiry (s.upTo d).decideClaim
  | positioning (d : Nat) : s.pour.positioningTimer = some d → s.Acts .positioningTimerExpiry (s.upTo d).positioningEnds
  | beltStart (d : Nat) : s.pour.beltStartTimer = some d → s.Acts .beltStartTimerExpiry (s.upTo d).beltStartEnds
  | beltRetry (d : Nat) : s.pour.beltRetryTimer = some d → s.Acts .beltRetryTimerExpiry (s.upTo d).beltRetryEnds
  | gate (d : Nat) : s.pour.gateTimer = some d → s.Acts .gateTimerExpiry (s.upTo d).gateExpiry
  | dustSilent (c : Channel) (d : Nat) : (s.dust.channel c).timer = some d →
      s.Acts (.dustSampleTimerExpiry c) ((s.upTo d).applyChannel c ((s.upTo d).dust.channel c).silent)
  | age (d : Nat) : s.port.ageTimer = some d →
      s.Acts .ageTimerExpiry ((s.upTo d).onPort (fun p => { p with ageTimer := none, ageCause := true }))

/-! ## How a command ends -/

variable {s t u : State} {c : Instr}

/-- How an effect ends its command: with the STATUS of its changes issued or noted (R52), or, where no request was
there to take, as it stands. -/
def State.Ends (s u t : State) : Prop := t = u.finish ∨ (u = s ∧ t = s)

theorem State.whenMode_cases (modes : List PartMode) (body : State) :
    (s.port.mode ∈ modes ∧ s.whenMode modes body = body) ∨ s.whenMode modes body = s.refuse (.wrongMode, 0) := by
  unfold State.whenMode
  split
  · exact .inl ⟨List.contains_iff_mem.1 ‹_›, rfl⟩
  · exact .inr rfl

theorem State.judged_cases (checks : List Check) (act : State) :
    (firstFailure checks = none ∧ s.judged checks act = act) ∨ ∃ r, s.judged checks act = s.refuse r := by
  unfold State.judged
  split
  · exact .inr ⟨_, rfl⟩
  · exact .inl ⟨‹_›, rfl⟩

/-- An allowed request acts or is refused. -/
theorem State.Acts.whenMode {modes : List PartMode} {body : State} (h : s.port.mode ∈ modes → s.Acts c body) :
    s.Acts c (s.whenMode modes body) := by
  rcases s.whenMode_cases modes body with ⟨hm, he⟩ | he <;> rw [he]
  · exact h hm
  · exact .refused c _

theorem State.Acts.judged {checks : List Check} {act : State} (h : firstFailure checks = none → s.Acts c act) :
    s.Acts c (s.judged checks act) := by
  rcases s.judged_cases checks act with ⟨hc, he⟩ | ⟨r, he⟩ <;> rw [he]
  · exact h hc
  · exact .refused c _

theorem State.Acts.expire {timer : Timer} {act : State → State} (h : ∀ d, timer = some d → s.Acts c (act (s.upTo d))) :
    s.Acts c (s.expire timer act) := by
  unfold State.expire
  cases timer with
  | none => exact .nothing c
  | some d => exact h d rfl

theorem State.Acts.ite {p : Prop} [Decidable p] {a b : State} (ha : p → s.Acts c a) (hb : s.Acts c b) :
    s.Acts c (if p then a else b) := by
  split
  · exact ha ‹_›
  · exact hb

/-- What is known of every command but POWER ON RESET: it answers a next state, which its effect and its end give. -/
def State.Completes (s : State) (c : Instr) (o : Host.Outcome State Fault Refusal) : Prop :=
  ∃ u t, o = .next t ∧ s.Acts c u ∧ s.Ends u t

theorem State.Acts.completes (h : s.Acts c u) : s.Completes c (.next u.finish) := ⟨u, _, rfl, h, .inl rfl⟩

theorem State.completes_nothing : s.Completes c (.next s) := ⟨s, s, rfl, .nothing c, .inr ⟨rfl, rfl⟩⟩

/-! ## The requests -/

theorem execStartBlock_completes : s.Completes .startBlock (execStartBlock s) := by
  unfold execStartBlock
  split
  · refine State.Acts.completes (.whenMode fun hm => ?_)
    split
    · exact .refused _ _
    · exact .startBlock _ (List.mem_singleton.1 hm) ‹_›
  · exact s.completes_nothing

theorem execRestart_completes : s.Completes .restart (execRestart s) := by
  unfold execRestart
  split
  · exact State.Acts.completes (.whenMode fun _ => .restart)
  · exact s.completes_nothing

theorem execSetMasks_completes : s.Completes .setMasks (execSetMasks s) := by
  unfold execSetMasks
  split
  · exact State.Acts.completes (.whenMode fun _ => by
      split
      · exact .refused _ _
      · exact .setMasks _ _ _ _)
  · exact s.completes_nothing

theorem execBypassOn_completes : s.Completes .bypassOn (execBypassOn s) := by
  unfold execBypassOn
  split
  · exact State.Acts.completes (.whenMode fun _ => by
      split
      · exact .refused _ _
      · exact .bypassOn ‹_›)
  · exact s.completes_nothing

theorem execBypassOff_completes : s.Completes .bypassOff (execBypassOff s) := by
  unfold execBypassOff
  split
  · exact State.Acts.completes (.whenMode fun hm => .bypassOff (by simpa using hm))
  · exact s.completes_nothing

theorem execOpenSession_completes : s.Completes .openSession (execOpenSession s) := by
  unfold execOpenSession
  split
  · refine State.Acts.completes (.whenMode fun _ => ?_)
    unfold State.takeOpenSession
    split
    · exact .refused _ _
    · exact .refused _ _
    · exact .openSession _ _ ‹_› ‹_›
  · exact s.completes_nothing

theorem execHoldEntry_completes : s.Completes .holdEntry (execHoldEntry s) := by
  unfold execHoldEntry
  split
  · exact State.Acts.completes (.whenMode fun _ => .judged fun _ => .holdEntry _)
  · exact s.completes_nothing

theorem execSetHatch_completes : s.Completes .setHatch (execSetHatch s) := by
  unfold execSetHatch
  split
  · exact State.Acts.completes (.whenMode fun _ => .judged fun _ => .setHatch _ _ _)
  · exact s.completes_nothing

theorem execPermit_completes : s.Completes .permit (execPermit s) := by
  unfold execPermit
  split
  · exact State.Acts.completes (.whenMode fun _ => .judged fun _ => .permit _ _)
  · exact s.completes_nothing

theorem execShiftVessel_completes : s.Completes .shiftVessel (execShiftVessel s) := by
  unfold execShiftVessel
  split
  · exact State.Acts.completes (.whenMode fun _ => .judged fun _ => .shiftVessel _ _)
  · exact s.completes_nothing

theorem execSetDraftLimit_completes : s.Completes .setDraftLimit (execSetDraftLimit s) := by
  unfold execSetDraftLimit
  split
  · exact State.Acts.completes (.whenMode fun _ => .judged fun _ => .setDraftLimit _ _)
  · exact s.completes_nothing

theorem execCloseSession_completes : s.Completes .closeSession (execCloseSession s) := by
  unfold execCloseSession
  split
  · rename_i slot _
    refine State.Acts.completes (.whenMode fun _ => ?_)
    unfold State.takeCloseSession
    split
    · exact .refused _ _
    · exact .refused _ _
    · rename_i ses hf hs
      refine .closeSession slot ses ?_ hs
      cases hc : s.claimOnSlot (slotOf slot) with
      | false => rfl
      | true =>
        rw [firstFailure_append, hc] at hf
        simp [firstFailure, orElse] at hf
  · exact s.completes_nothing

theorem execMove_completes : s.Completes .move (execMove s) := by
  unfold execMove
  split
  · exact State.Acts.completes (.whenMode fun _ => .judged fun hf => .move _ hf)
  · exact s.completes_nothing

theorem execStopTravel_completes : s.Completes .stopTravel (execStopTravel s) := by
  unfold execStopTravel
  split
  · exact State.Acts.completes (.whenMode fun _ => .stopTravel)
  · exact s.completes_nothing

theorem execFaultClear_completes : s.Completes .faultClear (execFaultClear s) := by
  unfold execFaultClear
  split
  · exact State.Acts.completes (.whenMode fun _ => .judged .faultClear)
  · exact s.completes_nothing

theorem execPour_completes : s.Completes .pour (execPour s) := by
  unfold execPour
  split
  · refine State.Acts.completes (.whenMode fun _ => ?_)
    unfold State.takePour
    split
    · exact .refused _ _
    · exact .pour _ _ _ _ _ ‹_›
  · exact s.completes_nothing

theorem execEndPour_completes : s.Completes .endPour (execEndPour s) := by
  unfold execEndPour
  split
  · refine State.Acts.completes (.whenMode fun _ => ?_)
    split
    · exact .refused _ _
    · exact .endPour ‹_›
  · exact s.completes_nothing

theorem execZeroScale_completes : s.Completes .zeroScale (execZeroScale s) := by
  unfold execZeroScale
  split
  · exact State.Acts.completes (.whenMode fun _ => .judged .zeroScale)
  · exact s.completes_nothing

theorem execDustAcknowledge_completes : s.Completes .dustAcknowledge (execDustAcknowledge s) := by
  unfold execDustAcknowledge
  split
  · refine State.Acts.completes (.whenMode fun _ => ?_)
    unfold State.takeDustAcknowledge
    split
    · exact .refused _ _
    · exact .refused _ _
    · exact .dustAcknowledge _ _ ‹_›
  · exact s.completes_nothing

theorem execDiscardBill_completes : s.Completes .discardBill (execDiscardBill s) := by
  unfold execDiscardBill
  split
  · refine State.Acts.completes (.whenMode fun _ => ?_)
    unfold State.takeDiscardBill
    split
    · exact .refused _ _
    · exact .refused _ _
    · exact .discardBill _ _ ‹_›
  · exact s.completes_nothing

theorem execReadStation_completes : s.Completes .readStation (execReadStation s) := by
  unfold execReadStation
  split
  · exact State.Acts.completes (.read _ _)
  · exact s.completes_nothing

theorem execReadPeers_completes : s.Completes .readPeers (execReadPeers s) := by
  unfold execReadPeers
  split
  · exact State.Acts.completes (.read _ _)
  · exact s.completes_nothing

theorem execReadHolds_completes : s.Completes .readHolds (execReadHolds s) := by
  unfold execReadHolds
  split
  · refine State.Acts.completes ?_
    unfold State.takeReadHolds
    split
    · exact .refused _ _
    · exact .refused _ _
    · exact .readHolds _ _
  · exact s.completes_nothing

theorem execReadBill_completes : s.Completes .readBill (execReadBill s) := by
  unfold execReadBill
  split
  · refine State.Acts.completes ?_
    unfold State.takeReadBill
    split
    · exact .refused _ _
    · exact .refused _ _
    · exact .read _ _
  · exact s.completes_nothing

theorem execUnknownRequest_completes : s.Completes .unknownRequest (execUnknownRequest s) := by
  unfold execUnknownRequest
  split
  · exact State.Acts.completes (.refused _ _)
  · exact s.completes_nothing

/-! ## Every command -/

theorem execGateLimits_completes :
    s.Completes .gateOpenLimit (execGateOpenLimit s) ∧ s.Completes .gateClosedLimit (execGateClosedLimit s) :=
  ⟨State.Acts.completes (.ite (fun _ => .ite .gateOpenLimit (.nothing _)) (.nothing _)),
    State.Acts.completes (.ite (fun _ => .ite (fun _ => .gateClosedLimit) (.nothing _)) (.nothing _))⟩

theorem execPeerStaleTimerExpiry_completes (n : Nat) :
    s.Completes (.peerStaleTimerExpiry n) (execPeerStaleTimerExpiry n s) := by
  unfold execPeerStaleTimerExpiry
  split
  · exact State.Acts.completes (.expire fun d hd => .peerStale n _ d ‹_› hd)
  · exact State.Acts.completes (.nothing _)

/-- Every command but POWER ON RESET completes, and does one of the things that `State.Acts` lists. -/
theorem exec_completes (hc : c ≠ .powerOnReset) : s.Completes c (exec c s) := by
  cases c with
  | powerOnReset => exact absurd rfl hc
  | post phase record => exact State.Acts.completes (.post phase record)
  | withdraw phase => exact State.Acts.completes (.withdraw phase)
  | fetchReply phase => exact State.Acts.completes (.fetchReply phase)
  | fetchNotice phase => exact State.Acts.completes (.fetchNotice phase)
  | portState => exact State.Acts.completes .portState
  | unknownTransaction first => exact State.Acts.completes (.unknownTransaction first)
  | startBlock => exact execStartBlock_completes
  | restart => exact execRestart_completes
  | setMasks => exact execSetMasks_completes
  | bypassOn => exact execBypassOn_completes
  | bypassOff => exact execBypassOff_completes
  | openSession => exact execOpenSession_completes
  | holdEntry => exact execHoldEntry_completes
  | setHatch => exact execSetHatch_completes
  | permit => exact execPermit_completes
  | shiftVessel => exact execShiftVessel_completes
  | setDraftLimit => exact execSetDraftLimit_completes
  | closeSession => exact execCloseSession_completes
  | move => exact execMove_completes
  | stopTravel => exact execStopTravel_completes
  | faultClear => exact execFaultClear_completes
  | pour => exact execPour_completes
  | endPour => exact execEndPour_completes
  | zeroScale => exact execZeroScale_completes
  | dustAcknowledge => exact execDustAcknowledge_completes
  | discardBill => exact execDiscardBill_completes
  | readStation => exact execReadStation_completes
  | readPeers => exact execReadPeers_completes
  | readHolds => exact execReadHolds_completes
  | readBill => exact execReadBill_completes
  | unknownRequest => exact execUnknownRequest_completes
  | loadSample raw => exact State.Acts.completes (.ite (.loadSample raw) (.nothing _))
  | beltPulse => exact State.Acts.completes (.ite .beltPulse (.nothing _))
  | positionSample v => exact State.Acts.completes (.ite (.positionSample v) (.nothing _))
  | dustSample channel v fault => exact State.Acts.completes (.ite (.dustSample channel v fault) (.nothing _))
  | brakeReleasedChange active => exact State.Acts.completes (.ite (.brakeReleasedChange active) (.brakeLevel active))
  | gateOpenLimit => exact execGateLimits_completes.1
  | gateClosedLimit => exact execGateLimits_completes.2
  | beltRunningChange active => exact State.Acts.completes (.ite (.beltRunningChange active) (.beltLevel active))
  | statusFrame p rest => exact State.Acts.completes (.frame _ p _ rfl)
  | claimFrame p rest => exact State.Acts.completes (.frame _ p _ rfl)
  | dustFrame p rest => exact State.Acts.completes (.frame _ p _ rfl)
  | breakFrame p rest => exact State.Acts.completes (.frame _ p _ rfl)
  | frameSent p => exact State.Acts.completes (.frameSent p)
  | loadStaleTimerExpiry => exact State.Acts.completes (.expire .loadStale)
  | loadFaultTimerExpiry => exact State.Acts.completes (.expire .loadFault)
  | stillTimerExpiry => exact State.Acts.completes (.expire .still)
  | silenceTimerExpiry p => exact State.Acts.completes (.expire (.silence p))
  | breakTimerExpiry p => exact State.Acts.completes (.expire (.brk p))
  | statusTimerExpiry => exact State.Acts.completes (.expire .status)
  | spacingTimerExpiry => exact State.Acts.completes (.expire .spacing)
  | peerStaleTimerExpiry n => exact execPeerStaleTimerExpiry_completes n
  | encoderTimerExpiry => exact State.Acts.completes (.expire .encoder)
  | releaseTimerExpiry => exact State.Acts.completes (.expire .release)
  | brakeFailTimerExpiry => exact State.Acts.completes (.expire .brakeFail)
  | settleTimerExpiry => exact State.Acts.completes (.expire .settle)
  | claimWindowExpiry => exact State.Acts.completes (.expire .claimWindow)
  | positioningTimerExpiry => exact State.Acts.completes (.expire .positioning)
  | beltStartTimerExpiry => exact State.Acts.completes (.expire .beltStart)
  | beltRetryTimerExpiry => exact State.Acts.completes (.expire .beltRetry)
  | gateTimerExpiry => exact State.Acts.completes (.expire .gate)
  | dustSampleTimerExpiry channel => exact State.Acts.completes (.expire (.dustSilent channel))
  | ageTimerExpiry => exact State.Acts.completes (.expire .age)
  | notValidFrame p => exact State.Acts.completes (.ite (.notValidFrame p) (.nothing _))

/-- POWER ON RESET completes too. -/
theorem exec_powerOnReset : exec .powerOnReset s = .next { State.reset with inputs := s.inputs, pending := s.pending } := rfl

/-- What a command other than POWER ON RESET has made of a state, read off its answer. -/
theorem exec_acts (hc : c ≠ .powerOnReset) (h : exec c s = .next t) : ∃ u, s.Acts c u ∧ s.Ends u t := by
  obtain ⟨u, t', ht', ha, he⟩ := exec_completes (s := s) hc
  rw [h] at ht'
  cases ht'
  exact ⟨u, ha, he⟩

/-! ## Invariants of every step -/

/-- A timer's expiry taken in a tick is its command's, or nothing. -/
theorem State.expireDue_cases (e : (State → Timer) × Instr) : s.expireDue e = s ∨ exec e.2 s = .next (s.expireDue e) := by
  unfold State.expireDue
  split
  · split
    · exact .inr ‹_›
    · exact .inl rfl
    · exact .inl rfl
  · exact .inl rfl

/-- No tick resets the part: none of the expiry commands is POWER ON RESET, and none is DISCARD BILL. -/
theorem timers_commands : ∀ e ∈ timers, e.2 ≠ .powerOnReset ∧ e.2 ≠ .discardBill := by
  simp [timers, List.range, List.range.loop]

/-- What a fold of expiries keeps. -/
theorem State.foldl_expireDue {P : State → Prop} (l : List ((State → Timer) × Instr))
    (hexec : ∀ e ∈ l, ∀ s t, P s → exec e.2 s = .next t → P t) (hs : P s) : P (l.foldl State.expireDue s) := by
  induction l generalizing s with
  | nil => exact hs
  | cons e rest ih =>
    refine ih (fun e' he' => hexec e' (List.mem_cons_of_mem _ he')) ?_
    rcases s.expireDue_cases e with h | h
    · rwa [h]
    · exact hexec e List.mem_cons_self s _ hs h

/-- What every command keeps, the passing of a millisecond and the state of the queue being nothing to it, every step keeps. -/
theorem step_keeps {P : State → Prop} (hexec : ∀ c s t, P s → exec c s = .next t → P t)
    (hqueue : ∀ (s : State) (q : List Instr), P s → P { s with pending := q })
    (htime : ∀ s : State, P s → P ({ s with count := s.count + 1 } : State).placeReply)
    (hs : P s) (h : Machine.step s = .next t) : P t := by
  unfold Machine.step at h
  split at h
  · exact hexec _ _ _ (hqueue s _ hs) h
  · rw [← Host.Outcome.next.inj h]
    exact State.foldl_expireDue timers (fun e _ => hexec e.2) (htime s hs)

end Sys2Proof.Machine
end

section
/-! SUPPORT. What all the part's operations have in common: each is a chain of block updates that leaves the start block, the part mode,
the belt, the tare and the total, and keeps in order what the model keeps in order (the lists by station number; the notice queue,
which changes by raised notices). One lemma for each operation; what holds of every such chain is proved once, on the chain. -/

namespace Sys2Proof.Machine

/-! ## Lists by station number -/

/-- A row with its peer figures and its claims in the order of their station numbers (R101). -/
def Row.ordered (r : Row) : Prop :=
  r.peers.Pairwise (fun f g => f.station < g.station) ∧ r.claims.Pairwise (fun c d => c.station < d.station)

/-- Every row of a view, where there is one. -/
def rowsOrdered (v : Option (List Row)) : Prop := ∀ rows, v = some rows → ∀ r ∈ rows, r.ordered

/-- Every row of the Fill Order Unit. -/
def Fill.ordered (f : Fill) : Prop := rowsOrdered f.viewA ∧ rowsOrdered f.viewB

/-- The peer dust records in the order of their station numbers (R157). -/
def Dust.ordered (d : Dust) : Prop := d.peers.Pairwise (fun q r => q.station < r.station)

/-- The peer table in the order of its station numbers. -/
def tableOrdered (l : List PeerEntry) : Prop := l.Pairwise (fun e f => e.station < f.station)

theorem rowsOrdered_map {v : Option (List Row)} {g : List Row → List Row} (h : rowsOrdered v)
    (hg : ∀ rows, (∀ r ∈ rows, r.ordered) → ∀ r ∈ g rows, r.ordered) : rowsOrdered (v.map g) := by
  intro rows hr
  obtain ⟨old, ho, rfl⟩ := Option.map_eq_some_iff.1 hr
  exact hg old (h old ho)

theorem Fill.ordered_onView {f : Fill} {g : List Row → List Row} (x : Slot) (h : f.ordered)
    (hg : ∀ rows, (∀ r ∈ rows, r.ordered) → ∀ r ∈ g rows, r.ordered) : (f.onView x g).ordered := by
  cases x with
  | a => exact ⟨rowsOrdered_map h.1 hg, h.2⟩
  | b => exact ⟨h.1, rowsOrdered_map h.2 hg⟩

theorem removeClaims_ordered (n : Nat) (rows : List Row) (h : ∀ r ∈ rows, r.ordered) : ∀ r ∈ removeClaims n rows, r.ordered := by
  intro r hr
  obtain ⟨old, ho, rfl⟩ := List.mem_map.1 hr
  exact ⟨(h old ho).1, (h old ho).2.filter _⟩

/-! ## The notice queue -/

theorem NoticeBody.sameKey_iff (x y : NoticeBody) : x.sameKey y = true ↔ x.kind = y.kind ∧ x.subject = y.subject := by
  simp [NoticeBody.sameKey]

theorem NoticeBody.sameKey_comm (x y : NoticeBody) : x.sameKey y = y.sameKey x := by
  rw [Bool.eq_iff_iff, NoticeBody.sameKey_iff, NoticeBody.sameKey_iff]
  exact ⟨fun h => ⟨h.1.symm, h.2.symm⟩, fun h => ⟨h.1.symm, h.2.symm⟩⟩

/-- Bodies of one key are of the same key with any other. -/
theorem NoticeBody.sameKey_congr {x y : NoticeBody} (h : x.sameKey y = true) (z : NoticeBody) : x.sameKey z = y.sameKey z := by
  obtain ⟨hk, hs⟩ := (NoticeBody.sameKey_iff x y).1 h
  simp [NoticeBody.sameKey, hk, hs]

/-- No two notices of one kind and subject (R181). -/
def keysApart (queue : List Notice) : Prop := queue.Pairwise (fun m n => m.body.sameKey n.body = false)

theorem keysApart_append {queue : List Notice} {n : Notice} (h : keysApart queue)
    (hn : ∀ m ∈ queue, m.body.sameKey n.body = false) : keysApart (queue ++ [n]) :=
  List.pairwise_append.2 ⟨h, List.pairwise_singleton _ _, fun m hm k hk => by rw [List.mem_singleton.1 hk]; exact hn m hm⟩

/-- The entry of a key taking a new body of that key leaves the keys as they are. -/
theorem keysApart_merge {queue : List Notice} {body : NoticeBody} (g : Notice → Notice) (h : keysApart queue)
    (hg : ∀ n, (g n).body = body) : keysApart (queue.map (fun n => if n.body.sameKey body then g n else n)) := by
  have key : ∀ n k : Notice, (if n.body.sameKey body then g n else n).body.sameKey k.body = n.body.sameKey k.body := by
    intro n k
    split
    · rename_i hb
      rw [hg]
      exact (NoticeBody.sameKey_congr hb _).symm
    · rfl
  refine List.pairwise_map.2 (h.imp fun {m n} hmn => ?_)
  rw [key, NoticeBody.sameKey_comm, key, NoticeBody.sameKey_comm]
  exact hmn

theorem dropNewest_sublist (c : Nat) (queue : List Notice) : (dropNewest c queue).Sublist queue := by
  have h := List.reverse_sublist.2 (List.eraseP_sublist (p := fun n : Notice => n.body.cls == c) (l := queue.reverse))
  rwa [List.reverse_reverse] at h

/-- A class above which some notice ranks is that of one of them: the removal finds an entry. -/
theorem lowestClass_spec (queue : List Notice) :
    (∀ m ∈ queue, m.body.cls ≤ lowestClass queue) ∧ (queue ≠ [] → ∃ m ∈ queue, m.body.cls = lowestClass queue) := by
  unfold lowestClass
  have gen : ∀ (l : List Notice) (c : Nat), c ≤ l.foldl (fun c n => max c n.body.cls) c
      ∧ (∀ m ∈ l, m.body.cls ≤ l.foldl (fun c n => max c n.body.cls) c)
      ∧ (l.foldl (fun c n => max c n.body.cls) c = c ∨ ∃ m ∈ l, m.body.cls = l.foldl (fun c n => max c n.body.cls) c) := by
    intro l
    induction l with
    | nil => intro c; simp
    | cons n rest ih =>
      intro c
      obtain ⟨hc, hall, hex⟩ := ih (max c n.body.cls)
      simp only [List.foldl_cons, List.mem_cons, exists_eq_or_imp]
      refine ⟨by omega, fun m hm => ?_, ?_⟩
      · rcases hm with rfl | hm
        · omega
        · exact hall m hm
      rcases hex with hex | hex
      · rw [hex]
        rcases le_total c n.body.cls with hle | hle
        · exact .inr (.inl (max_eq_right hle).symm)
        · exact .inl (max_eq_left hle)
      · exact .inr (.inr hex)
  obtain ⟨-, hall, hex⟩ := gen queue 0
  refine ⟨hall, fun hne => hex.resolve_left fun h0 => ?_⟩
  obtain ⟨m, hm⟩ := List.exists_mem_of_ne_nil queue hne
  have := hall m hm
  have hpos : 0 < m.body.cls := by cases m.body <;> simp [NoticeBody.cls]
  omega

theorem length_dropNewest {queue : List Notice} (h : queue ≠ []) :
    (dropNewest (lowestClass queue) queue).length + 1 = queue.length := by
  obtain ⟨m, hm, hc⟩ := (lowestClass_spec queue).2 h
  have := List.length_eraseP_of_mem (p := fun n : Notice => n.body.cls == lowestClass queue) (List.mem_reverse.2 hm) (by simpa using hc)
  have hpos := List.length_pos_of_mem hm
  simp only [dropNewest, List.length_reverse, this]
  omega

theorem LocalPort.enter_lawful (p : LocalPort) (now : Nat) (body : NoticeBody) (time : Nat) (h : p.queueLawful) :
    (p.enter now body time).queueLawful := by
  obtain ⟨hl, hk⟩ := h
  unfold LocalPort.enter
  split
  · exact ⟨hl, hk⟩
  split
  · exact ⟨by simpa using hl, keysApart_merge _ hk fun _ => rfl⟩
  rename_i hnone
  have apart : ∀ m ∈ p.notices, m.body.sameKey body = false := by simpa using hnone
  split
  · rename_i hroom
    unfold LocalPort.queueLawful
    rw [(LocalPort.followAge_queue _ _ _).1]
    exact ⟨by simp; omega, keysApart_append hk apart⟩
  split
  · rename_i hc
    have hne : p.notices ≠ [] := by rintro e; rw [e] at hc; simp [lowestClass] at hc
    unfold LocalPort.queueLawful
    rw [(LocalPort.followAge_queue _ _ _).1]
    have hlen := length_dropNewest hne
    refine ⟨by simp only [List.length_append, List.length_singleton]; omega,
      keysApart_append (hk.sublist (dropNewest_sublist _ _)) fun m hm => apart m ((dropNewest_sublist _ _).mem hm)⟩
  · exact ⟨hl, hk⟩

theorem LocalPort.raise_lawful {p : LocalPort} (now : Nat) (body : NoticeBody) (h : p.queueLawful) :
    (p.raise now body).queueLawful := by
  unfold LocalPort.raise
  split
  · exact h
  · exact LocalPort.enter_lawful _ _ _ _ h

theorem LocalPort.enterHeld_lawful (p : LocalPort) (now : Nat) (held : List (NoticeBody × Nat)) (h : p.queueLawful) :
    (p.enterHeld now held).queueLawful := by
  unfold LocalPort.enterHeld
  induction held generalizing p with
  | nil => exact h
  | cons x rest ih => exact ih _ (LocalPort.enter_lawful _ _ _ _ h)

theorem LocalPort.enterHeld_kept (p : LocalPort) (now : Nat) (held : List (NoticeBody × Nat)) : p.Kept (p.enterHeld now held) := by
  unfold LocalPort.enterHeld
  induction held generalizing p with
  | nil => exact .refl p
  | cons x rest ih => exact (LocalPort.enter_kept _ _ _ _).trans (ih _)

theorem LocalPort.release_lawful {p : LocalPort} (now : Nat) (h : p.queueLawful) : (p.release now).queueLawful := by
  unfold LocalPort.release
  split
  · exact LocalPort.enterHeld_lawful _ _ _ h
  · exact h

theorem LocalPort.release_mode (p : LocalPort) (now : Nat) : (p.release now).mode = p.mode := by
  unfold LocalPort.release
  split
  · exact (LocalPort.enterHeld_kept _ _ _).mode
  · rfl

theorem LocalPort.noticeFetched_lawful {p : LocalPort} (now : Nat) (n : Option Notice) (h : p.queueLawful) :
    (p.noticeFetched now n).queueLawful := by
  have sub : (p.noticeFetched now n).notices.Sublist p.notices := by
    unfold LocalPort.noticeFetched
    cases n with
    | none => exact List.Sublist.refl _
    | some n => exact List.eraseP_sublist
  exact ⟨le_trans sub.length_le h.1, h.2.sublist sub⟩

/-! ## Bill records -/

theorem flatMap_set {α β : Type} (g : α → List β) (l : List α) (i : Nat) (a b : α) (h : l[i]? = some a) (hb : g b = g a) :
    (l.set i b).flatMap g = l.flatMap g := by
  induction l generalizing i with
  | nil => rfl
  | cons x rest ih =>
    cases i with
    | zero =>
      obtain rfl : x = a := by simpa using h
      simp [hb]
    | succ i => simp [ih i (by simpa using h)]

theorem firstFree_spec {l : List (Option Bill)} {k n : Nat} (h : firstFree k l = some n) : k ≤ n ∧ l[n - k]? = some none := by
  induction l generalizing k with
  | nil => cases h
  | cons r rest ih =>
    cases r with
    | none =>
      cases h
      simp
    | some b =>
      obtain ⟨hle, hn⟩ := ih (k := k + 1) h
      refine ⟨by omega, ?_⟩
      rw [show n - k = (n - (k + 1)) + 1 by omega, List.getElem?_cons_succ]
      exact hn

theorem Bills.bill_eq_some {bs : Bills} {n : Nat} {b : Bill} (h : bs.bill n = some b) :
    n ≠ 0 ∧ bs.records[n - 1]? = some (some b) := by
  unfold Bills.bill at h
  split at h
  · cases h
  · rename_i hn
    split at h
    · rename_i hr
      exact ⟨hn, hr.trans (congrArg some h)⟩
    · cases h

/-- A record that is replaced by one of the same lines. -/
theorem Bills.setRecord_lines {bs : Bills} {n : Nat} {r r' : Option Bill} (h : bs.records[n - 1]? = some r)
    (hl : r'.elim [] Bill.lines = r.elim [] Bill.lines) : (bs.setRecord n r').lines = bs.lines := by
  unfold Bills.setRecord
  split
  · rfl
  · exact flatMap_set _ _ _ _ _ h hl

theorem Bills.setRecord_spill (bs : Bills) (n : Nat) (r : Option Bill) : (bs.setRecord n r).spill = bs.spill := by
  unfold Bills.setRecord
  split <;> rfl

/-- A session opens its bill, without lines, in a record that was FREE. -/
theorem Bills.openRecord_lines {bs : Bills} {n : Nat} (b : Bill) (hb : b.lines = []) (h : firstFree 1 bs.records = some n) :
    (bs.setRecord n (some b)).lines = bs.lines :=
  Bills.setRecord_lines (firstFree_spec h).2 hb

theorem State.sealBill_lines (s : State) (ses : Session) : (s.sealBill ses).bills.lines = s.bills.lines := by
  unfold State.sealBill
  split
  · rename_i b hb
    exact Bills.setRecord_lines (Bills.bill_eq_some hb).2 rfl
  · rfl

/-! ## Bill lines -/

theorem Bills.openLine_mem {bs : Bills} {l : BillLine} (h : bs.openLine = some l) : l ∈ bs.openLines := by
  obtain ⟨r, hr, hf⟩ := List.exists_of_findSome?_eq_some h
  split at hf
  · rename_i b
    unfold Bill.openLine at hf
    exact List.mem_filter.2 ⟨List.mem_flatMap.2 ⟨_, hr, List.mem_of_find?_eq_some hf⟩, (List.find?_eq_some_iff_append.1 hf).1⟩
  · cases hf

/-- A change of open lines that takes nothing from the bill, line by line. -/
theorem Bills.onOpenLine_lines (bs : Bills) (g : BillLine → BillLine) :
    (bs.onOpenLine (fun _ => g)).lines = bs.lines.map (fun l => if l.cause.isNone then g l else l) := by
  unfold Bills.lines Bills.onOpenLine
  rw [List.flatMap_map, List.map_flatMap]
  refine List.flatMap_congr fun r _ => ?_
  cases r <;> rfl

theorem Bills.openLines_onOpenLine (bs : Bills) (g : BillLine → BillLine) (hg : ∀ l, (g l).cause = l.cause) :
    (bs.onOpenLine (fun _ => g)).openLines = bs.openLines.map g := by
  unfold Bills.openLines
  rw [Bills.onOpenLine_lines]
  induction bs.lines with
  | nil => rfl
  | cons l rest ih =>
    rw [List.map_cons]
    split
    · rename_i hl
      rw [List.filter_cons_of_pos (p := fun l : BillLine => l.cause.isNone) (by show (g l).cause.isNone = true; rwa [hg]), List.filter_cons_of_pos (p := fun l : BillLine => l.cause.isNone) hl, List.map_cons, ih]
    · rename_i hl
      rw [List.filter_cons_of_neg (p := fun l : BillLine => l.cause.isNone) hl, List.filter_cons_of_neg (p := fun l : BillLine => l.cause.isNone) hl, ih]

/-- A closed line is open no more. -/
theorem Bills.openLines_closeLine (bs : Bills) (now : Nat) (cause : ClosureCause) (overshoot : Option Int) (residue : Option Nat) :
    (bs.closeLine now cause overshoot residue).openLines = [] := by
  refine List.filter_eq_nil_iff.2 fun l hl => ?_
  obtain ⟨r, hr, hl⟩ := List.mem_flatMap.1 hl
  obtain ⟨old, -, rfl⟩ := List.mem_map.1 hr
  cases old with
  | none => cases hl
  | some b =>
    obtain ⟨k, -, rfl⟩ := List.mem_map.1 hl
    by_cases hk : k.cause.isNone <;> simp [hk]

theorem Bills.openLines_addMass (bs : Bills) (m : Nat) (marked : Bool) : (bs.addMass m marked).openLines = bs.openLines.map
    (fun l => { l with mass := l.mass + m, estimated := if marked then l.estimated + m else l.estimated }) :=
  bs.openLines_onOpenLine _ fun _ => rfl

theorem Bills.openLines_countSuspension (bs : Bills) : bs.countSuspension.openLines.length = bs.openLines.length := by
  rw [show bs.countSuspension.openLines = _ from bs.openLines_onOpenLine _ fun _ => rfl, List.length_map]

theorem Bills.billed_addMass_mul (bs : Bills) (m : Nat) (marked : Bool) :
    (bs.addMass m marked).billed = bs.billed + m * bs.openLines.length := by
  unfold Bills.billed Bills.openLines Bills.addMass
  rw [Bills.onOpenLine_lines]
  induction bs.lines with
  | nil => rfl
  | cons l rest ih =>
    rw [List.map_cons, List.map_cons, List.sum_cons, ih, List.map_cons, List.sum_cons]
    split
    · rename_i hl
      rw [List.filter_cons_of_pos (p := fun l : BillLine => l.cause.isNone) hl, List.length_cons, Nat.mul_succ]
      dsimp only
      omega
    · rename_i hl
      rw [List.filter_cons_of_neg (p := fun l : BillLine => l.cause.isNone) hl]
      omega

/-- Mass attributed to the one open line. -/
theorem Bills.billed_addMass {bs : Bills} {l : BillLine} (m : Nat) (marked : Bool) (hl : bs.openLine = some l)
    (hone : bs.openLines.length ≤ 1) : (bs.addMass m marked).billed = bs.billed + m := by
  have hpos := List.length_pos_of_mem (Bills.openLine_mem hl)
  rw [bs.billed_addMass_mul, show bs.openLines.length = 1 by omega, Nat.mul_one]

/-- One more line in a record. -/
theorem length_openLines_set {l : List (Option Bill)} {i : Nat} (b : Bill) (k : BillLine) (h : l[i]? = some (some b)) :
    (((l.set i (some { b with lines := b.lines ++ [k] })).flatMap (fun r => r.elim [] Bill.lines)).filter
      (fun l => l.cause.isNone)).length ≤ ((l.flatMap (fun r => r.elim [] Bill.lines)).filter (fun l => l.cause.isNone)).length + 1 := by
  induction l generalizing i with
  | nil => cases h
  | cons r rest ih =>
    cases i with
    | zero =>
      obtain rfl : r = some b := by simpa using h
      have hone : ([k].filter (fun l => l.cause.isNone)).length ≤ 1 := List.length_filter_le _ _
      simp only [List.set_cons_zero, List.flatMap_cons, Option.elim_some, List.filter_append, List.length_append]
      omega
    | succ i =>
      have := ih (i := i) (by simpa using h)
      simp only [List.set_cons_succ, List.flatMap_cons, List.filter_append, List.length_append]
      omega

theorem Bills.openLines_takeLine (bs : Bills) (n : Nat) (c : OwnClaim) (now : Nat) :
    (bs.takeLine n c now).openLines.length ≤ bs.openLines.length + 1 := by
  unfold Bills.takeLine
  split
  · rename_i b hb
    split
    · exact Nat.le_succ _
    · obtain ⟨hn, hr⟩ := Bills.bill_eq_some hb
      unfold Bills.setRecord
      rw [if_neg hn]
      exact length_openLines_set _ _ hr
  · exact Nat.le_succ _

/-! ## Chains of updates -/

/-- From `s` a chain of updates leads to a state that keeps mode, start block, belt, tare, total and the mass in the Bill Store, and the
order of the lists. -/
inductive State.Orderly (s : State) : State → Prop
  | refl : s.Orderly s
  | later {t : State} (n : Nat) : s.Orderly t → s.Orderly { t with count := t.count + n }
  | onInputs {t : State} (i : Inputs) : s.Orderly t → s.Orderly { t with inputs := i }
  | onPort {t : State} : s.Orderly t → ∀ f : LocalPort → LocalPort, (f t.port).mode = t.port.mode →
      (t.port.queueLawful → (f t.port).queueLawful) → s.Orderly (t.onPort f)
  | onLine {t : State} : s.Orderly t → ∀ f, s.Orderly (t.onLine f)
  | onTravel {t : State} : s.Orderly t → ∀ f, s.Orderly (t.onTravel f)
  | onPour {t : State} : s.Orderly t → ∀ f, s.Orderly (t.onPour f)
  | onBerths {t : State} : s.Orderly t → ∀ f, s.Orderly (t.onBerths f)
  | onBills {t : State} : s.Orderly t → ∀ f : Bills → Bills, (f t.bills).billed = t.bills.billed →
      (f t.bills).spill = t.bills.spill → s.Orderly (t.onBills f)
  | onScale {t : State} : s.Orderly t → ∀ f : Scale → Scale, (f t.scale).tare = t.scale.tare → (f t.scale).total = t.scale.total →
      s.Orderly (t.onScale f)
  | onPeers {t : State} : s.Orderly t → ∀ f, (tableOrdered t.peers → tableOrdered (f t.peers)) → s.Orderly (t.onPeers f)
  | onFill {t : State} : s.Orderly t → ∀ f : Fill → Fill, (t.fill.ordered → (f t.fill).ordered) → s.Orderly (t.onFill f)
  | onDust {t : State} : s.Orderly t → ∀ f : Dust → Dust, (t.dust.ordered → (f t.dust).ordered) → s.Orderly (t.onDust f)

variable {s t u : State}

theorem State.Orderly.trans (h : s.Orderly t) (k : t.Orderly u) : s.Orderly u := by
  induction k with
  | refl => exact h
  | later n _ ih => exact .later n ih
  | onInputs i _ ih => exact .onInputs i ih
  | onPort _ f hm hn ih => exact .onPort ih f hm hn
  | onLine _ f ih => exact .onLine ih f
  | onTravel _ f ih => exact .onTravel ih f
  | onPour _ f ih => exact .onPour ih f
  | onBerths _ f ih => exact .onBerths ih f
  | onBills _ f hb hs ih => exact .onBills ih f hb hs
  | onScale _ f ha ho ih => exact .onScale ih f ha ho
  | onPeers _ f hf ih => exact .onPeers ih f hf
  | onFill _ f hf ih => exact .onFill ih f hf
  | onDust _ f hf ih => exact .onDust ih f hf

theorem State.Orderly.ite {p : Prop} [Decidable p] (h : s.Orderly t) (k : s.Orderly u) : s.Orderly (if p then t else u) := by
  split
  · exact h
  · exact k

theorem State.Orderly.notify (h : s.Orderly t) (body : NoticeBody) : s.Orderly (t.notify body) :=
  h.onPort _ (LocalPort.raise_mode _ _ _) (LocalPort.raise_lawful _ _)

theorem State.Orderly.markStatus (h : s.Orderly t) : s.Orderly t.markStatus := h.onLine _

theorem State.Orderly.onBerth (h : s.Orderly t) (x : Slot) (f : Berth → Berth) : s.Orderly (t.onBerth x f) := h.onBerths _

theorem State.Orderly.onSession (h : s.Orderly t) (x : Slot) (f : Session → Session) : s.Orderly (t.onSession x f) := h.onBerth x _

theorem State.Orderly.onHold (h : s.Orderly t) (x : Slot) (n : Nat) (f : Hold → Hold) : s.Orderly (t.onHold x n f) := by
  unfold State.onHold
  split
  · exact h
  · exact h.onSession x _

theorem State.Orderly.dropClaim (h : s.Orderly t) (x : Slot) : s.Orderly (t.onFill (fun f =>
    { f.onView x (removeClaims t.station) with claim := none, claimTimer := none })) :=
  h.onFill _ fun k => Fill.ordered_onView x k (removeClaims_ordered _)

/-! ## The Travel Controller -/

theorem State.Orderly.recompute (h : s.Orderly t) : s.Orderly t.recompute := h.onTravel _

theorem State.Orderly.enterReleasing (h : s.Orderly t) : s.Orderly t.enterReleasing := (h.onTravel _).markStatus

theorem State.Orderly.enterSettling (h : s.Orderly t) (mark : StopMark) : s.Orderly (t.enterSettling mark) :=
  (h.onTravel _).markStatus

theorem State.Orderly.park (h : s.Orderly t) : s.Orderly t.park := by
  unfold State.park
  split
  · exact h.onTravel _
  · exact (h.onTravel _).markStatus

theorem State.Orderly.enterHeld (h : s.Orderly t) : s.Orderly t.enterHeld := by
  unfold State.enterHeld
  split
  · exact ((h.onTravel _).markStatus).notify _
  · exact (h.onTravel _).markStatus

theorem State.Orderly.arrive (h : s.Orderly t) : s.Orderly t.arrive.1 := by
  unfold State.arrive
  split
  · exact h.park.notify _
  · exact h.park

theorem State.Orderly.movingAct (h : s.Orderly t) : s.Orderly t.movingAct := by
  unfold State.movingAct
  split
  · repeat' split
    · exact h.enterSettling _
    · exact h.enterSettling _
    · exact h.onTravel _
  · exact h

theorem State.Orderly.heldAct (h : s.Orderly t) : s.Orderly t.heldAct.1 := by
  unfold State.heldAct
  split
  · repeat' split
    · exact h.arrive
    · exact h.enterReleasing
    · exact h
    · exact h.enterReleasing
  · exact h

theorem State.Orderly.travelAct (h : s.Orderly t) : s.Orderly t.travelAct.1 := by
  unfold State.travelAct
  split
  · exact h.movingAct
  · exact h.heldAct
  · exact h

theorem State.Orderly.rangeEvent (h : s.Orderly t) : s.Orderly t.rangeEvent.1 := h.recompute.travelAct

theorem State.Orderly.enterMoving (h : s.Orderly t) : s.Orderly t.enterMoving := by
  unfold State.enterMoving
  split
  · split
    · exact h.enterSettling _
    · exact (h.onTravel _).markStatus
  · exact h

theorem State.Orderly.parkedAct (h : s.Orderly t) : s.Orderly t.parkedAct.1 := by
  unfold State.parkedAct
  split
  · repeat' split
    · exact h.arrive
    · exact h.enterHeld
    · exact h.enterReleasing
  · exact h

theorem State.Orderly.redirect (h : s.Orderly t) : s.Orderly t.redirect := by
  unfold State.redirect
  split
  · split
    · exact h.enterSettling _
    · exact h.movingAct
  · exact h

theorem State.Orderly.placeOrder (h : s.Orderly t) (target : Int) (source : OrderSource) :
    s.Orderly (t.placeOrder target source).1 := by
  have k : s.Orderly (t.onTravel (fun r => { r with target := some target, source := some source })) := h.onTravel _
  unfold State.placeOrder
  split
  · exact h
  · dsimp only
    split
    · exact k.parkedAct
    · exact k.redirect
    · exact k.heldAct
    · exact k

theorem State.Orderly.stopTravel (h : s.Orderly t) : s.Orderly t.stopTravel := by
  unfold State.stopTravel
  split
  · exact h
  · exact h
  · exact (h.onTravel _).enterSettling _
  · exact (h.onTravel _).enterSettling _
  · exact h.onTravel _
  · exact h.park

theorem State.Orderly.enterFaulted (h : s.Orderly t) (cause : TravelFault) : s.Orderly (t.enterFaulted cause) := by
  unfold State.enterFaulted
  split
  · exact (h.onTravel _).notify _
  · exact ((h.onTravel _).markStatus).notify _

theorem State.Orderly.settled (h : s.Orderly t) : s.Orderly t.settled.1 := by
  unfold State.settled
  split
  · repeat' split
    · exact h.arrive
    · exact h.enterReleasing
    · exact h.enterHeld
    · exact h.enterReleasing
  · exact h.park

/-! ## The Pour Sequencer -/

theorem State.Orderly.setPour (h : s.Orderly t) (x : PourState) : s.Orderly (t.setPour x) := by
  unfold State.setPour
  split
  · exact h.onPour _
  · exact (h.onPour _).markStatus

theorem State.Orderly.setGate (h : s.Orderly t) (c : GateCommand) : s.Orderly (t.setGate c) := h.onPour _

theorem State.Orderly.setBelt (h : s.Orderly t) (on : Bool) : s.Orderly (t.setBelt on) := h.onPour _

theorem State.Orderly.beltByCauses (h : s.Orderly t) : s.Orderly t.beltByCauses := h.setBelt _

theorem State.Orderly.setCauses (h : s.Orderly t) (c : CauseSet) : s.Orderly (t.setCauses c) := by
  unfold State.setCauses
  split
  · exact h
  · dsimp only
    repeat' split
    · exact (h.onPour _).notify _
    · exact h.onPour _
    · exact h.onPour _

theorem State.Orderly.lineClosedToTravel (h : s.Orderly t) : s.Orderly t.lineClosedToTravel :=
  h.rangeEvent

theorem State.Orderly.endClaim (h : s.Orderly t) : s.Orderly t.endClaim := by
  unfold State.endClaim
  split
  · exact h
  · exact ((h.dropClaim _).onHold _ _ _).markStatus

theorem State.Orderly.notifyLineClosed (h : s.Orderly t) (line : Option BillLine) (cause : ClosureCause)
    (overshoot : Option Int) (residue : Option Nat) : s.Orderly (t.notifyLineClosed line cause overshoot residue) := by
  unfold State.notifyLineClosed
  split
  · exact h.notify _
  · exact h

theorem State.Orderly.withdrawPass (h : s.Orderly t) : s.Orderly t.withdrawPass := by
  unfold State.withdrawPass
  exact ((((((((((h.setGate _).setBelt _).onPour _).setCauses _).onBills _ (Bills.closeLine_billed _ _ _ _ _) rfl).onPour
    _).setPour _).lineClosedToTravel).endClaim).notifyLineClosed _ _ _ _)

theorem State.Orderly.adapt (h : s.Orderly t) (cause : RunoutCause) (o : Option Int) : s.Orderly (t.adapt cause o) := by
  unfold State.adapt
  repeat' split
  · exact h
  · exact h.onPour _
  · exact h

theorem State.Orderly.endRunout (h : s.Orderly t) (cause : RunoutCause) : s.Orderly (t.endRunout cause) := by
  unfold State.endRunout
  exact (((((((h.onBills _ (Bills.closeLine_billed _ _ _ _ _) rfl).setBelt _).onPour _).setPour
    _).lineClosedToTravel).adapt _ _).endClaim).notifyLineClosed _ _ _ _

theorem State.Orderly.runoutTest (h : s.Orderly t) : s.Orderly t.runoutTest := by
  unfold State.runoutTest
  repeat' split
  · exact h.endRunout _
  · exact h
  · exact h

theorem State.Orderly.enterRunout (h : s.Orderly t) (cause : RunoutCause) : s.Orderly (t.enterRunout cause) :=
  ((((h.setGate _).onPour _).setPour _).beltByCauses).runoutTest

theorem State.Orderly.reAim (h : s.Orderly t) (source : OrderSource) : s.Orderly (t.reAim source) := by
  unfold State.reAim
  split
  · exact h
  · dsimp only
    split
    · exact (h.onPour _).placeOrder _ _
    · exact h.onPour _

theorem State.Orderly.arrivalOpen (h : s.Orderly t) (source : OrderSource) : s.Orderly (t.arrivalOpen source) := by
  unfold State.arrivalOpen
  split
  · exact h
  · exact h.reAim _

theorem State.Orderly.placeReturn (h : s.Orderly t) : s.Orderly t.placeReturn := by
  unfold State.placeReturn
  split
  · split
    · rename_i p _
      have k : s.Orderly ((t.onPour (fun q => { q with reAimed := false })).placeOrder p .returning).1 :=
        (h.onPour _).placeOrder _ _
      split
      · rename_i e; rw [e] at k; exact k.arrivalOpen _
      · rename_i e; rw [e] at k; exact k
    · exact h
  · exact h

theorem State.Orderly.enterSuspended (h : s.Orderly t) : s.Orderly t.enterSuspended :=
  ((((h.setGate _).onPour _).setPour _).beltByCauses).onBills _ (Bills.countSuspension_billed _) rfl

theorem State.Orderly.reactAdd (h : s.Orderly t) : s.Orderly t.reactAdd := by
  unfold State.reactAdd
  split
  · exact h.enterSuspended
  · exact h.enterSuspended
  · exact h.enterSuspended
  · exact h.beltByCauses
  · exact h.beltByCauses
  · exact h

theorem State.Orderly.addCause (h : s.Orderly t) (c : SuspendCause) : s.Orderly (t.addCause c) := by
  unfold State.addCause
  split
  · dsimp only
    split
    · exact ((h.setCauses _).reactAdd).placeReturn
    · exact (h.setCauses _).reactAdd
  · exact h

theorem State.Orderly.failCause (h : s.Orderly t) (c : SuspendCause) : s.Orderly (t.failCause c) := by
  unfold State.failCause
  split
  · exact .ite ((h.setCauses _).onPour _).withdrawPass ((h.setCauses _).onPour _).reactAdd
  · exact h

theorem State.Orderly.retestThrottle (h : s.Orderly t) : s.Orderly t.retestThrottle := by
  unfold State.retestThrottle
  repeat' split
  · exact (h.setGate _).setPour _
  · exact h
  · exact h
  · exact (h.setGate _).setPour _
  · exact h.setGate _
  · exact h

theorem State.Orderly.gateWait (h : s.Orderly t) : s.Orderly t.gateWait := by
  unfold State.gateWait
  repeat' split
  · exact h.enterRunout _
  · exact h.failCause _
  · exact (h.onPour _).setGate _

theorem State.Orderly.beltWait (h : s.Orderly t) : s.Orderly t.beltWait := by
  unfold State.beltWait
  dsimp only
  split
  · exact ((h.onPour _).setBelt _).gateWait
  · exact (h.onPour _).setBelt _

theorem State.Orderly.reEnterStarting (h : s.Orderly t) : s.Orderly t.reEnterStarting := by
  unfold State.reEnterStarting
  dsimp only
  split
  · exact ((h.onPour _).setPour _).beltWait
  · exact ((h.onPour _).setPour _).addCause _

theorem State.Orderly.removeCause (h : s.Orderly t) (c : SuspendCause) : s.Orderly (t.removeCause c) := by
  have after : ∀ u : State, s.Orderly u → s.Orderly (match u.pour.state with
      | .suspended => if u.pour.causes.isEmpty then u.reEnterStarting else u.beltByCauses
      | .runout => u.beltByCauses
      | _ => u) := by
    intro u k
    split
    · exact .ite k.reEnterStarting k.beltByCauses
    · exact k.beltByCauses
    · exact k
  unfold State.removeCause
  split
  · exact after _ ((h.setCauses _).onPour _)
  · exact h

theorem State.Orderly.syncCause (h : s.Orderly t) (c : SuspendCause) (held : Bool) : s.Orderly (t.syncCause c held) := by
  unfold State.syncCause
  split
  · exact h.addCause _
  · exact h.removeCause _

theorem State.Orderly.enterStarting (h : s.Orderly t) : s.Orderly t.enterStarting := by
  unfold State.enterStarting
  split
  · exact h
  · dsimp only
    have k := fun n c => ((((h.onBills (fun b => b.takeLine n c t.count) (Bills.takeLine_billed _ _ _ _)
      (Bills.takeLine_spill _ _ _ _)).onPour (fun p => { p with
        positioningTimer := none, failures := 0, passSuspended := false, phase := some .beltWait
        causes := CauseSet.empty })).setPour .starting).recompute)
    exact .ite ((k _ _).setCauses _).beltWait ((k _ _).setCauses _).enterSuspended

theorem State.Orderly.arrivalPositioning (h : s.Orderly t) (source : OrderSource) :
    s.Orderly (t.arrivalPositioning source) := by
  unfold State.arrivalPositioning
  split
  · exact h.enterStarting
  · exact h.reAim _

theorem State.Orderly.tellArrival {r : State × Option OrderSource} (h : s.Orderly r.1) : s.Orderly (State.tellArrival r) := by
  unfold State.tellArrival
  repeat' split
  · exact h
  · exact h.arrivalPositioning _
  · exact h.arrivalOpen _
  · exact h
  · exact h

theorem State.Orderly.travelEvent (h : s.Orderly t) : s.Orderly t.travelEvent :=
  State.Orderly.tellArrival (h.rangeEvent)

theorem State.Orderly.positioningCases (h : s.Orderly t) : s.Orderly t.positioningCases := by
  unfold State.positioningCases
  dsimp only
  split
  · exact h.onPour _
  · split
    · exact (h.onPour _).enterStarting
    · split
      · rename_i p _
        have k : s.Orderly ((t.onPour (fun q => { q with reAimed := false })).placeOrder p .position).1 :=
          (h.onPour _).placeOrder _ _
        split
        · rename_i e; rw [e] at k; exact k.arrivalPositioning _
        · rename_i e; rw [e] at k; exact k
      · exact h.onPour _

theorem State.Orderly.enterPositioning (h : s.Orderly t) : s.Orderly t.enterPositioning :=
  ((h.onPour _).setPour _).positioningCases

theorem State.Orderly.withdrawClaim (h : s.Orderly t) (cause : WithdrawCause) : s.Orderly (t.withdrawClaim cause) := by
  unfold State.withdrawClaim
  split
  · exact h
  · dsimp only
    split
    · exact ((((h.onPour _).stopTravel).endClaim).notify _).setPour _
    · exact (((h.onPour _).endClaim).notify _).setPour _

theorem State.Orderly.loseClaim (h : s.Orderly t) (reason : Reason) : s.Orderly (t.loseClaim reason) := by
  unfold State.loseClaim
  split
  · exact h
  · exact (((h.dropClaim _).markStatus).notify _).setPour _

theorem State.Orderly.mapTest (h : s.Orderly t) : s.Orderly t.mapTest := by
  unfold State.mapTest
  split
  · exact h.syncCause _ _
  · exact h

theorem State.Orderly.syncDustOwn (h : s.Orderly t) : s.Orderly t.syncDustOwn := h.syncCause _ _

theorem State.Orderly.syncDustPeer (h : s.Orderly t) : s.Orderly t.syncDustPeer := (h.syncCause _ _).retestThrottle

theorem State.Orderly.faultTravel (h : s.Orderly t) (cause : TravelFault) : s.Orderly (t.faultTravel cause) :=
  (h.enterFaulted cause).addCause _

theorem State.Orderly.stopPour (h : s.Orderly t) : s.Orderly t.stopPour := by
  unfold State.stopPour
  split
  · exact h
  · exact h
  · exact h.loseClaim _
  · exact h.withdrawClaim _
  all_goals exact h.enterRunout _

theorem State.Orderly.yieldPour (h : s.Orderly t) : s.Orderly t.yieldPour := by
  unfold State.yieldPour
  split
  · exact h.withdrawClaim _
  · exact h.enterRunout _
  · exact h.enterRunout _
  · exact h.enterRunout _
  · exact h.enterRunout _
  · exact h

theorem State.Orderly.closeDecision (h : s.Orderly t) : s.Orderly t.closeDecision := by
  unfold State.closeDecision
  repeat' split
  · exact h.enterRunout _
  · exact h
  · exact h.enterRunout _
  · exact h
  · exact h

theorem State.Orderly.lateConflictTest (h : s.Orderly t) : s.Orderly t.lateConflictTest := by
  unfold State.lateConflictTest
  repeat' split
  · exact h
  · exact h
  · exact .ite ((h.onFill _ fun hk => hk).notify _).yieldPour h

/-! ## The Belt Scale -/

theorem State.Orderly.failZeroRun (h : s.Orderly t) (reason : ZeroFailure) (raw : Option Nat) :
    s.Orderly (t.failZeroRun reason raw) := by
  unfold State.failZeroRun
  split
  · exact (h.onScale _ rfl rfl).notify _
  · exact h

theorem State.Orderly.zeroSample (h : s.Orderly t) (raw : Nat) : s.Orderly (t.zeroSample raw) := by
  unfold State.zeroSample
  split
  · exact h
  · exact .ite ((h.onScale _ rfl rfl).failZeroRun _ _) (h.onScale _ rfl rfl)

theorem State.Orderly.episodeAct (h : s.Orderly t) (raw : Nat) (high : Bool) : s.Orderly (t.episodeAct raw high) :=
  .ite ((h.onScale _ rfl rfl).notify _) (h.onScale _ rfl rfl)

theorem State.Orderly.setLoadStatus (h : s.Orderly t) (status : LoadStatus) : s.Orderly (t.setLoadStatus status) := by
  unfold State.setLoadStatus
  exact (State.Orderly.ite ((h.onScale _ rfl rfl).notify _) (h.onScale _ rfl rfl)).syncCause _ _

theorem State.Orderly.takeLoad (h : s.Orderly t) (raw : Nat) : s.Orderly (t.takeLoad raw) := by
  unfold State.takeLoad
  exact ((((h.onScale _ rfl rfl).episodeAct _ _).onScale _ rfl rfl).zeroSample _).setLoadStatus _

/-! ## The Line Unit -/

theorem State.Orderly.issueStatusAs (h : s.Orderly t) (m : PartMode) : s.Orderly (t.issueStatusAs m) := h.onLine (fun _ => _)

theorem State.Orderly.issueClaim (h : s.Orderly t) (c : OwnClaim) : s.Orderly (t.issueClaim c) := .ite (h.onLine _) h

theorem State.Orderly.issueDust (h : s.Orderly t) : s.Orderly t.issueDust := .ite (h.onLine _) h

theorem State.Orderly.issueBreak (h : s.Orderly t) (lost : Side) : s.Orderly (t.issueBreak lost) := .ite (h.onLine _) h

theorem State.Orderly.issueLastStatus (h : s.Orderly t) : s.Orderly t.issueLastStatus := ((h.onLine _).issueStatusAs _).onLine _

theorem State.Orderly.finish (h : s.Orderly t) : s.Orderly t.finish :=
  .ite (.ite (.ite (h.onLine _) (h.issueStatusAs _)) (h.onLine _)) h

/-! ## The Dust Monitor -/

theorem State.Orderly.notifyOpt (h : s.Orderly t) (b : Option NoticeBody) : s.Orderly (t.notifyOpt b) := by
  cases b with
  | none => exact h
  | some b => exact h.notify b

theorem Dust.ordered_setChannel {d : Dust} (c : Channel) (r : DustChannel) (h : d.ordered) : (d.setChannel c r).ordered := by
  cases c <;> exact h

theorem State.Orderly.applyChannel (h : s.Orderly t) (c : Channel) (r : DustChannel) : s.Orderly (t.applyChannel c r) := by
  have k := h.onDust (fun d => d.setChannel c r) (Dust.ordered_setChannel c r)
  unfold State.applyChannel
  refine .ite k ?_
  have poured := (((k.notifyOpt (leaveNotice c (t.dust.channel c).state r)).notifyOpt (enterNotice c r)).syncDustOwn).retestThrottle
  have aborted : s.Orderly (State.dustAbort _ r.state) := .ite (poured.failZeroRun .dust none) poured
  cases c with
  | spout => exact .ite (aborted.issueDust.markStatus) aborted.markStatus
  | gallery => exact aborted

/-! ## The Peer Table -/

theorem setPeerDust_ordered (d : PeerDust) (l : List PeerDust) (h : l.Pairwise (fun q r => q.station < r.station)) :
    (setPeerDust d l).Pairwise (fun q r => q.station < r.station) ∧ ∀ q ∈ setPeerDust d l, q = d ∨ q ∈ l := by
  induction l with
  | nil => simp [setPeerDust]
  | cons e rest ih =>
    obtain ⟨he, hr⟩ := List.pairwise_cons.1 h
    obtain ⟨io, im⟩ := ih hr
    unfold setPeerDust
    split
    · rename_i hlt
      refine ⟨List.pairwise_cons.2 ⟨fun q hq => ?_, io⟩, fun q hq => ?_⟩
      · rcases im q hq with rfl | hm
        · exact hlt
        · exact he q hm
      · rcases List.mem_cons.1 hq with rfl | hq
        · exact .inr List.mem_cons_self
        · exact (im q hq).imp id (List.mem_cons_of_mem _)
    · split
      · rename_i heq
        refine ⟨List.pairwise_cons.2 ⟨fun q hq => heq ▸ he q hq, hr⟩, fun q hq => ?_⟩
        exact (List.mem_cons.1 hq).imp id (List.mem_cons_of_mem _)
      · refine ⟨List.pairwise_cons.2 ⟨fun q hq => ?_, h⟩, fun q hq => List.mem_cons.1 hq⟩
        rcases List.mem_cons.1 hq with rfl | hq
        · omega
        · have := he q hq; omega

theorem setPeerDustFreshness_ordered (n : Nat) (f : Freshness) (l : List PeerDust)
    (h : l.Pairwise (fun q r => q.station < r.station)) :
    (setPeerDustFreshness n f l).Pairwise (fun q r => q.station < r.station) := by
  refine List.pairwise_map.2 (h.imp fun {q r} hqr => ?_)
  split <;> split <;> exact hqr

theorem insertClaim_ordered (c : ClaimEntry) (l : List ClaimEntry) (h : l.Pairwise (fun a b => a.station < b.station))
    (hc : ∀ d ∈ l, d.station ≠ c.station) : (insertClaim c l).Pairwise (fun a b => a.station < b.station)
      ∧ ∀ d ∈ insertClaim c l, d = c ∨ d ∈ l := by
  induction l with
  | nil => simp [insertClaim]
  | cons e rest ih =>
    obtain ⟨he, hr⟩ := List.pairwise_cons.1 h
    obtain ⟨hce, hcr⟩ := List.forall_mem_cons.1 hc
    obtain ⟨io, im⟩ := ih hr hcr
    unfold insertClaim
    split
    · rename_i hlt
      refine ⟨List.pairwise_cons.2 ⟨fun d hd => ?_, io⟩, fun d hd => ?_⟩
      · rcases im d hd with rfl | hm
        · exact hlt
        · exact he d hm
      · rcases List.mem_cons.1 hd with rfl | hd
        · exact .inr List.mem_cons_self
        · exact (im d hd).imp id (List.mem_cons_of_mem _)
    · refine ⟨List.pairwise_cons.2 ⟨fun d hd => ?_, h⟩, fun d hd => List.mem_cons.1 hd⟩
      rcases List.mem_cons.1 hd with rfl | hd
      · omega
      · have := he d hd; omega

theorem setFigure_ordered (n : Nat) (g : PeerFigure → PeerFigure) (hg : ∀ f, (g f).station = f.station) (l : List PeerFigure)
    (h : l.Pairwise (fun a b => a.station < b.station)) : (setFigure n g l).Pairwise (fun a b => a.station < b.station)
      ∧ ∀ f ∈ setFigure n g l, f.station = n ∨ f ∈ l := by
  induction l with
  | nil => simp [setFigure, hg]
  | cons e rest ih =>
    obtain ⟨he, hr⟩ := List.pairwise_cons.1 h
    obtain ⟨io, im⟩ := ih hr
    unfold setFigure
    split
    · rename_i hlt
      refine ⟨List.pairwise_cons.2 ⟨fun f hf => ?_, io⟩, fun f hf => ?_⟩
      · rcases im f hf with hn | hm
        · omega
        · exact he f hm
      · rcases List.mem_cons.1 hf with rfl | hf
        · exact .inr List.mem_cons_self
        · exact (im f hf).imp id (List.mem_cons_of_mem _)
    · split
      · rename_i heq
        refine ⟨List.pairwise_cons.2 ⟨fun f hf => ?_, hr⟩, fun f hf => ?_⟩
        · rw [hg]; exact he f hf
        · rcases List.mem_cons.1 hf with rfl | hf
          · exact .inl ((hg e).trans heq)
          · exact .inr (List.mem_cons_of_mem _ hf)
      · refine ⟨List.pairwise_cons.2 ⟨fun f hf => ?_, h⟩, fun f hf => ?_⟩
        · rw [hg]
          rcases List.mem_cons.1 hf with rfl | hf
          · show n < _; omega
          · have := he f hf; show n < _; omega
        · rcases List.mem_cons.1 hf with rfl | hf
          · exact .inl (hg _)
          · exact .inr hf

theorem mem_modify {α : Type} {l : List α} {i : Nat} {f : α → α} {x : α} (h : x ∈ l.modify i f) : x ∈ l ∨ ∃ y ∈ l, x = f y := by
  obtain ⟨j, hj, rfl⟩ := List.mem_iff_getElem.1 h
  rw [List.getElem_modify]
  split
  · exact .inr ⟨_, List.getElem_mem _, rfl⟩
  · exact .inl (List.getElem_mem _)

theorem placeClaim_ordered (n : Nat) (c : ClaimEntry) (rows : List Row) (h : ∀ r ∈ rows, r.ordered) :
    ∀ r ∈ placeClaim n c rows, r.ordered := by
  have k := removeClaims_ordered c.station rows h
  unfold placeClaim
  split
  · exact k
  · intro r hr
    rcases mem_modify hr with hr | ⟨old, hold, rfl⟩
    · exact k r hr
    · refine ⟨(k old hold).1, (insertClaim_ordered c _ (k old hold).2 fun d hd => ?_).1⟩
      obtain ⟨row, -, rfl⟩ := List.mem_map.1 hold
      simpa using (List.mem_filter.1 hd).2

theorem takeFigures_ordered (n : Nat) (x : Slot) (q : Report) (i : Nat) (rows : List Row) (h : ∀ r ∈ rows, r.ordered) :
    ∀ r ∈ takeFigures n x q i rows, r.ordered := by
  induction rows generalizing i with
  | nil => simp [takeFigures]
  | cons row rest ih =>
    obtain ⟨hrow, hrest⟩ := List.forall_mem_cons.1 h
    refine List.forall_mem_cons.2 ⟨⟨?_, hrow.2⟩, ih _ hrest⟩
    exact (setFigure_ordered n (fun f => { f with
      deliveredKg := if q.tag x = 0 then f.deliveredKg else q.tallyKg x i, onBeltKg := q.onBeltFor x i }) (fun _ => rfl) _ hrow.1).1

theorem takeReport_ordered (n : Nat) (x : Slot) (q : Report) (rows : List Row) (h : ∀ r ∈ rows, r.ordered) :
    ∀ r ∈ takeReport n x q rows, r.ordered := by
  unfold takeReport
  split
  · exact placeClaim_ordered _ _ _ (takeFigures_ordered _ _ _ _ _ h)
  · exact removeClaims_ordered _ _ (takeFigures_ordered _ _ _ _ _ h)

theorem Fill.handed_ordered {f : Fill} (n : Nat) (c : Content) (h : f.ordered) : (f.handed n c).ordered := by
  unfold Fill.handed
  split
  · exact Fill.ordered_onView _ (Fill.ordered_onView _ h (takeReport_ordered _ _ _)) (takeReport_ordered _ _ _)
  · exact Fill.ordered_onView _ h (placeClaim_ordered _ _)
  all_goals exact h

theorem Dust.handed_ordered {d : Dust} (n : Nat) (fr : Freshness) (c : Content) (h : d.ordered) : (d.handed n fr c).ordered := by
  unfold Dust.handed
  split
  · exact (setPeerDust_ordered _ _ h).1
  · exact (setPeerDust_ordered _ _ h).1
  all_goals exact h

theorem State.Orderly.putChanged (h : s.Orderly t) (e : PeerEntry) : s.Orderly (t.putChanged e) :=
  ((h.onPeers _ fun k => (setEntry_ordered e _ k).1).notify _).onDust _ (setPeerDustFreshness_ordered _ _ _)

theorem State.Orderly.putEntry (h : s.Orderly t) (before : Freshness) (e : PeerEntry) : s.Orderly (t.putEntry before e) :=
  .ite (h.onPeers _ fun k => (setEntry_ordered e _ k).1) (h.putChanged e)

theorem State.Orderly.handOn (h : s.Orderly t) (e : PeerEntry) (c : Content) : s.Orderly (t.handOn e c) :=
  (h.onFill _ (Fill.handed_ordered _ _)).onDust _ (Dust.handed_ordered _ _ _)

theorem State.Orderly.fold (h : s.Orderly t) (f : State → PeerEntry → State) (hf : ∀ u e, s.Orderly u → s.Orderly (f u e))
    (l : List PeerEntry) : s.Orderly (l.foldl f t) := by
  induction l generalizing t with
  | nil => exact h
  | cons e rest ih => exact ih (hf _ e h)

theorem State.Orderly.useBreak (h : s.Orderly t) (p : Side) (d : Nat) (c : Content) : s.Orderly (t.useBreak p d c) := by
  unfold State.useBreak
  split
  · exact .ite (h.fold _ (fun _ _ k => k.putChanged _) _) h
  · exact h

theorem State.Orderly.decideMismatch (h : s.Orderly t) (x : Slot) : s.Orderly (t.decideMismatch x) := by
  unfold State.decideMismatch
  split
  · exact .ite h ((h.onBerth x _).notify _)
  · exact .ite ((h.onBerth x _).notify _) h

theorem State.Orderly.afterPeers (h : s.Orderly t) (before : State) (occasion : Bool) : s.Orderly (t.afterPeers before occasion) := by
  have decided := State.Orderly.ite (p := (occasion || t.freshnesses != before.freshnesses) = true)
    ((h.decideMismatch .a).decideMismatch .b) h
  unfold State.afterPeers
  exact (State.Orderly.ite decided.travelEvent.lateConflictTest decided.travelEvent).syncDustPeer

theorem State.Orderly.hear (h : s.Orderly t) (p : Side) (f : Frame) : s.Orderly (t.hear p f) := by
  unfold State.hear
  split
  · exact (((h.putChanged _).handOn _ _).useBreak _ _ _).afterPeers _ _
  · refine .ite h (.ite ?_ ?_)
    · exact (((h.putEntry _ _).handOn _ _).useBreak _ _ _).afterPeers _ _
    · exact ((h.notify _).putChanged _).afterPeers _ _

theorem State.Orderly.goStale (h : s.Orderly t) (e : PeerEntry) : s.Orderly (t.goStale e) := .ite (h.putChanged _) h

theorem State.Orderly.staleSide (h : s.Orderly t) (p : Side) : s.Orderly (t.staleSide p) :=
  (h.fold _ (fun _ _ k => k.goStale _) _).afterPeers _ _

theorem State.Orderly.staleExpiry (h : s.Orderly t) (e : PeerEntry) : s.Orderly (t.staleExpiry e) :=
  ((h.onPeers _ fun k => (setEntry_ordered _ _ k).1).goStale _).afterPeers _ _

/-! ## The frames and the ports -/

theorem State.Orderly.countRestore (h : s.Orderly t) (p : Side) (hop : Nat) : s.Orderly (t.countRestore p hop) :=
  .ite (.ite (.ite (h.onLine _) (((h.onLine _).onLine _).notify _).travelEvent) (h.onLine _)) h

theorem State.Orderly.offer (h : s.Orderly t) (out : Side) (bytes : List Byte) : s.Orderly (t.offer out bytes) :=
  .ite (h.onLine _) ((h.onLine _).notify _)

theorem State.Orderly.dropInvalid (h : s.Orderly t) (p : Side) : s.Orderly (t.dropInvalid p) :=
  .ite ((h.onLine _).notify _) (h.onLine _)

theorem State.Orderly.takeFrame (h : s.Orderly t) (p : Side) (bytes : List Byte) (f : Frame) : s.Orderly (t.takeFrame p bytes f) := by
  have counted := (h.onLine (fun l => l.onPort p (fun r => r.hear (t.timer Config.silenceMs)))).countRestore p f.hop
  unfold State.takeFrame
  exact (State.Orderly.ite (counted.offer _ _) counted).hear _ _

theorem State.Orderly.frameArrives (h : s.Orderly t) (p : Side) (bytes : List Byte) : s.Orderly (t.frameArrives p bytes) := by
  unfold State.frameArrives
  refine .ite ?_ h
  split
  · exact h.dropInvalid p
  · exact .ite ((h.onLine _).notify _) (h.takeFrame _ _ _)

theorem State.Orderly.frameSent (h : s.Orderly t) (p : Side) : s.Orderly (t.frameSent p) := by
  unfold State.frameSent
  split
  · exact h
  · exact .ite (h.onLine _) (h.onLine _).recompute

theorem State.Orderly.losePort (h : s.Orderly t) (p : Side) : s.Orderly (t.losePort p) := by
  unfold State.losePort
  exact ((((h.onLine _).notify _).staleSide p).issueBreak p).onLine _

theorem State.Orderly.spacingExpiry (h : s.Orderly t) : s.Orderly t.spacingExpiry :=
  .ite (h.onLine _).issueLastStatus.recompute (.ite ((h.onLine _).issueStatusAs _) (h.onLine _))

theorem State.Orderly.bypassLine (h : s.Orderly t) : s.Orderly t.bypassLine :=
  .ite (h.onLine _) (h.onLine _).issueLastStatus.recompute

/-! ## The requests -/

theorem State.Orderly.reply (h : s.Orderly t) (o : ReplyOutcome) (pages : List (List Byte)) : s.Orderly (t.reply o pages) :=
  h.onPort _ rfl id

theorem State.Orderly.openSession (h : s.Orderly t) (f : SessionFields) (n : Nat) (hn : firstFree 1 t.bills.records = some n) :
    s.Orderly (t.openSession f n) := by
  have opened := (h.onBerth (slotOf f.slot) (fun _ => ⟨false, some (f.session n)⟩)).onBills
    (fun b => b.setRecord n (some (t.newBill f)))
    (congrArg (fun l => (l.map BillLine.mass).sum) (Bills.openRecord_lines _ rfl hn)) (Bills.setRecord_spill _ _ _)
  refine (opened.onFill _ fun k => ?_).markStatus
  have empty : rowsOrdered (some (List.replicate f.holdCount Row.empty)) := by
    intro rows hr r hmem
    cases hr
    rw [(List.mem_replicate.1 hmem).2]
    exact ⟨List.Pairwise.nil, List.Pairwise.nil⟩
  cases slotOf f.slot with
  | a => exact ⟨empty, k.2⟩
  | b => exact ⟨k.1, empty⟩

theorem State.Orderly.closeSession (h : s.Orderly t) (x : Slot) (ses : Session) : s.Orderly (t.closeSession x ses) := by
  have sealed : s.Orderly (t.sealBill ses) := by
    have lines := congrArg (fun l => (l.map BillLine.mass).sum) (t.sealBill_lines ses)
    unfold State.sealBill at lines ⊢
    split
    · rename_i b hb
      simp only [hb] at lines
      exact h.onBills _ lines (Bills.setRecord_spill _ _ _)
    · exact h
  have absent : rowsOrdered none := fun _ h => nomatch h
  have cleared := sealed.onFill (fun f => f.setView x none) fun k => by
    cases x with
    | a => exact ⟨absent, k.2⟩
    | b => exact ⟨k.1, absent⟩
  exact (State.Orderly.ite ((cleared.onBerth x _).notify _) (cleared.onBerth x _)).markStatus

theorem State.Orderly.shiftVessel (h : s.Orderly t) (x : Slot) (bow : Nat) : s.Orderly (t.shiftVessel x bow) := by
  have k := h.onSession x (fun ses => { ses with bowMark := bow })
  have shifted : s.Orderly (State.shiftPour _) :=
    .ite (.ite k.travelEvent.mapTest.placeReturn k.travelEvent.mapTest) (.ite k.positioningCases k)
  exact .ite shifted k.mapTest

theorem State.Orderly.enterClaim (h : s.Orderly t) (c : OwnClaim) : s.Orderly (t.enterClaim c) :=
  (((h.onFill _ fun k => Fill.ordered_onView c.slot k (placeClaim_ordered _ _)).issueClaim c).markStatus).setPour _

theorem State.Orderly.clearFault (h : s.Orderly t) : s.Orderly t.clearFault :=
  .ite (h.onTravel _).markStatus.recompute.positioningCases ((h.onTravel _).markStatus.recompute.placeReturn.removeCause _)

theorem State.Orderly.decideClaim (h : s.Orderly t) : s.Orderly t.decideClaim := by
  unfold State.decideClaim
  split
  · exact h.onFill _ id
  · split
    · exact h.loseClaim _
    · rename_i c _ _ _
      refine (((h.onFill _ fun k => ?_).onHold _ _ _).markStatus.notify _).enterPositioning
      have active : ∀ rows : List Row, (∀ r ∈ rows, r.ordered) → ∀ r ∈ rows.modify (c.hold - 1) (fun r => { r with
          claims := r.claims.map (fun k => if k.station = t.station then { k with phase := .active } else k) }), r.ordered := by
        intro rows hrows r hr
        rcases mem_modify hr with hr | ⟨old, hold, rfl⟩
        · exact hrows r hr
        · refine ⟨(hrows old hold).1, List.pairwise_map.2 ((hrows old hold).2.imp fun {a b} hab => ?_)⟩
          split <;> split <;> exact hab
      unfold Fill.onRow
      split
      · exact k
      · exact Fill.ordered_onView c.slot k active

/-! ## Samples, inputs and timers -/

theorem State.Orderly.judgeSample (h : s.Orderly t) (x : Int) : s.Orderly (t.judgeSample x) :=
  .ite (.ite h (h.faultTravel _)) (.ite (h.onTravel _) (.ite (h.faultTravel _) (h.onTravel _).travelEvent.mapTest))

theorem State.Orderly.brakeInput (h : s.Orderly t) (active : Bool) : s.Orderly (t.brakeInput active) := by
  unfold State.brakeInput
  split
  · exact .ite (h.faultTravel _) h
  · exact .ite (h.faultTravel _) h
  · exact .ite h (h.faultTravel _)
  · exact .ite h.enterMoving h
  · exact h
  · exact h

theorem State.Orderly.gateOpened (h : s.Orderly t) : s.Orderly t.gateOpened := .ite (((h.onPour _).onPour _).setPour _) (h.onPour _)

theorem State.Orderly.gateShut (h : s.Orderly t) : s.Orderly t.gateShut := ((h.onPour _).removeCause _).runoutTest

theorem State.Orderly.gateExpiry (h : s.Orderly t) : s.Orderly t.gateExpiry := by
  unfold State.gateExpiry
  split
  · exact (((h.onPour _).notify _).failCause _).runoutTest
  · exact (((h.onPour _).notify _).addCause _).runoutTest
  all_goals exact h.onPour _

theorem State.Orderly.beltFails (h : s.Orderly t) : s.Orderly t.beltFails := (h.onPour _).failCause _

theorem State.Orderly.beltInput (h : s.Orderly t) (active : Bool) : s.Orderly (t.beltInput active) := by
  unfold State.beltInput
  split
  · exact .ite (.ite (h.onPour _).gateWait (h.onPour _)) h
  · exact .ite h h.beltFails
  · exact h

theorem State.Orderly.settleExpiry (h : s.Orderly t) : s.Orderly t.settleExpiry :=
  .ite (.ite ((h.onTravel _).faultTravel _) (State.Orderly.tellArrival (h.onTravel _).settled)) (h.onTravel _)

theorem State.Orderly.encoderExpiry (h : s.Orderly t) : s.Orderly t.encoderExpiry :=
  .ite ((h.onTravel _).onTravel _) ((h.onTravel _).faultTravel _)

/-- A timer's expiry brings the count on, never back. -/
theorem State.orderly_upTo (d : Nat) : s.Orderly (s.upTo d) := by
  have : s.upTo d = { s with count := s.count + (max s.count d - s.count) } := by
    unfold State.upTo
    congr 1
    omega
  rw [this]
  exact .later _ .refl

end Sys2Proof.Machine
end

section
/-! What every step keeps: no status change waits (O4), the queue and the count (O3), mode, start block, tare and total (O5), and the
lists that the model keeps in order (O57). -/

namespace Sys2Proof.Machine

variable {s t u : State} {c : Instr}

/-! ## What a chain of updates keeps -/

/-- The mass on the belt, the queue of notices and the lists by station number. -/
theorem State.wellKept_iff (s : State) : s.wellKept
    ↔ s.belt.lawful ∧ s.port.queueLawful ∧ tableOrdered s.peers ∧ s.fill.ordered ∧ s.dust.ordered := by
  refine and_congr_right fun _ => and_congr_right fun _ => and_congr_right fun _ => and_congr_left fun _ => ?_
  exact ⟨fun h => ⟨h .a, h .b⟩, fun h x => by cases x with
    | a => exact h.1
    | b => exact h.2⟩

/-- What the statements of time, mode and account rest on. -/
structure State.Onward (s t : State) : Prop where
  pending : t.pending = s.pending
  count : s.count ≤ t.count

theorem State.Onward.refl (s : State) : s.Onward s := ⟨rfl, le_rfl⟩

theorem State.Onward.trans (h : s.Onward t) (k : t.Onward u) : s.Onward u :=
  ⟨k.pending.trans h.pending, h.count.trans k.count⟩

/-- Start block, mode, tare and total. -/
structure State.Undisturbed (s t : State) : Prop where
  cfg : t.cfg = s.cfg
  mode : t.port.mode = s.port.mode
  tare : t.scale.tare = s.scale.tare
  total : t.scale.total = s.scale.total

theorem State.Orderly.onward (h : s.Orderly t) : s.Onward t := by
  induction h with
  | refl => exact .refl s
  | later n _ ih => exact ⟨ih.pending, ih.count.trans (Nat.le_add_right _ _)⟩
  | _ => rename_i ih; exact ⟨ih.pending, ih.count⟩

theorem State.Orderly.undisturbed (h : s.Orderly t) : s.Undisturbed t := by
  induction h with
  | refl => exact ⟨rfl, rfl, rfl, rfl⟩
  | onPort _ _ hm _ ih => exact ⟨ih.cfg, hm.trans ih.mode, ih.tare, ih.total⟩
  | onScale _ _ ha ho ih => exact ⟨ih.cfg, ih.mode, ha.trans ih.tare, ho.trans ih.total⟩
  | _ => rename_i ih; exact ⟨ih.cfg, ih.mode, ih.tare, ih.total⟩

theorem State.Orderly.belt (h : s.Orderly t) : t.belt = s.belt := by
  induction h with
  | refl => rfl
  | _ => rename_i ih; exact ih

theorem State.Orderly.wellKept (h : s.Orderly t) (hs : s.wellKept) : t.wellKept := by
  induction h with
  | refl => exact hs
  | onPort _ _ _ hn ih => exact ⟨ih.1, hn ih.2.1, ih.2.2.1, ih.2.2.2⟩
  | onPeers _ _ hf ih => exact ⟨ih.1, ih.2.1, hf ih.2.2.1, ih.2.2.2⟩
  | onFill _ _ hf ih =>
    obtain ⟨hb, hq, hp, hr, hd⟩ := (State.wellKept_iff _).1 ih
    exact (State.wellKept_iff _).2 ⟨hb, hq, hp, hf hr, hd⟩
  | onDust _ _ hf ih =>
    obtain ⟨hb, hq, hp, hr, hd⟩ := (State.wellKept_iff _).1 ih
    exact (State.wellKept_iff _).2 ⟨hb, hq, hp, hr, hf hd⟩
  | _ => rename_i ih; exact ih

/-! ## The commands that are more than such a chain -/

/-- What a transaction leaves of the Local Port: the mode, and a lawful queue. -/
def LocalPort.Transacted (p q : LocalPort) : Prop := q.mode = p.mode ∧ (p.queueLawful → q.queueLawful)

theorem LocalPort.Transacted.trans {p q r : LocalPort} (h : p.Transacted q) (k : q.Transacted r) : p.Transacted r :=
  ⟨k.1.trans h.1, fun l => k.2 (h.2 l)⟩

/-- Nothing but the Local Port changes, and it as a transaction leaves it. -/
structure State.Ported (s t : State) : Prop where
  port : s.port.Transacted t.port
  alone : t = s.onPort (fun _ => t.port)

theorem State.Ported.refl (s : State) : s.Ported s := ⟨⟨rfl, id⟩, rfl⟩

theorem State.Ported.onPort (h : s.Ported t) (f : LocalPort → LocalPort) (hf : t.port.Transacted (f t.port)) : s.Ported (t.onPort f) :=
  ⟨h.port.trans hf, congrArg (fun v => State.onPort v f) h.alone⟩

theorem State.Ported.orderly (h : s.Ported t) : s.Orderly t := by
  rw [h.alone]
  exact State.Orderly.refl.onPort _ h.port.1 h.port.2

/-- A transaction writes the Local Port alone, but for the fetch of the reply to a RESTART, which goes on to the restart (R180). -/
theorem State.transact_cases (tr : Transaction) (phase : SpiPhase) :
    s.Ported (s.transact tr phase) ∨ (tr = .fetchReply ∧ ∃ v, s.Ported v ∧ s.transact tr phase = v.restart) := by
  have begun : s.Ported (s.onPort (fun p => p.begin s.count tr)) :=
    (State.Ported.refl s).onPort _ ⟨LocalPort.release_mode _ _, LocalPort.release_lawful _⟩
  have ended : ∀ t, s.Ported t → s.Ported (t.endSelect tr) ∨ (tr = .fetchReply ∧ ∃ v, s.Ported v ∧ t.endSelect tr = v.restart) := by
    intro t h
    have closed := h.onPort (fun p => { p with select := none }) ⟨rfl, id⟩
    unfold State.endSelect
    split
    · split
      · rename_i htr
        unfold State.effect
        split
        · split
          · exact .inl (closed.onPort _ ⟨rfl, id⟩)
          · exact .inl closed
        · exact .inl (closed.onPort _ ⟨rfl, id⟩)
        · rename_i hf
          split
          · have fetched := closed.onPort (fun p => { p with mailbox := p.mailbox.fetched }) ⟨rfl, id⟩
            split
            · exact .inr ⟨htr.symm.trans hf, _, fetched, rfl⟩
            · exact .inl fetched
          · exact .inl closed
        · exact .inl (closed.onPort _ ⟨(LocalPort.enterHeld_kept _ _ _).mode, fun k =>
            LocalPort.enterHeld_lawful _ _ _ (LocalPort.noticeFetched_lawful _ _ k)⟩)
      · exact .inl h
    · exact .inl h
  unfold State.transact
  split
  · exact ended _ begun
  · exact .inl begun
  · exact ended _ (.refl s)
  · refine .inl ((State.Ported.refl s).onPort _ ⟨?_, ?_⟩)
    · split
      · exact LocalPort.release_mode _ _
      · rfl
    · split
      · exact LocalPort.release_lawful _
      · exact id

theorem rebuiltRows_ordered (b : Option Bill) (n : Nat) (rows : List Row) : ∀ r ∈ rebuiltRows b n rows, r.ordered := by
  induction rows generalizing n with
  | nil => simp [rebuiltRows]
  | cons row rest ih => exact List.forall_mem_cons.2 ⟨⟨List.Pairwise.nil, List.Pairwise.nil⟩, ih _⟩

/-- Mass spilled is a chain of updates but for the tally. -/
theorem State.spill_chain (s : State) (cause : SpillCause) (mass : Nat) :
    (s.onBills (fun b => { b with spill := b.spill + mass })).Orderly (s.spill cause mass) := State.Orderly.refl.notify _

/-- A restart is two chains of updates, with the mode set and the queue emptied before the one, and the belt emptied between them into
the spill tally. -/
theorem State.restart_chains (s : State) : ∃ v, (s.onPort LocalPort.restart).Orderly v
    ∧ ((v.onBills (fun b => { b with spill := b.spill + v.belt.content })).onBelt Belt.emptied).Orderly s.restart := by
  have poured (w : State) : w.Orderly ((w.onPour Pour.restart).restartFill.onBerths (fun b => ⟨b.a.restart, b.b.restart⟩)) :=
    ((State.Orderly.refl.onPour _).onFill _ fun k =>
      ⟨rowsOrdered_map k.1 fun _ _ => rebuiltRows_ordered _ _ _, rowsOrdered_map k.2 fun _ _ => rebuiltRows_ordered _ _ _⟩).onBerths _
  have closed (w : State) : w.Orderly w.restartGate.restartLineClosed :=
    ((State.Orderly.refl.onPour _).onBills _ (Bills.closeLine_billed _ _ _ _ _) rfl).notifyLineClosed _ _ _ _
  have spilled (w : State) : ((w.onBills (fun b => { b with spill := b.spill + w.belt.content })).onBelt Belt.emptied).Orderly
      (w.restartSpill.onBelt Belt.emptied) := by
    unfold State.restartSpill
    split
    · exact State.Orderly.refl.notify _
    · rename_i h0
      have h : w.belt.content = 0 := by omega
      rw [h]
      exact .refl
  have cleared (w : State) : w.Orderly (w.onPeers (fun _ => [])).restartTravel.restartDust :=
    ((((State.Orderly.refl.onPeers (fun _ => []) fun _ => List.Pairwise.nil).onTravel _).onDust _
      fun _ => by exact List.Pairwise.nil).notifyOpt _).notifyOpt _
  refine ⟨_, State.Orderly.trans (State.Orderly.refl.onScale
    (fun c => { c with zeroRun := none, stillTimer := none }) rfl rfl) (closed _), ?_⟩
  unfold State.restart
  exact (((((spilled _).trans (poured _)).trans (cleared _)).onLine _).recompute).issueStatusAs _

/-- START BLOCK is a chain of updates, with the mode, the start block and the cells set before it. -/
theorem State.startBlocks_chain (s : State) (b : StartBlock) :
    ((({ s with cfg := some b } : State).onPort (fun p => { p with mode := .run, trigger := b.trigger })).onBelt
      (fun _ => ⟨List.replicate b.cellCount Cell.empty, 0, 0⟩)).Orderly
      (((s.startBlocks b).openLineUnit.recompute.issueStatus).done []) :=
  (((((((State.Orderly.refl.onScale _ rfl rfl).onTravel _).onDust _ id).onPour _).onLine _).recompute).issueStatusAs _).reply _ _

/-- The attribution of a leaving cell is a chain of updates but for its mass, which goes into the Bill Store (R29). -/
theorem State.attribute_chain (s : State) (c : Cell) : ∃ bs : Bills, (s.onBills (fun _ => bs)).Orderly (s.attribute c)
    ∧ bs.openLines.length = s.bills.openLines.length
    ∧ (s.bills.openLines.length ≤ 1 → bs.billed + bs.spill = s.bills.billed + s.bills.spill + c.mass) := by
  have row : ∀ (f : Fill) (x : Slot) (n : Nat), f.ordered → (f.onRow x n (fun r => { r with delivered := r.delivered + c.mass })).ordered := by
    intro f x n hf
    unfold Fill.onRow
    split
    · exact hf
    · refine Fill.ordered_onView x hf fun rows hrows r hr => ?_
      rcases mem_modify hr with hr | ⟨old, hold, rfl⟩
      · exact hrows r hr
      · exact hrows old hold
  have spilled : ∀ cause, ∃ bs : Bills, (s.onBills (fun _ => bs)).Orderly (s.spill cause c.mass)
      ∧ bs.openLines.length = s.bills.openLines.length
      ∧ (s.bills.openLines.length ≤ 1 → bs.billed + bs.spill = s.bills.billed + s.bills.spill + c.mass) :=
    fun cause => ⟨_, s.spill_chain cause c.mass, rfl, fun _ => (Nat.add_assoc _ _ _).symm⟩
  unfold State.attribute
  split
  · rename_i h0
    exact ⟨s.bills, .refl, rfl, fun _ => by rw [h0]; rfl⟩
  · split
    · rename_i x h l _ hl
      split
      · refine ⟨s.bills.addMass c.mass c.marked, (State.Orderly.refl.onFill _ (row _ _ _)).onHold _ _ _, ?_, fun hone => ?_⟩
        · rw [Bills.openLines_addMass, List.length_map]
        · rw [Bills.billed_addMass _ _ hl hone, show (s.bills.addMass c.mass c.marked).spill = s.bills.spill from rfl]
          omega
      · exact spilled _
    · exact spilled _

/-- The head cell takes its mass with it. -/
theorem Belt.content_shift {b : Belt} {head : Cell} (h : b.lawful) (hl : b.cells.getLast? = some head) :
    head.mass + b.shift.content = b.content := by
  have hle := List.le_sum_of_mem (List.mem_map_of_mem (f := Cell.mass) (List.mem_of_getLast? hl))
  have hs := h.1
  unfold Belt.shift
  rw [hl]
  dsimp only
  omega

/-- The first two steps of a belt pulse: the addition and the phase, up to the chain of updates that attributes a leaving cell. -/
theorem State.addPulse_advancePhase (s : State) :
    (s.addPulse.advancePhase = s.addPulse.onBelt (fun b => { b with phase := b.phase + 1 })
        ∧ s.addPulse.belt.phase + 1 < Config.pulsesPerCell)
      ∨ ∃ bs : Bills, ((s.addPulse.onBelt Belt.shift).onBills (fun _ => bs)).Orderly s.addPulse.advancePhase
          ∧ bs.openLines.length = s.addPulse.bills.openLines.length
          ∧ (s.addPulse.bills.openLines.length ≤ 1 → s.addPulse.belt.lawful → bs.billed + bs.spill + s.addPulse.belt.shift.content
              = s.addPulse.bills.billed + s.addPulse.bills.spill + s.addPulse.belt.content) := by
  unfold State.advancePhase
  split
  · exact .inl ⟨rfl, ‹_›⟩
  · refine .inr ?_
    dsimp only
    split
    · rename_i head hl
      obtain ⟨bs, attributed, hlen, hmass⟩ := (s.addPulse.onBelt Belt.shift).attribute_chain head
      refine ⟨bs, .ite (attributed.onPour _) attributed, hlen, fun hone hb => ?_⟩
      have hle := Belt.content_shift hb hl
      rw [hmass hone]
      show _ + head.mass + _ = _
      rw [Nat.add_assoc, hle]
      rfl
    · rename_i hl
      refine ⟨s.addPulse.bills, .refl, rfl, fun _ _ => ?_⟩
      rw [show s.addPulse.belt.shift.content = s.addPulse.belt.content by unfold Belt.shift; rw [hl]]

/-- A pulse of the zero run is such a chain, but for the tare that the end of a run sets. -/
theorem State.zeroPulse_chain (s : State) : ∃ v tare, s.Orderly v
    ∧ (v.onScale (fun c => { c with tare := tare })).Orderly s.zeroPulse ∧ (s.scale.zeroRun = none → tare = v.scale.tare) := by
  have failed : ∀ w, s.Orderly w → ∀ reason raw, ∃ v tare, s.Orderly v
      ∧ (v.onScale (fun c => { c with tare := tare })).Orderly (w.failZeroRun reason raw)
      ∧ (s.scale.zeroRun = none → tare = v.scale.tare) :=
    fun w h reason raw => ⟨_, _, h.failZeroRun reason raw, .refl, fun _ => rfl⟩
  unfold State.zeroPulse
  split
  · exact ⟨s, s.scale.tare, .refl, .refl, fun _ => rfl⟩
  · rename_i z hz
    have counted := (State.Orderly.refl (s := s)).onScale (fun c => { c with
      zeroRun := some { z with pulses := z.pulses + 1 }, stillTimer := s.timer Config.stillMs }) rfl rfl
    dsimp only
    split
    · unfold State.endZeroRun
      split
      · exact failed _ counted _ _
      · split
        · exact failed _ counted _ _
        · exact ⟨_, _, counted.onScale (fun c => { c with zeroRun := none, stillTimer := none }) rfl rfl,
            State.Orderly.refl.notify _, fun h => absurd (hz.symm.trans h) nofun⟩
    · exact ⟨_, _, counted, .refl, fun _ => rfl⟩

/-! ## The belt -/

theorem Belt.lawful_addPulse (s : State) (h : s.belt.lawful) : s.addPulse.belt.lawful := by
  unfold State.addPulse
  split
  · exact h
  · split
    · exact h
    · rename_i tail rest hc
      obtain ⟨hs, hp⟩ := h
      refine ⟨?_, hp⟩
      simp only [hc, List.map_cons, List.sum_cons] at hs ⊢
      omega

theorem Belt.lawful_shift {b : Belt} (h : b.lawful) : b.shift.lawful := by
  unfold Belt.shift
  split
  · rename_i head hl
    refine ⟨?_, Nat.zero_lt_succ _⟩
    have hc : b.cells = b.cells.dropLast ++ [head] := (List.dropLast_append_getLast? head hl).symm
    have hs := h.1
    rw [hc] at hs
    simp only [List.map_append, List.sum_append, List.map_cons, List.map_nil, List.sum_cons, List.sum_nil] at hs
    simp only [List.map_cons, List.sum_cons, Cell.empty]
    omega
  · exact ⟨h.1, Nat.zero_lt_succ _⟩

theorem Belt.lawful_emptied (b : Belt) : b.emptied.lawful := by
  refine ⟨?_, Nat.zero_lt_succ _⟩
  simp [Belt.emptied, Cell.empty]

theorem State.wellKept_addPulse (hs : s.wellKept) : s.addPulse.wellKept := by
  refine ⟨Belt.lawful_addPulse s hs.1, ?_⟩
  unfold State.addPulse
  repeat' split
  all_goals exact hs.2

theorem State.wellKept_onBelt (hs : s.wellKept) {f : Belt → Belt} (hf : (f s.belt).lawful) : (s.onBelt f).wellKept := ⟨hf, hs.2⟩

theorem State.wellKept_pulse (hs : s.wellKept) : s.pulse.wellKept := by
  have added := State.wellKept_addPulse hs
  have advanced : s.addPulse.advancePhase.wellKept := by
    rcases s.addPulse_advancePhase with ⟨he, hp⟩ | ⟨bs, h, -⟩
    · rw [he]
      exact State.wellKept_onBelt added ⟨added.1.1, hp⟩
    · exact h.wellKept (State.wellKept_onBelt added (Belt.lawful_shift added.1))
  obtain ⟨v, tare, hv, hz, -⟩ := s.addPulse.advancePhase.zeroPulse_chain
  exact hz.closeDecision.runoutTest.wellKept (hv.wellKept advanced)

theorem State.wellKept_restart (hs : s.wellKept) : s.restart.wellKept := by
  obtain ⟨v, hv, ht⟩ := s.restart_chains
  have ported : (s.onPort LocalPort.restart).wellKept :=
    ⟨hs.1, ⟨Nat.zero_le _, List.Pairwise.nil⟩, hs.2.2.1, hs.2.2.2⟩
  exact ht.wellKept (State.wellKept_onBelt (hv.wellKept ported) (Belt.lawful_emptied _))

/-! ## Every command -/

/-- Every command is such a chain but START BLOCK, BYPASS ON, BYPASS OFF, the fetch of the reply to a RESTART, a belt pulse, and
DISCARD BILL. -/
theorem State.Acts.sorted {Q : State → Prop} (h : s.Acts c u) (chain : s.Orderly u → Q u)
    (start : ∀ f : StartFields, c = .startBlock → s.port.mode = .config → firstFailure f.checks = none →
      Q (((s.startBlocks f.block).openLineUnit.recompute.issueStatus).done []))
    (on : c = .bypassOn → firstFailure s.bypassChecks = none →
      Q (((s.onPort (fun p => { p with mode := .bypass })).bypassLine).done []))
    (off : c = .bypassOff → Q (((s.onPort (fun p => { p with mode := .run })).reopenLine.travelEvent.issueStatus).done []))
    (fetch : ∀ phase v, c = .fetchReply phase → s.Orderly v → Q v.restart) (pulse : c = .beltPulse → s.configured = true → Q s.pulse)
    (discard : ∀ n b, c = .discardBill → s.bills.sealed? n = some b →
      Q ((s.onBills (fun bs => bs.discard n b)).done (uField 1 b.lines.length))) : Q u := by
  have at' := fun d => s.orderly_upTo d
  have r : s.Orderly s := .refl
  have transacted : ∀ tr phase, tr ≠ .fetchReply → s.Orderly (s.transact tr phase) := by
    intro tr phase htr
    exact ((State.transact_cases tr phase).resolve_right fun h => htr h.1).orderly
  cases h with
  | nothing => exact chain <| r
  | refused => exact chain <| r.reply _ _
  | post phase record => exact chain <| transacted _ _ nofun
  | withdraw phase => exact chain <| transacted _ _ nofun
  | fetchReply phase =>
    rcases State.transact_cases (s := s) .fetchReply phase with h | ⟨-, v, hv, he⟩
    · exact chain h.orderly
    · rw [he]; exact fetch phase v rfl hv.orderly
  | fetchNotice phase => exact chain <| transacted _ _ nofun
  | portState => exact chain <| r.onPort _ (LocalPort.release_mode _ _) (LocalPort.release_lawful _)
  | unknownTransaction => exact chain <| r.onPort _ (LocalPort.release_mode _ _) (LocalPort.release_lawful _)
  | startBlock f hm hf => exact start f rfl hm hf
  | restart => exact chain <| r.reply _ _
  | setMasks =>
    refine chain <| (r.onPort _ (LocalPort.followAge_kept _ _ _).mode fun k => ?_).reply _ _
    unfold LocalPort.queueLawful
    rw [(LocalPort.followAge_queue _ _ _).1]
    exact k
  | bypassOn hf => exact on rfl hf
  | bypassOff => exact off rfl
  | openSession f n hf hn => exact chain <| (r.openSession f n hn).mapTest.reply _ _
  | holdEntry => exact chain <| (r.onHold _ _ _).mapTest.reply _ _
  | setHatch => exact chain <| (r.onHold _ _ _).mapTest.reply _ _
  | permit => exact chain <| (r.onHold _ _ _).mapTest.reply _ _
  | shiftVessel => exact chain <| (r.shiftVessel _ _).reply _ _
  | setDraftLimit => exact chain <| (((r.onSession _ _).notify _).mapTest).reply _ _
  | closeSession => exact chain <| (r.closeSession _ _).mapTest.reply _ _
  | move => exact chain <| (State.Orderly.tellArrival (r.placeOrder _ _)).reply _ _
  | stopTravel => exact chain <| r.stopTravel.stopPour.reply _ _
  | faultClear => exact chain <| r.clearFault.reply _ _
  | pour => exact chain <| (r.enterClaim _).reply _ _
  | endPour => exact chain <| r.stopPour.reply _ _
  | zeroScale => exact chain <| (r.onScale _ rfl rfl).reply _ _
  | dustAcknowledge => exact chain <| (r.applyChannel _ _).reply _ _
  | discardBill n b hb => exact discard n b rfl hb
  | read => exact chain <| r.reply _ _
  | readHolds => exact chain <| (r.onSession _ _).reply _ _
  | loadSample => exact chain <| r.takeLoad _
  | beltPulse hc => exact pulse rfl hc
  | positionSample => exact chain <| (r.onTravel _).judgeSample _
  | dustSample => exact chain <| r.applyChannel _ _
  | brakeLevel => exact chain <| .onInputs _ r
  | brakeReleasedChange => exact chain <| (State.Orderly.onInputs _ r).brakeInput _
  | gateOpenLimit => exact chain <| r.gateOpened
  | gateClosedLimit => exact chain <| r.gateShut
  | beltLevel => exact chain <| .onInputs _ r
  | beltRunningChange => exact chain <| (State.Orderly.onInputs _ r).beltInput _
  | frame => exact chain <| r.frameArrives _ _
  | notValidFrame => exact chain <| r.dropInvalid _
  | frameSent => exact chain <| r.frameSent _
  | loadStale d => exact chain <| .ite (((at' d).onScale _ rfl rfl).setLoadStatus _) ((at' d).onScale _ rfl rfl)
  | loadFault d => exact chain <| .ite (((at' d).onScale _ rfl rfl).setLoadStatus _) ((at' d).onScale _ rfl rfl)
  | still d => exact chain <| ((at' d).onScale _ rfl rfl).failZeroRun _ _
  | silence p d => exact chain <| (at' d).losePort p
  | brk p d => exact chain <| ((at' d).issueBreak p).onLine _
  | status d => exact chain <| .ite ((at' d).issueStatusAs _) ((at' d).onLine _)
  | spacing d => exact chain <| (at' d).spacingExpiry
  | peerStale n e d => exact chain <| (at' d).staleExpiry e
  | encoder d => exact chain <| (at' d).encoderExpiry
  | release d => exact chain <| .ite ((at' d).onTravel _).enterMoving ((at' d).onTravel _)
  | brakeFail d => exact chain <| .ite (((at' d).onTravel _).faultTravel _) ((at' d).onTravel _)
  | settle d => exact chain <| (at' d).settleExpiry
  | claimWindow d => exact chain <| (at' d).decideClaim
  | positioning d => exact chain <| .ite ((at' d).withdrawClaim _) ((at' d).onPour _)
  | beltStart d => exact chain <| .ite (at' d).beltFails ((at' d).onPour _)
  | beltRetry d => exact chain <| ((at' d).onPour _).removeCause _
  | gate d => exact chain <| (at' d).gateExpiry
  | dustSilent channel d => exact chain <| (at' d).applyChannel _ _
  | age d => exact chain <| (at' d).onPort _ rfl id

theorem State.wellKept_startBlocks (b : StartBlock) (hs : s.wellKept) :
    (((s.startBlocks b).openLineUnit.recompute.issueStatus).done []).wellKept := by
  refine (s.startBlocks_chain b).wellKept ⟨⟨?_, Nat.zero_lt_succ _⟩, hs.2⟩
  simp [Cell.empty]

/-- BYPASS ON and BYPASS OFF are chains of updates, with the mode set before them. -/
theorem State.bypass_chains (s : State) :
    (s.onPort (fun p => { p with mode := .bypass })).Orderly
        (((s.onPort (fun p => { p with mode := .bypass })).bypassLine).done [])
      ∧ (s.onPort (fun p => { p with mode := .run })).Orderly
        (((s.onPort (fun p => { p with mode := .run })).reopenLine.travelEvent.issueStatus).done []) :=
  ⟨State.Orderly.refl.bypassLine.reply _ _, ((State.Orderly.refl.onLine _).travelEvent.issueStatusAs _).reply _ _⟩

theorem State.Acts.wellKept (h : s.Acts c u) (hs : s.wellKept) : u.wellKept :=
  h.sorted (fun k => k.wellKept hs) (fun _ _ _ _ => State.wellKept_startBlocks _ hs) (fun _ _ => s.bypass_chains.1.wellKept hs)
    (fun _ => s.bypass_chains.2.wellKept hs) (fun _ _ _ hv => State.wellKept_restart (hv.wellKept hs))
    (fun _ _ => State.wellKept_pulse hs) fun _ _ _ _ => hs

theorem State.Ends.wellKept (h : s.Ends u t) (hu : u.wellKept) : t.wellKept := by
  rcases h with rfl | ⟨rfl, rfl⟩
  · exact State.Orderly.refl.finish.wellKept hu
  · exact hu

theorem State.reset_wellKept (i : Inputs) (q : List Instr) : ({ State.reset with inputs := i, pending := q } : State).wellKept := by
  refine ⟨⟨rfl, Nat.zero_lt_succ _⟩, ⟨Nat.zero_le _, List.Pairwise.nil⟩, List.Pairwise.nil, ?_, List.Pairwise.nil⟩
  intro x rows h
  cases x <;> cases h

theorem exec_wellKept (hs : s.wellKept) (h : exec c s = .next t) : t.wellKept := by
  by_cases hc : c = .powerOnReset
  · subst hc
    rw [exec_powerOnReset] at h
    rw [← Host.Outcome.next.inj h]
    exact State.reset_wellKept _ _
  · obtain ⟨u, ha, he⟩ := exec_acts hc h
    exact he.wellKept (ha.wellKept hs)

end Sys2Proof.Machine

open Sys2Proof.Machine

/-- Settles O57: every command's effect is a chain of updates that keeps the lists in order, but for those that write the belt, where the
sum of the cells and the content move alike. -/
theorem everyStepKeepsBeltQueueAndPeersLawful : Obligations.EveryStepKeepsBeltQueueAndPeersLawful :=
  fun _ _ hs h => step_keeps (P := State.wellKept) (fun _ _ _ => exec_wellKept) (fun _ _ h => h) (fun _ h => h) hs h

end

section
/-! The whole-machine statements about the queue, the count, the part mode, the start block and the scale's account figures. -/

namespace Sys2Proof.Machine

variable {s t u : State} {c : Instr}

theorem State.Ends.onward (h : s.Ends u t) : u.Onward t := by
  rcases h with rfl | ⟨rfl, rfl⟩
  · exact State.Orderly.refl.finish.onward
  · exact .refl _

theorem State.Ends.undisturbed (h : s.Ends u t) : u.Undisturbed t := by
  rcases h with rfl | ⟨rfl, rfl⟩
  · exact State.Orderly.refl.finish.undisturbed
  · exact ⟨rfl, rfl, rfl, rfl⟩

theorem State.Undisturbed.trans (h : s.Undisturbed t) (k : t.Undisturbed u) : s.Undisturbed u :=
  ⟨k.cfg.trans h.cfg, k.mode.trans h.mode, k.tare.trans h.tare, k.total.trans h.total⟩

/-! ## A belt pulse -/

/-- The addition of a pulse writes the belt and the total, which does not fall. -/
theorem State.addPulse_frame (s : State) : s.addPulse = { s with belt := s.addPulse.belt, scale := s.addPulse.scale }
    ∧ s.scale.total ≤ s.addPulse.scale.total ∧ s.addPulse.scale.tare = s.scale.tare
    ∧ s.addPulse.scale.zeroRun = s.scale.zeroRun := by
  unfold State.addPulse
  split
  · exact ⟨rfl, le_rfl, rfl, rfl⟩
  · split
    · exact ⟨rfl, le_rfl, rfl, rfl⟩
    · exact ⟨rfl, Nat.le_add_right _ _, rfl, rfl⟩

/-- What the phase with its shift and attribution leaves. -/
theorem State.advancePhase_frame (s : State) :
    s.addPulse.Onward s.addPulse.advancePhase ∧ s.addPulse.Undisturbed s.addPulse.advancePhase := by
  rcases s.addPulse_advancePhase with ⟨he, -⟩ | ⟨bs, h, -⟩
  · rw [he]
    exact ⟨⟨rfl, le_rfl⟩, rfl, rfl, rfl, rfl⟩
  · exact ⟨⟨h.onward.pending, h.onward.count⟩, h.undisturbed.cfg, h.undisturbed.mode, h.undisturbed.tare, h.undisturbed.total⟩

theorem State.advancePhase_zeroRun (s : State) : s.advancePhase.scale.zeroRun = s.scale.zeroRun := by
  have attributed : ∀ (t : State) (c : Cell), (t.attribute c).scale = t.scale := by
    intro t c
    unfold State.attribute State.deliver State.spill
    repeat' split
    all_goals simp
  have counted : ∀ t : State, t.countShift.scale = t.scale := by
    intro t
    unfold State.countShift
    split <;> rfl
  unfold State.advancePhase
  dsimp only
  repeat' split
  · rfl
  · rw [counted, attributed]; rfl
  · rfl

/-- A belt pulse leaves the queue, the count, the start block and the mode; the total does not fall; the tare stands where no zero run
is RUNNING. -/
theorem State.pulse_frame (s : State) : s.Onward s.pulse ∧ s.pulse.cfg = s.cfg ∧ s.pulse.port.mode = s.port.mode
    ∧ s.scale.total ≤ s.pulse.scale.total ∧ (s.scale.zeroRun = none → s.pulse.scale.tare = s.scale.tare) := by
  obtain ⟨he, htot, htare, hzero⟩ := s.addPulse_frame
  have added : s.Onward s.addPulse := by rw [he]; exact ⟨rfl, le_rfl⟩
  have hcfg : s.addPulse.cfg = s.cfg := by rw [he]
  have hmode : s.addPulse.port = s.port := by rw [he]
  obtain ⟨ho, hu⟩ := s.advancePhase_frame
  obtain ⟨v, tare, hv, hz, hnone⟩ := s.addPulse.advancePhase.zeroPulse_chain
  have hk := hz.closeDecision.runoutTest
  have ko := hk.onward
  have ku := hk.undisturbed
  refine ⟨added.trans (ho.trans (hv.onward.trans ⟨ko.pending, ko.count⟩)), ?_, ?_, ?_, fun h => ?_⟩
  · exact ku.cfg.trans (hv.undisturbed.cfg.trans (hu.cfg.trans hcfg))
  · exact ku.mode.trans (hv.undisturbed.mode.trans (hu.mode.trans (by rw [hmode])))
  · exact htot.trans (le_of_eq (ku.total.trans (hv.undisturbed.total.trans hu.total)).symm)
  · have hn : s.addPulse.advancePhase.scale.zeroRun = none := by rw [s.addPulse.advancePhase_zeroRun, hzero, h]
    exact ku.tare.trans ((hnone hn).trans (hv.undisturbed.tare.trans (hu.tare.trans htare)))

/-! ## Restart and START BLOCK -/

theorem State.restart_frame (s : State) : s.Onward s.restart ∧ s.restart.cfg = s.cfg ∧ s.restart.scale.tare = s.scale.tare
    ∧ s.restart.scale.total = s.scale.total := by
  obtain ⟨v, hv, ht⟩ := s.restart_chains
  have ko := hv.onward
  have ku := hv.undisturbed
  exact ⟨State.Onward.trans (t := v) ⟨ko.pending, ko.count⟩ ⟨ht.onward.pending, ht.onward.count⟩, ht.undisturbed.cfg.trans ku.cfg,
    ht.undisturbed.tare.trans ku.tare, ht.undisturbed.total.trans ku.total⟩

/-! ## Every command -/

theorem State.Acts.onward (h : s.Acts c u) : s.Onward u :=
  h.sorted (fun k => k.onward)
    (fun f _ _ _ => have k := (s.startBlocks_chain f.block).onward; ⟨k.pending, k.count⟩)
    (fun _ _ => have k := s.bypass_chains.1.onward; ⟨k.pending, k.count⟩)
    (fun _ => have k := s.bypass_chains.2.onward; ⟨k.pending, k.count⟩)
    (fun _ v _ hv => hv.onward.trans v.restart_frame.1) (fun _ _ => s.pulse_frame.1) fun _ _ _ _ => ⟨rfl, le_rfl⟩

/-- The part mode and the start block, command by command. -/
theorem State.Acts.mode_cfg (h : s.Acts c u) :
    (u.port.mode ≠ s.port.mode → c = .startBlock ∨ c = .bypassOn ∨ c = .bypassOff ∨ ∃ phase, c = .fetchReply phase)
      ∧ (u.cfg ≠ s.cfg → c = .startBlock) :=
  h.sorted (Q := fun w => (w.port.mode ≠ s.port.mode → c = .startBlock ∨ c = .bypassOn ∨ c = .bypassOff ∨ ∃ phase, c = .fetchReply phase)
      ∧ (w.cfg ≠ s.cfg → c = .startBlock))
    (fun k => ⟨fun hm => absurd k.undisturbed.mode hm, fun hc => absurd k.undisturbed.cfg hc⟩)
    (fun _ hc _ _ => ⟨fun _ => .inl hc, fun _ => hc⟩)
    (fun hc _ => ⟨fun _ => .inr (.inl hc), fun h => absurd s.bypass_chains.1.undisturbed.cfg h⟩)
    (fun hc => ⟨fun _ => .inr (.inr (.inl hc)), fun h => absurd s.bypass_chains.2.undisturbed.cfg h⟩)
    (fun phase v hc hv => ⟨fun _ => .inr (.inr (.inr ⟨phase, hc⟩)), fun h => absurd (v.restart_frame.2.1.trans hv.undisturbed.cfg) h⟩)
    (fun _ _ => ⟨fun h => absurd s.pulse_frame.2.2.1 h, fun h => absurd s.pulse_frame.2.1 h⟩)
    fun _ _ _ _ => ⟨fun h => absurd rfl h, fun h => absurd rfl h⟩

/-- The tare and the total, command by command. -/
theorem State.Acts.tare_total (h : s.Acts c u) : (u.scale.tare ≠ s.scale.tare → c = .beltPulse ∧ s.scale.zeroRun.isSome)
    ∧ s.scale.total ≤ u.scale.total ∧ (u.scale.total ≠ s.scale.total → c = .beltPulse) := by
  have kept : ∀ w : State, w.scale.tare = s.scale.tare → w.scale.total = s.scale.total →
      (w.scale.tare ≠ s.scale.tare → c = .beltPulse ∧ s.scale.zeroRun.isSome)
        ∧ s.scale.total ≤ w.scale.total ∧ (w.scale.total ≠ s.scale.total → c = .beltPulse) :=
    fun w ha ho => ⟨fun h => absurd ha h, ho.ge, fun h => absurd ho h⟩
  refine h.sorted (Q := fun w => (w.scale.tare ≠ s.scale.tare → c = .beltPulse ∧ s.scale.zeroRun.isSome)
      ∧ s.scale.total ≤ w.scale.total ∧ (w.scale.total ≠ s.scale.total → c = .beltPulse))
    (fun k => kept _ k.undisturbed.tare k.undisturbed.total) (fun f _ _ _ => ?_) (fun _ _ => ?_) (fun _ => ?_)
    (fun _ v _ hv => ?_) (fun hc _ => ?_) fun _ _ _ _ => kept _ rfl rfl
  · exact kept _ (s.startBlocks_chain f.block).undisturbed.tare (s.startBlocks_chain f.block).undisturbed.total
  · exact kept _ s.bypass_chains.1.undisturbed.tare s.bypass_chains.1.undisturbed.total
  · exact kept _ s.bypass_chains.2.undisturbed.tare s.bypass_chains.2.undisturbed.total
  · exact kept _ (v.restart_frame.2.2.1.trans hv.undisturbed.tare) (v.restart_frame.2.2.2.trans hv.undisturbed.total)
  · obtain ⟨-, -, -, hle, htare⟩ := s.pulse_frame
    refine ⟨fun h => ⟨hc, ?_⟩, hle, fun _ => hc⟩
    cases hz : s.scale.zeroRun with
    | none => exact absurd (htare hz) h
    | some z => rfl

/-- The end of a command leaves no status change waiting. -/
theorem exec_quiet (hs : s.quiet) (h : exec c s = .next t) : t.quiet := by
  by_cases hc : c = .powerOnReset
  · subst hc
    rw [exec_powerOnReset] at h
    rw [← Host.Outcome.next.inj h]
    rfl
  · obtain ⟨u, -, rfl | ⟨-, rfl⟩⟩ := exec_acts hc h
    · exact u.finish_quiet
    · exact hs

end Sys2Proof.Machine

open Sys2Proof Sys2Proof.Machine

/-- Settles O4: a command's end issues or notes its status changes, and a tick is a chain of expiry commands. -/
theorem noStatusChangeWaitsBetweenCommands : Obligations.NoStatusChangeWaitsBetweenCommands :=
  fun _ _ hs h => step_keeps (P := State.quiet) (fun _ _ _ => exec_quiet) (fun _ _ h => h) (fun _ h => h) hs h

/-- Settles O5, command by command, from the chains of updates and the four commands that write the mode, the start block, the tare or
the total. -/
theorem protectedStateChangesOnlyAtItsCommands : Obligations.ProtectedStateChangesOnlyAtItsCommands := by
  refine ⟨fun c s t h hc => ?_, fun c s t h hc => ?_⟩ <;> obtain ⟨u, ha, he⟩ := exec_acts hc h
  · rw [he.undisturbed.mode, he.undisturbed.cfg]
    exact ha.mode_cfg
  · rw [he.undisturbed.tare, he.undisturbed.total]
    exact ha.tare_total

/-- Settles O3: every effect completes, and no chain of updates writes the queue or turns the count back. -/
theorem everyCommandCompletesAndTimeNeverRunsBack : Obligations.EveryCommandCompletesAndTimeNeverRunsBack := by
  intro c s
  by_cases hc : c = .powerOnReset
  · subst hc
    exact ⟨_, exec_powerOnReset, rfl, fun h => absurd rfl h⟩
  · obtain ⟨u, t, ht, ha, he⟩ := exec_completes (s := s) hc
    have k := ha.onward.trans he.onward
    exact ⟨t, ht, k.pending, fun _ => k.count⟩

/-- Settles O1: it is the step's first case. -/
theorem stepTakesTheFrontCommand : Obligations.StepTakesTheFrontCommand := fun _ _ _ => rfl

/-- Settles O7: the reset state, written out. -/
theorem powerOnResetClearsEveryBlock : Obligations.PowerOnResetClearsEveryBlock := by
  rintro s port channel rfl rfl
  rfl

/-- Settles O2: no timer is due in the millisecond after, so each expiry of the tick is passed over. -/
theorem idleStepIsOneMillisecond : Obligations.IdleStepIsOneMillisecond := by
  intro s hq ht
  have idle : ∀ (l : List ((State → Timer) × Instr)) (t : State), (∀ e ∈ l, t.due (e.1 t) = false) →
      l.foldl State.expireDue t = t := by
    intro l t h
    induction l with
    | nil => rfl
    | cons e rest ih =>
      have he : t.expireDue e = t := by simp [State.expireDue, h e List.mem_cons_self]
      rw [List.foldl_cons, he]
      exact ih fun e' he' => h e' (List.mem_cons_of_mem _ he')
  have same : ∀ e ∈ timers, e.1 ({ s with count := s.count + 1 } : State).placeReply = e.1 s := by
    simp [timers, List.range, List.range.loop, State.placeReply, State.onPort, State.peerTimer, State.entry]
  have hstep : Machine.step s = .next s.tick := by simp only [Machine.step, hq]
  rw [hstep]
  refine congrArg Host.Outcome.next ((idle timers _ fun e he => ?_).trans ?_)
  · rw [same e he]
    unfold State.due
    split
    · rename_i d hd
      exact decide_eq_false (Nat.not_le.2 (ht e he d hd))
    · rfl
  · simp only [State.placeReply, State.onPort, State.mk.injEq, LocalPort.mk.injEq, true_and, and_true]
    cases s.port.mailbox <;> rfl

/-- Settles O60: the reset state, conjunct by conjunct. -/
theorem resetMeetsTheInvariants : Obligations.ResetMeetsTheInvariants := by
  refine ⟨rfl, State.reset_wellKept _ _, ⟨trivial, nofun, nofun, nofun⟩, ⟨?_, fun _ => rfl, ?_, ?_, nofun, nofun⟩, rfl⟩
  · exact ⟨rfl, Nat.zero_lt_succ _⟩
  · exact Nat.zero_le _
  · exact fun h => absurd rfl h

end

section
/-! SUPPORT. The gate, the open line, the claim and its window: what the two invariants of the pour (R125, R25) rest on, and how the
operations of the Pour Sequencer keep it. -/

namespace Sys2Proof.Machine

variable {s t u : State} {G G' R R' L : Prop}

/-! ## What the pour invariants rest on -/

/-- The gate is commanded lawfully (`G`), in GATE_WAIT at the rate of the throttle condition (`R`); at most one line is open, and none
outside the line-open states (`L`); a line-open pour has its claim, and the claim window runs only in CLAIMING. -/
structure State.Sound (G R L : Prop) (s : State) : Prop where
  gate : G → s.pour.gateLawful
  rate : R → s.pour.state = .starting → s.pour.phase = some .gateWait → s.pour.gateCommand = s.openRate
  lines : L → s.bills.openLines.length ≤ 1 ∧ (s.bills.openLines ≠ [] → s.lineOpen)
  claim : s.lineOpen → s.fill.claim.isSome
  timer : s.fill.claimTimer.isSome → s.pour.state = .claiming

theorem State.gateSafe_iff : s.gateSafe ↔ s.Sound True True False :=
  ⟨fun ⟨hg, hr, hc, ht⟩ => ⟨fun _ => hg, fun _ => hr, False.elim, hc, ht⟩, fun h => ⟨h.gate trivial, h.rate trivial, h.claim, h.timer⟩⟩

/-- Nothing that the pour invariants speak of changes. -/
structure State.Level (R : Prop) (s t : State) : Prop where
  state : t.pour.state = s.pour.state
  phase : t.pour.phase = s.pour.phase
  command : t.pour.gateCommand = s.pour.gateCommand
  rate : R → t.openRate = s.openRate
  lines : t.bills.openLines.length = s.bills.openLines.length
  claim : t.fill.claim.isSome = s.fill.claim.isSome
  timer : t.fill.claimTimer = s.fill.claimTimer

theorem State.lineOpen_of {x : PourState} {b : Bool} (h : s.pour.state = x) (hx : x.lineOpen = b) : s.lineOpen = b :=
  (congrArg PourState.lineOpen h).trans hx

theorem State.Level.refl (s : State) : s.Level R s := ⟨rfl, rfl, rfl, fun _ => rfl, rfl, rfl, rfl⟩

theorem State.Level.trans (h : s.Level R t) (k : t.Level R u) : s.Level R u :=
  ⟨k.state.trans h.state, k.phase.trans h.phase, k.command.trans h.command, fun r => (k.rate r).trans (h.rate r), k.lines.trans h.lines,
    k.claim.trans h.claim, k.timer.trans h.timer⟩

theorem State.Level.lineOpen (h : s.Level R t) : t.lineOpen = s.lineOpen := congrArg PourState.lineOpen h.state

theorem State.Level.forget (h : s.Level R t) : s.Level False t := { h with rate := False.elim }

theorem State.Sound.level (h : s.Sound G R L) (k : s.Level R t) : t.Sound G R L where
  gate g := by
    have := h.gate g
    unfold Pour.gateLawful at this ⊢
    rwa [k.command, k.state, k.phase]
  rate r hs hp := by
    rw [k.command, k.rate r]
    exact h.rate r (k.state ▸ hs) (k.phase ▸ hp)
  lines l := by
    rw [k.lineOpen, k.lines, ← List.length_pos_iff, k.lines, List.length_pos_iff]
    exact h.lines l
  claim ho := by rw [k.claim]; exact h.claim (k.lineOpen ▸ ho)
  timer ht := by rw [k.state]; exact h.timer (k.timer ▸ ht)

theorem State.Sound.ite {p : Prop} [Decidable p] (h : p → t.Sound G R L) (k : ¬p → u.Sound G R L) :
    (if p then t else u).Sound G R L := by
  split
  · exact h ‹_›
  · exact k ‹_›

theorem State.Sound.forget (h : s.Sound G R L) : s.Sound G False L := { h with rate := False.elim }

/-- Outside GATE_WAIT the rate is no matter. -/
theorem State.Sound.atRate (h : s.Sound G False L) (hs : s.pour.state ≠ .starting) : s.Sound G R L :=
  { h with rate := fun _ hst => absurd hst hs }

/-- With the gate commanded CLOSED only the line and the claim matter. -/
theorem State.Sound.of_closed (hg : G → s.pour.gateCommand = .closed) (hs : s.pour.state = .starting → s.pour.phase ≠ some .gateWait)
    (hl : L → s.bills.openLines.length ≤ 1 ∧ (s.bills.openLines ≠ [] → s.lineOpen)) (hc : s.lineOpen → s.fill.claim.isSome)
    (ht : s.fill.claimTimer.isSome → s.pour.state = .claiming) : s.Sound G R L :=
  ⟨fun g => by unfold Pour.gateLawful; rw [hg g]; trivial, fun _ h hp => absurd hp (hs h), hl, hc, ht⟩

/-- Outside the states in which grain may flow a lawful gate is commanded CLOSED. -/
theorem Pour.closed_of_lawful {p : Pour} (h : p.gateLawful) (hp : p.state ≠ .pouring) (ht : p.state ≠ .throttled)
    (hs : p.state = .starting → p.phase ≠ some .gateWait) : p.gateCommand = .closed := by
  unfold Pour.gateLawful at h
  split at h
  · assumption
  · exact absurd h (by simp_all)
  · exact absurd h (by simp_all)

/-- Outside the claim window the timer is stopped. -/
theorem State.Sound.noTimer (h : s.Sound G R L) (hs : s.pour.state ≠ .claiming) : s.fill.claimTimer = none :=
  Option.not_isSome_iff_eq_none.1 fun ht => hs (h.timer ht)

theorem State.Sound.noLines (h : s.Sound G R L) (hs : s.lineOpen = false) (l : L) : s.bills.openLines = [] :=
  by_contra fun hn => by simpa [hs] using (h.lines l).2 hn

/-! ## Operations that leave all of this -/

theorem State.openRate_congr (hc : t.fill.claim = s.fill.claim) (hd : t.dust = s.dust) : t.openRate = s.openRate := by
  unfold State.openRate State.throttle State.peerReports State.activeClaim
  rw [hd, hc]

theorem State.Level.of_blocks (hp : t.pour = s.pour) (hf : t.fill = s.fill) (hd : t.dust = s.dust) (hb : t.bills = s.bills) :
    s.Level R t := by
  exact ⟨by rw [hp], by rw [hp], by rw [hp], fun _ => State.openRate_congr (by rw [hf]) hd, by rw [hb], by rw [hf], by rw [hf]⟩

theorem State.TravelOnly.level (h : s.TravelOnly t) : s.Level R t := .of_blocks h.pour h.fill h.dust h.bills

theorem State.Level.travel (h : s.Level R t) (k : t.TravelOnly u) : s.Level R u := h.trans k.level

theorem State.Level.ite {p : Prop} [Decidable p] (h : s.Level R t) (k : s.Level R u) : s.Level R (if p then t else u) := by
  split
  · exact h
  · exact k

theorem State.Level.onPort (h : s.Level R t) (f : LocalPort → LocalPort) : s.Level R (t.onPort f) := h.trans (.of_blocks rfl rfl rfl rfl)

theorem State.Level.notify (h : s.Level R t) (body : NoticeBody) : s.Level R (t.notify body) := h.trans (.of_blocks rfl rfl rfl rfl)

theorem State.Level.notifyOpt (h : s.Level R t) (body : Option NoticeBody) : s.Level R (t.notifyOpt body) := by
  cases body with
  | none => exact h
  | some b => exact h.notify b

theorem State.Level.markStatus (h : s.Level R t) : s.Level R t.markStatus := h.trans (.of_blocks rfl rfl rfl rfl)

theorem State.Level.onLine (h : s.Level R t) (f : QuayLine → QuayLine) : s.Level R (t.onLine f) := h.trans (.of_blocks rfl rfl rfl rfl)

theorem State.Level.onTravel (h : s.Level R t) (f : Travel → Travel) : s.Level R (t.onTravel f) := h.trans (.of_blocks rfl rfl rfl rfl)

theorem State.Level.onScale (h : s.Level R t) (f : Scale → Scale) : s.Level R (t.onScale f) := h.trans (.of_blocks rfl rfl rfl rfl)

theorem State.Level.onBerths (h : s.Level R t) (f : Berths → Berths) : s.Level R (t.onBerths f) := h.trans (.of_blocks rfl rfl rfl rfl)

theorem State.Level.onHold (h : s.Level R t) (x : Slot) (n : Nat) (f : Hold → Hold) : s.Level R (t.onHold x n f) := by
  refine h.trans ?_
  unfold State.onHold
  split
  · exact .refl _
  · exact .of_blocks rfl rfl rfl rfl

theorem State.Level.onBills (h : s.Level R t) (f : Bills → Bills) (hf : (f t.bills).openLines.length = t.bills.openLines.length) :
    s.Level R (t.onBills f) := h.trans ⟨rfl, rfl, rfl, fun _ => rfl, hf, rfl, rfl⟩

theorem State.Level.onPour (h : s.Level R t) (f : Pour → Pour) (hs : (f t.pour).state = t.pour.state)
    (hp : (f t.pour).phase = t.pour.phase) (hg : (f t.pour).gateCommand = t.pour.gateCommand) : s.Level R (t.onPour f) :=
  h.trans ⟨hs, hp, hg, fun _ => rfl, rfl, rfl, rfl⟩

@[simp] theorem State.setGate_state (c : GateCommand) : (s.setGate c).pour.state = s.pour.state := by
  unfold State.setGate
  simp only [State.onPour_pour]
  repeat' split
  all_goals rfl

@[simp] theorem State.setGate_phase (c : GateCommand) : (s.setGate c).pour.phase = s.pour.phase := by
  unfold State.setGate
  simp only [State.onPour_pour]
  repeat' split
  all_goals rfl

@[simp] theorem State.setGate_gateCommand (c : GateCommand) : (s.setGate c).pour.gateCommand = c := by
  unfold State.setGate
  simp only [State.onPour_pour]
  repeat' split
  all_goals rfl

theorem State.Level.onFill (h : s.Level R t) (f : Fill → Fill) (hf : (f t.fill).claim = t.fill.claim ∧ (f t.fill).claimTimer = t.fill.claimTimer) :
    s.Level R (t.onFill f) :=
  h.trans ⟨rfl, rfl, rfl, fun _ => State.openRate_congr hf.1 rfl, rfl, congrArg Option.isSome hf.1, hf.2⟩

theorem State.Level.setBelt (h : s.Level R t) (on : Bool) : s.Level R (t.setBelt on) := by
  refine h.onPour _ ?_ ?_ ?_
  all_goals repeat' split
  all_goals rfl

theorem State.Level.beltByCauses (h : s.Level R t) : s.Level R t.beltByCauses := h.setBelt _

theorem State.Level.setCauses (h : s.Level R t) (c : CauseSet) : s.Level R (t.setCauses c) := by
  have k : s.Level R (t.onPour (fun p => { p with causes := c, passSuspended := p.passSuspended || !c.isEmpty })) :=
    h.onPour _ rfl rfl rfl
  unfold State.setCauses
  dsimp only
  repeat' split
  · exact h
  · exact k.notify _
  · exact k
  · exact k

theorem State.Level.notifyLineClosed (h : s.Level R t) (line : Option BillLine) (cause : ClosureCause)
    (overshoot : Option Int) (residue : Option Nat) : s.Level R (t.notifyLineClosed line cause overshoot residue) := by
  unfold State.notifyLineClosed
  split
  · exact h.notify _
  · exact h

theorem State.Level.lineClosedToTravel (s : State) : s.Level R s.lineClosedToTravel := (State.TravelOnly.refl s).rangeEvent.level

theorem State.Level.adapt (h : s.Level R t) (cause : RunoutCause) (o : Option Int) : s.Level R (t.adapt cause o) := by
  unfold State.adapt
  repeat' split
  · exact h
  · exact h.onPour _ rfl rfl rfl
  · exact h

theorem State.Level.placeOrder (h : s.Level R t) (target : Int) (source : OrderSource) : s.Level R (t.placeOrder target source).1 :=
  h.travel ((State.TravelOnly.refl t).placeOrder target source)

theorem State.Level.reAim (h : s.Level R t) (source : OrderSource) : s.Level R (t.reAim source) := by
  have k : s.Level R (t.onPour (fun p => { p with reAimed := true })) := h.onPour _ rfl rfl rfl
  unfold State.reAim
  dsimp only
  repeat' split
  · exact h
  · exact k.placeOrder _ _
  · exact k

theorem State.Level.arrivalOpen (h : s.Level R t) (source : OrderSource) : s.Level R (t.arrivalOpen source) := .ite h (h.reAim _)

theorem State.Level.placeReturn (h : s.Level R t) : s.Level R t.placeReturn := by
  unfold State.placeReturn
  split
  · split
    · rename_i p _
      have k : s.Level R ((t.onPour (fun q => { q with reAimed := false })).placeOrder p .returning).1 :=
        (h.onPour _ rfl rfl rfl).placeOrder _ _
      split
      · rename_i e; rw [e] at k; exact k.arrivalOpen _
      · rename_i e; rw [e] at k; exact k
    · exact h
  · exact h

/-! ## The end of a line -/

/-- The end of the own claim leaves pour and bills, and with no line open nothing waits for it. -/
theorem State.Sound.endClaim (h : s.Sound G R L) (ho : s.lineOpen = false) (hs : s.pour.state ≠ .claiming) :
    s.endClaim.Sound G R L := by
  have hn := h.noTimer hs
  unfold State.endClaim
  split
  · exact h
  · refine State.Sound.level (s := s.onFill (fun f => { f.onView _ (removeClaims s.station) with claim := none, claimTimer := none }))
      ⟨h.gate, fun _ hst => ?_, h.lines, fun hl => ?_, nofun⟩ ((State.Level.refl _).onHold _ _ _).markStatus
    · exact absurd ho (by unfold State.lineOpen; rw [show s.pour.state = .starting from hst]; nofun)
    · exact absurd (ho.symm.trans hl) nofun

/-- Entry to a state without a line, nothing of the pass left but the claim. -/
theorem State.Sound.toUnlined {x : PourState} (hx : x.lineOpen = false) (hg : G → s.pour.gateCommand = .closed)
    (hl : L → s.bills.openLines = []) (hn : s.fill.claimTimer = none) : (s.setPour x).Sound G R L := by
  have hf : (s.setPour x).fill = s.fill := by unfold State.setPour; split <;> rfl
  have hb : (s.setPour x).bills = s.bills := by unfold State.setPour; split <;> rfl
  have hp := s.setPour_pour x
  refine .of_closed (by rw [hp]; exact hg) (by rw [hp]; rintro rfl; cases hx) (fun l => ?_) (fun ho => ?_) (fun ht => ?_)
  · rw [hb, hl l]; exact ⟨Nat.zero_le _, fun h => absurd rfl h⟩
  · unfold State.lineOpen at ho; rw [hp] at ho; exact absurd (hx.symm.trans ho) nofun
  · rw [hf, hn] at ht; cases ht

/-- The same, from a state without a line. -/
theorem State.Sound.unlined (h : s.Sound G R L) (ho : s.lineOpen = false) (hn : s.fill.claimTimer = none) {x : PourState}
    (hx : x.lineOpen = false) : (s.setPour x).Sound G R L :=
  .toUnlined hx (fun g => Pour.closed_of_lawful (h.gate g) (fun e => by unfold State.lineOpen at ho; rw [e] at ho; cases ho)
    (fun e => by unfold State.lineOpen at ho; rw [e] at ho; cases ho)
    fun e => by unfold State.lineOpen at ho; rw [e] at ho; cases ho) (h.noLines ho) hn

theorem State.setPour_lineOpen (x : PourState) : (s.setPour x).lineOpen = x.lineOpen := by
  unfold State.lineOpen; rw [s.setPour_pour x]

/-- The last steps of a pass: the pour IDLE, the line handed to travel, the claim ended. -/
theorem State.Sound.passEnds (hg : G → s.pour.gateCommand = .closed) (hl : L → s.bills.openLines = []) (hn : s.fill.claimTimer = none)
    (k : (s.setPour .idle).Level R t) : t.endClaim.Sound G R L := by
  have hs : t.pour.state = .idle := k.state.trans (by rw [s.setPour_pour])
  exact ((State.Sound.toUnlined rfl hg hl hn).level k).endClaim (State.lineOpen_of hs rfl) (by rw [hs]; nofun)

theorem State.lineOpen_ne_claiming (h : s.lineOpen) : s.pour.state ≠ .claiming := by
  intro e
  rw [State.lineOpen, e] at h
  cases h

theorem State.Sound.withdrawPass (h : s.Sound G R L) (ho : s.lineOpen) : s.withdrawPass.Sound G R L := by
  have hn := h.noTimer (State.lineOpen_ne_claiming ho)
  have belt : (s.setGate .closed).Level R ((s.setGate .closed).setBelt false) := (State.Level.refl _).setBelt _
  have causes := (State.Level.refl (R := R) (((s.setGate .closed).setBelt false).onPour
    (fun p => { p with beltRetryTimer := none, phase := none }))).setCauses CauseSet.empty
  have command := causes.command.trans (belt.command.trans (State.setGate_gateCommand _))
  have timer := causes.timer.trans (belt.timer.trans hn)
  unfold State.withdrawPass
  refine State.Sound.level (State.Sound.passEnds ?_ (fun _ => ?_) ?_ (State.Level.lineClosedToTravel _))
    ((State.Level.refl _).notifyLineClosed _ _ _ _)
  · exact fun _ => command
  · exact Bills.openLines_closeLine _ _ _ _ _
  · exact timer

theorem State.Sound.endRunout (h : s.Sound G R L) (hs : s.pour.state = .runout)
    (cause : RunoutCause) : (s.endRunout cause).Sound G R L := by
  have hn := h.noTimer (by rw [hs]; nofun)
  have hg : G → s.pour.gateCommand = .closed := fun g =>
    Pour.closed_of_lawful (h.gate g) (by rw [hs]; nofun) (by rw [hs]; nofun) (by rw [hs]; nofun)
  have belt := fun b : Bills → Bills => (State.Level.refl (R := R) (s.onBills b)).setBelt false
  unfold State.endRunout
  refine State.Sound.level (State.Sound.passEnds ?_ (fun _ => ?_) ?_ ((State.Level.lineClosedToTravel _).adapt _ _))
    ((State.Level.refl _).notifyLineClosed _ _ _ _)
  · exact fun g => (belt _).command.trans (hg g)
  · exact Bills.openLines_closeLine _ _ _ _ _
  · exact hn

theorem State.Sound.runoutTest (h : s.Sound G R L) : s.runoutTest.Sound G R L := by
  unfold State.runoutTest
  split
  · split
    · exact h.endRunout ‹_› _
    · exact h
  · exact h

/-- What a line-open state leaves when the gate is commanded CLOSED and the pour goes to RUNOUT or SUSPENDED. -/
theorem State.Sound.setPour_open (h : s.Sound G R L) (ho : s.lineOpen) (hg : G → s.pour.gateCommand = .closed) (x : PourState)
    (hx : x.lineOpen) (hp : x = .starting → s.pour.phase ≠ some .gateWait) : (s.setPour x).Sound G R L := by
  have hf : (s.setPour x).fill = s.fill := by unfold State.setPour; split <;> rfl
  have hb : (s.setPour x).bills = s.bills := by unfold State.setPour; split <;> rfl
  have he := s.setPour_pour x
  have hl := s.setPour_lineOpen x
  refine .of_closed (by rw [he]; exact hg) (by rw [he]; exact hp) (fun l => ?_) (fun _ => ?_) (fun ht => ?_)
  · rw [hb, hl, hx]; exact ⟨(h.lines l).1, fun _ => rfl⟩
  · rw [hf]; exact h.claim ho
  · rw [hf, h.noTimer (State.lineOpen_ne_claiming ho)] at ht; cases ht

/-- The gate commanded CLOSED, the phase gone. -/
theorem State.Sound.shut (h : s.Sound G R L) (f : Pour → Pour) (hf : ∀ p : Pour, (f p).state = p.state)
    (hc : ∀ p : Pour, (f p).gateCommand = p.gateCommand) (hp : ∀ p : Pour, (f p).phase = none) :
    ((s.setGate .closed).onPour f).Sound G R L := by
  have hst : ((s.setGate .closed).onPour f).pour.state = s.pour.state := (hf _).trans (State.setGate_state _)
  have ho : ((s.setGate .closed).onPour f).lineOpen = s.lineOpen := congrArg PourState.lineOpen hst
  refine .of_closed (fun _ => (hc _).trans (State.setGate_gateCommand _)) (fun _ => ?_) (fun l => ?_) (fun k => h.claim ?_) (fun ht => ?_)
  · rw [show ((s.setGate .closed).onPour f).pour.phase = none from hp _]; nofun
  · rw [ho]; exact h.lines l
  · rwa [← ho]
  · rw [hst]; exact h.timer ht

theorem State.shut_state (c : GateCommand) (f : Pour → Pour) (hf : ∀ p : Pour, (f p).state = p.state) :
    ((s.setGate c).onPour f).lineOpen = s.lineOpen := congrArg PourState.lineOpen ((hf _).trans (State.setGate_state _))

/-- The gate commanded CLOSED, the phase gone, and another line-open state entered. -/
theorem State.Sound.shutInto (h : s.Sound G R L) (ho : s.lineOpen) (f : Pour → Pour) (hf : ∀ p : Pour, (f p).state = p.state)
    (hc : ∀ p : Pour, (f p).gateCommand = p.gateCommand) (hp : ∀ p : Pour, (f p).phase = none) (x : PourState) (hx : x.lineOpen) :
    (((s.setGate .closed).onPour f).setPour x).Sound G R L :=
  (h.shut f hf hc hp).setPour_open (by rw [State.shut_state _ _ hf]; exact ho)
    (fun _ => (hc _).trans (State.setGate_gateCommand _)) x hx fun _ => by
      rw [show ((s.setGate .closed).onPour f).pour.phase = none from hp _]; nofun

theorem State.Sound.enterRunout (h : s.Sound G R L) (ho : s.lineOpen) (cause : RunoutCause) : (s.enterRunout cause).Sound G R L :=
  ((h.shutInto ho _ (by exact fun _ => rfl) (by exact fun _ => rfl) (by exact fun _ => rfl) .runout rfl).level (State.Level.refl _).beltByCauses).runoutTest

theorem State.Sound.enterSuspended (h : s.Sound G R L) (ho : s.lineOpen) : s.enterSuspended.Sound G R L :=
  (h.shutInto ho _ (by exact fun _ => rfl) (by exact fun _ => rfl) (by exact fun _ => rfl) .suspended rfl).level
    ((State.Level.refl _).beltByCauses.onBills _ (Bills.openLines_countSuspension _))

theorem State.Sound.reactAdd (h : s.Sound G R L) : s.reactAdd.Sound G R L := by
  unfold State.reactAdd
  split
  · exact h.enterSuspended (State.lineOpen_of ‹_› rfl)
  · exact h.enterSuspended (State.lineOpen_of ‹_› rfl)
  · exact h.enterSuspended (State.lineOpen_of ‹_› rfl)
  · exact h.level (State.Level.refl _).beltByCauses
  · exact h.level (State.Level.refl _).beltByCauses
  · exact h

theorem State.Sound.setCauses (h : s.Sound G R L) (c : CauseSet) : (s.setCauses c).Sound G R L :=
  h.level ((State.Level.refl _).setCauses c)

theorem State.Sound.placeReturn (h : s.Sound G R L) : s.placeReturn.Sound G R L := h.level (State.Level.refl _).placeReturn

theorem State.Sound.addCause (h : s.Sound G R L) (c : SuspendCause) : (s.addCause c).Sound G R L := by
  unfold State.addCause
  dsimp only
  repeat' split
  · exact (h.setCauses _).reactAdd.placeReturn
  · exact (h.setCauses _).reactAdd
  · exact h

theorem State.Sound.failCause (h : s.Sound G R L) (c : SuspendCause) : (s.failCause c).Sound G R L := by
  have failed := (State.Level.refl (R := R) s).setCauses (s.pour.causes.put true c) |>.onPour (fun p => { p with
    failures := min (p.failures + 1) Config.maxFailures
    beltRetryTimer := if c = .belt then s.timer Config.beltRetryMs else p.beltRetryTimer }) rfl rfl rfl
  unfold State.failCause
  dsimp only
  exact .ite (fun ho => .ite (fun _ => (h.level failed).withdrawPass (by rw [failed.lineOpen]; exact ho))
    fun _ => (h.level failed).reactAdd) fun _ => h

/-! ## Starting -/

/-- The part of the invariants that does not speak of the gate. -/
theorem State.Sound.weaken (h : s.Sound G R L) : s.Sound False False L := { h with gate := False.elim, rate := False.elim }

/-- The gate commanded at a rate that the state allows. -/
theorem State.Sound.commanded (h : s.Sound False False L) (ht : s.pour.state ≠ .claiming) (k : s.lineOpen = t.lineOpen) (hg : G → t.pour.gateLawful)
    (hr : R → t.pour.state = .starting → t.pour.gateCommand = t.openRate) (hf : t.fill = s.fill) (hb : t.bills = s.bills) :
    t.Sound G R L :=
  ⟨hg, fun r hst _ => hr r hst, fun l => by rw [hb, ← k]; exact h.lines l, fun ho => by rw [hf]; exact h.claim (k ▸ ho),
    fun hct => by rw [hf, h.noTimer ht] at hct; cases hct⟩

/-- The gate commanded at the rate of the throttle condition, in GATE_WAIT. -/
theorem State.Sound.gateCommanded (h : s.Sound G' R' L) (hs : s.pour.state = .starting) (hp : s.pour.phase = some .gateWait) :
    (s.setGate s.openRate).Sound G R L := by
  have state : (s.setGate s.openRate).pour.state = .starting := (State.setGate_state _).trans hs
  have phase : (s.setGate s.openRate).pour.phase = some .gateWait := (State.setGate_phase _).trans hp
  refine h.weaken.commanded (by rw [hs]; nofun) ?_ (fun _ => ?_) (fun _ _ => ?_) rfl rfl
  · exact congrArg PourState.lineOpen (state.trans hs.symm).symm
  · unfold Pour.gateLawful
    split
    · trivial
    · exact .inr ⟨state, phase⟩
    · exact .inr ⟨state, phase⟩
  · exact State.setGate_gateCommand _

/-- Grain flows at a rate: POURING at FULL, or THROTTLED at REDUCED. -/
theorem State.Sound.flowing (h : s.Sound G R' L) (ho : s.lineOpen) (c : GateCommand) (x : PourState)
    (hx : (x = .pouring ∧ c = .openFull) ∨ (x = .throttled ∧ c = .openReduced)) : ((s.setGate c).setPour x).Sound G R L := by
  have he := (s.setGate c).setPour_pour x
  have hg : ((s.setGate c).setPour x).pour.gateCommand = c := by rw [he]; exact State.setGate_gateCommand c
  have hf : ((s.setGate c).setPour x).fill = s.fill := by unfold State.setPour; split <;> rfl
  have hb : ((s.setGate c).setPour x).bills = s.bills := by unfold State.setPour; split <;> rfl
  refine h.weaken.commanded (State.lineOpen_ne_claiming ho) ?_ (fun _ => ?_) (fun _ e => ?_) hf hb
  · rw [State.setPour_lineOpen, ho]
    rcases hx with ⟨rfl, -⟩ | ⟨rfl, -⟩ <;> rfl
  · unfold Pour.gateLawful
    rw [hg, he]
    rcases hx with ⟨rfl, rfl⟩ | ⟨rfl, rfl⟩ <;> exact .inl rfl
  · rw [he] at e
    rcases hx with ⟨rfl, -⟩ | ⟨rfl, -⟩ <;> cases e

theorem State.Sound.gateWait (h : s.Sound G R L) (hs : s.pour.state = .starting) : s.gateWait.Sound G R L :=
  .ite (fun _ => h.enterRunout (State.lineOpen_of hs rfl) _) fun _ => .ite (fun _ => h.failCause _) fun _ =>
    State.Sound.gateCommanded (s := s.onPour (fun p => { p with phase := some .gateWait }))
      (G' := False) (R' := False) ⟨False.elim, False.elim, h.lines, h.claim, h.timer⟩ hs rfl

/-- BELT_WAIT, entered from a state in which the gate is commanded CLOSED. -/
theorem State.Sound.beltWait (h : s.Sound G R L) (hs : s.pour.state = .starting) (hp : s.pour.phase ≠ some .gateWait) :
    s.beltWait.Sound G R L := by
  have hg : G → s.pour.gateCommand = .closed := fun g =>
    Pour.closed_of_lawful (h.gate g) (by rw [hs]; nofun) (by rw [hs]; nofun) fun _ => hp
  have waiting : (s.onPour (fun p => { p with phase := some .beltWait })).Sound G R L :=
    .of_closed hg (fun _ => by nofun) h.lines h.claim h.timer
  have k := (State.Level.refl (R := R) (s.onPour (fun p => { p with phase := some .beltWait }))).setBelt true
  exact .ite (fun _ => (waiting.level k).gateWait (k.state.trans hs)) fun _ => waiting.level k

theorem State.Sound.reEnterStarting (h : s.Sound G R L) (hs : s.pour.state = .suspended) : s.reEnterStarting.Sound G R L := by
  have ho : s.lineOpen := State.lineOpen_of hs rfl
  have hg : G → s.pour.gateCommand = .closed := fun g =>
    Pour.closed_of_lawful (h.gate g) (by rw [hs]; nofun) (by rw [hs]; nofun) (by rw [hs]; nofun)
  have waiting : (s.onPour (fun p => { p with phase := some .beltWait })).Sound G R L :=
    .of_closed hg (fun e => absurd (hs.symm.trans e) nofun) h.lines h.claim h.timer
  have starting := waiting.setPour_open ho hg .starting rfl fun _ => by nofun
  have he := (s.onPour (fun p => { p with phase := some .beltWait })).setPour_pour .starting
  exact .ite (fun _ => starting.beltWait (by rw [he]) (by rw [he]; nofun)) fun _ => starting.addCause _

theorem State.Sound.removeCause (h : s.Sound G R L) (c : SuspendCause) : (s.removeCause c).Sound G R L := by
  have removed := h.level ((State.Level.refl (R := R) s).setCauses (s.pour.causes.put false c) |>.onPour (fun p => { p with
    beltRetryTimer := if c = .belt then none else p.beltRetryTimer }) rfl rfl rfl)
  unfold State.removeCause
  refine .ite (fun _ => ?_) fun _ => h
  dsimp only
  split
  · exact .ite (fun _ => removed.reEnterStarting ‹_›) fun _ => removed.level (State.Level.refl _).beltByCauses
  · exact removed.level (State.Level.refl _).beltByCauses
  · exact removed

theorem State.Sound.syncCause (h : s.Sound G R L) (c : SuspendCause) (held : Bool) : (s.syncCause c held).Sound G R L :=
  .ite (fun _ => h.addCause c) fun _ => h.removeCause c

/-- The throttle condition tested afresh sets the rate that it gives. -/
theorem State.Sound.retestThrottle (h : s.Sound G R' L) : s.retestThrottle.Sound G R L := by
  unfold State.retestThrottle
  split
  · rename_i hs
    exact .ite (fun _ => h.flowing (State.lineOpen_of hs rfl) _ _ (.inr ⟨rfl, rfl⟩))
      fun _ => h.forget.atRate (by rw [hs]; nofun)
  · rename_i hs
    exact .ite (fun _ => h.forget.atRate (by rw [hs]; nofun))
      fun _ => h.flowing (State.lineOpen_of hs rfl) _ _ (.inl ⟨rfl, rfl⟩)
  · exact h.gateCommanded ‹_› ‹_›
  · rename_i hn
    exact { h with rate := fun _ hs hp => absurd hp (hn hs) }

/-- The number of the bill of a slot's session; 0 without one. -/
def State.billNumber (s : State) (x : Slot) : Nat :=
  match s.session x with
  | some ses => ses.bill
  | none => 0

/-- The line of a claim taken, and STARTING entered for it (R130). -/
def State.lineStarted (s : State) (c : OwnClaim) : State :=
  ((s.onBills (fun b => b.takeLine (s.billNumber c.slot) c s.count)).onPour (fun p => { p with
    positioningTimer := none, failures := 0, passSuspended := false, phase := some .beltWait
    causes := CauseSet.empty })).setPour .starting

/-- The range computed and the causes formed afresh on the line (R130). -/
def State.causesFormed (s : State) : State := s.recompute.setCauses s.recompute.formedCauses

theorem State.enterStarting_of_claim {c : OwnClaim} (hc : s.fill.claim = some c) :
    s.enterStarting = if (s.lineStarted c).causesFormed.pour.causes.isEmpty then (s.lineStarted c).causesFormed.beltWait
      else (s.lineStarted c).causesFormed.enterSuspended := by
  unfold State.enterStarting
  rw [hc]
  rfl

theorem State.Level.causesFormed (s : State) : s.Level R s.causesFormed := ((State.TravelOnly.refl s).recompute.level).setCauses _

theorem State.Sound.lineStarted (h : s.Sound G R L) (hs : s.pour.state = .positioning) {c : OwnClaim} (hc : s.fill.claim = some c) :
    (s.lineStarted c).Sound G R L := by
  have hn := h.noTimer (by rw [hs]; nofun)
  have hl := h.noLines (State.lineOpen_of hs rfl)
  have hg : G → s.pour.gateCommand = .closed := fun g =>
    Pour.closed_of_lawful (h.gate g) (by rw [hs]; nofun) (by rw [hs]; nofun) (by rw [hs]; nofun)
  unfold State.lineStarted
  generalize hv : ((s.onBills (fun b => b.takeLine (s.billNumber c.slot) c s.count)).onPour (fun p => { p with
      positioningTimer := none, failures := 0, passSuspended := false, phase := some .beltWait
      causes := CauseSet.empty })) = v
  have he := v.setPour_pour .starting
  have hf : (v.setPour .starting).fill = s.fill := by rw [← hv]; unfold State.setPour; split <;> rfl
  have hb : (v.setPour .starting).bills = s.bills.takeLine (s.billNumber c.slot) c s.count := by
    rw [← hv]; unfold State.setPour; split <;> rfl
  refine .of_closed (fun g => ?_) (fun _ => ?_) (fun l => ⟨?_, fun _ => v.setPour_lineOpen .starting⟩) (fun _ => ?_) (fun ht => ?_)
  · rw [he, ← hv]; exact hg g
  · rw [he, ← hv]; nofun
  · have := s.bills.openLines_takeLine (s.billNumber c.slot) c s.count
    rw [hl l] at this
    rw [hb]; exact this
  · rw [hf, hc]; rfl
  · rw [hf, hn] at ht; cases ht

theorem State.lineStarted_pour (c : OwnClaim) :
    (s.lineStarted c).pour.state = .starting ∧ (s.lineStarted c).pour.phase = some .beltWait := by
  unfold State.lineStarted
  rw [State.setPour_pour]
  exact ⟨rfl, rfl⟩

theorem State.Sound.enterStarting (h : s.Sound G R L) (hs : s.pour.state = .positioning) : s.enterStarting.Sound G R L := by
  cases hc : s.fill.claim with
  | none => unfold State.enterStarting; rw [hc]; exact h
  | some c =>
    obtain ⟨hst, hph⟩ := s.lineStarted_pour c
    have k := State.Level.causesFormed (R := R) (s.lineStarted c)
    have formed := (h.lineStarted hs hc).level k
    have state := k.state.trans hst
    rw [State.enterStarting_of_claim hc]
    exact .ite (fun _ => formed.beltWait state (by rw [k.phase, hph]; nofun))
      fun _ => formed.enterSuspended (State.lineOpen_of state rfl)

theorem State.Sound.reAim (h : s.Sound G R L) (source : OrderSource) : (s.reAim source).Sound G R L :=
  h.level ((State.Level.refl _).reAim source)

theorem State.Sound.arrivalPositioning (h : s.Sound G R L) (hs : s.pour.state = .positioning) (source : OrderSource) :
    (s.arrivalPositioning source).Sound G R L := .ite (fun _ => h.enterStarting hs) fun _ => h.reAim source

theorem State.Sound.tellArrival {r : State × Option OrderSource} (h : r.1.Sound G R L) : (State.tellArrival r).Sound G R L := by
  unfold State.tellArrival
  split
  · exact .ite (fun _ => h) fun _ => .ite (fun hs => h.arrivalPositioning hs _) fun _ =>
      .ite (fun _ => h.level ((State.Level.refl _).arrivalOpen _)) fun _ => h
  · exact h

theorem State.Sound.travel (h : s.Sound G R L) (k : s.TravelOnly t) : t.Sound G R L := h.level k.level

theorem State.Sound.travelEvent (h : s.Sound G R L) : s.travelEvent.Sound G R L :=
  State.Sound.tellArrival (h.travel (State.TravelOnly.refl s).rangeEvent)

theorem State.Sound.positioningCases (h : s.Sound G R L) (hs : s.pour.state = .positioning) : s.positioningCases.Sound G R L := by
  have k := h.level ((State.Level.refl (R := R) s).onPour (fun p => { p with reAimed := false }) rfl rfl rfl)
  unfold State.positioningCases
  refine .ite (fun _ => k) fun _ => .ite (fun _ => k.enterStarting hs) fun _ => ?_
  split
  · rename_i p _
    have placed := (State.TravelOnly.refl (s.onPour (fun p => { p with reAimed := false }))).placeOrder p .position
    split
    · rename_i e
      rw [e] at placed
      exact (k.travel placed).arrivalPositioning (by rw [placed.pour]; exact hs) _
    · rename_i e
      rw [e] at placed
      exact k.travel placed
  · exact k

/-! ## The claim -/

theorem State.Sound.enterPositioning (h : s.Sound G R L) (ho : s.lineOpen = false) (hn : s.fill.claimTimer = none) :
    s.enterPositioning.Sound G R L := by
  have k := h.level ((State.Level.refl (R := R) s).onPour (fun p => { p with positioningTimer := s.timer Config.positioningMs })
    rfl rfl rfl)
  exact (k.unlined ho hn (x := .positioning) rfl).positioningCases (by rw [State.setPour_pour])

theorem State.Sound.withdrawClaim (h : s.Sound G R L) (hs : s.pour.state = .positioning) (cause : WithdrawCause) :
    (s.withdrawClaim cause).Sound G R L := by
  have withdrawn : ∀ u : State, u.Sound G R L → u.pour.state = .positioning → ∀ b, ((u.endClaim.notify b).setPour .idle).Sound G R L := by
    intro u k e b
    have ho : u.lineOpen = false := State.lineOpen_of e rfl
    have he : u.endClaim.pour = u.pour := u.endClaim_pour
    have ended := (k.endClaim ho (by rw [e]; nofun)).level ((State.Level.refl _).notify b)
    refine ended.unlined ?_ (ended.noTimer ?_) rfl
    · show u.endClaim.lineOpen = false
      unfold State.lineOpen; rw [he, e]; rfl
    · show u.endClaim.pour.state ≠ .claiming
      rw [he, e]; nofun
  have k := h.level ((State.Level.refl (R := R) s).onPour (fun p => { p with positioningTimer := none }) rfl rfl rfl)
  have stopped := (State.TravelOnly.refl (s.onPour (fun p => { p with positioningTimer := none }))).stopTravel
  unfold State.withdrawClaim
  split
  · exact h
  · dsimp only
    split
    · exact withdrawn _ (k.travel stopped) (by rw [stopped.pour]; exact hs) _
    · exact withdrawn _ k hs _

theorem State.Sound.loseClaim (h : s.Sound G R L) (ho : s.lineOpen = false) (reason : Reason) :
    (s.loseClaim reason).Sound G R L := by
  have hst : s.pour.state ≠ .starting := fun e => by unfold State.lineOpen at ho; rw [e] at ho; cases ho
  unfold State.loseClaim
  split
  · exact h
  · refine State.Sound.unlined (R := R) (State.Sound.level ?_ ((State.Level.refl _).markStatus.notify _)) (by exact ho) ?_ (x := .idle) rfl
    · exact ⟨h.gate, fun _ e => absurd e hst, h.lines, fun e => absurd (ho.symm.trans e) nofun, nofun⟩
    · rfl

theorem State.Sound.grantClaim (h : s.Sound G R L) (ho : s.lineOpen = false) (c : OwnClaim) : (s.grantClaim c).Sound G R L := by
  have hst : s.pour.state ≠ .starting := fun e => by unfold State.lineOpen at ho; rw [e] at ho; cases ho
  have hold : ∀ (u : State) (x : Slot) (n : Nat) (f : Hold → Hold), (u.onHold x n f).lineOpen = u.lineOpen := by
    intro u x n f; unfold State.lineOpen; rw [State.onHold_pour]
  unfold State.grantClaim
  refine State.Sound.enterPositioning (State.Sound.level ?_ (((State.Level.refl _).onHold _ _ _).markStatus.notify _)) ?_ ?_
  · exact ⟨h.gate, fun _ e => absurd e hst, h.lines, fun _ => rfl, nofun⟩
  · exact (hold _ _ _ _).trans ho
  · exact congrArg Fill.claimTimer (State.onHold_fill _ _ _ _)

theorem State.Sound.decideClaim (h : s.Sound G R L) (hs : s.pour.state = .claiming) : s.decideClaim.Sound G R L := by
  have ho : s.lineOpen = false := State.lineOpen_of hs rfl
  unfold State.decideClaim
  split
  · exact ⟨h.gate, h.rate, h.lines, h.claim, nofun⟩
  · split
    · exact h.loseClaim ho _
    · exact h.grantClaim ho _

/-! ## Events that reach the pour -/

theorem State.Sound.mapTest (h : s.Sound G R L) : s.mapTest.Sound G R L := .ite (fun _ => h.syncCause _ _) fun _ => h

theorem State.Sound.syncDustOwn (h : s.Sound G R L) : s.syncDustOwn.Sound G R L := h.syncCause _ _

theorem State.Sound.syncDustPeer (h : s.Sound G R' L) : s.syncDustPeer.Sound G R L := (h.syncCause _ _).retestThrottle

theorem State.Sound.faultTravel (h : s.Sound G R L) (cause : TravelFault) : (s.faultTravel cause).Sound G R L :=
  (h.travel ((State.TravelOnly.refl s).enterFaulted cause)).addCause _

theorem State.Sound.stopPour (h : s.Sound G R L) : s.stopPour.Sound G R L := by
  unfold State.stopPour
  split
  · exact h
  · exact h
  · exact h.loseClaim (State.lineOpen_of ‹_› rfl) _
  · exact h.withdrawClaim ‹_› _
  all_goals exact h.enterRunout (State.lineOpen_of ‹_› rfl) _

theorem State.Sound.yieldPour (h : s.Sound G R L) : s.yieldPour.Sound G R L := by
  unfold State.yieldPour
  split
  · exact h.withdrawClaim ‹_› _
  · exact h.enterRunout (State.lineOpen_of ‹_› rfl) _
  · exact h.enterRunout (State.lineOpen_of ‹_› rfl) _
  · exact h.enterRunout (State.lineOpen_of ‹_› rfl) _
  · exact h.enterRunout (State.lineOpen_of ‹_› rfl) _
  · exact h

theorem State.Sound.closeDecision (h : s.Sound G R L) : s.closeDecision.Sound G R L := by
  unfold State.closeDecision
  split
  · exact .ite (fun _ => h.enterRunout (State.lineOpen_of ‹_› rfl) _) fun _ => h
  · exact .ite (fun _ => h.enterRunout (State.lineOpen_of ‹_› rfl) _) fun _ => h
  · exact h

theorem State.Sound.lateConflictTest (h : s.Sound G R L) : s.lateConflictTest.Sound G False L := by
  unfold State.lateConflictTest
  split
  · exact h.forget
  · split
    · exact h.forget
    · refine .ite (fun _ => State.Sound.yieldPour (State.Sound.level h.forget ?_)) fun _ => h.forget
      exact ⟨rfl, rfl, rfl, False.elim, rfl, by simp, rfl⟩

/-! ## Scale, dust and peers -/

theorem State.Level.failZeroRun (h : s.Level R t) (reason : ZeroFailure) (raw : Option Nat) : s.Level R (t.failZeroRun reason raw) := by
  unfold State.failZeroRun
  split
  · exact (h.onScale _).notify _
  · exact h

theorem State.Sound.setLoadStatus (h : s.Sound G R L) (status : LoadStatus) : (s.setLoadStatus status).Sound G R L := by
  unfold State.setLoadStatus
  exact (h.level (State.Level.ite (((State.Level.refl _).onScale _).notify _) ((State.Level.refl _).onScale _))).syncCause _ _

theorem State.Sound.takeLoad (h : s.Sound G R L) (raw : Nat) : (s.takeLoad raw).Sound G R L := by
  have sampled : ∀ u : State, s.Level R u → s.Level R (u.zeroSample raw) := by
    intro u k
    unfold State.zeroSample
    split
    · exact k
    · exact .ite ((k.onScale _).failZeroRun _ _) (k.onScale _)
  unfold State.takeLoad State.episodeAct State.startLoadTimers
  exact (h.level (sampled _ ((State.Level.ite ((((State.Level.refl _).onScale _).onScale _).notify _)
    (((State.Level.refl _).onScale _).onScale _)).onScale _))).setLoadStatus _

theorem State.Level.issueDust (h : s.Level R t) : s.Level R t.issueDust := .ite (h.onLine _) h

theorem State.Sound.applyChannel (h : s.Sound G R L) (c : Channel) (r : DustChannel) : (s.applyChannel c r).Sound G R L := by
  have dust : s.Level False (s.onDust (fun d => d.setChannel c r)) := ⟨rfl, rfl, rfl, False.elim, rfl, rfl, rfl⟩
  have same : (s.dust.channel c).state = r.state → s.Level R (s.onDust (fun d => d.setChannel c r)) := by
    intro e
    refine ⟨rfl, rfl, rfl, fun _ => ?_, rfl, rfl, rfl⟩
    cases c with
    | spout =>
      unfold State.openRate State.throttle State.peerReports State.activeClaim
      rw [show (s.onDust (fun d => d.setChannel .spout r)).dust.spout.state = s.dust.spout.state from e.symm]
      rfl
    | gallery => rfl
  unfold State.applyChannel
  refine .ite (fun e => h.level (same e)) fun _ => ?_
  have noticed := h.forget.level ((dust.notifyOpt (leaveNotice c (s.dust.channel c).state r)).notifyOpt (enterNotice c r))
  have aborted : ∀ u : State, u.Sound G R L → (u.dustAbort r.state).Sound G R L := fun u k => .ite (fun _ => k.level ((State.Level.refl _).failZeroRun _ _)) fun _ => k
  have poured := aborted _ (State.Sound.retestThrottle (noticed.syncDustOwn))
  cases c with
  | gallery => exact poured
  | spout => exact poured.level (.ite (State.Level.issueDust (.refl _)).markStatus (State.Level.refl _).markStatus)

theorem Fill.setView_claim (f : Fill) (x : Slot) (v : Option (List Row)) :
    (f.setView x v).claim = f.claim ∧ (f.setView x v).claimTimer = f.claimTimer := by cases x <;> exact ⟨rfl, rfl⟩

theorem State.Level.onPeers (h : s.Level R t) (f : List PeerEntry → List PeerEntry) : s.Level R (t.onPeers f) :=
  h.trans (.of_blocks rfl rfl rfl rfl)

theorem State.Level.onDust (h : s.Level False t) (f : Dust → Dust) : s.Level False (t.onDust f) :=
  h.trans ⟨rfl, rfl, rfl, False.elim, rfl, rfl, rfl⟩

theorem State.Level.putChanged (h : s.Level False t) (e : PeerEntry) : s.Level False (t.putChanged e) :=
  ((h.onPeers _).notify _).onDust _

theorem State.Level.putEntry (h : s.Level False t) (before : Freshness) (e : PeerEntry) : s.Level False (t.putEntry before e) :=
  .ite (h.onPeers _) (h.putChanged e)

theorem State.Level.handOn (h : s.Level False t) (e : PeerEntry) (c : Content) : s.Level False (t.handOn e c) := by
  exact (h.onFill _ (Fill.handed_claim t.fill e.station c)).onDust _

theorem State.Level.fold (h : s.Level False t) (f : State → PeerEntry → State) (hf : ∀ u e, s.Level False u → s.Level False (f u e))
    (l : List PeerEntry) : s.Level False (l.foldl f t) := by
  induction l generalizing t with
  | nil => exact h
  | cons e rest ih => exact ih (hf _ e h)

theorem State.Level.useBreak (h : s.Level False t) (p : Side) (d : Nat) (c : Content) : s.Level False (t.useBreak p d c) := by
  unfold State.useBreak
  split
  · exact .ite (h.fold _ (fun _ _ k => k.putChanged _) _) h
  · exact h

theorem State.Level.onBerth (h : s.Level R t) (x : Slot) (f : Berth → Berth) : s.Level R (t.onBerth x f) := h.onBerths _

theorem State.Level.onSession (h : s.Level R t) (x : Slot) (f : Session → Session) : s.Level R (t.onSession x f) := h.onBerth x _

theorem State.Level.decideMismatch (h : s.Level R t) (x : Slot) : s.Level R (t.decideMismatch x) := by
  unfold State.decideMismatch
  split
  · exact .ite h ((h.onBerth x _).notify _)
  · exact .ite ((h.onBerth x _).notify _) h

/-- What follows a change of the table ends with the throttle condition tested afresh. -/
theorem State.Sound.afterPeers (h : t.Sound G False L) (before : State) (occasion : Bool) : (t.afterPeers before occasion).Sound G R L := by
  have moved := (h.level (State.Level.ite (p := (occasion || t.freshnesses != before.freshnesses) = true)
    (((State.Level.refl t).decideMismatch .a).decideMismatch .b) (.refl t))).travelEvent
  unfold State.afterPeers
  exact (State.Sound.ite (fun _ => moved.lateConflictTest) fun _ => moved).syncDustPeer

theorem State.Sound.hear (h : s.Sound G R L) (p : Side) (f : Frame) : (s.hear p f).Sound G R L := by
  have k := State.Level.refl (R := False) s
  unfold State.hear
  split
  · exact (h.forget.level (((k.putChanged _).handOn _ _).useBreak _ _ _)).afterPeers _ _
  · refine .ite (fun _ => h) fun _ => .ite (fun _ => ?_) fun _ => ?_
    · exact (h.forget.level (((k.putEntry _ _).handOn _ _).useBreak _ _ _)).afterPeers _ _
    · exact (h.forget.level ((k.notify _).putChanged _)).afterPeers _ _

theorem State.Level.goStale (h : s.Level False t) (e : PeerEntry) : s.Level False (t.goStale e) := .ite (h.putChanged _) h

theorem State.Sound.staleSide (h : s.Sound G R L) (p : Side) : (s.staleSide p).Sound G R L :=
  (h.forget.level ((State.Level.refl s).fold _ (fun _ _ k => k.goStale _) _)).afterPeers _ _

theorem State.Sound.staleExpiry (h : s.Sound G R L) (e : PeerEntry) : (s.staleExpiry e).Sound G R L :=
  (h.forget.level (((State.Level.refl s).onPeers _).goStale _)).afterPeers _ _

/-! ## The line -/

theorem State.Level.issueStatusAs (h : s.Level R t) (m : PartMode) : s.Level R (t.issueStatusAs m) := h.onLine (fun _ => _)

theorem State.Level.issueClaim (h : s.Level R t) (c : OwnClaim) : s.Level R (t.issueClaim c) := .ite (h.onLine _) h

theorem State.Level.issueBreak (h : s.Level R t) (lost : Side) : s.Level R (t.issueBreak lost) := .ite (h.onLine _) h

theorem State.Level.issueLastStatus (h : s.Level R t) : s.Level R t.issueLastStatus := ((h.onLine _).issueStatusAs _).onLine _

theorem State.Level.recompute (h : s.Level R t) : s.Level R t.recompute := h.onTravel _

theorem State.Level.finish (h : s.Level R t) : s.Level R t.finish :=
  .ite (.ite (.ite (h.onLine _) (h.issueStatusAs _)) (h.onLine _)) h

theorem State.Level.offer (h : s.Level R t) (out : Side) (bytes : List Byte) : s.Level R (t.offer out bytes) :=
  .ite (h.onLine _) ((h.onLine _).notify _)

theorem State.Level.dropInvalid (h : s.Level R t) (p : Side) : s.Level R (t.dropInvalid p) :=
  .ite ((h.onLine _).notify _) (h.onLine _)

theorem State.Sound.countRestore (h : s.Sound G R L) (p : Side) (hop : Nat) : (s.countRestore p hop).Sound G R L := by
  have k := State.Level.refl (R := R) s
  exact .ite (fun _ => .ite (fun _ => .ite (fun _ => h.level (k.onLine _))
    fun _ => (h.level (((k.onLine _).onLine _).notify _)).travelEvent) fun _ => h.level (k.onLine _)) fun _ => h

theorem State.Sound.takeFrame (h : s.Sound G R L) (p : Side) (bytes : List Byte) (f : Frame) : (s.takeFrame p bytes f).Sound G R L := by
  have counted := (h.level ((State.Level.refl s).onLine (fun l => l.onPort p (fun r => r.hear (s.timer Config.silenceMs))))).countRestore
    p f.hop
  unfold State.takeFrame
  exact (State.Sound.ite (fun _ => counted.level ((State.Level.refl _).offer _ _)) fun _ => counted).hear _ _

theorem State.Sound.frameArrives (h : s.Sound G R L) (p : Side) (bytes : List Byte) : (s.frameArrives p bytes).Sound G R L := by
  unfold State.frameArrives
  refine .ite (fun _ => ?_) fun _ => h
  split
  · exact h.level ((State.Level.refl _).dropInvalid p)
  · exact .ite (fun _ => h.level (((State.Level.refl _).onLine _).notify _)) fun _ => h.takeFrame _ _ _

theorem State.Level.frameSent (h : s.Level R t) (p : Side) : s.Level R (t.frameSent p) := by
  unfold State.frameSent
  split
  · exact h
  · exact .ite (h.onLine _) (h.onLine _).recompute

theorem State.Sound.losePort (h : s.Sound G R L) (p : Side) : (s.losePort p).Sound G R L := by
  unfold State.losePort
  exact ((h.level (((State.Level.refl s).onLine _).notify _)).staleSide p).level (((State.Level.refl _).issueBreak p).onLine _)

theorem State.Level.spacingExpiry (h : s.Level R t) : s.Level R t.spacingExpiry :=
  .ite (h.onLine _).issueLastStatus.recompute (.ite ((h.onLine _).issueStatusAs _) (h.onLine _))

theorem State.Level.bypassLine (h : s.Level R t) : s.Level R t.bypassLine := .ite (h.onLine _) (h.onLine _).issueLastStatus.recompute

/-! ## Requests -/

theorem State.Level.reply (h : s.Level R t) (o : ReplyOutcome) (pages : List (List Byte)) : s.Level R (t.reply o pages) := h.onPort _

theorem State.Sound.reply (h : s.Sound G R L) (o : ReplyOutcome) (pages : List (List Byte)) : (s.reply o pages).Sound G R L :=
  h.level ((State.Level.refl s).reply o pages)

theorem State.Sound.openSession (h : s.Sound G R L) (f : SessionFields) (n : Nat) (hn : firstFree 1 s.bills.records = some n) :
    (s.openSession f n).Sound G R L := by
  have bills := congrArg (fun l : List BillLine => (l.filter (fun l => l.cause.isNone)).length)
    (Bills.openRecord_lines (s.newBill f) rfl hn)
  have opened := ((State.Level.refl (R := R) s).onBerth (slotOf f.slot) (fun _ => ⟨false, some (f.session n)⟩)).onBills
    (fun b => b.setRecord n (some (s.newBill f))) bills
  exact h.level (opened.onFill _ (Fill.setView_claim _ _ _)).markStatus

theorem State.Sound.closeSession (h : s.Sound G R L) (x : Slot) (ses : Session) : (s.closeSession x ses).Sound G R L := by
  have sealed : s.Level R (s.sealBill ses) := by
    have lines := congrArg (fun l : List BillLine => (l.filter (fun l => l.cause.isNone)).length) (s.sealBill_lines ses)
    unfold State.sealBill at lines ⊢
    split
    · rename_i b hb
      simp only [hb] at lines
      exact (State.Level.refl s).onBills _ lines
    · exact .refl s
  have cleared := sealed.onFill (fun f => f.setView x none) (Fill.setView_claim _ _ _)
  exact h.level (State.Level.ite ((cleared.onBerth x _).notify _) (cleared.onBerth x _)).markStatus

theorem State.Sound.shiftVessel (h : s.Sound G R L) (x : Slot) (bow : Nat) : (s.shiftVessel x bow).Sound G R L := by
  have k := h.level ((State.Level.refl s).onSession x (fun ses => { ses with bowMark := bow }))
  exact .ite (fun _ => .ite (fun _ => .ite (fun _ => k.travelEvent.mapTest.placeReturn) fun _ => k.travelEvent.mapTest)
    fun _ => .ite (fun e => k.positioningCases e.1) fun _ => k) fun _ => k.mapTest

theorem firstFailure_eq_none {l : List Check} : firstFailure l = none ↔ ∀ c ∈ l, c.1 = true := by
  induction l with
  | nil => simp [firstFailure]
  | cons c rest ih =>
    obtain ⟨ok, r⟩ := c
    cases ok <;> simp [firstFailure, ih]

/-- An accepted POUR finds no claim standing (R112). -/
theorem State.judgePour_claim {slot hold override n : Nat} {p : Proposal} (hj : s.judgePour slot hold override = .ok (n, p)) :
    s.fill.claim = none := by
  have eligible : ∀ x ses n o p, s.eligible x ses n o = .ok p → s.fill.claim = none := by
    intro x ses n o p he
    unfold State.eligible at he
    repeat' split at he
    any_goals cases he
    rename_i hf
    have h7 : s.e7 = true := firstFailure_eq_none.1 hf (orElse s.e7 .stationBusy) (by simp [State.proposalChecks])
    unfold State.e7 at h7
    simp only [Bool.and_eq_true] at h7
    exact Option.isNone_iff_eq_none.1 h7.1.1.1.1.1
  have first : ∀ x ses l q, s.firstEligible x ses l = .ok q → s.fill.claim = none := by
    intro x ses l
    induction l with
    | nil => intro q hq; cases hq
    | cons n rest ih =>
      intro q hq
      unfold State.firstEligible at hq
      split at hq
      · exact eligible _ _ _ _ _ ‹_›
      · split at hq
        · exact ih _ ‹_›
        · cases hq
  unfold State.judgePour at hj
  split at hj
  · cases hj
  · cases hj
  · split at hj
    · exact first _ _ _ _ hj
    · split at hj
      · exact eligible _ _ _ _ _ ‹_›
      · cases hj

theorem State.Sound.enterClaim (h : s.Sound G R L) (hc : s.fill.claim = none) (c : OwnClaim) : (s.enterClaim c).Sound G R L := by
  have ho : s.lineOpen = false := by
    by_contra e
    simpa [hc] using h.claim (by simpa using e)
  have hg : G → s.pour.gateCommand = .closed := fun g => Pour.closed_of_lawful (h.gate g)
    (fun e => absurd (ho.symm.trans (State.lineOpen_of e rfl)) nofun)
    (fun e => absurd (ho.symm.trans (State.lineOpen_of e rfl)) nofun)
    (fun e => absurd (ho.symm.trans (State.lineOpen_of e rfl)) nofun)
  unfold State.enterClaim
  dsimp only
  generalize hv : (((s.onFill (fun f => { f.onView c.slot (placeClaim c.hold ⟨s.station, c.pass, c.target, .pending⟩) with
    claim := some c, claimTimer := s.timer Config.claimMs })).issueClaim c).markStatus) = v
  have k : (s.onFill (fun f => { f.onView c.slot (placeClaim c.hold ⟨s.station, c.pass, c.target, .pending⟩) with
    claim := some c, claimTimer := s.timer Config.claimMs })).Level R v := by
    rw [← hv]; exact ((State.Level.refl _).issueClaim c).markStatus
  have he := v.setPour_pour .claiming
  have hb : (v.setPour .claiming).bills.openLines.length = s.bills.openLines.length := by
    refine Eq.trans ?_ k.lines
    unfold State.setPour; split <;> rfl
  refine .of_closed (fun g => ?_) (fun e => ?_) (fun l => ?_) (fun e => ?_) (fun _ => by rw [he])
  · rw [he]; exact k.command.trans (hg g)
  · rw [he] at e; cases e
  · rw [h.noLines ho l] at hb
    rw [List.length_eq_zero_iff.1 hb]
    exact ⟨Nat.zero_le _, fun e => absurd rfl e⟩
  · rw [State.setPour_lineOpen] at e; cases e

theorem State.Sound.clearFault (h : s.Sound G R L) : s.clearFault.Sound G R L := by
  have k := h.level (((State.Level.refl s).onTravel Travel.cleared).markStatus.recompute)
  exact .ite (fun e => k.positioningCases e) fun _ => k.placeReturn.removeCause _

end Sys2Proof.Machine
end

section
/-! The gate safety of every step (O58) and the ledger of the scale total (O59). -/

namespace Sys2Proof.Machine

variable {s t u : State} {c : Instr} {G R L : Prop}

/-! ## Samples, inputs and timers -/

theorem State.Sound.judgeSample (h : s.Sound G R L) (x : Int) : (s.judgeSample x).Sound G R L :=
  .ite (fun _ => .ite (fun _ => h) fun _ => h.faultTravel _) fun _ => .ite (fun _ => h.level ((State.Level.refl s).onTravel _)) fun _ =>
    .ite (fun _ => h.faultTravel _) fun _ => (h.level ((State.Level.refl s).onTravel _)).travelEvent.mapTest

theorem State.Sound.enterMoving (h : s.Sound G R L) : s.enterMoving.Sound G R L := h.travel (State.TravelOnly.refl s).enterMoving

theorem State.Sound.brakeInput (h : s.Sound G R L) (active : Bool) : (s.brakeInput active).Sound G R L := by
  unfold State.brakeInput
  split
  · exact .ite (fun _ => h.faultTravel _) fun _ => h
  · exact .ite (fun _ => h.faultTravel _) fun _ => h
  · exact .ite (fun _ => h) fun _ => h.faultTravel _
  · exact .ite (fun _ => h.enterMoving) fun _ => h
  · exact h
  · exact h

/-- The gate reaching OPEN in GATE_WAIT finds itself commanded at the rate of the state that it enters. -/
theorem State.Sound.gateOpened (h : s.Sound G R L) (hr : G → R) : s.gateOpened.Sound G R L := by
  have k := h.level ((State.Level.refl (R := R) s).onPour (fun p => { p with gate := .opened, gateTimer := none }) rfl rfl rfl)
  refine .ite (fun e => ?_) fun _ => k
  obtain ⟨hs, hp⟩ := e
  have command : G → s.pour.gateCommand = s.openRate := fun g => h.rate (hr g) hs hp
  generalize hv : ((s.onPour (fun p => { p with gate := .opened, gateTimer := none })).onPour (fun p => { p with phase := none })) = v
  have throttle : (s.onPour (fun p => { p with gate := .opened, gateTimer := none })).throttle = s.throttle := rfl
  rw [throttle]
  have hf : ∀ x, (v.setPour x).fill = s.fill := by intro x; rw [← hv]; unfold State.setPour; split <;> rfl
  have hb : ∀ x, (v.setPour x).bills = s.bills := by intro x; rw [← hv]; unfold State.setPour; split <;> rfl
  have hg : ∀ x, (v.setPour x).pour.gateCommand = s.pour.gateCommand := by intro x; rw [v.setPour_pour, ← hv]; rfl
  have hx : ∀ x, (v.setPour x).pour.state = x := by intro x; rw [v.setPour_pour]
  have hl : s.lineOpen := State.lineOpen_of hs rfl
  refine h.weaken.commanded (by rw [show s.pour.state = .starting from hs]; nofun) ?_ (fun g => ?_) (fun _ e => ?_) (hf _) (hb _)
  · rw [State.setPour_lineOpen, hl]
    split <;> rfl
  · unfold Pour.gateLawful
    rw [hg, command g, hx, State.openRate]
    split
    · trivial
    · rename_i e; split at e
      · cases e
      · rename_i ht; simp [ht]
    · rename_i e; split at e
      · rename_i ht; simp [ht]
      · cases e
  · rw [hx] at e
    split at e <;> cases e

theorem State.Sound.gateShut (h : s.Sound G R L) : s.gateShut.Sound G R L :=
  ((h.level ((State.Level.refl s).onPour _ rfl rfl rfl)).removeCause _).runoutTest

theorem State.Sound.gateExpiry (h : s.Sound G R L) : s.gateExpiry.Sound G R L := by
  have k := State.Level.refl (R := R) s
  unfold State.gateExpiry
  split
  · exact ((h.level ((k.onPour _ rfl rfl rfl).notify _)).failCause _).runoutTest
  · exact ((h.level ((k.onPour _ rfl rfl rfl).notify _)).addCause _).runoutTest
  all_goals exact h.level (k.onPour _ rfl rfl rfl)

theorem State.Sound.beltFails (h : s.Sound G R L) : s.beltFails.Sound G R L :=
  (h.level ((State.Level.refl s).onPour _ rfl rfl rfl)).failCause _

theorem State.Sound.beltInput (h : s.Sound G R L) (active : Bool) : (s.beltInput active).Sound G R L := by
  have k := h.level ((State.Level.refl (R := R) s).onPour (fun p => { p with watch := .running, beltStartTimer := none }) rfl rfl rfl)
  unfold State.beltInput
  split
  · exact .ite (fun _ => .ite (fun e => k.gateWait e.1) fun _ => k) fun _ => h
  · exact .ite (fun _ => h) fun _ => h.beltFails
  · exact h

theorem State.Sound.settleExpiry (h : s.Sound G R L) : s.settleExpiry.Sound G R L := by
  have k := h.level ((State.Level.refl (R := R) s).onTravel (fun v => { v with settleTimer := none }))
  exact .ite (fun _ => .ite (fun _ => k.faultTravel _) fun _ => State.Sound.tellArrival (k.travel (State.TravelOnly.refl _).settled))
    fun _ => k

theorem State.Sound.encoderExpiry (h : s.Sound G R L) : s.encoderExpiry.Sound G R L := by
  have k := State.Level.refl (R := R) s
  exact .ite (fun _ => h.level ((k.onTravel _).onTravel _)) fun _ => (h.level (k.onTravel _)).faultTravel _

/-! ## The belt pulse and the restart -/

theorem State.Level.advancePhase (s : State) : s.Level R s.advancePhase := by
  have attributed : ∀ (t : State) (c : Cell), t.Level R (t.attribute c) := by
    intro t c
    have k := State.Level.refl (R := R) t
    have spilled : ∀ cause m, t.Level R (t.spill cause m) := fun _ _ => (k.onBills _ rfl).notify _
    unfold State.attribute
    refine .ite k ?_
    split
    · refine .ite ?_ (spilled _ _)
      have row : ∀ (f : Fill) (x : Slot) (n : Nat) (g : Row → Row), (f.onRow x n g).claim = f.claim ∧ (f.onRow x n g).claimTimer = f.claimTimer := by
        intro f x n g
        unfold Fill.onRow
        split
        · exact ⟨rfl, rfl⟩
        · cases x <;> exact ⟨rfl, rfl⟩
      refine ((k.onBills _ ?_).onFill _ (row _ _ _ _)).onHold _ _ _
      rw [Bills.openLines_addMass, List.length_map]
    · exact spilled _ _
  have counted : ∀ t : State, t.Level R t.countShift := fun t => .ite ((State.Level.refl t).onPour _ rfl rfl rfl) (.refl t)
  have belt : ∀ f, s.Level R (s.onBelt f) := fun f => .of_blocks rfl rfl rfl rfl
  unfold State.advancePhase
  dsimp only
  split
  · exact belt _
  · split
    · exact (belt _).trans ((attributed _ _).trans (counted _))
    · exact belt _

theorem State.Level.addPulse (s : State) : s.Level R s.addPulse := by
  unfold State.addPulse
  repeat' split
  · exact .refl s
  · exact .refl s
  · exact .of_blocks rfl rfl rfl rfl

theorem State.Level.zeroPulse (s : State) : s.Level R s.zeroPulse := by
  have ended : ∀ (t : State) z, s.Level R t → s.Level R (t.endZeroRun z) := fun t z k =>
    .ite (k.failZeroRun _ _) (.ite (k.failZeroRun _ _) ((k.onScale _).notify _))
  unfold State.zeroPulse
  split
  · exact .refl s
  · exact .ite (ended _ _ ((State.Level.refl s).onScale _)) ((State.Level.refl s).onScale _)

theorem State.Sound.pulse (h : s.Sound G R L) : s.pulse.Sound G R L :=
  (h.level (((State.Level.addPulse s).trans (State.Level.advancePhase _)).trans (State.Level.zeroPulse _))).closeDecision.runoutTest

theorem State.Level.restartLineClosed (s : State) :
    (s.onBills (fun b => b.closeLine s.count .restart none none)).Level R s.restartLineClosed.restartSpill := by
  have closed := (State.Level.refl (R := R) (s.onBills (fun b => b.closeLine s.count .restart none none))).notifyLineClosed
    s.bills.openLine .restart none none
  exact .ite ((closed.onBills _ rfl).notify _) closed

/-- The last part of a restart, from the clearing of the peer table on, leaves the pour, the lines and the claim. -/
theorem State.Level.restartCleared (s : State) :
    s.Level False ((s.onPeers (fun _ => [])).restartTravel.restartDust.restartLine.recompute.issueStatus) := by
  have k := State.Level.refl (R := False) s
  exact (((((((k.onPeers _).onTravel _).onDust _).notifyOpt _).notifyOpt _).onLine _).recompute).issueStatusAs _

/-- A restart leaves the gate commanded CLOSED, no line and no claim. -/
theorem State.Sound.restart (s : State) : s.restart.Sound G R L := by
  have spilled := State.Level.restartLineClosed (R := False)
    (((s.onPort LocalPort.restart).onScale (fun c => { c with zeroRun := none, stillTimer := none })).restartGate)
  have hl := List.length_eq_zero_iff.1 (spilled.lines.trans (congrArg List.length (Bills.openLines_closeLine _ _ _ _ _)))
  have hg := spilled.command
  unfold State.restart
  dsimp only
  generalize (((s.onPort LocalPort.restart).onScale (fun c => { c with zeroRun := none, stillTimer := none })).restartGate
    ).restartLineClosed.restartSpill = v at hl hg
  have k := State.Level.restartCleared
    (((v.onBelt Belt.emptied).onPour Pour.restart).restartFill.onBerths (fun b => ⟨b.a.restart, b.b.restart⟩))
  have poured : State.Sound G False L
      (((v.onBelt Belt.emptied).onPour Pour.restart).restartFill.onBerths (fun b => ⟨b.a.restart, b.b.restart⟩)) :=
    .of_closed (fun _ => hg) nofun (fun _ => ⟨(congrArg List.length hl).le.trans (Nat.zero_le 1), fun e => absurd hl e⟩) nofun nofun
  exact (poured.level k).atRate fun e => nomatch k.state.symm.trans e

/-! ## Every command -/

theorem flatMap_set_sublist {α β : Type} (g : α → List β) (l : List α) (i : Nat) (a : α) (ha : g a = []) :
    ((l.set i a).flatMap g).Sublist (l.flatMap g) := by
  induction l generalizing i with
  | nil => exact .refl _
  | cons x rest ih =>
    cases i with
    | zero =>
      rw [List.set_cons_zero, List.flatMap_cons, List.flatMap_cons, ha]
      exact List.sublist_append_right _ _
    | succ i =>
      rw [List.set_cons_succ, List.flatMap_cons, List.flatMap_cons]
      exact (List.Sublist.refl _).append (ih i)

theorem Bills.openLines_discard (bs : Bills) (n : Nat) (b : Bill) : (bs.discard n b).openLines.Sublist bs.openLines := by
  refine List.Sublist.filter _ ?_
  show List.Sublist (bs.setRecord n none).lines bs.lines
  unfold Bills.setRecord
  split
  · exact .refl _
  · exact flatMap_set_sublist _ _ _ _ rfl

theorem State.Level.inputs (s : State) (i : Inputs) : s.Level R { s with inputs := i } := .of_blocks rfl rfl rfl rfl

theorem State.Ported.level (h : s.Ported t) : s.Level R t := by
  rw [h.alone]; exact .of_blocks rfl rfl rfl rfl

theorem State.Sound.upTo (h : s.Sound G R L) (d : Nat) : (s.upTo d).Sound G R L := ⟨h.gate, h.rate, h.lines, h.claim, h.timer⟩

theorem State.Acts.sound (h : s.Acts c u) (hs : s.Sound G R L) (hr : G → R) : u.Sound G R L := by
  have k := State.Level.refl (R := R) s
  have transacted : ∀ tr phase, (s.transact tr phase).Sound G R L := by
    intro tr phase
    rcases State.transact_cases (s := s) tr phase with h | ⟨-, v, -, he⟩
    · exact hs.level h.level
    · rw [he]; exact .restart v
  cases h with
  | nothing => exact hs
  | refused => exact hs.reply _ _
  | post | withdraw | fetchReply | fetchNotice => exact transacted _ _
  | portState => exact hs.level (k.onPort _)
  | unknownTransaction => exact hs.level (k.onPort _)
  | startBlock f =>
    have started : s.Level R (s.startBlocks f.block) := ⟨rfl, rfl, rfl, fun _ => rfl, rfl, rfl, rfl⟩
    exact hs.level ((((started.onLine _).recompute).issueStatusAs _).reply _ _)
  | restart => exact hs.reply _ _
  | setMasks => exact (hs.level (k.onPort _)).reply _ _
  | bypassOn => exact (hs.level (k.onPort _).bypassLine).reply _ _
  | bypassOff => exact ((hs.level ((k.onPort _).onLine _)).travelEvent.level ((State.Level.refl _).issueStatusAs _)).reply _ _
  | openSession f n hf hn => exact (hs.openSession f n hn).mapTest.reply _ _
  | holdEntry => exact (hs.level (k.onHold _ _ _)).mapTest.reply _ _
  | setHatch => exact (hs.level (k.onHold _ _ _)).mapTest.reply _ _
  | permit => exact (hs.level (k.onHold _ _ _)).mapTest.reply _ _
  | shiftVessel => exact (hs.shiftVessel _ _).reply _ _
  | setDraftLimit => exact (hs.level ((k.onSession _ _).notify _)).mapTest.reply _ _
  | closeSession => exact (hs.closeSession _ _).mapTest.reply _ _
  | move => exact (State.Sound.tellArrival (hs.level (k.placeOrder _ _))).reply _ _
  | stopTravel => exact (hs.travel (State.TravelOnly.refl s).stopTravel).stopPour.reply _ _
  | faultClear => exact hs.clearFault.reply _ _
  | pour _ _ _ _ _ hj => exact (hs.enterClaim (State.judgePour_claim hj) _).reply _ _
  | endPour => exact hs.stopPour.reply _ _
  | zeroScale => exact (hs.level (k.onScale _)).reply _ _
  | dustAcknowledge => exact (hs.applyChannel _ _).reply _ _
  | discardBill n b hb =>
    have sub := s.bills.openLines_discard n b
    refine State.Sound.reply (s := s.onBills (fun bs => bs.discard n b)) ⟨hs.gate, hs.rate, fun l => ⟨sub.length_le.trans (hs.lines l).1, fun e => (hs.lines l).2 fun e0 => e ?_⟩,
      hs.claim, hs.timer⟩ _ _
    rw [e0] at sub
    exact List.sublist_nil.1 sub
  | read => exact hs.reply _ _
  | readHolds => exact (hs.level (k.onSession _ _)).reply _ _
  | loadSample => exact hs.takeLoad _
  | beltPulse => exact hs.pulse
  | positionSample => exact (hs.level (k.onTravel _)).judgeSample _
  | dustSample => exact hs.applyChannel _ _
  | brakeLevel => exact hs.level (.of_blocks rfl rfl rfl rfl)
  | brakeReleasedChange => exact (hs.level (State.Level.inputs s _)).brakeInput _
  | gateOpenLimit => exact hs.gateOpened hr
  | gateClosedLimit => exact hs.gateShut
  | beltLevel => exact hs.level (.of_blocks rfl rfl rfl rfl)
  | beltRunningChange => exact (hs.level (State.Level.inputs s _)).beltInput _
  | frame => exact hs.frameArrives _ _
  | notValidFrame => exact hs.level (k.dropInvalid _)
  | frameSent => exact hs.level (k.frameSent _)
  | loadStale d =>
    exact .ite (fun _ => ((hs.upTo d).level ((State.Level.refl _).onScale _)).setLoadStatus _)
      fun _ => (hs.upTo d).level ((State.Level.refl _).onScale _)
  | loadFault d =>
    exact .ite (fun _ => ((hs.upTo d).level ((State.Level.refl _).onScale _)).setLoadStatus _)
      fun _ => (hs.upTo d).level ((State.Level.refl _).onScale _)
  | still d => exact (hs.upTo d).level (((State.Level.refl _).onScale _).failZeroRun _ _)
  | silence p d => exact (hs.upTo d).losePort p
  | brk p d => exact (hs.upTo d).level (((State.Level.refl _).issueBreak p).onLine _)
  | status d => exact (hs.upTo d).level (.ite ((State.Level.refl _).issueStatusAs _) ((State.Level.refl _).onLine _))
  | spacing d => exact (hs.upTo d).level (State.Level.refl _).spacingExpiry
  | peerStale n e d => exact (hs.upTo d).staleExpiry e
  | encoder d => exact (hs.upTo d).encoderExpiry
  | release d =>
    exact .ite (fun _ => ((hs.upTo d).level ((State.Level.refl _).onTravel _)).enterMoving)
      fun _ => (hs.upTo d).level ((State.Level.refl _).onTravel _)
  | brakeFail d =>
    exact .ite (fun _ => ((hs.upTo d).level ((State.Level.refl _).onTravel _)).faultTravel _)
      fun _ => (hs.upTo d).level ((State.Level.refl _).onTravel _)
  | settle d => exact (hs.upTo d).settleExpiry
  | claimWindow d hd => exact (hs.upTo d).decideClaim (hs.timer (by rw [hd]; rfl))
  | positioning d =>
    exact .ite (fun e => (hs.upTo d).withdrawClaim e _)
      fun _ => (hs.upTo d).level ((State.Level.refl _).onPour _ rfl rfl rfl)
  | beltStart d =>
    exact .ite (fun _ => (hs.upTo d).beltFails) fun _ => (hs.upTo d).level ((State.Level.refl _).onPour _ rfl rfl rfl)
  | beltRetry d => exact ((hs.upTo d).level ((State.Level.refl _).onPour _ rfl rfl rfl)).removeCause _
  | gate d => exact (hs.upTo d).gateExpiry
  | dustSilent channel d => exact (hs.upTo d).applyChannel _ _
  | age d => exact (hs.upTo d).level ((State.Level.refl _).onPort _)

/-! ## The ledger -/

theorem State.ledgerSound_iff : s.ledgerSound
    ↔ (s.belt.lawful ∧ (s.port.mode = .config → s.belt.cells = [])) ∧ s.Sound False False True :=
  ⟨fun ⟨hb, hm, h1, hl, hc, ht⟩ => ⟨⟨hb, hm⟩, False.elim, False.elim, fun _ => ⟨h1, hl⟩, hc, ht⟩,
    fun ⟨⟨hb, hm⟩, h⟩ => ⟨hb, hm, (h.lines trivial).1, (h.lines trivial).2, h.claim, h.timer⟩⟩

/-- A step moves the scale total and the mass accounted for alike. -/
def State.Balanced (s t : State) : Prop := t.scale.total + s.accounted = s.scale.total + t.accounted

theorem State.Balanced.trans (h : s.Balanced t) (k : t.Balanced u) : s.Balanced u := by
  unfold State.Balanced at *
  omega

theorem State.Balanced.of_same (ht : t.scale.total = s.scale.total) (ha : t.accounted = s.accounted) : s.Balanced t := by
  unfold State.Balanced
  omega

theorem State.Orderly.bills (h : s.Orderly t) : t.bills.billed = s.bills.billed ∧ t.bills.spill = s.bills.spill := by
  induction h with
  | refl => exact ⟨rfl, rfl⟩
  | onBills _ f hb hs ih => exact ⟨hb.trans ih.1, hs.trans ih.2⟩
  | _ => rename_i ih; exact ih

theorem State.Orderly.accounted (h : s.Orderly t) : t.accounted = s.accounted := by
  unfold State.accounted
  rw [h.bills.1, h.bills.2, h.belt]

theorem State.Orderly.balanced (h : s.Orderly t) : s.Balanced t := .of_same h.undisturbed.total h.accounted

/-- The addition of a pulse: tail cell, content and total grow together. -/
theorem State.addPulse_balanced (s : State) : s.Balanced s.addPulse := by
  unfold State.addPulse
  split
  · exact .of_same rfl rfl
  · split
    · exact .of_same rfl rfl
    · unfold State.Balanced State.accounted
      dsimp only
      omega

theorem State.advancePhase_balanced (hb : s.addPulse.belt.lawful) (h1 : s.addPulse.bills.openLines.length ≤ 1) :
    s.addPulse.Balanced s.addPulse.advancePhase := by
  rcases s.addPulse_advancePhase with ⟨he, -⟩ | ⟨bs, k, -, hm⟩
  · rw [he]
    exact .of_same rfl rfl
  · have shifted : s.addPulse.Balanced ((s.addPulse.onBelt Belt.shift).onBills (fun _ => bs)) := .of_same rfl (hm h1 hb)
    exact shifted.trans k.balanced

theorem State.pulse_balanced (hb : s.belt.lawful) (h1 : s.bills.openLines.length ≤ 1) : s.Balanced s.pulse := by
  have advanced := State.advancePhase_balanced (Belt.lawful_addPulse s hb) ((State.Level.addPulse (R := False) s).lines.le.trans h1)
  obtain ⟨v, tare, hv, hz, -⟩ := s.addPulse.advancePhase.zeroPulse_chain
  have zeroed : v.Balanced (v.onScale (fun c => { c with tare := tare })) := .of_same rfl rfl
  exact s.addPulse_balanced.trans (advanced.trans (hv.balanced.trans (zeroed.trans hz.closeDecision.runoutTest.balanced)))

/-- A restart moves the belt content into the spill tally. -/
theorem State.restart_balanced (s : State) : s.Balanced s.restart := by
  obtain ⟨v, hv, ht⟩ := s.restart_chains
  have spilled : v.Balanced ((v.onBills (fun b => { b with spill := b.spill + v.belt.content })).onBelt Belt.emptied) :=
    .of_same rfl (by unfold State.accounted Belt.emptied; show v.bills.billed + (v.bills.spill + v.belt.content) + 0 = v.bills.billed + v.bills.spill + v.belt.content; omega)
  have ported : s.Balanced (s.onPort LocalPort.restart) := .of_same rfl rfl
  exact ported.trans (hv.balanced.trans (spilled.trans ht.balanced))

/-- START BLOCK finds no cells. -/
theorem State.startBlocks_balanced (b : StartBlock) (hc : s.belt.content = 0) :
    s.Balanced (((s.startBlocks b).openLineUnit.recompute.issueStatus).done []) := by
  refine State.Balanced.trans ?_ (s.startBlocks_chain b).balanced
  exact .of_same rfl (by unfold State.accounted; rw [hc]; rfl)

theorem State.Acts.balanced (h : s.Acts c u) (hs : s.ledgerSound) (hc : c ≠ .discardBill) : s.Balanced u := by
  obtain ⟨hb, hm, h1, -⟩ := hs
  refine h.sorted State.Orderly.balanced (fun f _ hmode _ => ?_) (fun _ _ => s.bypass_chains.1.balanced)
    (fun _ => s.bypass_chains.2.balanced) (fun _ v _ hv => hv.balanced.trans v.restart_balanced)
    (fun _ _ => State.pulse_balanced hb h1) fun _ _ he _ => absurd he hc
  refine State.startBlocks_balanced _ ?_
  rw [hb.1, hm hmode]
  rfl

theorem State.pulse_belt (hb : s.belt.lawful) : s.pulse.belt.lawful := by
  have added := Belt.lawful_addPulse s hb
  have advanced : s.addPulse.advancePhase.belt.lawful := by
    rcases s.addPulse_advancePhase with ⟨he, hp⟩ | ⟨bs, k, -⟩
    · rw [he]
      exact ⟨added.1, hp⟩
    · rw [k.belt]
      exact Belt.lawful_shift added
  obtain ⟨v, tare, hv, hz, -⟩ := s.addPulse.advancePhase.zeroPulse_chain
  have he := hz.closeDecision.runoutTest.belt.trans hv.belt
  unfold State.pulse
  rw [he]
  exact advanced

/-- The belt of a ledger in order. -/
theorem State.Acts.belt_ledger (h : s.Acts c u) (hs : s.belt.lawful ∧ (s.port.mode = .config → s.belt.cells = [])) :
    u.belt.lawful ∧ (u.port.mode = .config → u.belt.cells = []) := by
  obtain ⟨hb, hm⟩ := hs
  have kept : ∀ {v w : State}, v.Orderly w → v.belt.lawful ∧ (v.port.mode = .config → v.belt.cells = []) →
      w.belt.lawful ∧ (w.port.mode = .config → w.belt.cells = []) := by
    intro v w k hv
    rw [k.belt, k.undisturbed.mode]
    exact hv
  refine h.sorted (Q := fun w => w.belt.lawful ∧ (w.port.mode = .config → w.belt.cells = [])) (fun k => kept k ⟨hb, hm⟩)
    (fun f _ _ _ => ?_) (fun _ _ => ?_) (fun _ => ?_) (fun _ v _ hv => ?_) (fun _ hcfg => ?_) fun _ _ _ _ => ⟨hb, hm⟩
  · refine kept (s.startBlocks_chain f.block) ⟨⟨?_, Nat.zero_lt_succ _⟩, nofun⟩
    simp [Cell.empty]
  · exact kept s.bypass_chains.1 ⟨hb, nofun⟩
  · exact kept s.bypass_chains.2 ⟨hb, nofun⟩
  · obtain ⟨w, hw, ht⟩ := v.restart_chains
    refine kept ht ⟨Belt.lawful_emptied _, fun e => ?_⟩
    exact nomatch hw.undisturbed.mode.symm.trans e
  · obtain ⟨-, -, hmode, -⟩ := s.pulse_frame
    refine ⟨?_, fun e => ?_⟩
    · exact State.pulse_belt hb
    · rw [hmode] at e
      simp [State.configured, e] at hcfg

theorem State.Ends.level (h : s.Ends u t) : u.Level R t := by
  rcases h with rfl | ⟨rfl, rfl⟩
  · exact (State.Level.refl u).finish
  · exact .refl _

theorem exec_sound (hr : G → R) (hs : s.Sound G R L) (h : exec c s = .next t) : t.Sound G R L := by
  by_cases hc : c = .powerOnReset
  · subst hc
    rw [exec_powerOnReset] at h
    rw [← Host.Outcome.next.inj h]
    exact .of_closed (fun _ => rfl) nofun (fun _ => ⟨Nat.zero_le _, fun e => absurd rfl e⟩) nofun nofun
  · obtain ⟨u, ha, he⟩ := exec_acts hc h
    exact (ha.sound hs hr).level he.level


theorem exec_ledgerSound (hs : s.ledgerSound) (h : exec c s = .next t) : t.ledgerSound := by
  obtain ⟨hb, hl⟩ := State.ledgerSound_iff.1 hs
  refine State.ledgerSound_iff.2 ⟨?_, exec_sound id hl h⟩
  by_cases hc : c = .powerOnReset
  · subst hc
    rw [exec_powerOnReset] at h
    rw [← Host.Outcome.next.inj h]
    exact ⟨⟨rfl, Nat.zero_lt_succ _⟩, fun _ => rfl⟩
  · obtain ⟨u, ha, rfl | ⟨rfl, rfl⟩⟩ := exec_acts hc h
    · have k := State.Orderly.refl (s := u) |>.finish
      rw [k.belt, k.undisturbed.mode]
      exact ha.belt_ledger hb
    · exact hb

theorem exec_balanced (hs : s.ledgerSound) (hc : c ≠ .powerOnReset) (hd : c ≠ .discardBill) (h : exec c s = .next t) :
    s.Balanced t := by
  obtain ⟨u, ha, rfl | ⟨rfl, rfl⟩⟩ := exec_acts hc h
  · exact (ha.balanced hs hd).trans State.Orderly.refl.finish.balanced
  · exact .of_same rfl rfl

end Sys2Proof.Machine

open Sys2Proof Sys2Proof.Machine

/-- Settles O58, command by command: each operation of the pour leaves the gate commanded as its state allows, and the operations that
can change the throttle condition end with its test. -/
theorem everyStepKeepsTheGateSafe : Obligations.EveryStepKeepsTheGateSafe := fun _ _ hs h =>
  State.gateSafe_iff.2 (step_keeps (P := State.Sound True True False) (fun _ _ _ => exec_sound id)
    (fun _ _ k => ⟨k.gate, k.rate, k.lines, k.claim, k.timer⟩) (fun _ k => ⟨k.gate, k.rate, k.lines, k.claim, k.timer⟩)
    (State.gateSafe_iff.1 hs) h)

/-- Settles O59: the mass of a pulse enters the total and the tail cell, the shift hands the head cell's mass to the one open line or to
the spill tally, a restart spills the belt content, and nothing else moves either side. -/
theorem everyStepKeepsTheLedger : Obligations.EveryStepKeepsTheLedger := by
  refine ⟨fun s t hs h => ?_, fun c s t hs hc hd h => exec_balanced hs hc hd h, fun s t hs hq h => ?_⟩
  · exact step_keeps (P := State.ledgerSound) (fun _ _ _ => exec_ledgerSound) (fun _ _ k => k) (fun _ k => k) hs h
  · have hstep : Machine.step s = .next s.tick := by simp only [Machine.step, hq]
    rw [hstep] at h
    rw [← Host.Outcome.next.inj h]
    have keeps := State.foldl_expireDue (P := fun u => u.ledgerSound ∧ s.Balanced u) timers
      (s := ({ s with count := s.count + 1 } : State).placeReply) (fun e he u v hu hv =>
        ⟨exec_ledgerSound hu.1 hv, hu.2.trans (exec_balanced hu.1 (timers_commands e he).1 (timers_commands e he).2 hv)⟩)
      ⟨hs, .of_same rfl rfl⟩
    show s.Balanced s.tick
    unfold State.tick
    exact keeps.2

end

section
/-! The requests: what the row of a posted request makes of the state, said once for all 25; and that a refusal changes nothing but the
mailbox (O6). -/

namespace Sys2Proof.Machine

variable {s t u : State}

/-- What the row of a posted request makes of the state before the end of the command. -/
def State.takes (s : State) : Request → State
  | .startBlock f => s.takeStartBlock f
  | .restart => s.whenMode inRunBypass (s.reply .restarted [[]])
  | .setMasks m1 m2 m3 m4 t => s.whenMode inRunBypass (s.judged (maskChecks m1 m2 m3 m4 t) ((s.setMasks m2 m3 m4 t).done []))
  | .bypassOn => s.whenMode inRunOnly (s.judged s.bypassChecks (((s.onPort (fun p => { p with mode := .bypass })).bypassLine).done []))
  | .bypassOff => s.whenMode [.bypass] (((s.onPort (fun p => { p with mode := .run })).reopenLine.travelEvent.issueStatus).done [])
  | .openSession f => s.whenMode inRunBypass (s.takeOpenSession f)
  | .holdEntry f => s.whenMode inRunBypass (s.judged (s.mapChecks (.holdEntry f))
      ((s.onHold (slotOf f.slot) f.hold (fun d => d.entered f)).mapTest.done []))
  | .setHatch slot hold state => s.whenMode inRunBypass (s.judged (s.mapChecks (.setHatch slot hold state))
      ((s.onHold (slotOf slot) hold (fun d => { d with hatchOpen := state == 1 })).mapTest.done []))
  | .permit slot hold => s.whenMode inRunBypass (s.judged (s.mapChecks (.permit slot hold))
      ((s.onHold (slotOf slot) hold (fun d => { d with token := true })).mapTest.done []))
  | .shiftVessel slot bow => s.whenMode inRunBypass (s.judged (s.mapChecks (.shiftVessel slot bow))
      ((s.shiftVessel (slotOf slot) bow).done []))
  | .setDraftLimit slot limit => s.whenMode inRunBypass (s.judged (s.mapChecks (.setDraftLimit slot limit))
      ((s.setDraftLimit (slotOf slot) limit).mapTest.done []))
  | .closeSession slot => s.whenMode inRunBypass (s.takeCloseSession slot)
  | .move target => s.whenMode inRunOnly (s.judged (s.moveChecks target) ((State.tellArrival (s.placeOrder target .host)).done []))
  | .stopTravel => s.whenMode inRunBypass (s.stopTravel.stopPour.done [])
  | .faultClear => s.whenMode inRunBypass (s.judged s.clearChecks (s.clearFault.done []))
  | .pour slot hold override => s.whenMode inRunOnly (s.takePour slot hold override)
  | .endPour => s.whenMode inRunOnly (if s.pour.state = .idle then s.refuse (.noPour, 0) else s.stopPour.done [])
  | .zeroScale => s.whenMode inRunOnly (s.judged s.zeroChecks (s.startZeroRun.done []))
  | .dustAcknowledge n => s.whenMode inRunBypass (s.takeDustAcknowledge n)
  | .discardBill n => s.whenMode inRunBypass (s.takeDiscardBill n)
  | .readStation => s.reply .done (paginate s.stationPieces)
  | .readPeers => s.reply .done (paginate s.peerPieces)
  | .readHolds slot => s.takeReadHolds slot
  | .readBill record start => s.takeReadBill record start
  | .unknown _ => s.refuse (.unknownRequest, 0)

/-- The row of a posted request takes it. -/
theorem exec_row {r : Request} (h : s.port.mailbox = .posted r) : exec r.row s = .next (s.takes r).finish := by
  cases r
  case startBlock f => show execStartBlock s = _; unfold execStartBlock; rw [h]; rfl
  case restart => show execRestart s = _; unfold execRestart; rw [h]; rfl
  case setMasks => show execSetMasks s = _; unfold execSetMasks; rw [h]; rfl
  case bypassOn => show execBypassOn s = _; unfold execBypassOn; rw [h]; rfl
  case bypassOff => show execBypassOff s = _; unfold execBypassOff; rw [h]; rfl
  case openSession => show execOpenSession s = _; unfold execOpenSession; rw [h]; rfl
  case holdEntry => show execHoldEntry s = _; unfold execHoldEntry; rw [h]; rfl
  case setHatch => show execSetHatch s = _; unfold execSetHatch; rw [h]; rfl
  case permit => show execPermit s = _; unfold execPermit; rw [h]; rfl
  case shiftVessel => show execShiftVessel s = _; unfold execShiftVessel; rw [h]; rfl
  case setDraftLimit => show execSetDraftLimit s = _; unfold execSetDraftLimit; rw [h]; rfl
  case closeSession => show execCloseSession s = _; unfold execCloseSession; rw [h]; rfl
  case move => show execMove s = _; unfold execMove; rw [h]; rfl
  case stopTravel => show execStopTravel s = _; unfold execStopTravel; rw [h]; rfl
  case faultClear => show execFaultClear s = _; unfold execFaultClear; rw [h]; rfl
  case pour => show execPour s = _; unfold execPour; rw [h]; rfl
  case endPour => show execEndPour s = _; unfold execEndPour; rw [h]; rfl
  case zeroScale => show execZeroScale s = _; unfold execZeroScale; rw [h]; rfl
  case dustAcknowledge => show execDustAcknowledge s = _; unfold execDustAcknowledge; rw [h]; rfl
  case discardBill => show execDiscardBill s = _; unfold execDiscardBill; rw [h]; rfl
  case readStation => show execReadStation s = _; unfold execReadStation; rw [h]; rfl
  case readPeers => show execReadPeers s = _; unfold execReadPeers; rw [h]; rfl
  case readHolds => show execReadHolds s = _; unfold execReadHolds; rw [h]; rfl
  case readBill => show execReadBill s = _; unfold execReadBill; rw [h]; rfl
  case unknown => show execUnknownRequest s = _; unfold execUnknownRequest; rw [h]; rfl

/-! ## Refusals -/

/-- A refusal changes nothing but the mailbox. -/
theorem State.refuse_eq (s : State) (r : Reason × Nat) : s.refuse r = s.withMailbox (refusedReply r.1 r.2) := rfl

theorem State.finish_refuse (hq : s.quiet) (r : Reason × Nat) : (s.refuse r).finish = s.withMailbox (refusedReply r.1 r.2) :=
  State.finish_of_quiet (s := s.refuse r) hq

/-- The reply to a request is no refusal. -/
def State.Answered (t : State) : Prop := ∃ o pages, t.port.mailbox = .taken ⟨o, pages, 0, false⟩ ∧ ∀ reason index, o ≠ .refused reason index

/-- A request is refused, or answered with another outcome. -/
def State.Settled (s t : State) : Prop := (∃ r, t = s.refuse r) ∨ t.Answered

theorem State.Settled.refused (r : Reason × Nat) : s.Settled (s.refuse r) := .inl ⟨r, rfl⟩

theorem State.Settled.done (t : State) (fields : List Byte) : s.Settled (t.done fields) := .inr ⟨_, _, rfl, nofun⟩

theorem State.Settled.whenMode {modes : List PartMode} (h : s.Settled t) : s.Settled (s.whenMode modes t) := by
  rcases s.whenMode_cases modes t with ⟨-, he⟩ | he <;> rw [he]
  · exact h
  · exact .refused _

theorem State.Settled.judged {checks : List Check} (h : s.Settled t) : s.Settled (s.judged checks t) := by
  rcases s.judged_cases checks t with ⟨-, he⟩ | ⟨r, he⟩ <;> rw [he]
  · exact h
  · exact .refused _

theorem State.takes_settled (r : Request) : s.Settled (s.takes r) := by
  have replied : ∀ pages, s.Settled (s.reply .done pages) := fun _ => .inr ⟨_, _, rfl, nofun⟩
  cases r with
  | startBlock f =>
    refine .whenMode ?_
    split
    · exact .refused _
    · exact .done _ _
  | restart => exact .whenMode (.inr ⟨_, _, rfl, nofun⟩)
  | bypassOff | stopTravel => exact .whenMode (.done _ _)
  | setMasks | bypassOn | holdEntry | setHatch | permit | shiftVessel | setDraftLimit | move | faultClear | zeroScale =>
    exact .whenMode (.judged (.done _ _))
  | openSession =>
    refine .whenMode ?_
    unfold State.takeOpenSession
    split
    · exact .refused _
    · exact .refused _
    · exact .done _ _
  | closeSession =>
    refine .whenMode ?_
    unfold State.takeCloseSession
    split
    · exact .refused _
    · exact .refused _
    · exact .done _ _
  | pour =>
    refine .whenMode ?_
    unfold State.takePour
    split
    · exact .refused _
    · exact .done _ _
  | endPour =>
    refine .whenMode ?_
    split
    · exact .refused _
    · exact .done _ _
  | dustAcknowledge =>
    refine .whenMode ?_
    unfold State.takeDustAcknowledge
    split
    · exact .refused _
    · exact .refused _
    · exact .done _ _
  | discardBill =>
    refine .whenMode ?_
    unfold State.takeDiscardBill
    split
    · exact .refused _
    · exact .refused _
    · exact .done _ _
  | readStation | readPeers => exact replied _
  | readHolds =>
    show s.Settled (s.takeReadHolds _)
    unfold State.takeReadHolds
    split
    · exact .refused _
    · exact .refused _
    · exact .inr ⟨_, _, rfl, nofun⟩
  | readBill =>
    show s.Settled (s.takeReadBill _ _)
    unfold State.takeReadBill
    split
    · exact .refused _
    · exact .refused _
    · exact replied _
  | unknown => exact .refused _

/-- A refused request leaves all but the mailbox. -/
theorem State.takes_of_refused {r : Request} {reason : Reason} {index : Nat} (hq : s.quiet)
    (h : (s.takes r).finish.port.mailbox = refusedReply reason index) : (s.takes r).finish = s.withMailbox (refusedReply reason index) := by
  rcases s.takes_settled r with ⟨⟨r1, r2⟩, he⟩ | ⟨o, pages, he, hn⟩
  · rw [he, State.finish_refuse hq] at h ⊢
    exact congrArg s.withMailbox h
  · rw [State.finish_port, he] at h
    exact absurd (congrArg (fun m => match m with | Mailbox.taken r => r.outcome | _ => .done) h) (hn _ _)

theorem State.whenMode_refused {modes : List PartMode} (h : s.port.mode ∉ modes) (body : State) :
    s.whenMode modes body = s.refuse (.wrongMode, 0) :=
  ((s.whenMode_cases modes body).resolve_left fun k => h k.1)

theorem State.whenMode_allowed {modes : List PartMode} (h : s.port.mode ∈ modes) (body : State) : s.whenMode modes body = body := by
  unfold State.whenMode
  rw [if_pos (List.contains_iff_mem.2 h)]

theorem State.takes_wrongMode {r : Request} (h : s.port.mode ∉ r.takenIn) : s.takes r = s.refuse (.wrongMode, 0) := by
  have all : s.port.mode ∈ [PartMode.config, .run, .bypass] := by cases s.port.mode <;> simp
  cases r with
  | readStation | readPeers | readHolds | readBill | unknown => exact absurd all h
  | _ => exact State.whenMode_refused h _

theorem State.judged_refused {checks : List Check} {r : Reason × Nat} (h : firstFailure checks = some r) (act : State) :
    s.judged checks act = s.refuse r := by
  unfold State.judged
  rw [h]

theorem State.judged_passed {checks : List Check} (h : firstFailure checks = none) (act : State) : s.judged checks act = act := by
  unfold State.judged
  rw [h]

theorem PartMode.mem_runBypass {m : PartMode} (h : m ≠ .config) : m ∈ inRunBypass := by
  cases m with
  | config => exact absurd rfl h
  | run => exact List.mem_cons_self
  | bypass => exact List.mem_cons_of_mem _ List.mem_cons_self

/-- A map request is refused by its first check that fails. -/
theorem State.takes_mapRefused {r : Request} {x : Reason × Nat} (hm : s.port.mode ≠ .config) (h : firstFailure (s.mapChecks r) = some x) :
    s.takes r = s.refuse x := by
  have allowed := fun body => State.whenMode_allowed (s := s) (PartMode.mem_runBypass hm) body
  cases r with
  | openSession f =>
    refine (allowed _).trans ?_
    unfold State.takeOpenSession
    rw [show firstFailure (s.openChecks f) = some x from h]
  | closeSession slot =>
    refine (allowed _).trans ?_
    unfold State.takeCloseSession
    rw [show firstFailure (s.slotChecks slot ++ _) = some x from h]
  | holdEntry | setHatch | permit | shiftVessel | setDraftLimit => exact (allowed _).trans (State.judged_refused h _)
  | _ => cases h

end Sys2Proof.Machine

open Sys2Proof Sys2Proof.Machine

/-- Settles O6: what a row takes is refused whole or answered, and the tables of the map requests are their checks. -/
theorem refusedRequestsChangeNothing : Obligations.RefusedRequestsChangeNothing := by
  refine ⟨fun r s t reason index hq hp h hm => ?_, fun r s hq hp => ⟨fun hm => ?_, ?_⟩, fun r s reason index hq hm hp hf => ?_⟩
  · rw [exec_row hp] at h
    obtain rfl := Host.Outcome.next.inj h
    exact State.takes_of_refused hq hm
  · rw [exec_row hp, State.takes_wrongMode hm, State.finish_refuse hq]
  · rintro record rfl
    exact (exec_row hp).trans (congrArg _ (State.finish_refuse hq _))
  · rw [exec_row hp, State.takes_mapRefused hm (((s.mapTable_matches r).failsBy_iff _ _).1 hf), State.finish_refuse hq]

end

section
/-! The Local Port: transactions (O8, O9) and the notice queue (O10). -/

namespace Sys2Proof.Machine

variable {s t u : State}

/-! ## What a change leaves alone, block by block -/

theorem State.onlyIn.refl (s : State) (l : List Block) : s.onlyIn s l := fun b _ => by cases b <;> rfl

theorem State.agree.trans {b : Block} (h : s.agree t b) (k : t.agree u b) : s.agree u b := by
  cases b <;> exact Eq.trans k h

theorem State.onlyIn.trans {l : List Block} (h : s.onlyIn t l) (k : t.onlyIn u l) : s.onlyIn u l :=
  fun b hb => (h b hb).trans (k b hb)

theorem State.onlyIn.mono {l m : List Block} (h : s.onlyIn t l) (hm : ∀ b ∈ l, b ∈ m) : s.onlyIn t m :=
  fun b hb => h b fun k => hb (hm b k)

/-- One block's change. -/
theorem State.onlyIn.add {l : List Block} {b : Block} (h : s.onlyIn t l) (hb : b ∈ l) (k : t.onlyIn u [b]) : s.onlyIn u l :=
  h.trans (k.mono fun _ hx => List.mem_singleton.1 hx ▸ hb)

theorem State.onlyIn_onPort (s : State) (f : LocalPort → LocalPort) : s.onlyIn (s.onPort f) [.port] := by
  intro b hb
  cases b <;> simp_all [State.agree]

theorem State.onlyIn_upTo (s : State) (d : Nat) : s.onlyIn (s.upTo d) [.count] := by
  intro b hb
  cases b <;> simp_all [State.agree, State.upTo]

/-! ## Transactions -/

theorem LocalPort.release_none {p : LocalPort} (h : p.select = none) (now : Nat) : p.release now = p := by
  unfold LocalPort.release
  rw [h]

theorem LocalPort.unselected {p : LocalPort} (h : p.select = none) : { p with select := none } = p := by
  cases p
  simp_all

/-- The end of a select period that its own transaction opened. -/
theorem State.endSelect_begin (tr : Transaction) (h : s.port.select = none) :
    (s.onPort (fun p => p.begin s.count tr)).endSelect tr
      = (s.onPort (fun p => { p with spiOut := p.answer tr })).effect ⟨tr, s.port.statusOf tr, s.port.returned tr, []⟩ := by
  unfold State.endSelect LocalPort.begin
  simp only [State.onPort_port, LocalPort.release_none h, if_true]
  refine congrArg (fun v => State.effect v _) ?_
  unfold State.onPort
  refine congrArg (fun q => ({ s with port := q } : State)) ?_
  simp only [LocalPort.release_none h, LocalPort.mk.injEq, true_and, and_true]
  exact h.symm

theorem State.finish_onPort (hq : s.quiet) (f : LocalPort → LocalPort) : (s.onPort f).finish = s.onPort f :=
  State.finish_of_quiet (s := s.onPort f) hq

/-- A whole transaction with no select period open. -/
theorem State.transact_whole (tr : Transaction) (h : s.port.select = none) : s.transact tr .whole
    = (s.onPort (fun p => { p with spiOut := p.answer tr })).effect ⟨tr, s.port.statusOf tr, s.port.returned tr, []⟩ :=
  State.endSelect_begin tr h

theorem Mailbox.place_empty (record : List Byte) : Mailbox.empty.place record = match Request.read record with
    | some r => .posted r
    | none => .empty := by
  unfold Mailbox.place
  cases Request.read record <;> rfl

/-- What a POST does to the port with no select period open. -/
theorem State.transact_post (record : List Byte) (h : s.port.select = none) : s.transact (.post record) .whole
    = s.onPort (fun p => { p with
        mailbox := if p.mailbox = .empty then p.mailbox.place record else p.mailbox
        spiOut := List.replicate (2 + record.length) 0 ++ [p.statusOf (.post record)] }) := by
  rw [State.transact_whole _ h]
  unfold State.effect Select.ok
  dsimp only [LocalPort.answer]
  cases hm : s.port.mailbox with
  | empty =>
    cases hr : Request.read record with
    | none => simp [LocalPort.statusOf, hm, hr, State.onPort, Mailbox.place]
    | some r => simp [LocalPort.statusOf, hm, hr, State.onPort, Mailbox.place]
  | _ => simp [LocalPort.statusOf, hm, State.onPort]

theorem State.transact_withdraw (h : s.port.select = none) : s.transact .withdraw .whole
    = s.onPort (fun p => { p with mailbox := p.mailbox.withdrawn, spiOut := [p.statusOf .withdraw] }) :=
  State.transact_whole _ h

theorem State.transact_fetchReply (h : s.port.select = none) (hr : s.port.mailbox.restarts = false) : s.transact .fetchReply .whole
    = s.onPort (fun p => { p with mailbox := p.mailbox.fetched, spiOut := p.answer .fetchReply }) := by
  rw [State.transact_whole _ h]
  unfold State.effect Select.ok
  have hn : (s.onPort (fun p => { p with spiOut := p.answer .fetchReply })).port.mailbox.restarts = false := hr
  simp only [hn]
  cases hm : s.port.mailbox <;> simp [LocalPort.statusOf, hm, State.onPort, Mailbox.fetched]

theorem State.transact_fetchNotice (h : s.port.select = none) : s.transact .fetchNotice .whole
    = s.onPort (fun p => { p.noticeFetched s.count p.nextNotice with spiOut := p.answer .fetchNotice }) :=
  State.transact_whole _ h

/-- The status byte of a transaction, and then its effect, with nothing between. -/
theorem State.transact_phases (hq : s.quiet) (tr : Transaction) : (s.transact tr .status).finish = s.transact tr .status
    ∧ (s.transact tr .status).transact tr .finish = s.transact tr .whole
    ∧ (s.port.select = none → ((s.transact tr .status).transact tr .release)
        = s.onPort (fun p => { p with spiOut := (s.transact tr .status).port.spiOut })) := by
  refine ⟨State.finish_onPort hq _, rfl, fun h => ?_⟩
  have begun : (s.transact tr .status).port.select.map Select.transaction = some tr := rfl
  unfold State.transact at begun ⊢
  dsimp only [State.onPort] at begun ⊢
  rw [if_pos begun]
  refine congrArg (fun q => ({ s with port := q } : State)) ?_
  unfold LocalPort.begin
  rw [LocalPort.release_none h]
  show ({ s.port with select := none, spiOut := _ } : LocalPort) = _
  simp only [LocalPort.mk.injEq, true_and, and_true]
  exact h.symm

/-- A reply page, field by field (section 11.4), of a reply that is no RESTART's. -/
theorem Reply.page_eq {r : Reply} {data : List Byte} (hr : r.outcome ≠ .restarted) (hd : r.pages[r.fetched]? = some data) :
    r.page = (match r.outcome with
        | .refused reason index => [0x01, reason.code] ++ uField 1 index
        | .done | .restarted => [0x00, 0x00, 0x00])
      ++ uField 1 (r.fetched + 1) ++ uField 1 r.pages.length ++ flag r.tooLate ++ uField 2 data.length ++ data := by
  unfold Reply.page
  rw [List.getD_eq_getElem?_getD, hd]
  cases ho : r.outcome with
  | restarted => exact absurd ho hr
  | done => rfl
  | refused reason index => rfl

theorem Mailbox.restarts_false {m : Mailbox} (h : ∀ r, m = .replied r → r.outcome ≠ .restarted) : m.restarts = false := by
  cases m with
  | replied r => simpa [Mailbox.restarts] using h r rfl
  | _ => rfl

theorem Mailbox.fetched_replied {r : Reply} {data : List Byte} (hd : r.pages[r.fetched]? = some data) :
    Mailbox.fetched (.replied r) = if r.fetched + 1 = r.pages.length then .empty else .replied { r with fetched := r.fetched + 1 } := by
  have hlt : r.fetched < r.pages.length := (List.getElem?_eq_some_iff.1 hd).1
  unfold Mailbox.fetched
  by_cases he : r.fetched + 1 = r.pages.length
  · simp [he]
  · simp [he, show r.fetched + 1 < r.pages.length by omega]

/-! ## The notice queue -/

/-- A body that is masked away at no class (R181 step 1). -/
theorem LocalPort.unmasked_body {p : LocalPort} {body : NoticeBody} (h : body.cls ≤ 2 ∨ p.masked body.cls = false) :
    (decide (3 ≤ body.cls) && p.masked body.cls) = false := by
  rcases h with h | h
  · simp [show ¬3 ≤ body.cls by omega]
  · simp [h]

theorem LocalPort.enter_masked {p : LocalPort} {body : NoticeBody} (hc : 3 ≤ body.cls) (hm : p.masked body.cls = true) (now time : Nat) :
    p.enter now body time = { p with dropped := min (p.dropped + 1) 65535 } := by
  unfold LocalPort.enter
  rw [if_pos (by simp [hc, hm])]
  rfl

theorem Notice.any_sameKey {queue : List Notice} {body : NoticeBody} (h : ∀ m ∈ queue, m.body.sameKey body = false) :
    queue.any (fun n => n.body.sameKey body) = false := by
  rw [List.any_eq_false]
  exact fun m hm => by simp [h m hm]

/-- In a queue of keys apart the other entries differ from what merges into one. -/
theorem keysApart.others {older newer : List Notice} {m : Notice} (h : keysApart (older ++ m :: newer)) {body : NoticeBody}
    (hm : m.body.sameKey body = true) : (∀ n ∈ older, n.body.sameKey body = false) ∧ ∀ n ∈ newer, n.body.sameKey body = false := by
  obtain ⟨-, hcons, hbetween⟩ := List.pairwise_append.1 h
  refine ⟨fun n hn => ?_, fun n hn => ?_⟩
  · rw [NoticeBody.sameKey_comm, ← NoticeBody.sameKey_congr hm, NoticeBody.sameKey_comm]
    exact hbetween n hn m (List.mem_cons_self)
  · rw [NoticeBody.sameKey_comm, ← NoticeBody.sameKey_congr hm]
    exact (List.pairwise_cons.1 hcons).1 n hn

theorem List.map_ite_unmarked {α : Type} {p : α → Bool} {g : α → α} {l : List α} (h : ∀ a ∈ l, p a = false) :
    l.map (fun a => if p a then g a else a) = l := by
  refine (List.map_congr_left fun a ha => ?_).trans (List.map_id l)
  simp [h a ha]

/-- R181 step 2: the entry of the same kind and subject takes the new time and detail in its place. -/
theorem LocalPort.enter_merges {p : LocalPort} {body : NoticeBody} (h : p.queueLawful) {older newer : List Notice} {m : Notice}
    (hq : p.notices = older ++ m :: newer) (hm : m.body.sameKey body = true) (hc : body.cls ≤ 2 ∨ p.masked body.cls = false)
    (now time : Nat) : (p.enter now body time).notices = older ++ ⟨body, time % 2 ^ 32, min (m.merges + 1) 255⟩ :: newer := by
  have apart : keysApart (older ++ m :: newer) := hq ▸ h.2
  obtain ⟨hold, hnew⟩ := apart.others hm
  unfold LocalPort.enter
  rw [LocalPort.unmasked_body hc, if_neg Bool.false_ne_true, if_pos (by rw [hq]; simp [hm])]
  dsimp only
  rw [hq, List.map_append, List.map_cons, List.map_ite_unmarked hold, List.map_ite_unmarked hnew, if_pos hm]

/-- R181 step 3: into a queue not full a notice joins at the back. -/
theorem LocalPort.enter_joins {p : LocalPort} {body : NoticeBody} (hl : p.notices.length < 32)
    (hn : ∀ m ∈ p.notices, m.body.sameKey body = false) (hc : body.cls ≤ 2 ∨ p.masked body.cls = false) (now time : Nat) :
    p.enter now body time
      = ({ p with notices := p.notices ++ [⟨body, time % 2 ^ 32, 0⟩] } : LocalPort).followAge p.attentionEntries now := by
  unfold LocalPort.enter
  rw [LocalPort.unmasked_body hc, Notice.any_sameKey hn, if_neg Bool.false_ne_true, if_neg Bool.false_ne_true, if_pos (show _ < Config.noticeSlots from hl)]

/-- R181 step 4: a full queue. -/
theorem LocalPort.enter_full {p : LocalPort} {body : NoticeBody} (hl : p.notices.length = 32)
    (hn : ∀ m ∈ p.notices, m.body.sameKey body = false) (hc : body.cls ≤ 2 ∨ p.masked body.cls = false) (now time : Nat) :
    p.enter now body time = if body.cls < lowestClass p.notices then
      ({ p with
          notices := dropNewest (lowestClass p.notices) p.notices ++ [⟨body, time % 2 ^ 32, 0⟩]
          overflow := true } : LocalPort).followAge p.attentionEntries now
      else { p with overflow := true } := by
  unfold LocalPort.enter
  rw [LocalPort.unmasked_body hc, Notice.any_sameKey hn, if_neg Bool.false_ne_true, if_neg Bool.false_ne_true,
    if_neg (by rw [hl]; decide)]

/-- What `dropNewest` takes out: the newest entry of the class. -/
theorem dropNewest_split {c : Nat} {queue : List Notice} (h : ∃ m ∈ queue, m.body.cls = c) :
    ∃ older n newer, queue = older ++ n :: newer ∧ n.body.cls = c ∧ (∀ m ∈ newer, m.body.cls ≠ c)
      ∧ dropNewest c queue = older ++ newer := by
  obtain ⟨m, hm, hc⟩ := h
  obtain ⟨n, newer, older, hnew, hn, hsplit, herase⟩ :=
    List.exists_of_eraseP (p := fun n : Notice => n.body.cls == c) (List.mem_reverse.2 hm) (by simpa using hc)
  refine ⟨older.reverse, n, newer.reverse, ?_, by simpa using hn, fun k hk => by simpa using hnew k (List.mem_reverse.1 hk), ?_⟩
  · rw [← List.reverse_reverse queue, hsplit]; simp
  · unfold dropNewest; rw [herase]; simp

theorem NoticeBody.cls_bounds (b : NoticeBody) : 1 ≤ b.cls ∧ b.cls ≤ 4 := by
  cases b <;> simp [NoticeBody.cls]

/-- The oldest notice of a class that is not empty, and of which none higher is present. -/
theorem Notice.find_class {queue : List Notice} {c : Nat} {n : Notice} (h : queue.find? (fun n => n.body.cls == c) = some n)
    (higher : ∀ m ∈ queue, c ≤ m.body.cls) : ∃ older newer, queue = older ++ n :: newer ∧ n.body.cls = c
      ∧ (∀ m ∈ older, n.body.cls < m.body.cls) ∧ ∀ m ∈ newer, n.body.cls ≤ m.body.cls := by
  obtain ⟨hc, older, newer, hq, hold⟩ := List.find?_eq_some_iff_append.1 h
  have hn : n.body.cls = c := by simpa using hc
  refine ⟨older, newer, hq, hn, fun m hm => ?_, fun m hm => hn ▸ higher m (by rw [hq]; simp [hm])⟩
  have h1 : m.body.cls ≠ c := by simpa using hold m hm
  have h2 := higher m (by rw [hq]; simp [hm])
  omega

theorem Notice.above_class {queue : List Notice} {c : Nat} (h : queue.find? (fun n => n.body.cls == c) = none)
    (higher : ∀ m ∈ queue, c ≤ m.body.cls) : ∀ m ∈ queue, c + 1 ≤ m.body.cls := fun m hm => by
  have h1 : m.body.cls ≠ c := by simpa using List.find?_eq_none.1 h m hm
  have h2 := higher m hm
  omega

/-- FETCH NOTICE finds the oldest notice of the highest class present (R181). -/
theorem LocalPort.nextNotice_spec {p : LocalPort} (h : p.notices ≠ []) :
    ∃ older n newer, p.nextNotice = some n ∧ p.notices = older ++ n :: newer ∧ (∀ m ∈ older, n.body.cls < m.body.cls)
      ∧ ∀ m ∈ newer, n.body.cls ≤ m.body.cls := by
  have above0 : ∀ m ∈ p.notices, 1 ≤ m.body.cls := fun m _ => m.body.cls_bounds.1
  unfold LocalPort.nextNotice
  cases h1 : p.notices.find? (fun n => n.body.cls == 1) with
  | some n =>
    obtain ⟨older, newer, hq, -, ho, hn⟩ := Notice.find_class h1 above0
    exact ⟨older, n, newer, rfl, hq, ho, hn⟩
  | none =>
    have above1 := Notice.above_class h1 above0
    cases h2 : p.notices.find? (fun n => n.body.cls == 2) with
    | some n =>
      obtain ⟨older, newer, hq, -, ho, hn⟩ := Notice.find_class h2 above1
      exact ⟨older, n, newer, rfl, hq, ho, hn⟩
    | none =>
      have above2 := Notice.above_class h2 above1
      cases h3 : p.notices.find? (fun n => n.body.cls == 3) with
      | some n =>
        obtain ⟨older, newer, hq, -, ho, hn⟩ := Notice.find_class h3 above2
        exact ⟨older, n, newer, rfl, hq, ho, hn⟩
      | none =>
        have above3 := Notice.above_class h3 above2
        obtain ⟨n, rest, hq⟩ := List.exists_cons_of_ne_nil h
        refine ⟨[], n, rest, by simp [hq], hq, by simp, fun m hm => ?_⟩
        have := above3 m (by rw [hq]; simp [hm])
        have := n.body.cls_bounds.2
        omega

/-- Taking the notice returned out of a queue of keys apart takes that entry and no other. -/
theorem keysApart.erase {older newer : List Notice} {n : Notice} (h : keysApart (older ++ n :: newer)) :
    (older ++ n :: newer).eraseP (fun k => k.body.sameKey n.body) = older ++ newer := by
  have same : n.body.sameKey n.body = true := by simp [NoticeBody.sameKey]
  rw [List.eraseP_append_right _ fun k hk => by simp [(h.others same).1 k hk], List.eraseP_cons_of_pos (a := n) (p := fun k => k.body.sameKey n.body) same]

theorem LocalPort.followAge_timer {p : LocalPort} {before now : Nat} :
    (p.attentionEntries = 0 → (p.followAge before now).ageTimer = none ∧ (p.followAge before now).ageCause = false)
    ∧ (before = 0 → p.attentionEntries ≠ 0 → (p.followAge before now).ageTimer = some (now + 500)) := by
  unfold LocalPort.followAge
  refine ⟨fun h => by simp [h], fun hb h => by simp [hb, h, Config.ageMs]⟩

theorem LocalPort.followAge_mailbox (p : LocalPort) (before now : Nat) : (p.followAge before now).trigger = p.trigger
    ∧ (p.followAge before now).mask2 = p.mask2 ∧ (p.followAge before now).mask3 = p.mask3 ∧ (p.followAge before now).mask4 = p.mask4
    ∧ (p.followAge before now).attentionEntries = p.attentionEntries := by
  unfold LocalPort.followAge
  split
  · exact ⟨rfl, rfl, rfl, rfl, rfl⟩
  · split <;> exact ⟨rfl, rfl, rfl, rfl, rfl⟩

theorem LocalPort.attentionEntries_append {p : LocalPort} {n : Notice} (h : p.masked n.body.cls = false) :
    ({ p with notices := p.notices ++ [n] } : LocalPort).attentionEntries = p.attentionEntries + 1 := by
  have hm : ∀ c, ({ p with notices := p.notices ++ [n] } : LocalPort).masked c = p.masked c := fun _ => rfl
  unfold LocalPort.attentionEntries
  simp only [hm, List.filter_append, List.length_append]
  simp [h]

end Sys2Proof.Machine

open Sys2Proof Sys2Proof.Machine

/-- Settles O8, mailbox state by mailbox state. -/
theorem postWithdrawAndPortState : Obligations.PostWithdrawAndPortState := by
  refine ⟨fun s record hq h => ?_, fun s hq h => ?_, fun s first hq h => ⟨?_, ?_⟩⟩
  · refine ⟨_, congrArg Host.Outcome.next ((congrArg State.finish (State.transact_post record h)).trans (State.finish_onPort hq _)), rfl,
      fun he => ⟨fun r hr => ?_, fun hr => ?_⟩, fun hn => ?_⟩
    · simp [he, Mailbox.place, hr, LocalPort.statusOf]
    · simp [he, Mailbox.place, hr, LocalPort.statusOf]
    · cases hm : s.port.mailbox with
      | empty => exact absurd hm hn
      | _ => simp [hm, LocalPort.statusOf]
  · refine ⟨_, congrArg Host.Outcome.next ((congrArg State.finish (State.transact_withdraw h)).trans (State.finish_onPort hq _)), rfl,
      fun he => ?_, fun r he => ?_, fun r he => ?_, fun r he => ?_⟩ <;> simp [he, Mailbox.withdrawn, LocalPort.statusOf]
  · rintro out rfl
    refine congrArg Host.Outcome.next ((State.finish_onPort hq _).trans ?_)
    simp only [State.onPort, LocalPort.release_none h]
    simp [LocalPort.record, LocalPort.maskByte, LocalPort.causeByte, LocalPort.classOneCause, LocalPort.levelCause, bit]
  · refine congrArg Host.Outcome.next ((State.finish_onPort hq _).trans ?_)
    simp only [State.onPort, LocalPort.release_none h]

/-- Settles O9: the page that a fetch returns and what it leaves; and a transaction in its phases is the transaction whole. -/
theorem fetchReplyReturnsPagesInOrder : Obligations.FetchReplyReturnsPagesInOrder := by
  refine ⟨fun s hq h hr => ?_, fun f s t hf hq ht => ?_⟩
  · refine ⟨_, congrArg Host.Outcome.next ((congrArg State.finish (State.transact_fetchReply h (Mailbox.restarts_false hr))).trans
      (State.finish_onPort hq _)), rfl, fun r data hm hd => ⟨?_, ?_⟩, fun hn => ?_⟩
    · show LocalPort.answer s.port .fetchReply = _
      simp only [LocalPort.answer, LocalPort.statusOf, hm]
      exact congrArg (List.cons 0) (Reply.page_eq (hr r hm) hd)
    · show s.port.mailbox.fetched = _
      rw [hm, Mailbox.fetched_replied hd]
    · cases hm : s.port.mailbox with
      | replied r => exact absurd hm (hn r)
      | _ => simp [hm, Mailbox.fetched, LocalPort.answer, LocalPort.statusOf]
  · have phases : ∀ tr : Transaction, (∀ ph v, exec (f ph) v = .next (v.transact tr ph).finish) →
        exec (f .finish) t = exec (f .whole) s
        ∧ (s.port.select = none → exec (f .release) t = .next { s with port := { s.port with spiOut := t.port.spiOut } }) := by
      intro tr he
      obtain ⟨hst, hfin, hrel⟩ := State.transact_phases hq tr
      rw [he, hst] at ht
      obtain rfl := Host.Outcome.next.inj ht
      refine ⟨by rw [he, he, hfin], fun h => ?_⟩
      rw [he, hrel h]
      exact congrArg _ (State.finish_onPort hq _)
    rcases hf with ⟨record, rfl⟩ | rfl | rfl | rfl
    · exact phases (.post record) fun _ _ => rfl
    · exact phases .withdraw fun _ _ => rfl
    · exact phases .fetchReply fun _ _ => rfl
    · exact phases .fetchNotice fun _ _ => rfl

/-- Settles O10: R181's four steps at the entry of a notice, the fetch of the oldest of the highest class, the masks and the age timer. -/
theorem noticesMergeAndAreFetchedByClass : Obligations.NoticesMergeAndAreFetchedByClass := by
  refine ⟨fun p now body h => ⟨LocalPort.enter_lawful p now body now h, fun older m newer hq hm hc => LocalPort.enter_merges h hq hm hc _ _,
      fun hc hm => LocalPort.enter_masked hc hm _ _, fun hl hn hc => ?_, fun hl hn ⟨m, hm, hlt⟩ hc => ?_, fun hl hn hle hc => ?_⟩,
    fun s hq h hl => ?_, fun s m1 m2 m3 m4 trigger hq hmode hm h2 h3 h4 => ?_, fun s d hq hd => ?_⟩
  · obtain ⟨hnotices, hover, hdropped, -⟩ := LocalPort.followAge_queue
      ({ p with notices := p.notices ++ [⟨body, now % 2 ^ 32, 0⟩] } : LocalPort) p.attentionEntries now
    refine ⟨_, (LocalPort.enter_joins hl hn hc now now).symm, hnotices, hover, hdropped, fun hz hu => ?_⟩
    exact LocalPort.followAge_timer.2 hz (by rw [LocalPort.attentionEntries_append hu]; omega)
  · obtain ⟨hmax, hmem⟩ := lowestClass_spec p.notices
    obtain ⟨older, n, newer, hsplit, hcls, hnewer, hdrop⟩ := dropNewest_split (hmem (List.ne_nil_of_mem hm))
    rw [LocalPort.enter_full hl hn hc, if_pos (lt_of_lt_of_le hlt (hmax m hm))]
    obtain ⟨hnotices, hover, hdropped, -⟩ := LocalPort.followAge_queue
      ({ p with
          notices := dropNewest (lowestClass p.notices) p.notices ++ [⟨body, now % 2 ^ 32, 0⟩]
          overflow := true } : LocalPort) p.attentionEntries now
    refine ⟨older, n, newer, hsplit, fun k hk => hcls ▸ hmax k hk, fun k hk => ?_, ?_, hover, hdropped⟩
    · exact hcls ▸ lt_of_le_of_ne (hmax k (by rw [hsplit]; simp [hk])) (hnewer k hk)
    · rw [hnotices, hdrop]
  · have hnot : ¬body.cls < lowestClass p.notices := by
      have hne : p.notices ≠ [] := by intro e; rw [e] at hl; simp at hl
      obtain ⟨k, hk, hcls⟩ := (lowestClass_spec p.notices).2 hne
      have := hle k hk
      omega
    rw [LocalPort.enter_full hl hn hc, if_neg hnot]
    exact ⟨rfl, rfl⟩
  · refine ⟨_, congrArg Host.Outcome.next ((congrArg State.finish (State.transact_fetchNotice h)).trans (State.finish_onPort hq _)), rfl,
      fun he => ?_, fun hne => ?_, rfl⟩
    · have hnone : s.port.nextNotice = none := by simp [LocalPort.nextNotice, he]
      exact ⟨by simp [LocalPort.noticeFetched, hnone, he], by simp [LocalPort.answer, LocalPort.statusOf, hnone]⟩
    · obtain ⟨older, n, newer, hnext, hsplit, hold, hnew⟩ := LocalPort.nextNotice_spec hne
      refine ⟨older, n, newer, hsplit, hold, hnew, ?_, by simp [LocalPort.answer, LocalPort.statusOf, hnext]⟩
      have apart : keysApart (older ++ n :: newer) := hsplit ▸ hl.2
      simp only [State.onPort_port, LocalPort.noticeFetched, hnext, hsplit]
      exact apart.erase
  · have run : exec .setMasks s = .next (s.judged (maskChecks m1 m2 m3 m4 trigger) ((s.setMasks m2 m3 m4 trigger).done [])).finish :=
      (exec_row hm).trans (congrArg (fun v => Host.Outcome.next (State.finish v))
        (State.whenMode_allowed (PartMode.mem_runBypass hmode) _))
    refine ⟨fun h1 => ?_, fun h1 ht => ?_, fun h1 ht => ?_⟩
    · have hf : firstFailure (maskChecks m1 m2 m3 m4 trigger) = some (.badField, 1) := by simp [h1, maskChecks, fieldIn, firstFailure]
      rw [run, State.judged_refused hf, State.finish_refuse hq]
    · have hf : firstFailure (maskChecks m1 m2 m3 m4 trigger) = none := by
        rw [firstFailure_eq_none]
        simp [maskChecks, fieldIn, fieldOk, triggerOk, h1, h2, h3, h4, ht, or_assoc]
      rw [run, State.judged_passed hf]
      refine ⟨_, congrArg Host.Outcome.next (State.finish_onPort (s := s.setMasks m2 m3 m4 trigger) hq _),
        (State.onlyIn_onPort s _).trans (State.onlyIn_onPort _ _), rfl, ?_⟩
      obtain ⟨hnotices, -, -, -⟩ := LocalPort.followAge_queue
        ({ s.port with mask2 := m2 == 1, mask3 := m3 == 1, mask4 := m4 == 1, trigger := trigger } : LocalPort) s.port.attentionEntries s.count
      obtain ⟨htrigger, hm2, hm3, hm4, hentries⟩ := LocalPort.followAge_mailbox
        ({ s.port with mask2 := m2 == 1, mask3 := m3 == 1, mask4 := m4 == 1, trigger := trigger } : LocalPort) s.port.attentionEntries s.count
      refine ⟨hnotices, htrigger, ?_, ?_, ?_, fun hz => LocalPort.followAge_timer.1 (hentries.symm.trans hz),
        fun hz hnz => LocalPort.followAge_timer.2 hz fun k => hnz (hentries.trans k)⟩
      · exact (Bool.eq_iff_iff.1 hm2).trans beq_iff_eq
      · exact (Bool.eq_iff_iff.1 hm3).trans beq_iff_eq
      · exact (Bool.eq_iff_iff.1 hm4).trans beq_iff_eq
    · have hf : firstFailure (maskChecks m1 m2 m3 m4 trigger) = some (.badField, 5) := by
        simp only [not_or] at ht
        simp [maskChecks, fieldIn, fieldOk, triggerOk, firstFailure, h1, h2, h3, h4, ht]
      rw [run, State.judged_refused hf, State.finish_refuse hq]
  · have run : exec .ageTimerExpiry s = .next (s.expire s.port.ageTimer
        (fun t => t.onPort (fun p => { p with ageTimer := none, ageCause := true }))).finish := rfl
    rw [hd] at run
    refine ⟨_, run.trans (congrArg Host.Outcome.next (State.finish_onPort (s := s.upTo d) hq _)), ?_, rfl, rfl, ?_⟩
    · exact ((State.onlyIn_upTo s d).mono (by simp)).add (by simp) (State.onlyIn_onPort _ _)
    · simp [LocalPort.attentionLine]

end

section
/-! The reads (O14) and the translation of the spout tip (O16). -/

namespace Sys2Proof.Machine

variable {s t u : State}

/-! ## Pages -/

theorem paginateFrom_flatten (page : List Byte) (pieces : List (List Byte)) :
    (paginateFrom page pieces).flatten = page ++ pieces.flatten := by
  induction pieces generalizing page with
  | nil => simp [paginateFrom]
  | cons piece rest ih =>
    unfold paginateFrom
    split
    · rw [ih, List.append_assoc, List.flatten_cons]
    · rw [List.flatten_cons, ih, List.flatten_cons]

theorem paginateFrom_length {page : List Byte} {pieces : List (List Byte)} (hp : page.length ≤ 384) (h : ∀ p ∈ pieces, p.length ≤ 384) :
    ∀ q ∈ paginateFrom page pieces, q.length ≤ 384 := by
  induction pieces generalizing page with
  | nil => simpa [paginateFrom] using hp
  | cons piece rest ih =>
    have hrest : ∀ p ∈ rest, p.length ≤ 384 := fun p hm => h p (List.mem_cons_of_mem _ hm)
    unfold paginateFrom
    split
    · next hfit => exact ih (by rw [List.length_append]; exact hfit) hrest
    · exact List.forall_mem_cons.2 ⟨hp, ih (h piece List.mem_cons_self) hrest⟩

/-- The pages are whole runs of pieces, the first of them being what stands on the page begun. -/
theorem paginateFrom_cut (begun pieces : List (List Byte)) :
    ∃ cut : List (List (List Byte)), cut.flatten = begun ++ pieces ∧ paginateFrom begun.flatten pieces = cut.map List.flatten := by
  induction pieces generalizing begun with
  | nil => exact ⟨[begun], by simp, rfl⟩
  | cons piece rest ih =>
    unfold paginateFrom
    split
    · obtain ⟨cut, hcut, hpages⟩ := ih (begun ++ [piece])
      exact ⟨cut, by simp [hcut], by simpa using hpages⟩
    · obtain ⟨cut, hcut, hpages⟩ := ih [piece]
      exact ⟨begun :: cut, by simp [hcut], by simpa using hpages⟩

theorem paginate_flatten (pieces : List (List Byte)) : (paginate pieces).flatten = pieces.flatten := paginateFrom_flatten [] pieces

theorem listPieces_flatten (entries : List (List Byte)) : (listPieces entries).flatten = uField 1 entries.length ++ entries.flatten := rfl

/-- A reply given at once changes nothing but the mailbox. -/
theorem State.finish_reply (hq : s.quiet) (o : ReplyOutcome) (pages : List (List Byte)) :
    (s.reply o pages).finish = s.withMailbox (.taken ⟨o, pages, 0, false⟩) :=
  State.finish_onPort hq _

/-! ## Sessions -/

theorem State.onSession_other (x : Slot) (f : Session → Session) : (s.onSession x f).berth x.other = s.berth x.other := by
  cases x <;> rfl

theorem State.onlyIn_onBerths (s : State) (f : Berths → Berths) : s.onlyIn (s.onBerths f) [.berths] := by
  intro b hb
  cases b <;> simp_all [State.agree]

/-! ## Translation -/

theorem Session.inside_pourWindow (ses : Session) (p : HoldPlan) (tip : Int) : inside (ses.pourWindow p) tip = true
    ↔ (p.fore : Int) + p.margin ≤ ses.fromBow tip ∧ ses.fromBow tip ≤ p.aft - p.margin := by
  unfold inside Session.pourWindow Session.fromBow
  cases ses.orientation <;> simp only [decide_eq_true_eq] <;> omega

theorem Hold.check_eq (d : Hold) (p : HoldPlan) (q : Int) : d.check p q =
    if p.targets = [] then some .noPlan
    else if d.hatchOpen = false then some .hatchClosed
    else if ¬(d.permission = .opened ∨ (d.permission = .restricted ∧ d.tokenPass = true)) then some .notPermitted
    else if q < p.fore + p.margin ∨ p.aft - p.margin < q then some .margin
    else none := by
  unfold Hold.check
  simp only [List.isEmpty_iff, Bool.not_eq_true', Bool.or_eq_true, Bool.and_eq_true, beq_iff_eq, decide_eq_true_eq, gt_iff_lt,
    ← Bool.not_eq_true]

theorem Hold.check_eq_none (d : Hold) (p : HoldPlan) (q : Int) : d.check p q = none ↔
    (p.targets ≠ [] ∧ d.hatchOpen = true ∧ (d.permission = .opened ∨ (d.permission = .restricted ∧ d.tokenPass = true)))
      ∧ (p.fore : Int) + p.margin ≤ q ∧ q ≤ p.aft - p.margin := by
  rw [Hold.check_eq]
  split
  · next h => simp [h]
  split
  · next h => simp [h]
  split
  · next h => simp [h]
  next ht hh hp =>
    split
    · simp only [reduceCtorEq, false_iff]; omega
    · simp only [true_iff]
      exact ⟨⟨ht, by simpa using hh, not_not.1 hp⟩, by omega, by omega⟩

/-- What the check of a hold makes of a tip in its window. -/
def Hold.found (x : Slot) (h : Nat) (d : Hold) (p : HoldPlan) (q : Int) : Translation :=
  match d.check p q with
  | some k => .fault k
  | none => .ok x h

/-- A tip lies in the hold window of a descriptor. -/
def Hold.spans (d : Hold) (q : Int) : Prop := ∃ p, d.plan = some p ∧ (p.fore : Int) ≤ q ∧ q ≤ p.aft

theorem searchHold_cons {d : Hold} {q : Int} (h : ¬d.spans q) (x : Slot) (n : Nat) (rest : List Hold) :
    searchHold x q n (d :: rest) = searchHold x q (n + 1) rest := by
  cases hp : d.plan with
  | none => simp only [searchHold, hp]
  | some p =>
    simp only [searchHold, hp]
    exact if_neg fun k => h ⟨p, hp, k⟩

theorem searchHold_here {d : Hold} {p : HoldPlan} {q : Int} (hp : d.plan = some p) (hin : (p.fore : Int) ≤ q ∧ q ≤ p.aft) (x : Slot)
    (n : Nat) (rest : List Hold) : searchHold x q n (d :: rest) = d.found x n p q := by
  simp only [searchHold, hp]
  exact if_pos hin

theorem searchHold_nowhere {holds : List Hold} {q : Int} (h : ∀ d ∈ holds, ¬d.spans q) (x : Slot) (n : Nat) :
    searchHold x q n holds = .fault .betweenHolds := by
  induction holds generalizing n with
  | nil => rfl
  | cons d rest ih =>
    rw [searchHold_cons (h d List.mem_cons_self)]
    exact ih (fun k hk => h k (List.mem_cons_of_mem _ hk)) _

/-- The first descriptor whose window holds the tip decides. -/
theorem searchHold_at {holds : List Hold} {q : Int} {i : Nat} {d : Hold} {p : HoldPlan} (hd : holds[i]? = some d) (hp : d.plan = some p)
    (hin : (p.fore : Int) ≤ q ∧ q ≤ p.aft) (hfirst : ∀ j a, j < i → holds[j]? = some a → ¬a.spans q) (x : Slot) (n : Nat) :
    searchHold x q n holds = d.found x (n + i) p q := by
  induction holds generalizing n i with
  | nil => simp at hd
  | cons a rest ih =>
    cases i with
    | zero =>
      obtain rfl : a = d := by simpa using hd
      exact searchHold_here hp hin x n rest
    | succ i =>
      rw [searchHold_cons (hfirst 0 a (by omega) rfl),
        ih (i := i) (by simpa using hd) (fun j b hj hb => hfirst (j + 1) b (by omega) (by simpa using hb)),
        Nat.add_right_comm, Nat.add_assoc]

theorem searchHold_ok {holds : List Hold} {q : Int} {x y : Slot} {n h : Nat} (k : searchHold x q n holds = .ok y h) :
    y = x ∧ ∃ i d p, h = n + i ∧ holds[i]? = some d ∧ d.plan = some p ∧ d.check p q = none := by
  induction holds generalizing n with
  | nil => simp [searchHold] at k
  | cons a rest ih =>
    by_cases hs : a.spans q
    · obtain ⟨p, hp, hin⟩ := hs
      rw [searchHold_here hp hin] at k
      unfold Hold.found at k
      split at k
      · cases k
      · next hc => cases k; exact ⟨rfl, 0, a, p, rfl, rfl, hp, hc⟩
    · rw [searchHold_cons hs] at k
      obtain ⟨hy, i, d, p, hh, hd, hp, hc⟩ := ih k
      exact ⟨hy, i + 1, d, p, by omega, by simpa using hd, hp, hc⟩

theorem Session.hold_succ (ses : Session) (i : Nat) : ses.hold (1 + i) = ses.holds[i]? := by
  unfold Session.hold
  rw [if_neg (by omega), Nat.add_sub_cancel_left]

theorem Session.hold_eq_some {ses : Session} {h : Nat} {d : Hold} (k : ses.hold h = some d) : ∃ i, h = 1 + i ∧ ses.holds[i]? = some d := by
  unfold Session.hold at k
  split at k
  · cases k
  · exact ⟨h - 1, by omega, k⟩

theorem State.found_of {x : Slot} {tip : Int} {ses : Session} (hs : s.session x = some ses) (hin : inside ses.span tip = true) :
    s.found x tip = some ses := by
  unfold State.found
  rw [hs]
  exact if_pos hin

theorem State.not_found {x : Slot} {tip : Int} (h : ∀ ses, s.session x = some ses → inside ses.span tip = false) : s.found x tip = none := by
  unfold State.found
  cases hs : s.session x with
  | none => rfl
  | some ses => exact if_neg (by simp [h ses hs])

theorem State.found_some {x : Slot} {tip : Int} {ses : Session} (h : s.found x tip = some ses) :
    s.session x = some ses ∧ inside ses.span tip = true := by
  unfold State.found at h
  split at h
  · next o ho =>
    split at h
    · next hin => obtain rfl := Option.some.inj h; exact ⟨ho, hin⟩
    · cases h
  · cases h

/-- On the one OPEN slot under the tip the search over its descriptors decides. -/
theorem State.translate_on {x : Slot} {tip : Int} {ses : Session} (ht : s.tip = some tip) (hs : s.session x = some ses)
    (hin : inside ses.span tip = true) (hother : ∀ o, s.session x.other = some o → inside o.span tip = false) :
    s.translate = searchHold x (ses.fromBow tip) 1 ses.holds := by
  have hx := State.found_of hs hin
  have hy := State.not_found hother
  unfold State.translate
  rw [ht]
  cases x with
  | a => dsimp only; rw [hx]
  | b => dsimp only; rw [show s.found .a tip = none from hy, hx]

/-- A translation that is OK comes of a slot under the tip. -/
theorem State.translate_ok {x : Slot} {h : Nat} (k : s.translate = .ok x h) :
    ∃ tip ses, s.tip = some tip ∧ s.session x = some ses ∧ inside ses.span tip = true
      ∧ searchHold x (ses.fromBow tip) 1 ses.holds = .ok x h := by
  have one : ∀ (y : Slot) (tip : Int) (ses : Session), s.tip = some tip → s.found y tip = some ses →
      searchHold y (ses.fromBow tip) 1 ses.holds = .ok x h → ∃ tip ses, s.tip = some tip ∧ s.session x = some ses
        ∧ inside ses.span tip = true ∧ searchHold x (ses.fromBow tip) 1 ses.holds = .ok x h := by
    intro y tip ses ht hf hsearch
    obtain ⟨rfl, -⟩ := searchHold_ok hsearch
    obtain ⟨hs, hin⟩ := State.found_some hf
    exact ⟨tip, ses, ht, hs, hin, hsearch⟩
  unfold State.translate at k
  split at k
  · cases k
  · next tip ht =>
    split at k
    · next ses ha => exact one .a tip ses ht ha k
    · next ses _ hb => exact one .b tip ses ht hb k
    · cases k

/-- With windows that do not overlap, the hold whose window the tip is in decides. -/
theorem Session.search_window {ses : Session} {q : Int} {h : Nat} {d : Hold} {p : HoldPlan} (x : Slot)
    (apart : ∀ i j a b, ses.hold i = some a → ses.hold j = some b → i ≠ j → ∀ v w, a.plan = some v → b.plan = some w →
      overlap (v.fore, v.aft) (w.fore, w.aft) = false)
    (hd : ses.hold h = some d) (hp : d.plan = some p) (hin : (p.fore : Int) ≤ q ∧ q ≤ p.aft) :
    searchHold x q 1 ses.holds = d.found x h p q := by
  obtain ⟨i, rfl, hi⟩ := Session.hold_eq_some hd
  refine searchHold_at hi hp hin (fun j a hj ha hspan => ?_) x 1
  obtain ⟨v, hv, hlo, hhi⟩ := hspan
  have := apart (1 + j) (1 + i) a d (by rw [Session.hold_succ]; exact ha) hd (by omega) v p hv hp
  simp only [overlap, decide_eq_false_iff_not] at this
  omega

end Sys2Proof.Machine

open Sys2Proof Sys2Proof.Machine

/-- Settles O14: each read answers its pieces cut into pages, and READ HOLDS clears TOUCHED. -/
theorem readsChangeNothingButTouched : Obligations.ReadsChangeNothingButTouched := by
  refine ⟨⟨fun s hq hm => ?_, fun s hq hm => ?_, fun s record start b hq hm h1 h2 h3 h4 hb => ?_, fun s slot x ses hq hm hx hs => ?_⟩,
    fun pieces h => ⟨paginate_flatten pieces, paginateFrom_length (by simp) h, paginateFrom_cut [] pieces⟩⟩
  · exact ⟨_, (exec_row hm).trans (congrArg _ (State.finish_reply hq _ _)), paginate_flatten _⟩
  · refine ⟨_, (exec_row hm).trans (congrArg _ (State.finish_reply hq _ _)), ?_⟩
    rw [paginate_flatten, State.peerPieces, List.flatten_append, listPieces_flatten]
    simp [List.flatMap_def, State.berth]
  · have hf : firstFailure [fieldIn 1 1 4 record, fieldIn 2 1 160 start] = none := by
      rw [firstFailure_eq_none]
      simp [fieldIn, h1, h2, h3, h4]
    refine ⟨paginate (s.billHeader b start :: listPieces ((b.linesFrom start).map BillLine.record)),
      (exec_row hm).trans (congrArg Host.Outcome.next ?_), (paginate_flatten _).trans ?_⟩
    · show (s.takeReadBill record start).finish = _
      unfold State.takeReadBill
      rw [hf, hb]
      exact State.finish_reply hq _ _
    · rw [List.flatten_cons, listPieces_flatten]
      simp [List.flatMap_def, Bill.linesFrom, Config.linesPerRead]
  · have hslot : slotOf slot = x := slotOf_of hx
    have hf : firstFailure (s.slotChecks slot) = none := by
      rw [firstFailure_eq_none]
      simp [State.slotChecks, fieldOk, orElse, hx, hslot, hs]
    have htake : s.takeReadHolds slot = (s.clearTouched x).reply .done (paginate (s.holdsPieces x ses)) := by
      unfold State.takeReadHolds
      rw [hf, hslot, hs]
    have hexec : exec .readHolds s = .next (s.takeReadHolds slot).finish := exec_row hm
    refine ⟨_, paginate (s.holdsPieces x ses), hexec.trans (congrArg _ ((congrArg State.finish htake).trans
      (State.finish_onPort (s := s.clearTouched x) hq _))), ?_, rfl, paginate_flatten _, ?_, ?_⟩
    · exact ((State.onlyIn_onBerths s _).mono (by simp)).add (by simp) (State.onlyIn_onPort _ _)
    · show (s.clearTouched x).session x = _
      rw [State.clearTouched, State.onSession_session, hs]
      rfl
    · exact State.onSession_other x _

/-- Settles O16: the search over the descriptors of the slot under the tip, its windows apart. -/
theorem translationFindsThePourableHoldUnderTheTip : Obligations.TranslationFindsThePourableHoldUnderTheTip := by
  refine ⟨fun s x h k => ?_, fun s x h tip ses d p ht hs hin hother apart hd hp hwin => ?_, fun s h => ?_, fun s tip ht h => ?_,
    fun s x tip q ses ht hs hin hother hq => ?_⟩
  · obtain ⟨tip, ses, ht, hs, hin, hsearch⟩ := State.translate_ok k
    obtain ⟨-, i, d, p, rfl, hi, hp, hc⟩ := searchHold_ok hsearch
    obtain ⟨⟨htargets, hhatch, hperm⟩, hwin⟩ := (Hold.check_eq_none d p _).1 hc
    have hd : s.hold x (1 + i) = some d := by simp only [State.hold, hs, Session.hold_succ, hi]
    refine ⟨tip, ses, d, p, ht, hs, hin, hd, hp, htargets, hhatch, hperm, ?_, (Session.inside_pourWindow ses p tip).2 hwin⟩
    simp only [State.window, State.plan, hs, hd, hp]
  · have hq := (Session.inside_pourWindow ses p tip).1 hwin
    rw [State.translate_on ht hs hin hother, Session.search_window x apart hd hp ⟨by omega, by omega⟩]
    have hc := Hold.check_eq_none d p (ses.fromBow tip)
    unfold Hold.found
    cases hk : d.check p (ses.fromBow tip) with
    | none => simpa [hq] using hc.1 hk
    | some k =>
      rw [hk] at hc
      simp only [reduceCtorEq, false_iff, not_and] at hc ⊢
      exact fun a b c => hc ⟨a, b, c⟩ hq.1 hq.2
  · simp [State.translate, State.tip, h]
  · unfold State.translate
    rw [ht]
    dsimp only
    rw [State.not_found (h .a), State.not_found (h .b)]
  · obtain rfl : q = ses.fromBow tip := hq
    rw [State.translate_on ht hs hin hother]
    refine ⟨fun hno => searchHold_nowhere (fun d hd hspan => ?_) x 1, fun h d p hd hp hlo hhi apart => ?_⟩
    · obtain ⟨i, hi⟩ := List.getElem?_of_mem hd
      obtain ⟨p, hp, hwin⟩ := hspan
      exact hno (1 + i) d p (by rw [Session.hold_succ]; exact hi) hp hwin
    · rw [Session.search_window x apart hd hp ⟨hlo, hhi⟩, Hold.found, Hold.check_eq]
      split_ifs <;> rfl

end

section
/-! The requests of the Position Map and of the Bill Store (O17 to O20). -/

namespace Sys2Proof.Machine

variable {s t u : State}

/-! ## The map while the claim lasts

What the Pour Sequencer does to the map is to clear a token pass marker, and that only where it ends the own claim. -/

/-- The own claim has ended, or it and the map are as they were. -/
def State.Holding (s t : State) : Prop := t.fill.claim = none ∨ (t.fill.claim = s.fill.claim ∧ t.berths = s.berths)

theorem State.Holding.refl (s : State) : s.Holding s := .inr ⟨rfl, rfl⟩

/-- A change that leaves claim and map alone. -/
theorem State.Holding.same (h : s.Holding t) (hf : u.fill.claim = t.fill.claim) (hb : u.berths = t.berths) : s.Holding u :=
  h.imp hf.trans fun ⟨hc, hm⟩ => ⟨hf.trans hc, hb.trans hm⟩

theorem State.Holding.travel (h : s.Holding t) (k : t.TravelOnly u) : s.Holding u :=
  h.same (congrArg Fill.claim k.fill) k.berths

theorem State.Holding.ite {p : Prop} [Decidable p] (h : s.Holding t) (k : s.Holding u) : s.Holding (if p then t else u) := by
  split
  · exact h
  · exact k

theorem State.Holding.onPour (h : s.Holding t) (f : Pour → Pour) : s.Holding (t.onPour f) := h.same rfl rfl

theorem State.Holding.onBills (h : s.Holding t) (f : Bills → Bills) : s.Holding (t.onBills f) := h.same rfl rfl

theorem State.Holding.notify (h : s.Holding t) (body : NoticeBody) : s.Holding (t.notify body) := h.same rfl rfl

theorem State.Holding.setGate (h : s.Holding t) (c : GateCommand) : s.Holding (t.setGate c) := h.onPour _

theorem State.Holding.setPour (h : s.Holding t) (x : PourState) : s.Holding (t.setPour x) :=
  .ite (h.onPour _) ((h.onPour (fun p => { p with state := x })).same rfl rfl)

theorem State.Holding.setBelt (h : s.Holding t) (on : Bool) : s.Holding (t.setBelt on) := h.onPour _

theorem State.Holding.beltByCauses (h : s.Holding t) : s.Holding t.beltByCauses := h.setBelt _

theorem State.Holding.setCauses (h : s.Holding t) (c : CauseSet) : s.Holding (t.setCauses c) := by
  unfold State.setCauses
  dsimp only
  repeat' split
  · exact h
  · exact (h.onPour _).notify _
  · exact h.onPour _
  · exact h.onPour _

theorem State.Holding.endClaim (h : s.Holding t) : s.Holding t.endClaim := by
  unfold State.endClaim
  split
  · exact h
  · exact .inl (by simp)

theorem State.Holding.notifyLineClosed (h : s.Holding t) (l : Option BillLine) (c : ClosureCause) (o : Option Int) (r : Option Nat) :
    s.Holding (t.notifyLineClosed l c o r) := by
  cases l with
  | none => exact h
  | some l => exact h.notify _

theorem State.Holding.lineClosedToTravel (h : s.Holding t) : s.Holding t.lineClosedToTravel :=
  h.travel (State.TravelOnly.refl t).rangeEvent

theorem State.Holding.adapt (h : s.Holding t) (c : RunoutCause) (o : Option Int) : s.Holding (t.adapt c o) := by
  unfold State.adapt
  repeat' split
  · exact h
  · exact h.onPour _
  · exact h

theorem State.Holding.withdrawPass (h : s.Holding t) : s.Holding t.withdrawPass := by
  unfold State.withdrawPass
  exact (((((((((h.setGate _).setBelt _).onPour _).setCauses _).onBills _).onPour _).setPour _).lineClosedToTravel).endClaim).notifyLineClosed
    _ _ _ _

theorem State.Holding.endRunout (h : s.Holding t) (cause : RunoutCause) : s.Holding (t.endRunout cause) := by
  unfold State.endRunout
  exact (((((((h.onBills _).setBelt _).onPour _).setPour _).lineClosedToTravel).adapt _ _).endClaim).notifyLineClosed _ _ _ _

theorem State.Holding.runoutTest (h : s.Holding t) : s.Holding t.runoutTest := by
  unfold State.runoutTest
  repeat' split
  · exact h.endRunout _
  · exact h
  · exact h

theorem State.Holding.enterRunout (h : s.Holding t) (cause : RunoutCause) : s.Holding (t.enterRunout cause) :=
  ((((h.setGate _).onPour _).setPour _).beltByCauses).runoutTest

theorem State.Holding.placeOrder (h : s.Holding t) (target : Int) (source : OrderSource) : s.Holding (t.placeOrder target source).1 :=
  h.travel ((State.TravelOnly.refl t).placeOrder target source)

theorem State.Holding.reAim (h : s.Holding t) (source : OrderSource) : s.Holding (t.reAim source) := by
  unfold State.reAim
  dsimp only
  repeat' split
  · exact h
  · exact (h.onPour _).placeOrder _ _
  · exact h.onPour _

theorem State.Holding.arrivalOpen (h : s.Holding t) (source : OrderSource) : s.Holding (t.arrivalOpen source) := .ite h (h.reAim source)

theorem State.Holding.placeReturn (h : s.Holding t) : s.Holding t.placeReturn := by
  unfold State.placeReturn
  refine .ite ?_ h
  split
  · next p _ =>
    have placed := (h.onPour (fun q => { q with reAimed := false })).placeOrder p .returning
    split
    · next heq => rw [heq] at placed; exact placed.arrivalOpen _
    · next heq => rw [heq] at placed; exact placed
  · exact h

theorem State.Holding.enterSuspended (h : s.Holding t) : s.Holding t.enterSuspended :=
  ((((h.setGate _).onPour _).setPour _).beltByCauses).onBills _

theorem State.Holding.reactAdd (h : s.Holding t) : s.Holding t.reactAdd := by
  unfold State.reactAdd
  split
  · exact h.enterSuspended
  · exact h.enterSuspended
  · exact h.enterSuspended
  · exact h.beltByCauses
  · exact h.beltByCauses
  · exact h

theorem State.Holding.addCause (h : s.Holding t) (c : SuspendCause) : s.Holding (t.addCause c) :=
  .ite (.ite (h.setCauses _).reactAdd.placeReturn (h.setCauses _).reactAdd) h

theorem State.Holding.failCause (h : s.Holding t) (c : SuspendCause) : s.Holding (t.failCause c) :=
  .ite (.ite ((h.setCauses _).onPour _).withdrawPass ((h.setCauses _).onPour _).reactAdd) h

theorem State.Holding.gateWait (h : s.Holding t) : s.Holding t.gateWait :=
  .ite (h.enterRunout _) (.ite (h.failCause _) ((h.onPour _).setGate _))

theorem State.Holding.beltWait (h : s.Holding t) : s.Holding t.beltWait :=
  .ite ((h.onPour _).setBelt _).gateWait ((h.onPour _).setBelt _)

theorem State.Holding.reEnterStarting (h : s.Holding t) : s.Holding t.reEnterStarting :=
  .ite ((h.onPour _).setPour _).beltWait (((h.onPour _).setPour _).addCause _)

theorem State.Holding.removeCause (h : s.Holding t) (c : SuspendCause) : s.Holding (t.removeCause c) := by
  have removed := (h.setCauses (t.pour.causes.put false c)).onPour (fun p => { p with
    beltRetryTimer := if c = .belt then none else p.beltRetryTimer })
  unfold State.removeCause
  refine .ite ?_ h
  dsimp only
  split
  · exact .ite removed.reEnterStarting removed.beltByCauses
  · exact removed.beltByCauses
  · exact removed

theorem State.Holding.mapTest (h : s.Holding t) : s.Holding t.mapTest := .ite (.ite (h.addCause _) (h.removeCause _)) h

/-! ## The translation made at a map request -/

theorem State.translate_congr (hc : t.cfg = s.cfg) (hp : t.travel.position = s.travel.position) (hb : t.berths = s.berths) :
    t.translate = s.translate := by
  have tip : t.tip = s.tip := by simp [State.tip, State.block, hc, hp]
  have found : ∀ x p, t.found x p = s.found x p := fun x p => by cases x <;> simp [State.found, State.session, State.berth, hb]
  simp only [State.translate, tip, found]

theorem State.addCause_of_held {c : SuspendCause} (h : s.pour.causes.has c = true) : s.addCause c = s := by simp [State.addCause, h]

theorem State.removeCause_of_clear {c : SuspendCause} (h : s.pour.causes.has c = false) : s.removeCause c = s := by
  simp [State.removeCause, h]

theorem State.onClaimHold_iff {k : OwnClaim} (h : s.fill.claim = some k) : s.onClaimHold = true ↔ s.translate = .ok k.slot k.hold := by
  simp [State.onClaimHold, h]

/-- The translation that finds MAP as it stands changes nothing (R137). -/
theorem State.mapTest_stands {v : State} (hp : v.pour = s.pour) (hc : v.fill.claim = s.fill.claim) {fields : List Byte}
    (h : s.mapStands (v.mapTest.done fields).finish) : v.mapTest = v := by
  have hlo : v.lineOpen = s.lineOpen := by rw [State.lineOpen, State.lineOpen, hp]
  have closed : v.lineOpen = false → v.mapTest = v := fun hl => by simp [State.mapTest, hl]
  rcases h with hl | ⟨k, hk, htk, hmap⟩
  · exact closed (hlo.trans hl)
  cases hl : v.lineOpen with
  | false => exact closed hl
  | true =>
    have htest : v.mapTest = v.syncCause .map (!v.onClaimHold) := by simp [State.mapTest, hl]
    have htk' : v.mapTest.fill.claim = some k := by simpa using htk
    have same : (v.mapTest.done fields).finish.translate = v.translate := by
      have kept := (State.PourKept.refl v).mapTest
      have held := ((State.Holding.refl v).mapTest.resolve_left (by rw [htk']; nofun)).2
      exact State.translate_congr (by simpa using kept.cfg) (by simpa using kept.position) (by simpa using held)
    rw [same, ← hp] at hmap
    have onHold := State.onClaimHold_iff (hc.trans hk)
    rw [htest]
    cases ho : v.onClaimHold with
    | true =>
      refine State.removeCause_of_clear ?_
      have : ¬v.pour.causes.map = true := fun e => hmap.1 e (onHold.1 ho)
      simpa [CauseSet.has] using this
    | false =>
      have off : v.translate ≠ .ok k.slot k.hold := fun e => by rw [onHold.2 e] at ho; cases ho
      exact State.addCause_of_held (hmap.2 off)

/-! ## Berths, descriptors, views and bills -/

theorem State.onBerth_same (x : Slot) (f : Berth → Berth) : (s.onBerth x f).berth x = f (s.berth x) := by cases x <;> rfl

theorem State.onBerth_other (x : Slot) (f : Berth → Berth) : (s.onBerth x f).berth x.other = s.berth x.other := by cases x <;> rfl

theorem State.berth_congr (h : t.berths = s.berths) (x : Slot) : t.berth x = s.berth x := by cases x <;> simp [State.berth, h]

theorem State.view_congr (h : t.fill = s.fill) (x : Slot) : t.view x = s.view x := by cases x <;> simp [State.view, h]

theorem Session.hold_modify {ses : Session} {i h : Nat} (hi : i ≠ 0) (f : Hold → Hold) :
    ({ ses with holds := ses.holds.modify (i - 1) f } : Session).hold h = if h = i then (ses.hold h).map f else ses.hold h := by
  unfold Session.hold
  by_cases h0 : h = 0
  · simp [h0]
  · simp only [h0, if_false, List.getElem?_modify]
    by_cases he : h = i
    · simp [he]
    · simp [he, show ¬i - 1 = h - 1 by omega]

/-- One descriptor written. -/
theorem State.onHold_hold {x : Slot} {i : Nat} (hi : i ≠ 0) (f : Hold → Hold) (h : Nat) :
    (s.onHold x i f).hold x h = if h = i then (s.hold x h).map f else s.hold x h := by
  unfold State.onHold State.hold
  rw [if_neg hi, State.onSession_session]
  cases s.session x with
  | none => simp
  | some ses => exact Session.hold_modify hi f

theorem State.hold_ne_zero {x : Slot} {h : Nat} {d : Hold} (k : s.hold x h = some d) : h ≠ 0 := by
  rintro rfl
  unfold State.hold Session.hold at k
  split at k <;> simp at k

theorem State.onHold_other (x : Slot) (h : Nat) (f : Hold → Hold) : (s.onHold x h f).berth x.other = s.berth x.other := by
  unfold State.onHold
  split
  · rfl
  · exact State.onSession_other x _

theorem State.onlyIn_onHold (s : State) (x : Slot) (h : Nat) (f : Hold → Hold) : s.onlyIn (s.onHold x h f) [.berths] := by
  unfold State.onHold
  split
  · exact .refl s _
  · exact State.onlyIn_onBerths s _

theorem State.onlyIn_onBills (s : State) (f : Bills → Bills) : s.onlyIn (s.onBills f) [.bills] := by
  intro b hb
  cases b <;> simp_all [State.agree]

theorem State.onlyIn_onFill (s : State) (f : Fill → Fill) : s.onlyIn (s.onFill f) [.fill] := by
  intro b hb
  cases b <;> simp_all [State.agree]

theorem State.onlyIn_onLine (s : State) (f : QuayLine → QuayLine) : s.onlyIn (s.onLine f) [.line] := by
  intro b hb
  cases b <;> simp_all [State.agree]

theorem State.onlyIn_finish (s : State) : s.onlyIn s.finish [.line] := by
  intro b hb
  cases b <;> simp_all [State.agree]

/-- A map request that writes one descriptor, MAP standing as it did: the descriptor, the reply, and nothing else. -/
theorem State.descriptor_written {x : Slot} {h : Nat} {d : Hold} (hq : s.quiet) (hd : s.hold x h = some d) (f : Hold → Hold)
    (hst : s.mapStands ((s.onHold x h f).mapTest.done []).finish) :
    s.onlyIn ((s.onHold x h f).mapTest.done []).finish [.port, .berths]
    ∧ ((s.onHold x h f).mapTest.done []).finish.port = { s.port with mailbox := doneReply [] }
    ∧ ((s.onHold x h f).mapTest.done []).finish.hold x h = some (f d)
    ∧ (∀ i, i ≠ h → ((s.onHold x h f).mapTest.done []).finish.hold x i = s.hold x i)
    ∧ ((s.onHold x h f).mapTest.done []).finish.berth x.other = s.berth x.other := by
  rw [State.mapTest_stands (s := s) (v := s.onHold x h f) (by simp) (by simp) hst,
    show ((s.onHold x h f).done []).finish = (s.onHold x h f).done [] from State.finish_onPort (s := s.onHold x h f) (by simpa [State.quiet] using hq) _]
  have hold := fun i => State.onHold_hold (s := s) (x := x) (State.hold_ne_zero hd) f i
  refine ⟨?_, by simp [doneReply], ?_, fun i hi => ?_, State.onHold_other x h f⟩
  · exact ((State.onlyIn_onHold s x h f).mono (by decide)).add (by decide) (State.onlyIn_onPort _ _)
  · exact (hold h).trans (by rw [if_pos rfl, hd]; rfl)
  · exact (hold i).trans (if_neg hi)

theorem firstFailure_passed {a : List Check} (h : firstFailure a = none) (b : List Check) : firstFailure (a ++ b) = firstFailure b := by
  rw [firstFailure_append, h]
  rfl

theorem State.slotChecks_passed {slot : Nat} {x : Slot} {ses : Session} (hx : Slot.ofCode? slot = some x) (hs : s.session x = some ses) :
    firstFailure (s.slotChecks slot) = none := by
  rw [firstFailure_eq_none]
  simp [State.slotChecks, fieldOk, orElse, hx, slotOf_of hx, hs]

/-- A request answered, and the STATUS of its status change. -/
theorem State.onlyIn.answered {l m : List Block} (h : s.onlyIn t l) (hm : ∀ b ∈ l, b ∈ m) (hport : .port ∈ m) (hline : .line ∈ m)
    {o : ReplyOutcome} {pages : List (List Byte)} : s.onlyIn (t.reply o pages).finish m :=
  ((h.mono hm).add hport (State.onlyIn_onPort _ _)).add hline (State.onlyIn_finish _)

theorem State.onlyIn_openSession (f : SessionFields) (n : Nat) : s.onlyIn (s.openSession f n) [.berths, .bills, .fill, .line] := by
  intro b hb
  cases b <;> simp_all [State.agree, State.openSession]

theorem State.onFill_setView (x : Slot) (v : Option (List Row)) : (s.onFill (fun f => f.setView x v)).view x = v
    ∧ (s.onFill (fun f => f.setView x v)).view x.other = s.view x.other := by
  cases x <;> exact ⟨rfl, rfl⟩

theorem Bills.bill_setRecord {bs : Bills} {n : Nat} {r r' : Option Bill} (hn : n ≠ 0) (hr : bs.records[n - 1]? = some r) (m : Nat) :
    (bs.setRecord n r').bill m = if m = n then r' else bs.bill m := by
  unfold Bills.setRecord Bills.bill
  rw [if_neg hn]
  by_cases h0 : m = 0
  · simp [h0, show ¬(0 = n) by omega]
  · simp only [h0, if_false, List.getElem?_set]
    by_cases he : m = n
    · subst he
      have hlt : m - 1 < bs.records.length := (List.getElem?_eq_some_iff.1 hr).1
      simp only [if_true, hlt]
    · rw [if_neg (by omega), if_neg he]

theorem firstFree_least {l : List (Option Bill)} {k n : Nat} (h : firstFree k l = some n) :
    ∀ m, k ≤ m → m < n → ∃ b, l[m - k]? = some (some b) := by
  induction l generalizing k with
  | nil => simp [firstFree] at h
  | cons r rest ih =>
    cases r with
    | none => obtain rfl := Option.some.inj h; intro m h1 h2; omega
    | some b =>
      intro m h1 h2
      by_cases he : m = k
      · exact ⟨b, by simp [he]⟩
      · obtain ⟨c, hc⟩ := ih h m (by omega) h2
        exact ⟨c, by rw [show m - k = (m - (k + 1)) + 1 by omega, List.getElem?_cons_succ]; exact hc⟩

/-- The lowest-numbered FREE record. -/
theorem Bills.firstFree_bill {bs : Bills} {n : Nat} (h : firstFree 1 bs.records = some n) : 1 ≤ n ∧ bs.records[n - 1]? = some none
    ∧ bs.bill n = none ∧ ∀ m, 1 ≤ m → m < n → bs.bill m ≠ none := by
  obtain ⟨h1, hr⟩ := firstFree_spec h
  refine ⟨h1, hr, by simp [Bills.bill, show n ≠ 0 by omega, hr], fun m hm hlt => ?_⟩
  obtain ⟨b, hb⟩ := firstFree_least h m hm hlt
  simp [Bills.bill, show m ≠ 0 by omega, hb]

/-! ## The seal of a bill -/

theorem State.claimOnSlot_iff {x : Slot} : s.claimOnSlot x = true ↔ ∃ c, s.fill.claim = some c ∧ c.slot = x := by
  unfold State.claimOnSlot
  cases s.fill.claim with
  | none => simp
  | some c => simp

theorem State.sealBill_eq {ses : Session} {b : Bill} (h : s.bills.bill ses.bill = some b) :
    s.sealBill ses = s.onBills (fun bs => bs.setRecord ses.bill (some { b with summary := some (s.summary ses b) })) := by
  unfold State.sealBill
  rw [h]

/-- What the slot's going FREE leaves alone, and what it leaves of the berths. -/
theorem State.freeSlot_fields (x : Slot) : (s.freeSlot x).pour = s.pour ∧ (s.freeSlot x).fill = s.fill ∧ (s.freeSlot x).bills = s.bills
    ∧ (s.freeSlot x).berths = (s.onBerth x (fun _ => Berth.free)).berths ∧ s.onlyIn (s.freeSlot x) [.port, .berths] := by
  unfold State.freeSlot
  dsimp only
  split
  · exact ⟨rfl, rfl, rfl, rfl, ((State.onlyIn_onBerths s _).mono (by decide)).add (by decide) (State.onlyIn_onPort _ _)⟩
  · exact ⟨rfl, rfl, rfl, rfl, (State.onlyIn_onBerths s _).mono (by decide)⟩

/-- The blocks after an accepted CLOSE SESSION. -/
theorem State.closeSession_fields {x : Slot} {ses : Session} {b : Bill} (h : s.bills.bill ses.bill = some b) :
    (s.closeSession x ses).pour = s.pour ∧ (s.closeSession x ses).fill = s.fill.setView x none
    ∧ (s.closeSession x ses).bills = s.bills.setRecord ses.bill (some { b with summary := some (s.summary ses b) })
    ∧ (s.closeSession x ses).berths = (s.onBerth x (fun _ => Berth.free)).berths
    ∧ s.onlyIn (s.closeSession x ses) [.port, .berths, .fill, .bills, .line] := by
  obtain ⟨hpour, hfill, hbills, hberths, honly⟩ := State.freeSlot_fields (s := (s.sealBill ses).onFill (fun f => f.setView x none)) x
  rw [State.sealBill_eq h] at hpour hfill hbills hberths honly
  unfold State.closeSession
  rw [State.sealBill_eq h]
  refine ⟨hpour, hfill, hbills, ?_, ?_⟩
  · rw [State.markStatus_berths, hberths]
    cases x <;> rfl
  · exact ((((State.onlyIn_onBills s _).mono (by decide)).add (by decide) (State.onlyIn_onFill _ _)).trans (honly.mono (by decide))).add
      (by decide) (State.onlyIn_onLine _ _)

end Sys2Proof.Machine

open Sys2Proof Sys2Proof.Machine

/-- Settles O17. -/
theorem openSessionOpensSlotBillAndView : Obligations.OpenSessionOpensSlotBillAndView := by
  intro s f x n hq hmode hm hx hok hfree
  have hf : firstFailure (s.openChecks f) = none := (State.openTable_matches f).holds_iff.1 hok
  have hslot : slotOf f.slot = x := slotOf_of hx
  have htakes : s.takes (.openSession f) = (s.openSession f n).mapTest.done (uField 1 n) := by
    refine (State.whenMode_allowed (PartMode.mem_runBypass hmode) _).trans ?_
    unfold State.takeOpenSession
    rw [hf, hfree]
  refine ⟨_, (exec_row hm).trans (congrArg (fun v => Host.Outcome.next (State.finish v)) htakes), fun hst => ?_⟩
  rw [State.mapTest_stands (s := s) (v := s.openSession f n) rfl (Fill.setView_claim s.fill (slotOf f.slot) _).1 hst]
  obtain ⟨h1, hr, hnone, hleast⟩ := Bills.firstFree_bill hfree
  have hbills : ((s.openSession f n).done (uField 1 n)).finish.bills = s.bills.setRecord n (some (s.newBill f)) := by
    simp [State.openSession]
  have hberths : ((s.openSession f n).done (uField 1 n)).finish.berths = (s.onBerth x (fun _ => ⟨false, some (f.session n)⟩)).berths := by
    simp [State.openSession, hslot]
  have hfill : ((s.openSession f n).done (uField 1 n)).finish.fill
      = (s.onFill (fun v => v.setView x (some (List.replicate f.holdCount Row.empty)))).fill := by
    simp [State.openSession, hslot]
  have hbill := Bills.bill_setRecord (r' := some (s.newBill f)) (show n ≠ 0 by omega) hr
  obtain ⟨hview, hviewOther⟩ := State.onFill_setView (s := s) x (some (List.replicate f.holdCount Row.empty))
  refine ⟨?_, by simp [State.openSession, doneReply], ?_, ?_, ⟨h1, hnone, hleast⟩, ?_, fun m hm => ?_, ?_, ?_, ?_, ?_, ?_⟩
  · exact (State.onlyIn_openSession f n).answered (by decide) (by decide) (by decide)
  · rw [State.berth_congr hberths, State.onBerth_same]
  · rw [State.berth_congr hberths, State.onBerth_other]
  · rw [hbills, hbill, if_pos rfl]
    simp [State.newBill, hslot]
  · rw [hbills, hbill, if_neg hm]
  · rw [hbills, Bills.setRecord]; split <;> rfl
  · rw [hbills, Bills.setRecord_spill]
  · rw [State.view_congr hfill, hview]; rfl
  · rw [State.view_congr hfill, hviewOther]
  · rw [hfill]; exact (Fill.setView_claim _ _ _).1

/-- Settles O18: each of the three requests writes one descriptor. -/
theorem descriptorRequestsWriteOneDescriptor : Obligations.DescriptorRequestsWriteOneDescriptor := by
  have passed : ∀ (s : State) (r : Request), (s.mapTable r).holds → firstFailure (s.mapChecks r) = none :=
    fun s r h => (State.mapTable_matches r).holds_iff.1 h
  refine ⟨fun s f x perm d hq hmode hm hx hp hd hok => ?_, fun s slot hold state x d hq hmode hm hx hd hok => ?_,
    fun s slot hold x d hq hmode hm hx hd hok => ?_, fun s slot hold x ses d hq hmode hm hx hs hcount hd hnot => ?_⟩
  · have htakes : s.takes (.holdEntry f) = (s.onHold x f.hold (fun d => d.entered f)).mapTest.done [] := by
      refine (State.whenMode_allowed (PartMode.mem_runBypass hmode) _).trans ?_
      rw [State.judged_passed (passed s _ hok), slotOf_of hx]
    refine ⟨_, (exec_row hm).trans (congrArg (fun v => Host.Outcome.next (State.finish v)) htakes), fun hst => ?_⟩
    simpa [Hold.entered, hp] using State.descriptor_written hq hd (fun d => d.entered f) hst
  · have htakes : s.takes (.setHatch slot hold state) = (s.onHold x hold (fun d => { d with hatchOpen := state == 1 })).mapTest.done [] := by
      refine (State.whenMode_allowed (PartMode.mem_runBypass hmode) _).trans ?_
      rw [State.judged_passed (passed s _ hok), slotOf_of hx]
    refine ⟨_, (exec_row hm).trans (congrArg (fun v => Host.Outcome.next (State.finish v)) htakes), fun hst => ?_⟩
    exact State.descriptor_written hq hd (fun d => { d with hatchOpen := state == 1 }) hst
  · have htakes : s.takes (.permit slot hold) = (s.onHold x hold (fun d => { d with token := true })).mapTest.done [] := by
      refine (State.whenMode_allowed (PartMode.mem_runBypass hmode) _).trans ?_
      rw [State.judged_passed (passed s _ hok), slotOf_of hx]
    refine ⟨_, (exec_row hm).trans (congrArg (fun v => Host.Outcome.next (State.finish v)) htakes), fun hst => ?_⟩
    exact State.descriptor_written hq hd (fun d => { d with token := true }) hst
  · have hpos : 1 ≤ hold := Nat.one_le_iff_ne_zero.2 (State.hold_ne_zero hd)
    have hf : firstFailure (s.mapChecks (.permit slot hold)) = some (.notRestricted, 0) := by
      have hr : s.restricted x hold = false := by simpa [State.restricted, hd] using hnot
      simp [State.mapChecks, State.holdChecks, State.slotChecks, firstFailure, fieldOk, orElse, fieldIn, hx, slotOf_of hx, hs,
        State.holdCount, hpos, hcount, hr]
    have htakes : s.takes (.permit slot hold) = s.refuse (.notRestricted, 0) :=
      (State.whenMode_allowed (PartMode.mem_runBypass hmode) _).trans (State.judged_refused hf _)
    exact (exec_row hm).trans (congrArg Host.Outcome.next ((congrArg State.finish htakes).trans (State.finish_refuse hq _)))

/-- Settles O19. -/
theorem shiftVesselAndDraftLimitChangeOneField : Obligations.ShiftVesselAndDraftLimitChangeOneField := by
  refine ⟨fun s slot bow x ses hq hmode hlo hc hm hx hs hbow => ?_, fun s slot limit x ses hq hmode hm hx hs => ⟨fun hl => ?_, fun hl => ?_⟩⟩
  · have run : exec .shiftVessel s = .next (s.judged (s.mapChecks (.shiftVessel slot bow)) ((s.shiftVessel x bow).done [])).finish :=
      (exec_row hm).trans (congrArg (fun v => Host.Outcome.next (State.finish v))
        ((State.whenMode_allowed (PartMode.mem_runBypass hmode) _).trans (by rw [slotOf_of hx])))
    have hspan : s.shiftedSpan x bow = ({ ses with bowMark := (bow : Int) } : Session).span := by simp [State.shiftedSpan, hs]
    have checks : firstFailure (s.mapChecks (.shiftVessel slot bow))
        = firstFailure [fieldOk 2 (onRail ({ ses with bowMark := (bow : Int) } : Session).span),
            orElse (s.clearOfOther x ({ ses with bowMark := (bow : Int) } : Session).span) .overlap] := by
      refine (firstFailure_passed (State.slotChecks_passed hx hs) _).trans ?_
      rw [slotOf_of hx, hspan]
      exact firstFailure_passed (a := [fieldIn 2 0 1000000 bow]) (firstFailure_eq_none.2 (by simp [fieldIn, hbow])) _
    refine ⟨fun hoff => ?_, fun hlo' hhi => ⟨fun ⟨o, p, ho, hp, hp'⟩ => ?_, fun hclear => ?_⟩⟩
    · have hrail : onRail ({ ses with bowMark := (bow : Int) } : Session).span = false := by
        exact decide_eq_false hoff
      rw [run, State.judged_refused (checks.trans (by rw [hrail]; rfl)), State.finish_refuse hq]
    · have hrail : onRail ({ ses with bowMark := (bow : Int) } : Session).span = true := by
        simp [onRail, Config.railMax, hlo', hhi]
      have hover : s.clearOfOther x ({ ses with bowMark := (bow : Int) } : Session).span = false := by
        simp only [State.clearOfOther, ho, Bool.not_eq_false']
        exact (overlap_span_iff { ses with bowMark := (bow : Int) } o).2 ⟨p, hp', hp⟩
      rw [run, State.judged_refused (checks.trans (by rw [hrail, hover]; rfl)), State.finish_refuse hq]
    · have hrail : onRail ({ ses with bowMark := (bow : Int) } : Session).span = true := by
        simp [onRail, Config.railMax, hlo', hhi]
      have hclear : s.clearOfOther x ({ ses with bowMark := (bow : Int) } : Session).span = true := by
        unfold State.clearOfOther
        split
        · next o ho =>
          rw [Bool.not_eq_true', Bool.eq_false_iff]
          intro hov
          obtain ⟨p, hp, hp'⟩ := (overlap_span_iff { ses with bowMark := (bow : Int) } o).1 hov
          rw [hclear o p ho hp'] at hp
          cases hp
        · rfl
      have hshift : s.shiftVessel x bow = s.onSession x (fun ses => { ses with bowMark := bow }) := by
        have hno : s.claimOnSlot x = false := by simp [State.claimOnSlot, hc]
        unfold State.shiftVessel State.mapTest
        rw [hno]
        exact if_neg (show ¬s.lineOpen = true by rw [hlo]; exact Bool.false_ne_true)
      rw [run, State.judged_passed (checks.trans (by rw [hrail, hclear]; rfl)), hshift]
      refine ⟨_, congrArg Host.Outcome.next (State.finish_onPort (s := s.onSession x _) hq _), ?_, rfl, ?_, ?_⟩
      · exact ((State.onlyIn_onBerths s _).mono (by decide)).add (by decide) (State.onlyIn_onPort _ _)
      · exact (s.onSession_session x _).trans (by rw [hs]; rfl)
      · exact State.onSession_other x _
  · have hf : firstFailure (s.mapChecks (.setDraftLimit slot limit)) = none := by
      rw [firstFailure_eq_none]
      simp [State.mapChecks, State.slotChecks, fieldOk, orElse, fieldIn, hx, slotOf_of hx, hs, hl]
    have htakes : s.takes (.setDraftLimit slot limit) = (s.setDraftLimit x limit).mapTest.done [] := by
      refine (State.whenMode_allowed (PartMode.mem_runBypass hmode) _).trans ?_
      rw [State.judged_passed hf, slotOf_of hx]
    refine ⟨_, (exec_row hm).trans (congrArg (fun v => Host.Outcome.next (State.finish v)) htakes), fun hst => ?_⟩
    rw [State.mapTest_stands (s := s) (v := s.setDraftLimit x limit) rfl rfl hst,
      show ((s.setDraftLimit x limit).done []).finish = (s.setDraftLimit x limit).done [] from
        State.finish_onPort (s := s.setDraftLimit x limit) hq _]
    refine ⟨?_, ?_, ?_, State.onSession_other x _⟩
    · exact (((State.onlyIn_onBerths s _).mono (by decide)).add (by decide) (State.onlyIn_onPort _ _)).add (by decide)
        (State.onlyIn_onPort _ _)
    · simp [State.setDraftLimit, State.draftLimit, hs, doneReply]
    · exact (s.onSession_session x _).trans (by rw [hs]; rfl)
  · have hf : firstFailure (s.mapChecks (.setDraftLimit slot limit)) = some (.badField, 2) := by
      have : decide ((50 : Int) ≤ limit ∧ (limit : Int) ≤ 1400) = false := decide_eq_false (by omega)
      simp only [State.mapChecks, State.slotChecks, fieldOk, orElse, fieldIn, hx, slotOf_of hx, hs]
      simpa [firstFailure] using this
    have htakes : s.takes (.setDraftLimit slot limit) = s.refuse (.badField, 2) :=
      (State.whenMode_allowed (PartMode.mem_runBypass hmode) _).trans (State.judged_refused hf _)
    exact (exec_row hm).trans (congrArg Host.Outcome.next ((congrArg State.finish htakes).trans (State.finish_refuse hq _)))

/-- Settles O20. -/
theorem billsAreSealedAndDiscarded : Obligations.BillsAreSealedAndDiscarded := by
  refine ⟨fun s slot x ses b hq hmode hm hx hs hb => ?_, fun s record hq hmode hm => ?_⟩
  · have run : exec .closeSession s = .next (s.takeCloseSession slot).finish :=
      (exec_row hm).trans (congrArg (fun v => Host.Outcome.next (State.finish v)) (State.whenMode_allowed (PartMode.mem_runBypass hmode) _))
    have checks : firstFailure (s.slotChecks slot ++ [orElse (!s.claimOnSlot (slotOf slot)) .stationBusy])
        = firstFailure [orElse (!s.claimOnSlot x) .stationBusy] := by
      rw [firstFailure_passed (State.slotChecks_passed hx hs), slotOf_of hx]
    refine ⟨fun hclaim => ?_, fun hclaim => ?_⟩
    · have htake : s.takeCloseSession slot = s.refuse (.stationBusy, 0) := by
        unfold State.takeCloseSession
        rw [checks, State.claimOnSlot_iff.2 hclaim]
        rfl
      rw [run, htake, State.finish_refuse hq]
    · have hno : s.claimOnSlot x = false := by
        rw [Bool.eq_false_iff]
        intro hk
        obtain ⟨c, hc, hslot⟩ := State.claimOnSlot_iff.1 hk
        exact hclaim c hc hslot
      have htake : s.takeCloseSession slot = (s.closeSession x ses).mapTest.done (uField 1 ses.bill) := by
        unfold State.takeCloseSession
        rw [checks, hno, slotOf_of hx, hs]
        rfl
      obtain ⟨hpour, hfill, hbills, hberths, honly⟩ := State.closeSession_fields (x := x) hb
      refine ⟨_, run.trans (congrArg (fun v => Host.Outcome.next (State.finish v)) htake), fun hst => ?_⟩
      rw [State.mapTest_stands (s := s) hpour ((congrArg Fill.claim hfill).trans (Fill.setView_claim _ _ _).1) hst]
      obtain ⟨hn, hrecord⟩ := Bills.bill_eq_some hb
      have hbill := Bills.bill_setRecord (r' := some { b with summary := some (s.summary ses b) }) hn hrecord
      have fillEnd : ((s.closeSession x ses).done (uField 1 ses.bill)).finish.fill = (s.onFill (fun f => f.setView x none)).fill := by
        simpa using hfill
      have berthsEnd : ((s.closeSession x ses).done (uField 1 ses.bill)).finish.berths = (s.onBerth x (fun _ => Berth.free)).berths := by
        simpa using hberths
      have billsEnd : ((s.closeSession x ses).done (uField 1 ses.bill)).finish.bills
          = s.bills.setRecord ses.bill (some { b with summary := some (s.summary ses b) }) := by simpa using hbills
      obtain ⟨hview, hviewOther⟩ := State.onFill_setView (s := s) x none
      refine ⟨honly.answered (by decide) (by decide) (by decide), by simp [doneReply], ?_, ?_, ?_, ?_, ?_, fun m hm => ?_, ?_, ?_,
        s.summary ses b, ?_, by simp [State.summary], fun h h1 h2 => ?_, rfl, rfl, rfl, rfl, rfl⟩
      · rw [State.berth_congr berthsEnd, State.onBerth_same]; rfl
      · rw [State.berth_congr berthsEnd, State.onBerth_other]
      · rw [State.view_congr fillEnd, hview]
      · rw [State.view_congr fillEnd, hviewOther]
      · rw [fillEnd]; exact (Fill.setView_claim _ _ _).1
      · rw [billsEnd, hbill, if_neg hm]
      · rw [billsEnd, Bills.setRecord_spill]
      · rw [billsEnd, Bills.setRecord]; split <;> rfl
      · rw [billsEnd, hbill, if_pos rfl]
      · have : h - 1 < ses.holdCount := by omega
        simp [State.summary, this, Bill.delivered, show h - 1 + 1 = h by omega]
  · have run : exec .discardBill s = .next (s.takeDiscardBill record).finish :=
      (exec_row hm).trans (congrArg (fun v => Host.Outcome.next (State.finish v)) (State.whenMode_allowed (PartMode.mem_runBypass hmode) _))
    refine ⟨fun hout => ?_, fun h1 h4 hopen => ?_, fun b h1 h4 hb hsealed => ?_⟩
    · have hf : firstFailure [fieldIn 1 1 4 record] = some (.badField, 1) := by
        have : decide ((1 : Int) ≤ record ∧ (record : Int) ≤ 4) = false := decide_eq_false (by omega)
        simp only [firstFailure, fieldIn, this]
        rfl
      have htake : s.takeDiscardBill record = s.refuse (.badField, 1) := by
        unfold State.takeDiscardBill
        rw [hf]
      rw [run, htake, State.finish_refuse hq]
    · have hf : firstFailure [fieldIn 1 1 4 record] = none := firstFailure_eq_none.2 (by simp [fieldIn, h1, h4])
      have hnone : s.bills.sealed? record = none := by
        unfold Bills.sealed?
        split
        · next b hb => simp [hopen b hb]
        · rfl
      have htake : s.takeDiscardBill record = s.refuse (.notSealed, 0) := by
        unfold State.takeDiscardBill
        rw [hf, hnone]
      rw [run, htake, State.finish_refuse hq]
    · have hf : firstFailure [fieldIn 1 1 4 record] = none := firstFailure_eq_none.2 (by simp [fieldIn, h1, h4])
      have hsome : s.bills.sealed? record = some b := by simp [Bills.sealed?, hb, hsealed]
      have htake : s.takeDiscardBill record = (s.onBills (fun bs => bs.discard record b)).done (uField 1 b.lines.length) := by
        unfold State.takeDiscardBill
        rw [hf, hsome]
      obtain ⟨hn, hrecord⟩ := Bills.bill_eq_some hb
      have hbill := Bills.bill_setRecord (r' := none) hn hrecord
      refine ⟨_, run.trans (congrArg Host.Outcome.next ((congrArg State.finish htake).trans
        (State.finish_onPort (s := s.onBills _) hq _))), ?_, rfl, ?_, fun m hm => ?_, rfl, ?_⟩
      · exact ((State.onlyIn_onBills s _).mono (by decide)).add (by decide) (State.onlyIn_onPort _ _)
      · exact (hbill record).trans (if_pos rfl)
      · exact (hbill m).trans (if_neg hm)
      · exact Bills.setRecord_spill _ _ _

end

section
/-! The rules of the Pour Sequencer: what each of its operations makes of the pour, written out as one state. -/

namespace Sys2Proof.Machine

variable {s t u : State}

/-! ## A state that differs in the pour, its notices, the bills and the mark of a status change -/

/-- The state with this pour and these bills, these notices raised, and the status change marked or not. -/
def State.poured (s : State) (p : Pour) (bodies : List NoticeBody) (b : Bills) (due : Bool) : State :=
  { s with pour := p, port := s.port.raiseAll s.count bodies, bills := b, line := { s.line with statusDue := due } }

section Poured

variable (s : State) (p : Pour) (bodies : List NoticeBody) (b : Bills) (due : Bool)

theorem State.poured_self : s.poured s.pour [] s.bills s.line.statusDue = s := rfl

@[simp] theorem State.upTo_cfg (d : Nat) : (s.upTo d).cfg = s.cfg := rfl
@[simp] theorem State.upTo_inputs (d : Nat) : (s.upTo d).inputs = s.inputs := rfl
@[simp] theorem State.upTo_port (d : Nat) : (s.upTo d).port = s.port := rfl
@[simp] theorem State.upTo_berths (d : Nat) : (s.upTo d).berths = s.berths := rfl
@[simp] theorem State.upTo_scale (d : Nat) : (s.upTo d).scale = s.scale := rfl
@[simp] theorem State.upTo_belt (d : Nat) : (s.upTo d).belt = s.belt := rfl
@[simp] theorem State.upTo_line (d : Nat) : (s.upTo d).line = s.line := rfl
@[simp] theorem State.upTo_peers (d : Nat) : (s.upTo d).peers = s.peers := rfl
@[simp] theorem State.upTo_travel (d : Nat) : (s.upTo d).travel = s.travel := rfl
@[simp] theorem State.upTo_fill (d : Nat) : (s.upTo d).fill = s.fill := rfl
@[simp] theorem State.upTo_pour (d : Nat) : (s.upTo d).pour = s.pour := rfl
@[simp] theorem State.upTo_dust (d : Nat) : (s.upTo d).dust = s.dust := rfl
@[simp] theorem State.upTo_bills (d : Nat) : (s.upTo d).bills = s.bills := rfl
@[simp] theorem State.upTo_pending (d : Nat) : (s.upTo d).pending = s.pending := rfl
@[simp] theorem State.upTo_lineOpen (d : Nat) : (s.upTo d).lineOpen = s.lineOpen := rfl
@[simp] theorem State.upTo_onClaimHold (d : Nat) : (s.upTo d).onClaimHold = s.onClaimHold := rfl

@[simp] theorem State.poured_count : (s.poured p bodies b due).count = s.count := rfl
@[simp] theorem State.poured_cfg : (s.poured p bodies b due).cfg = s.cfg := rfl
@[simp] theorem State.poured_inputs : (s.poured p bodies b due).inputs = s.inputs := rfl
@[simp] theorem State.poured_port : (s.poured p bodies b due).port = s.port.raiseAll s.count bodies := rfl
@[simp] theorem State.poured_berths : (s.poured p bodies b due).berths = s.berths := rfl
@[simp] theorem State.poured_scale : (s.poured p bodies b due).scale = s.scale := rfl
@[simp] theorem State.poured_belt : (s.poured p bodies b due).belt = s.belt := rfl
@[simp] theorem State.poured_line : (s.poured p bodies b due).line = { s.line with statusDue := due } := rfl
@[simp] theorem State.poured_peers : (s.poured p bodies b due).peers = s.peers := rfl
@[simp] theorem State.poured_travel : (s.poured p bodies b due).travel = s.travel := rfl
@[simp] theorem State.poured_fill : (s.poured p bodies b due).fill = s.fill := rfl
@[simp] theorem State.poured_pour : (s.poured p bodies b due).pour = p := rfl
@[simp] theorem State.poured_dust : (s.poured p bodies b due).dust = s.dust := rfl
@[simp] theorem State.poured_bills : (s.poured p bodies b due).bills = b := rfl
@[simp] theorem State.poured_pending : (s.poured p bodies b due).pending = s.pending := rfl

@[simp] theorem State.poured_lineOpen : (s.poured p bodies b due).lineOpen = p.state.lineOpen := rfl
@[simp] theorem State.poured_block : (s.poured p bodies b due).block = s.block := rfl
@[simp] theorem State.poured_timer (ms : Nat) : (s.poured p bodies b due).timer ms = s.timer ms := rfl
@[simp] theorem State.poured_gateTimer : (s.poured p bodies b due).gateTimer = s.gateTimer := rfl
@[simp] theorem State.poured_translate : (s.poured p bodies b due).translate = s.translate := State.translate_congr rfl rfl rfl
@[simp] theorem State.poured_onClaimHold : (s.poured p bodies b due).onClaimHold = s.onClaimHold := rfl
@[simp] theorem State.poured_throttle : (s.poured p bodies b due).throttle = s.throttle := rfl
@[simp] theorem State.poured_openRate : (s.poured p bodies b due).openRate = s.openRate := rfl
@[simp] theorem State.poured_dustOwn : (s.poured p bodies b due).dustOwn = s.dustOwn := rfl
@[simp] theorem State.poured_peerReports (c : DustClass) : (s.poured p bodies b due).peerReports c = s.peerReports c := rfl
@[simp] theorem State.poured_holdTotal (x : Slot) (h : Nat) : (s.poured p bodies b due).holdTotal x h = s.holdTotal x h := rfl

@[simp] theorem State.poured_onPour (f : Pour → Pour) : (s.poured p bodies b due).onPour f = s.poured (f p) bodies b due := rfl
@[simp] theorem State.poured_onBills (f : Bills → Bills) : (s.poured p bodies b due).onBills f = s.poured p bodies (f b) due := rfl
@[simp] theorem State.poured_markStatus : (s.poured p bodies b due).markStatus = s.poured p bodies b true := rfl

@[simp] theorem State.poured_notify (n : NoticeBody) : (s.poured p bodies b due).notify n = s.poured p (bodies ++ [n]) b due := by
  show ({ s with pour := p, port := (s.port.raiseAll s.count bodies).raise s.count n, bills := b, line := _ } : State) = _
  unfold State.poured LocalPort.raiseAll
  rw [List.foldl_append]
  rfl

end Poured

/-- The blocks that such a state can differ in. -/
theorem State.onlyIn_poured (s : State) (p : Pour) (bodies : List NoticeBody) (b : Bills) (due : Bool) :
    s.onlyIn (s.poured p bodies b due) [.port, .line, .pour, .bills] := by
  intro k hk
  cases k <;> simp_all [State.agree]

theorem State.onlyIn_poured_pour (s : State) (p : Pour) (bodies : List NoticeBody) (due : Bool) :
    s.onlyIn (s.poured p bodies s.bills due) [.port, .line, .pour] := by
  intro k hk
  cases k <;> simp_all [State.agree]

theorem State.onlyIn.drop {l m : List Block} (h : s.onlyIn t l) (hm : ∀ b ∈ l, b ∈ m ∨ s.agree t b) : s.onlyIn t m := fun b hb => by
  by_cases hl : b ∈ l
  · exact (hm b hl).resolve_left hb
  · exact h b hl

/-! ## The parts of the pour's record -/

theorem State.setPour_of_ne {x : PourState} (h : s.pour.state ≠ x) :
    s.setPour x = (s.onPour (fun p => { p with state := x })).markStatus := if_neg h

theorem State.setPour_of_eq {x : PourState} (h : s.pour.state = x) : s.setPour x = s := by
  have : s.onPour (fun p => { p with state := x }) = s := by
    subst h
    rfl
  unfold State.setPour
  rw [if_pos h, this]

theorem State.setCauses_lineOpen {c : CauseSet} {k : OwnClaim} (hc : s.pour.causes ≠ c) (hk : s.fill.claim = some k)
    (ho : s.lineOpen = true) : s.setCauses c = (s.onPour (fun p => { p with
      causes := c, passSuspended := p.passSuspended || !c.isEmpty })).notify (.pourSuspended k.slot k.hold c) := by
  unfold State.setCauses
  rw [if_neg hc]
  dsimp only
  rw [hk]
  exact if_pos ho

theorem State.setCauses_same {c : CauseSet} (hc : s.pour.causes = c) : s.setCauses c = s := if_pos hc

/-- The gate commanded CLOSED. -/
def Pour.shut (p : Pour) (timer : Timer) : Pour :=
  { p with
    gateCommand := .closed
    gate := match p.gate with
      | .opening | .opened | .closing => .closing
      | .closed => .closed
      | .fault => .fault
    gateTimer := match p.gate with
      | .opening | .opened => timer
      | .closing | .closed | .fault => p.gateTimer }

theorem State.setGate_closed : s.setGate .closed = s.onPour (fun p => p.shut s.gateTimer) := by
  unfold State.setGate State.onPour Pour.shut
  cases hg : s.pour.gate <;> simp [hg, GateCommand.isOpen]

/-- The belt commanded ON or OFF. -/
def Pour.belted (p : Pour) (running : Bool) (timer : Timer) (on : Bool) : Pour :=
  if on then
    if p.beltOn then p
    else if running then { p with beltOn := true, watch := .running }
    else { p with beltOn := true, watch := .waiting, beltStartTimer := timer }
  else { p with beltOn := false, watch := .off, beltStartTimer := none }

theorem State.setBelt_eq (on : Bool) :
    s.setBelt on = s.onPour (fun p => p.belted s.inputs.beltRunning (s.timer Config.beltStartMs) on) := rfl

theorem Pour.belted_keeps {p : Pour} (h : p.beltOn = true) (running : Bool) (timer : Timer) : p.belted running timer true = p := by
  simp [Pour.belted, h]

theorem Pour.belted_off (p : Pour) (running : Bool) (timer : Timer) :
    p.belted running timer false = { p with beltOn := false, watch := .off, beltStartTimer := none } := rfl

/-- A belt OFF and stopped stays so. -/
theorem Pour.belted_off_of {p : Pour} (hb : p.beltOn = false) (hw : p.watch = .off) (ht : p.beltStartTimer = none) (running : Bool)
    (timer : Timer) : p.belted running timer false = p := by
  rw [Pour.belted_off, ← hb, ← hw, ← ht]

/-- A belt command touches the belt's own fields alone. -/
theorem Pour.belted_form (p : Pour) (running : Bool) (timer : Timer) (on : Bool) :
    ∃ w k, p.belted running timer on = { p with beltOn := on, watch := w, beltStartTimer := k } := by
  unfold Pour.belted
  cases on with
  | false => exact ⟨_, _, rfl⟩
  | true =>
    by_cases hb : p.beltOn = true
    · refine ⟨p.watch, p.beltStartTimer, ?_⟩
      simp only [hb, if_true]
      rw [← hb]
    · simp only [hb, if_true, if_false, Bool.false_eq_true]
      split
      · exact ⟨_, _, rfl⟩
      · exact ⟨_, _, rfl⟩

/-! ## SUSPENDED -/

/-- The record of a pour that SUSPENDED is entered with, its causes held. -/
def Pour.suspended (p : Pour) (s : State) : Pour :=
  ({ (p.shut s.gateTimer) with phase := none, passSuspended := true, state := .suspended } : Pour).belted s.inputs.beltRunning
    (s.timer Config.beltStartMs) (!p.causes.stopsBelt)

theorem Pour.suspended_form (p : Pour) (s : State) : ∃ w k, p.suspended s = { (p.shut s.gateTimer) with
    phase := none, passSuspended := true, state := .suspended, beltOn := !p.causes.stopsBelt, watch := w, beltStartTimer := k } :=
  Pour.belted_form _ _ _ _

@[simp] theorem Pour.suspended_state (p : Pour) (s : State) : (p.suspended s).state = .suspended := by
  obtain ⟨w, k, h⟩ := p.suspended_form s
  rw [h]

@[simp] theorem Pour.suspended_phase (p : Pour) (s : State) : (p.suspended s).phase = none := by
  obtain ⟨w, k, h⟩ := p.suspended_form s
  rw [h]

@[simp] theorem Pour.suspended_causes (p : Pour) (s : State) : (p.suspended s).causes = p.causes := by
  obtain ⟨w, k, h⟩ := p.suspended_form s
  rw [h]
  rfl

@[simp] theorem Pour.suspended_gateCommand (p : Pour) (s : State) : (p.suspended s).gateCommand = .closed := by
  obtain ⟨w, k, h⟩ := p.suspended_form s
  rw [h]
  rfl

@[simp] theorem Pour.suspended_gate (p : Pour) (s : State) : (p.suspended s).gate = (p.shut s.gateTimer).gate := by
  obtain ⟨w, k, h⟩ := p.suspended_form s
  rw [h]

@[simp] theorem Pour.suspended_beltOn (p : Pour) (s : State) : (p.suspended s).beltOn = (!p.causes.stopsBelt) := by
  obtain ⟨w, k, h⟩ := p.suspended_form s
  rw [h]

@[simp] theorem Pour.suspended_gateTimer (p : Pour) (s : State) : (p.suspended s).gateTimer = (p.shut s.gateTimer).gateTimer := by
  obtain ⟨w, k, h⟩ := p.suspended_form s
  rw [h]

@[simp] theorem Pour.suspended_failures (p : Pour) (s : State) : (p.suspended s).failures = p.failures := by
  obtain ⟨w, k, h⟩ := p.suspended_form s
  rw [h]
  rfl

@[simp] theorem Pour.suspended_beltRetryTimer (p : Pour) (s : State) : (p.suspended s).beltRetryTimer = p.beltRetryTimer := by
  obtain ⟨w, k, h⟩ := p.suspended_form s
  rw [h]
  rfl

@[simp] theorem Pour.suspended_allowance (p : Pour) (s : State) : (p.suspended s).allowance = p.allowance := by
  obtain ⟨w, k, h⟩ := p.suspended_form s
  rw [h]
  rfl

theorem State.enterSuspended_eq (h : s.pour.state ≠ .suspended) : s.enterSuspended
    = s.poured (s.pour.suspended s) [] s.bills.countSuspension true := by
  have shut : s.setGate .closed = s.poured (s.pour.shut s.gateTimer) [] s.bills s.line.statusDue := State.setGate_closed
  unfold State.enterSuspended State.beltByCauses
  rw [shut, State.poured_onPour, State.setPour_of_ne (by exact h), State.poured_onPour, State.poured_markStatus, State.setBelt_eq,
    State.poured_onPour, State.poured_onBills]
  rfl

theorem SuspendCause.put_ne (c : SuspendCause) {q : CauseSet} (h : q.has c = false) : q ≠ q.put true c := by
  intro e
  rw [e] at h
  cases c <;> simp [CauseSet.has, CauseSet.put] at h

theorem SuspendCause.put_nonempty (c : SuspendCause) (q : CauseSet) : (q.put true c).isEmpty = false := by
  cases c <;> simp [CauseSet.put, CauseSet.isEmpty, CauseSet.empty]

/-- The pour is one in which a cause suspends. -/
def PourState.flowing : PourState → Bool
  | .starting | .pouring | .throttled => true
  | _ => false

theorem State.reactAdd_flowing (h : s.pour.state.flowing = true) : s.reactAdd = s.enterSuspended := by
  unfold State.reactAdd
  cases hs : s.pour.state <;> simp_all [PourState.flowing]

theorem PourState.lineOpen_of_flowing {x : PourState} (h : x.flowing = true) : x.lineOpen = true := by
  cases x <;> simp_all [PourState.flowing, PourState.lineOpen]

theorem PourState.ne_suspended_of_flowing {x : PourState} (h : x.flowing = true) : x ≠ .suspended := by
  cases x <;> simp_all [PourState.flowing]

/-- The record of the pour with one more cause. -/
def Pour.withCause (p : Pour) (c : SuspendCause) : Pour := { p with causes := p.causes.put true c, passSuspended := true }

/-- The cause set with one more cause, and its notice. -/
theorem State.setCauses_put {c : SuspendCause} {k : OwnClaim} (hc : s.pour.causes.has c = false) (hk : s.fill.claim = some k)
    (ho : s.lineOpen = true) : s.setCauses (s.pour.causes.put true c)
      = s.poured (s.pour.withCause c) [.pourSuspended k.slot k.hold (s.pour.causes.put true c)] s.bills s.line.statusDue := by
  rw [State.setCauses_lineOpen (c.put_ne hc) hk ho, c.put_nonempty]
  simp only [Bool.not_false, Bool.or_true]
  rfl

/-- A cause, of which MAP places no order yet. -/
theorem State.addCause_of_clear {c : SuspendCause} (hc : s.pour.causes.has c = false) (ho : s.lineOpen = true) : s.addCause c
    = if c = .map then (s.setCauses (s.pour.causes.put true c)).reactAdd.placeReturn
      else (s.setCauses (s.pour.causes.put true c)).reactAdd := by
  unfold State.addCause
  rw [ho, hc]
  rfl

/-- A cause that comes to a flowing pour suspends it (R133, R135). -/
theorem State.causes_suspend {c : SuspendCause} {k : OwnClaim} (hs : s.pour.state.flowing = true) (hc : s.pour.causes.has c = false)
    (hk : s.fill.claim = some k) : (s.setCauses (s.pour.causes.put true c)).reactAdd
      = s.poured ((s.pour.withCause c).suspended s) [.pourSuspended k.slot k.hold (s.pour.causes.put true c)]
        s.bills.countSuspension true := by
  rw [State.setCauses_put hc hk (PourState.lineOpen_of_flowing hs), State.reactAdd_flowing (by exact hs),
    State.enterSuspended_eq (by exact PourState.ne_suspended_of_flowing hs)]
  rfl

/-- A cause that comes to a pour SUSPENDED or in RUNOUT is held besides, and the belt follows the causes (R133). -/
theorem State.causes_join {c : SuspendCause} {k : OwnClaim} (hs : s.pour.state = .suspended ∨ s.pour.state = .runout)
    (hc : s.pour.causes.has c = false) (hk : s.fill.claim = some k) : (s.setCauses (s.pour.causes.put true c)).reactAdd
      = s.poured ((s.pour.withCause c).belted s.inputs.beltRunning (s.timer Config.beltStartMs) (!(s.pour.causes.put true c).stopsBelt))
        [.pourSuspended k.slot k.hold (s.pour.causes.put true c)] s.bills s.line.statusDue := by
  have ho : s.lineOpen = true := by
    rcases hs with hs | hs
    · exact State.lineOpen_of hs rfl
    · exact State.lineOpen_of hs rfl
  rw [State.setCauses_put hc hk ho]
  unfold State.reactAdd
  rcases hs with hs | hs
  · simp only [State.poured_pour, Pour.withCause, hs]; rfl
  · simp only [State.poured_pour, Pour.withCause, hs]; rfl

/-- A cause that is not MAP comes to a flowing pour. -/
theorem State.addCause_suspends {c : SuspendCause} {k : OwnClaim} (hne : c ≠ .map) (hs : s.pour.state.flowing = true)
    (hc : s.pour.causes.has c = false) (hk : s.fill.claim = some k) : s.addCause c
      = s.poured ((s.pour.withCause c).suspended s) [.pourSuspended k.slot k.hold (s.pour.causes.put true c)]
        s.bills.countSuspension true := by
  rw [State.addCause_of_clear hc (PourState.lineOpen_of_flowing hs), if_neg hne, State.causes_suspend hs hc hk]

theorem CauseSet.empty_has (c : SuspendCause) : CauseSet.empty.has c = false := by cases c <;> rfl

/-- A belt-stop cause (R133). -/
theorem Pour.suspended_stoppedBy {c : SuspendCause} (hc : s.pour.causes = CauseSet.empty) (hg : s.pour.gate = .opened)
    (hstop : (CauseSet.empty.put true c).stopsBelt = true) : (s.pour.withCause c).suspended s = s.stoppedBy c := by
  unfold Pour.suspended Pour.withCause Pour.shut State.stoppedBy
  simp only [hc, hstop, hg, Bool.not_true, Pour.belted_off]
  rfl

/-- A cause that is no belt-stop cause. -/
theorem Pour.suspended_heldBy {c : SuspendCause} (hc : s.pour.causes = CauseSet.empty) (hg : s.pour.gate = .opened)
    (hstop : (CauseSet.empty.put true c).stopsBelt = false) (hb : s.pour.beltOn = true) :
    (s.pour.withCause c).suspended s = s.heldBy c := by
  unfold Pour.suspended Pour.withCause Pour.shut State.heldBy
  simp only [hc, hstop, hg, Bool.not_false]
  exact Pour.belted_keeps (p := { s.pour with
    state := .suspended, phase := none, causes := CauseSet.empty.put true c, passSuspended := true, gateCommand := .closed
    gate := .closing, gateTimer := s.gateTimer }) hb _ _

/-- A counted failure, not the third (R134). -/
theorem State.failCause_suspends {c : SuspendCause} {k : OwnClaim} (hs : s.pour.state.flowing = true) (hc : s.pour.causes.has c = false)
    (hk : s.fill.claim = some k) (hf : s.pour.failures < 2) : s.failCause c
      = s.poured (({ (s.pour.withCause c) with
          failures := s.pour.failures + 1
          beltRetryTimer := if c = .belt then s.timer 10000 else s.pour.beltRetryTimer } : Pour).suspended s)
        [.pourSuspended k.slot k.hold (s.pour.causes.put true c)] s.bills.countSuspension true := by
  have ho := PourState.lineOpen_of_flowing hs
  have hmin : min (s.pour.failures + 1) Config.maxFailures = s.pour.failures + 1 := by unfold Config.maxFailures; omega
  have hless : ¬Config.maxFailures ≤ s.pour.failures + 1 := by unfold Config.maxFailures; omega
  have counted : (s.setCauses (s.pour.causes.put true c)).onPour (fun p => { p with
        failures := min (p.failures + 1) Config.maxFailures
        beltRetryTimer := if c = .belt then s.timer Config.beltRetryMs else p.beltRetryTimer })
      = s.poured { (s.pour.withCause c) with
          failures := s.pour.failures + 1
          beltRetryTimer := if c = .belt then s.timer 10000 else s.pour.beltRetryTimer }
        [.pourSuspended k.slot k.hold (s.pour.causes.put true c)] s.bills s.line.statusDue := by
    rw [State.setCauses_put hc hk ho, State.poured_onPour]
    dsimp only [Pour.withCause]
    rw [hmin]
    rfl
  unfold State.failCause
  rw [if_pos (show s.lineOpen = true from ho)]
  dsimp only
  rw [counted, State.poured_pour, if_neg hless, State.reactAdd_flowing (by exact hs),
    State.enterSuspended_eq (by exact PourState.ne_suspended_of_flowing hs)]
  rfl

/-! ## The causes that go -/

theorem CauseSet.put_put_empty (c : SuspendCause) : (CauseSet.empty.put true c).put false c = CauseSet.empty := by cases c <;> rfl

theorem CauseSet.put_has (c : SuspendCause) (q : CauseSet) : (q.put true c).has c = true := by cases c <;> rfl

theorem State.targetReached_congr (hc : t.fill.claim = s.fill.claim) (ha : t.pour.allowance = s.pour.allowance)
    (hh : ∀ x h, t.holdTotal x h = s.holdTotal x h) : t.targetReached = s.targetReached := by
  simp only [State.targetReached, hc, ha, hh]

theorem State.targetReached_iff {k : OwnClaim} (hk : s.fill.claim = some k) : s.targetReached = true
    ↔ ((k.target : Int) - (s.pour.allowance.getD 0 : Nat)) * 1000 ≤ (s.holdTotal k.slot k.hold : Int) := by
  simp [State.targetReached, hk]

theorem State.reEnterStarting_onHold (h : s.onClaimHold = true) (hs : s.pour.state ≠ .starting) : s.reEnterStarting
    = (s.poured { s.pour with phase := some .beltWait, state := .starting } [] s.bills true).beltWait := by
  have entered : (s.onPour (fun p => { p with phase := some .beltWait })).setPour .starting
      = s.poured { s.pour with phase := some .beltWait, state := .starting } [] s.bills true := by
    rw [State.setPour_of_ne (by exact hs)]
    rfl
  unfold State.reEnterStarting
  rw [entered]
  exact if_pos h

/-- The last cause gone from a suspended pour with the tip over its hold (R135): BELT_WAIT again. -/
theorem State.removeCause_last {c : SuspendCause} {k : OwnClaim} (hs : s.pour.state = .suspended)
    (hc : s.pour.causes = CauseSet.empty.put true c) (hk : s.fill.claim = some k) (ht : s.translate = .ok k.slot k.hold) :
    s.removeCause c = (s.poured { s.pour with
        state := .starting, phase := some .beltWait, causes := CauseSet.empty
        beltRetryTimer := if c = .belt then none else s.pour.beltRetryTimer }
      [.pourSuspended k.slot k.hold CauseSet.empty] s.bills true).beltWait := by
  have ho : s.lineOpen = true := State.lineOpen_of hs rfl
  have hne : s.pour.causes ≠ CauseSet.empty := by
    intro e
    have h1 := CauseSet.put_has c CauseSet.empty
    rw [← hc, e, CauseSet.empty_has] at h1
    cases h1
  have hhas : s.pour.causes.has c = true := by rw [hc]; exact CauseSet.put_has c _
  have hput : s.pour.causes.put false c = CauseSet.empty := by rw [hc]; exact CauseSet.put_put_empty c
  have removed : (s.setCauses CauseSet.empty).onPour (fun p => { p with
        beltRetryTimer := if c = .belt then none else p.beltRetryTimer })
      = s.poured { s.pour with causes := CauseSet.empty, beltRetryTimer := if c = .belt then none else s.pour.beltRetryTimer }
        [.pourSuspended k.slot k.hold CauseSet.empty] s.bills s.line.statusDue := by
    rw [State.setCauses_lineOpen hne hk ho]
    simp only [show CauseSet.empty.isEmpty = true from rfl, Bool.not_true, Bool.or_false]
    rfl
  have onHold : s.onClaimHold = true := (State.onClaimHold_iff hk).2 ht
  unfold State.removeCause
  rw [ho, hhas, hput]
  simp only [Bool.and_self, if_true]
  rw [removed]
  simp only [State.poured_pour, hs]
  rw [if_pos (show CauseSet.empty.isEmpty = true from rfl)]
  exact State.reEnterStarting_onHold (by simpa using onHold) (by simp [hs])

/-- BELT_WAIT with the belt at rest: it is commanded ON, and its start timer runs (R131). -/
theorem State.beltWait_starts (hb : s.pour.beltOn = false) (hr : s.inputs.beltRunning = false) : s.beltWait
    = s.poured { s.pour with phase := some .beltWait, beltOn := true, watch := .waiting, beltStartTimer := some (s.count + 10000) }
      [] s.bills s.line.statusDue := by
  unfold State.beltWait
  have belted : (s.onPour (fun p => { p with phase := some .beltWait })).setBelt true
      = s.poured { s.pour with phase := some .beltWait, beltOn := true, watch := .waiting, beltStartTimer := some (s.count + 10000) }
        [] s.bills s.line.statusDue := by
    rw [State.setBelt_eq]
    unfold Pour.belted
    simp only [State.onPour, hb, hr, if_true, Bool.false_eq_true, if_false]
    rfl
  dsimp only
  rw [belted, State.poured_pour, if_neg (by nofun)]

/-- BELT_WAIT with the belt running leads to GATE_WAIT at once (R130). -/
theorem State.beltWait_runs (hb : s.pour.beltOn = true) (hw : s.pour.watch = .running) :
    s.beltWait = (s.onPour (fun p => { p with phase := some .beltWait })).gateWait := by
  have belted : (s.onPour (fun p => { p with phase := some .beltWait })).setBelt true = s.onPour (fun p => { p with phase := some .beltWait }) := by
    rw [State.setBelt_eq]
    unfold Pour.belted
    simp only [State.onPour, hb, if_true]
  unfold State.beltWait
  dsimp only
  rw [belted]
  exact if_pos hw

/-- The gate commanded open from CLOSED or CLOSING (R129). -/
theorem State.setGate_opens {c : GateCommand} (hc : c.isOpen = true) (hg : s.pour.gate = .closed ∨ s.pour.gate = .closing) :
    s.setGate c = s.onPour (fun p => { p with gateCommand := c, gate := .opening, gateTimer := s.gateTimer }) := by
  unfold State.setGate State.onPour
  rcases hg with hg | hg <;> simp [hg, hc]

/-- The rate commanded while the gate is open or opening (R129). -/
theorem State.setGate_rate {c : GateCommand} (hc : c.isOpen = true) (hg : s.pour.gate = .opened ∨ s.pour.gate = .opening) :
    s.setGate c = s.onPour (fun p => { p with gateCommand := c }) := by
  unfold State.setGate State.onPour
  rcases hg with hg | hg <;> simp [hg, hc]

theorem State.openRate_isOpen : s.openRate.isOpen = true := by
  unfold State.openRate
  split <;> rfl

/-- GATE_WAIT with grain still to pour and the gate shut: it is commanded open (R130). -/
theorem State.gateWait_opens (hr : s.targetReached = false) (hg : s.pour.gate = .closed ∨ s.pour.gate = .closing) : s.gateWait
    = s.poured { s.pour with
        phase := some .gateWait, gateCommand := s.openRate, gate := .opening, gateTimer := s.gateTimer } [] s.bills s.line.statusDue := by
  have hfault : s.pour.gate ≠ .fault := by rcases hg with hg | hg <;> rw [hg] <;> nofun
  unfold State.gateWait
  rw [hr, if_neg Bool.false_ne_true, if_neg hfault, State.setGate_opens State.openRate_isOpen (by exact hg)]
  rfl

/-- The last cause gone, the belt at rest: its start is awaited. -/
theorem State.removeCause_resumes {c : SuspendCause} {k : OwnClaim} (hs : s.pour.state = .suspended)
    (hc : s.pour.causes = CauseSet.empty.put true c) (hk : s.fill.claim = some k) (ht : s.translate = .ok k.slot k.hold)
    (hb : s.pour.beltOn = false) (hr : s.inputs.beltRunning = false) : s.removeCause c
      = s.poured { s.resumed with beltRetryTimer := if c = .belt then none else s.pour.beltRetryTimer }
        [.pourSuspended k.slot k.hold CauseSet.empty] s.bills true := by
  rw [State.removeCause_last hs hc hk ht, State.beltWait_starts (by exact hb) (by exact hr)]
  rfl

/-- The pour record after the last cause has gone from a suspended pour with its belt running: GATE_WAIT, the gate commanded open. -/
def State.reopened (s : State) : Pour :=
  { s.pour with
    state := .starting, phase := some .gateWait, causes := CauseSet.empty, gate := .opening
    gateTimer := some (s.count + s.block.gateLimit * 1000)
    gateCommand := if s.throttle then .openReduced else .openFull }

/-- The last cause gone, the belt running and grain still to pour: the gate is commanded open again. -/
theorem State.removeCause_reopens {c : SuspendCause} {k : OwnClaim} (hne : c ≠ .belt) (hs : s.pour.state = .suspended)
    (hc : s.pour.causes = CauseSet.empty.put true c) (hk : s.fill.claim = some k) (ht : s.translate = .ok k.slot k.hold)
    (hb : s.pour.beltOn = true) (hw : s.pour.watch = .running) (hg : s.pour.gate = .closed ∨ s.pour.gate = .closing)
    (hless : (s.holdTotal k.slot k.hold : Int) < ((k.target : Int) - (s.pour.allowance.getD 0 : Nat)) * 1000) : s.removeCause c
      = s.poured s.reopened [.pourSuspended k.slot k.hold CauseSet.empty] s.bills true := by
  have hr : s.targetReached = false := by
    rw [Bool.eq_false_iff]
    intro e
    have := (State.targetReached_iff hk).1 e
    omega
  rw [State.removeCause_last hs hc hk ht, State.beltWait_runs (by exact hb) (by exact hw), State.poured_onPour]
  refine (State.gateWait_opens ?_ (by exact hg)).trans ?_
  · exact (State.targetReached_congr rfl rfl fun _ _ => rfl).trans hr
  · simp only [if_neg hne]
    rfl

/-- A cause not held goes without effect, and with no line open none goes. -/
theorem State.removeCause_idle {c : SuspendCause} (h : s.lineOpen = false ∨ s.pour.causes.has c = false) : s.removeCause c = s := by
  rcases h with h | h <;> simp [State.removeCause, h]

theorem State.addCause_idle {c : SuspendCause} (h : s.lineOpen = false ∨ s.pour.causes.has c = true) : s.addCause c = s := by
  rcases h with h | h <;> simp [State.addCause, h]

/-! ## The throttle condition (R132) -/

theorem State.retestThrottle_slows (hs : s.pour.state = .pouring) (ht : s.throttle = true) (hg : s.pour.gate = .opened) :
    s.retestThrottle = s.poured { s.pour with state := .throttled, gateCommand := .openReduced } [] s.bills true := by
  unfold State.retestThrottle
  simp only [hs, ht, if_true]
  rw [State.setGate_rate rfl (.inl hg), State.setPour_of_ne (by simp [hs])]
  rfl

theorem State.retestThrottle_quickens (hs : s.pour.state = .throttled) (ht : s.throttle = false) (hg : s.pour.gate = .opened) :
    s.retestThrottle = s.poured { s.pour with state := .pouring, gateCommand := .openFull } [] s.bills true := by
  unfold State.retestThrottle
  simp only [hs, ht, Bool.false_eq_true, if_false]
  rw [State.setGate_rate rfl (.inl hg), State.setPour_of_ne (by simp [hs])]
  rfl

theorem State.retestThrottle_waiting (hs : s.pour.state = .starting) (hp : s.pour.phase = some .gateWait) (hg : s.pour.gate = .opening) :
    s.retestThrottle = s.poured { s.pour with gateCommand := s.openRate } [] s.bills s.line.statusDue := by
  have waiting : s.retestThrottle = s.setGate s.openRate := by simp only [State.retestThrottle, hs, hp]
  rw [waiting, State.setGate_rate State.openRate_isOpen (.inr hg)]
  rfl

/-- In every other state the throttle condition does nothing. -/
theorem State.retestThrottle_idle (h1 : s.pour.state ≠ .pouring) (h2 : s.pour.state ≠ .throttled)
    (h3 : s.pour.state = .starting → s.pour.phase ≠ some .gateWait) : s.retestThrottle = s := by
  unfold State.retestThrottle
  cases hs : s.pour.state <;> simp_all

/-! ## RUNOUT (R139) -/

/-- The record of a pour that RUNOUT is entered with. -/
def Pour.runningOut (p : Pour) (s : State) (cause : RunoutCause) : Pour :=
  ({ (p.shut s.gateTimer) with phase := none, runoutCause := some cause, runoutShifts := 0, state := .runout } : Pour).belted
    s.inputs.beltRunning (s.timer Config.beltStartMs) (!p.causes.stopsBelt)

theorem State.enterRunout_eq (h : s.pour.state ≠ .runout) (cause : RunoutCause) : s.enterRunout cause
    = (s.poured (s.pour.runningOut s cause) [] s.bills true).runoutTest := by
  have shut : s.setGate .closed = s.poured (s.pour.shut s.gateTimer) [] s.bills s.line.statusDue := State.setGate_closed
  unfold State.enterRunout State.beltByCauses
  rw [shut, State.poured_onPour, State.setPour_of_ne (by exact h), State.poured_onPour, State.poured_markStatus, State.setBelt_eq,
    State.poured_onPour]
  rfl

theorem Pour.belted_fields (p : Pour) (running : Bool) (timer : Timer) (on : Bool) : (p.belted running timer on).state = p.state
    ∧ (p.belted running timer on).runoutCause = p.runoutCause ∧ (p.belted running timer on).gate = p.gate
    ∧ (p.belted running timer on).gateFault = p.gateFault ∧ (p.belted running timer on).runoutShifts = p.runoutShifts
    ∧ (p.belted running timer on).beltOn = on := by
  unfold Pour.belted
  split
  · next h =>
    split
    · next hb => exact ⟨rfl, rfl, rfl, rfl, rfl, hb.trans h.symm⟩
    · split <;> exact ⟨rfl, rfl, rfl, rfl, rfl, h.symm⟩
  · next h => exact ⟨rfl, rfl, rfl, rfl, rfl, by simpa using h⟩

theorem Pour.runningOut_fields (p : Pour) (s : State) (cause : RunoutCause) : (p.runningOut s cause).gate = (p.shut s.gateTimer).gate
    ∧ (p.runningOut s cause).gateFault = p.gateFault ∧ (p.runningOut s cause).runoutShifts = 0 := by
  obtain ⟨-, -, hgate, hfault, hshifts, -⟩ := Pour.belted_fields
    ({ (p.shut s.gateTimer) with phase := none, runoutCause := some cause, runoutShifts := 0, state := .runout } : Pour)
    s.inputs.beltRunning (s.timer Config.beltStartMs) (!p.causes.stopsBelt)
  exact ⟨hgate, hfault, hshifts⟩

/-- A run-out that is not over goes on. -/
theorem State.runoutTest_goesOn (h : s.runoutOver = false) : s.runoutTest = s := by
  unfold State.runoutTest
  rw [h]
  split <;> rfl

theorem State.runoutTest_other (h : s.pour.state ≠ .runout) : s.runoutTest = s := by
  unfold State.runoutTest
  split
  · exact absurd ‹_› h
  · rfl

/-- Entered while the gate or the grain lets it go on (R139). -/
theorem State.enterRunout_goesOn (h : s.pour.state ≠ .runout) (hg : s.runoutGoesOn) (cause : RunoutCause) : s.enterRunout cause
    = s.poured (s.pour.runningOut s cause) [] s.bills true := by
  rw [State.enterRunout_eq h]
  refine State.runoutTest_goesOn ?_
  obtain ⟨hgate, hfault, hshifts⟩ := Pour.runningOut_fields s.pour s cause
  simp only [State.runoutOver, State.poured_pour, State.poured_belt, State.poured_block, hgate, hfault, hshifts, Pour.shut]
  rcases hg with h | h | h | ⟨h, hf⟩ | ⟨hc, hn⟩
  · simp [h]
  · simp [h]
  · simp [h]
  · simp [h, hf]
  · simp [show s.belt.content ≠ 0 by omega, show ¬2 * s.block.cellCount ≤ 0 by omega]

end Sys2Proof.Machine
end

section
/-! The Belt Scale and the Belt Register: load samples, belt pulses and the zero run (O21 to O24, O46). -/

namespace Sys2Proof.Machine

variable {s t u : State}

/-! ## Notices raised one after another -/

theorem LocalPort.raiseAll_append (p : LocalPort) (now : Nat) (a b : List NoticeBody) :
    p.raiseAll now (a ++ b) = (p.raiseAll now a).raiseAll now b := List.foldl_append

theorem LocalPort.raiseAll_kept (p : LocalPort) (now : Nat) (bodies : List NoticeBody) : p.Kept (p.raiseAll now bodies) := by
  induction bodies generalizing p with
  | nil => exact .refl p
  | cons b rest ih => exact (LocalPort.raise_kept p now b).trans (ih _)

/-- A state that differs in the scale and its notices. -/
def State.weighed (s : State) (c : Scale) (bodies : List NoticeBody) : State :=
  { s with scale := c, port := s.port.raiseAll s.count bodies }

theorem State.weighed_notify (c : Scale) (bodies : List NoticeBody) (n : NoticeBody) :
    (s.weighed c bodies).notify n = s.weighed c (bodies ++ [n]) := by
  unfold State.weighed
  rw [LocalPort.raiseAll_append]
  rfl

theorem State.onlyIn_weighed (s : State) (c : Scale) (bodies : List NoticeBody) : s.onlyIn (s.weighed c bodies) [.scale, .port] := by
  intro k hk
  cases k <;> simp_all [State.agree, State.weighed]

/-! ## Load samples -/

/-- What a load sample leaves of a zero run and of its still timer (R35, R36). -/
def State.zeroSampled (s : State) (raw : Nat) : Option ZeroRun × Timer :=
  match s.scale.zeroRun with
  | none => (none, s.scale.stillTimer)
  | some z =>
    if 20 < netLoad raw z.oldTare s.block.span then (none, none)
    else (some ⟨z.oldTare, z.pulses, z.sampleSum + raw, z.sampleCount + 1⟩, s.scale.stillTimer)

/-- The scale record after a load sample (R21 to R24). -/
def State.sampledScale (s : State) (raw : Nat) : Scale :=
  { s.scale with
    load := s.clampedLoad raw
    status := if s.overRange raw then .overrange else .ok
    episode := s.overRange raw
    staleTimer := some (s.count + 200)
    faultTimer := some (s.count + 2000)
    zeroRun := (s.zeroSampled raw).1
    stillTimer := (s.zeroSampled raw).2 }

/-- The notices of a load sample (assumption 37). -/
def State.sampleNotices (s : State) (raw : Nat) : List NoticeBody :=
  (if s.overRange raw = true ∧ s.scale.episode = false then [.loadOverrange raw] else [])
  ++ (if ∃ z, s.scale.zeroRun = some z ∧ 20 < netLoad raw z.oldTare s.block.span then [.zeroFailed .notEmpty (some raw)] else [])
  ++ (if s.scale.status.reported = true then [.scaleState (if s.overRange raw then .overrange else .ok)] else [])

theorem State.episodeAct_eq (raw : Nat) (high : Bool) : s.episodeAct raw high = s.weighed { s.scale with episode := high }
    (if high = true ∧ s.scale.episode = false then [.loadOverrange raw] else []) := by
  unfold State.episodeAct
  dsimp only
  by_cases h : high = true ∧ s.scale.episode = false
  · rw [if_pos h, if_pos (by simp [h])]
    rfl
  · rw [if_neg h, if_neg (by simpa using h)]
    rfl

theorem State.zeroSample_eq (raw : Nat) : s.zeroSample raw
    = s.weighed { s.scale with zeroRun := (s.zeroSampled raw).1, stillTimer := (s.zeroSampled raw).2 }
      (if ∃ z, s.scale.zeroRun = some z ∧ 20 < netLoad raw z.oldTare s.block.span then [.zeroFailed .notEmpty (some raw)] else []) := by
  unfold State.zeroSample State.zeroSampled
  cases hz : s.scale.zeroRun with
  | none =>
    rw [if_neg (by simp)]
    dsimp only
    rw [← hz]
    rfl
  | some z =>
    dsimp only
    by_cases h : 20 < netLoad raw z.oldTare s.block.span
    · rw [if_pos (show Config.maxExcess < _ from h), if_pos h, if_pos ⟨z, rfl, h⟩]
      rfl
    · rw [if_neg (show ¬Config.maxExcess < _ from h), if_neg h, if_neg (by rintro ⟨y, hy, hn⟩; cases hy; exact h hn)]
      rfl

theorem LoadStatus.reported_iff (l : LoadStatus) : l.reported = true ↔ l = .stale ∨ l = .fault := by cases l <;> simp [LoadStatus.reported]

/-- The load status that a sample gives, its notice, and the pour's cause. -/
theorem State.setLoadStatus_good {status : LoadStatus} (h : status = .ok ∨ status = .overrange) : s.setLoadStatus status
    = (s.weighed { s.scale with status := status } (if s.scale.status.reported = true then [.scaleState status] else [])).removeCause
      .scale := by
  have hnot : status.reported = false := by rcases h with rfl | rfl <;> rfl
  have hf : (status == .fault) = false := by rcases h with rfl | rfl <;> rfl
  have hiff : (s.scale.status ≠ status ∧ (s.scale.status.reported = true ∨ status.reported = true)) ↔ s.scale.status.reported = true := by
    rw [hnot]
    constructor
    · rintro ⟨-, h | h⟩
      · exact h
      · cases h
    · intro hr
      refine ⟨fun e => ?_, .inl hr⟩
      rw [e, hnot] at hr
      cases hr
  unfold State.setLoadStatus State.syncCause
  simp only [hiff, hf, Bool.false_eq_true, if_false]
  refine congrArg (fun v => State.removeCause v _) ?_
  split <;> rfl

theorem State.setLoadStatus_bad {status : LoadStatus} (h : status = .stale ∨ status = .fault) (hne : s.scale.status ≠ status) :
    s.setLoadStatus status
      = (s.weighed { s.scale with status := status } [.scaleState status]).syncCause .scale (status == .fault) := by
  have hr : status.reported = true := (LoadStatus.reported_iff status).2 h
  unfold State.setLoadStatus
  dsimp only
  rw [if_pos ⟨hne, .inr hr⟩]
  rfl

theorem State.weighed_weighed (c d : Scale) (a b : List NoticeBody) :
    (s.weighed c a).weighed d b = s.weighed d (a ++ b) := by
  unfold State.weighed
  rw [LocalPort.raiseAll_append]

/-- A load sample, whole (R21 to R24, R36). -/
theorem State.takeLoad_eq (raw : Nat) :
    s.takeLoad raw = (s.weighed (s.sampledScale raw) (s.sampleNotices raw)).removeCause .scale := by
  unfold State.takeLoad
  dsimp only
  rw [State.setLoadStatus_good (by split <;> simp), State.zeroSample_eq, State.episodeAct_eq]
  refine congrArg (fun v => State.removeCause v _) ?_
  have timers : ((s.onScale (fun c => { c with load := s.clampedLoad raw })).weighed
        { (s.onScale (fun c => { c with load := s.clampedLoad raw })).scale with episode := s.overRange raw }
        (if s.overRange raw = true ∧ (s.onScale (fun c => { c with load := s.clampedLoad raw })).scale.episode = false then
          [.loadOverrange raw] else [])).startLoadTimers
      = s.weighed { s.scale with
          load := s.clampedLoad raw, episode := s.overRange raw, staleTimer := some (s.count + 200)
          faultTimer := some (s.count + 2000) }
        (if s.overRange raw = true ∧ s.scale.episode = false then [.loadOverrange raw] else []) := rfl
  rw [timers, State.weighed_weighed, State.weighed_weighed, ← List.append_assoc]
  rfl

theorem State.overRange_eq {raw net : Nat} {zero high : Bool} (hnet : net = if raw < s.scale.tare then 0 else
      ((raw - s.scale.tare) * s.block.span + 2048) / 4096) (hzero : zero = decide (raw < s.scale.tare ∨ net < s.block.zeroBand))
    (hhigh : high = (!zero && decide (1500 < net))) : s.overRange raw = high
      ∧ s.clampedLoad raw = if zero then 0 else if high then 1500 else net := by
  have hn : netLoad raw s.scale.tare s.block.span = net := hnet.symm
  have hz : s.inZeroBand raw = zero := by simp [State.inZeroBand, hn, hzero]
  refine ⟨by simp [State.overRange, hz, hn, hhigh, Config.maxLoad], ?_⟩
  unfold State.clampedLoad
  rw [hz, hn, hhigh]
  cases zero with
  | true => rfl
  | false =>
    simp only [Bool.false_eq_true, if_false, Bool.not_false, Bool.true_and, decide_eq_true_eq, Config.maxLoad]
    split <;> omega

/-! ## Commands of the scale -/

theorem exec_loadSample {raw : BitVec 16} (h : s.port.mode ≠ .config) : exec (.loadSample raw) s = .next (s.takeLoad raw.toNat).finish := by
  show Host.Outcome.next (State.finish (if s.configured then _ else _)) = _
  rw [if_pos (by simpa [State.configured] using h)]

theorem exec_beltPulse (h : s.port.mode ≠ .config) : exec .beltPulse s = .next s.pulse.finish := by
  show Host.Outcome.next (State.finish (if s.configured then _ else _)) = _
  rw [if_pos (by simpa [State.configured] using h)]

theorem State.unconfigured (h : s.port.mode = .config) : s.configured = false := by simp [State.configured, h]

/-- The load fault timer's expiry in STALE (R23). -/
theorem State.loadFault_call {d : Nat} (hd : s.scale.faultTimer = some d) (hs : s.scale.status = .stale) :
    exec .loadFaultTimerExpiry s = .next (((s.upTo d).weighed { s.scale with faultTimer := none, status := .fault }
      [.scaleState .fault]).addCause .scale).finish := by
  have hne : ((s.upTo d).onScale (fun c => { c with faultTimer := none })).scale.status ≠ .fault := by
    show s.scale.status ≠ .fault
    rw [hs]
    nofun
  have run : exec .loadFaultTimerExpiry s = .next (s.expire s.scale.faultTimer (fun t =>
      let u := t.onScale (fun c => { c with faultTimer := none })
      if u.scale.status = .stale then u.setLoadStatus .fault else u)).finish := rfl
  rw [run, hd]
  show Host.Outcome.next (State.finish (if s.scale.status = .stale then
    ((s.upTo d).onScale (fun c => { c with faultTimer := none })).setLoadStatus .fault else _)) = _
  rw [if_pos hs, State.setLoadStatus_bad (.inr rfl) hne]
  rfl

end Sys2Proof.Machine

open Sys2Proof Sys2Proof.Machine

/-- Settles O21. -/
theorem loadSamplesAndTimersSetTheLoadStatus : Obligations.LoadSamplesAndTimersSetTheLoadStatus := by
  refine ⟨fun s raw hq => ⟨fun hm => ?_, fun hm hz hidle r hr net hnet zero hzero high hhigh => ?_,
      fun k hm hz hstatus hstate hcauses hb hw hg hk ht hless => ?_⟩,
    fun s d hq hd hstatus hidle => ?_, fun s d hq hd hstatus hlo => ?_, fun s d c hq hd hstatus hstate hcauses hk hg => ?_⟩
  · show Host.Outcome.next (State.finish (if s.configured then _ else _)) = _
    rw [State.unconfigured hm]
    exact congrArg _ (State.finish_of_quiet hq)
  · subst hr
    obtain ⟨hover, hload⟩ := State.overRange_eq hnet hzero hhigh
    have hdone : s.takeLoad raw.toNat = s.weighed (s.sampledScale raw.toNat) (s.sampleNotices raw.toNat) := by
      rw [State.takeLoad_eq]
      exact State.removeCause_idle hidle
    have hnotices : s.sampleNotices raw.toNat = (if high = true ∧ s.scale.episode = false then [.loadOverrange raw.toNat] else [])
        ++ (if s.scale.status = .stale ∨ s.scale.status = .fault then [.scaleState (if high then .overrange else .ok)] else []) := by
      simp [State.sampleNotices, hover, hz, LoadStatus.reported_iff]
    have hscale : s.sampledScale raw.toNat = { s.scale with
        load := if zero then 0 else if high then 1500 else net
        status := if high then .overrange else .ok
        episode := high
        staleTimer := some (s.count + 200), faultTimer := some (s.count + 2000) } := by
      simp [State.sampledScale, State.zeroSampled, hover, hload, hz]
    have hport : (s.weighed (s.sampledScale raw.toNat) (s.sampleNotices raw.toNat)).port
        = s.port.raiseAll s.count (s.sampleNotices raw.toNat) := rfl
    refine ⟨_, (exec_loadSample hm).trans (congrArg Host.Outcome.next ((congrArg State.finish hdone).trans
      (State.finish_of_quiet (s := s.weighed _ _) hq))), State.onlyIn_weighed s _ _, hscale, ?_, fun h1 h2 h3 => ?_, fun h1 h2 h3 h4 => ?_,
      fun h1 h2 => ?_, fun h1 h2 h3 => ?_⟩
    · have kept := LocalPort.raiseAll_kept s.port s.count (s.sampleNotices raw.toNat)
      exact ⟨kept.mailbox, kept.mode⟩
    · rw [hport, hnotices, if_neg (by rintro ⟨a, b⟩; rcases h1 with h1 | h1 <;> simp_all), if_neg (by simp [h2, h3])]
      rfl
    · rw [hport, hnotices, if_pos ⟨h1, h2⟩, if_neg (by simp [h3, h4])]
      rfl
    · rw [hport, hnotices, if_neg (by rintro ⟨a, b⟩; rcases h1 with h1 | h1 <;> simp_all), if_pos h2]
      rfl
    · rw [hport, hnotices, if_pos ⟨h1, h2⟩, if_pos h3, h1]
      rfl
  · have hreopen := State.removeCause_reopens (s := s.weighed (s.sampledScale raw.toNat) (s.sampleNotices raw.toNat)) (c := .scale)
      (by decide) hstate hcauses hk ((State.translate_congr rfl rfl rfl).trans ht) hb hw hg hless
    refine ⟨_, (exec_loadSample hm).trans (congrArg (fun v => Host.Outcome.next (State.finish v))
      ((State.takeLoad_eq raw.toNat).trans hreopen)), ?_, ?_, (State.finish_pour _).trans rfl, ?_⟩
    · exact (((State.onlyIn_weighed s _ _).mono (by decide)).trans ((State.onlyIn_poured_pour _ _ _ _).mono (by decide))).add (by decide)
        (State.onlyIn_finish _)
    · simp only [State.finish_scale, State.poured_scale, State.weighed, State.sampledScale]
      split
      · exact .inr rfl
      · exact .inl rfl
    · have hnotices : s.sampleNotices raw.toNat
          = (if (s.sampledScale raw.toNat).status = .overrange ∧ s.scale.episode = false then [.loadOverrange raw.toNat] else [])
            ++ [.scaleState (s.sampledScale raw.toNat).status] := by
        unfold State.sampleNotices
        rw [hstatus]
        show _ ++ (if LoadStatus.reported .fault = true then [NoticeBody.scaleState (s.sampledScale raw.toNat).status] else []) = _
        have hstage : (s.sampledScale raw.toNat).status = if s.overRange raw.toNat then .overrange else .ok := rfl
        rw [if_pos (c := LoadStatus.reported .fault = true) rfl, if_neg (show ¬ ∃ z, s.scale.zeroRun = some z ∧ 20 < netLoad raw.toNat z.oldTare s.block.span by simp [hz]), List.append_nil]
        refine congrArg (· ++ _) ?_
        rw [hstage]
        cases s.overRange raw.toNat <;> simp
      rw [State.finish_port, State.finish_scale, State.poured_port, State.poured_scale]
      show (s.port.raiseAll s.count (s.sampleNotices raw.toNat)).raiseAll s.count _ = _
      rw [← LocalPort.raiseAll_append, hnotices, List.append_assoc]
      rfl
  · have run : exec .loadStaleTimerExpiry s = .next (s.expire s.scale.staleTimer (fun t =>
        let u := t.onScale (fun c => { c with staleTimer := none })
        if u.scale.status = .ok ∨ u.scale.status = .overrange then u.setLoadStatus .stale else u)).finish := rfl
    have hne : ((s.upTo d).onScale (fun c => { c with staleTimer := none })).scale.status ≠ .stale := by
      show s.scale.status ≠ .stale
      rcases hstatus with h | h <;> rw [h] <;> nofun
    rw [run, hd]
    show Host.Outcome.next (State.finish (if s.scale.status = .ok ∨ s.scale.status = .overrange then
      ((s.upTo d).onScale (fun c => { c with staleTimer := none })).setLoadStatus .stale else _)) = _
    rw [if_pos hstatus, State.setLoadStatus_bad (.inl rfl) hne]
    refine congrArg Host.Outcome.next ((congrArg State.finish (State.removeCause_idle hidle)).trans ?_)
    exact State.finish_of_quiet (s := State.weighed _ _ _) hq
  · have hcall := State.loadFault_call hd hstatus
    rw [hcall]
    rw [State.addCause_idle (.inl (by exact hlo))]
    exact congrArg _ (State.finish_of_quiet (s := State.weighed _ _ _) hq)
  · have hcall := State.loadFault_call hd hstatus
    have hflow : s.pour.state.flowing = true := by rcases hstate with h | h <;> rw [h] <;> rfl
    have hclear : s.pour.causes.has .scale = false := by rw [hcauses]; rfl
    rw [hcall, State.addCause_suspends (by decide) (by exact hflow) (by exact hclear) (by exact hk)]
    refine ⟨_, rfl, by simp [State.weighed], by simp [State.weighed], ?_, ?_, ?_, ?_, fun _ => ?_⟩
    · simp
    · simp [Pour.withCause, hcauses, State.weighed, CauseSet.put]
    · simp
    · simp [Pour.withCause, Pour.shut, hg, State.weighed]
    · simp [Pour.withCause, hcauses, CauseSet.put, CauseSet.stopsBelt, CauseSet.empty, State.weighed]

end

section
/-! Belt pulses, the attribution of the leaving cell and the close decision (sections 2.4 to 2.6 and 7.7). -/

namespace Sys2Proof.Machine

variable {s t u : State}

/-! ## The addition and the shift -/

/-- The tail cell after the addition step (R27). -/
def State.weighedTail (s : State) (tail : Cell) : Cell := ⟨tail.mass + s.pulseMass, tail.marked || s.scale.status.marks⟩

theorem LoadStatus.marks_eq (x : LoadStatus) (b : Bool) : (b || x == .overrange || x == .stale) = (b || x.marks) := by
  cases x <;> cases b <;> rfl

theorem State.pulseMass_eq (s : State) : s.pulseMass = (match s.scale.status with
    | .ok | .stale => s.scale.load * s.block.pulseLength
    | .overrange => 1500 * s.block.pulseLength
    | .fault => 0) := by
  unfold State.pulseMass
  cases s.scale.status <;> rfl

theorem State.addPulse_weighs {tail : Cell} {rest : List Cell} (hz : s.scale.zeroRun = none) (hc : s.belt.cells = tail :: rest) :
    s.addPulse = { s with
      belt := ⟨s.weighedTail tail :: rest, s.belt.phase, s.belt.content + s.pulseMass⟩
      scale := { s.scale with total := s.scale.total + s.pulseMass } } := by
  unfold State.addPulse
  rw [if_neg (by simp [hz]), hc]
  rfl

theorem Belt.shift_eq {b : Belt} {init : List Cell} {head : Cell} (hc : b.cells = init ++ [head]) :
    b.shift = ⟨⟨0, false⟩ :: init, 0, b.content - head.mass⟩ := by
  unfold Belt.shift
  rw [hc]
  simp [Cell.empty]

theorem State.countShift_eq : s.countShift = s.onPour (fun p => { p with
    runoutShifts := if s.pour.state = .runout then min (s.pour.runoutShifts + 1) 65535 else s.pour.runoutShifts }) := by
  unfold State.countShift
  split <;> rfl

theorem State.advancePhase_inside (hp : s.belt.phase < 15) :
    s.advancePhase = { s with belt := { s.belt with phase := s.belt.phase + 1 } } :=
  if_pos (show s.belt.phase + 1 < 16 by omega)

theorem State.advancePhase_shifts {init : List Cell} {head : Cell} (hp : s.belt.phase = 15) (hc : s.belt.cells = init ++ [head]) :
    s.advancePhase = (({ s with belt := ⟨⟨0, false⟩ :: init, 0, s.belt.content - head.mass⟩ } : State).attribute head).countShift := by
  unfold State.advancePhase
  rw [if_neg (show ¬s.belt.phase + 1 < Config.pulsesPerCell by rw [hp]; decide)]
  have hlast : s.belt.cells.getLast? = some head := by simp [hc]
  simp only [hlast]
  rw [← Belt.shift_eq hc]
  rfl

/-- A pulse with no zero run: addition, phase, close decision and run-out test. -/
theorem State.pulse_weighs (hz : s.scale.zeroRun = none) : s.pulse = s.addPulse.advancePhase.closeDecision.runoutTest := by
  obtain ⟨-, -, -, hzero⟩ := s.addPulse_frame
  have hn : s.addPulse.advancePhase.scale.zeroRun = none := by rw [s.addPulse.advancePhase_zeroRun, hzero, hz]
  unfold State.pulse State.zeroPulse
  rw [hn]

/-! ## Attribution of the leaving cell (R29, R30) -/

theorem State.attribute_empty {c : Cell} (h : c.mass = 0) : s.attribute c = s := if_pos h

/-- The cause that the translation and the open line give a spill (R29, R30). -/
theorem State.attribute_spills {c : Cell} {cause : SpillCause} (h : 0 < c.mass) (hf : ∀ k, s.translate = .fault k → cause = .fault k)
    (ho : ∀ x i, s.translate = .ok x i → cause = .unbilled ∧ ∀ l, s.bills.openLine = some l → ¬(l.slot = x ∧ l.hold = i)) :
    s.attribute c = s.spill cause c.mass := by
  unfold State.attribute
  rw [if_neg (by omega)]
  cases ht : s.translate with
  | fault k => rw [hf k ht]; rfl
  | ok x i =>
    obtain ⟨rfl, hline⟩ := ho x i ht
    cases hl : s.bills.openLine with
    | none => rfl
    | some l => exact if_neg (hline l hl)

theorem State.attribute_delivers {c : Cell} {x : Slot} {i : Nat} {l : BillLine} (h : 0 < c.mass) (ht : s.translate = .ok x i)
    (hl : s.bills.openLine = some l) (hx : l.slot = x) (hi : l.hold = i) : s.attribute c = s.deliver x i c := by
  unfold State.attribute
  rw [if_neg (by omega), ht, hl]
  exact if_pos ⟨hx, hi⟩

/-- The open line is the first of the open lines. -/
theorem Bills.openLine_eq_head (b : Bills) : b.openLine = b.openLines.head? := by
  unfold Bills.openLines Bills.lines Bills.openLine
  rw [List.filter_flatMap, List.head?_flatMap]
  congr 1
  funext r
  cases r with
  | none => rfl
  | some bill => exact (List.head?_filter ..).symm

/-! ## The close decision (R138) -/

theorem State.runoutOver_false (h : s.pour.gate = .opening ∨ s.pour.gate = .opened ∨ s.pour.gate = .closing
    ∨ (s.pour.gate = .fault ∧ s.pour.gateFault = some .closeFailed)
    ∨ (0 < s.belt.content ∧ s.pour.runoutShifts < 2 * s.block.cellCount)) : s.runoutOver = false := by
  unfold State.runoutOver
  rcases h with h | h | h | ⟨h, hf⟩ | ⟨hc, hn⟩
  · rw [h]; rfl
  · rw [h]; rfl
  · rw [h]; rfl
  · rw [h, hf]; rfl
  · have hgrain : (s.belt.content == 0) = false := beq_eq_false_iff_ne.2 (by omega)
    have hshifts : decide (2 * s.block.cellCount ≤ s.pour.runoutShifts) = false := decide_eq_false (by omega)
    rw [hgrain, hshifts]
    exact Bool.and_false _

theorem State.runoutTest_stays (h : s.pour.state = .runout → s.runoutOver = false) : s.runoutTest = s := by
  by_cases hs : s.pour.state = .runout
  · exact State.runoutTest_goesOn (h hs)
  · exact State.runoutTest_other hs

theorem State.closeDecision_short (h : s.pour.state = .pouring ∨ s.pour.state = .throttled → s.targetReached = false) :
    s.closeDecision = s := by
  unfold State.closeDecision
  cases hs : s.pour.state <;> simp_all

theorem State.closeDecision_reached (h : s.pour.state = .pouring ∨ s.pour.state = .throttled) (hr : s.targetReached = true) :
    s.closeDecision = s.enterRunout .target := by
  unfold State.closeDecision
  rcases h with h | h <;> simp [h, hr]

theorem State.targetReached_short {c : OwnClaim} (hc : s.fill.claim = some c)
    (h : (s.holdTotal c.slot c.hold : Int) < ((c.target : Int) - (s.pour.allowance.getD 0 : Nat)) * 1000) : s.targetReached = false := by
  rw [Bool.eq_false_iff]
  intro e
  have := (State.targetReached_iff hc).1 e
  omega

/-! ## The hold total (R102, R104) -/

theorem State.holdTotal_active {c : OwnClaim} (hc : s.fill.claim = some c) (ha : c.phase = .active) :
    s.holdTotal c.slot c.hold = (s.row c.slot c.hold).delivered + s.belt.content + (s.row c.slot c.hold).peerTally := by
  unfold State.holdTotal State.ownOnBelt State.activeClaim
  simp [hc, ha]

theorem State.row_congr (h : t.fill = s.fill) (x : Slot) (i : Nat) : t.row x i = s.row x i := by
  unfold State.row State.view
  rw [h]

theorem State.holdTotal_congr (hf : t.fill = s.fill) (hb : t.belt = s.belt) (x : Slot) (i : Nat) : t.holdTotal x i = s.holdTotal x i := by
  simp only [State.holdTotal, State.ownOnBelt, State.activeClaim, State.row_congr hf, hf, hb]

/-- With the claim's row as it was, the hold total moves with the belt content. -/
theorem State.holdTotal_moves {c : OwnClaim} (hc : s.fill.claim = some c) (ha : c.phase = .active) (hf : t.fill = s.fill) :
    t.holdTotal c.slot c.hold + s.belt.content = s.holdTotal c.slot c.hold + t.belt.content := by
  rw [State.holdTotal_active hc ha, State.holdTotal_active (hf ▸ hc) ha, State.row_congr hf]
  omega

/-- A belt content that has grown by no more than `m` keeps the target unreached. -/
theorem State.unreached_after {c : OwnClaim} {m : Nat} (hc : s.fill.claim = some c) (ha : c.phase = .active) (hf : t.fill = s.fill)
    (hp : t.pour.allowance = s.pour.allowance) (hb : t.belt.content ≤ s.belt.content + m)
    (h : ((s.holdTotal c.slot c.hold + m : Nat) : Int) < ((c.target : Int) - (s.pour.allowance.getD 0 : Nat)) * 1000) :
    t.targetReached = false := by
  have hmoves := State.holdTotal_moves hc ha hf
  refine State.targetReached_short (hf ▸ hc) ?_
  rw [hp]
  omega

/-! ## A pulse inside a cell -/

/-- The state with a pulse inside a cell weighed into the tail (R27). -/
def State.weighedIn (s : State) (tail : Cell) (rest : List Cell) : State :=
  { s with
    belt := ⟨s.weighedTail tail :: rest, s.belt.phase + 1, s.belt.content + s.pulseMass⟩
    scale := { s.scale with total := s.scale.total + s.pulseMass } }

theorem State.pulse_inside {tail : Cell} {rest : List Cell} (hz : s.scale.zeroRun = none) (hc : s.belt.cells = tail :: rest)
    (hp : s.belt.phase < 15) : s.pulse = (s.weighedIn tail rest).closeDecision.runoutTest := by
  rw [State.pulse_weighs hz, State.addPulse_weighs hz hc, State.advancePhase_inside (by exact hp)]
  rfl

theorem State.onlyIn_weighedIn (s : State) (tail : Cell) (rest : List Cell) : s.onlyIn (s.weighedIn tail rest) [.belt, .scale] := by
  intro b hb
  cases b <;> simp_all [State.agree, State.weighedIn]

/-! ## The 16th pulse -/

/-- The state whose register has just shifted, the pulse weighed in, before the head cell is attributed (R27, R28). -/
def State.shifted (s : State) (init : List Cell) (head : Cell) : State :=
  { s with
    belt := ⟨⟨0, false⟩ :: init, 0, s.belt.content + s.pulseMass - head.mass⟩
    scale := { s.scale with total := s.scale.total + s.pulseMass } }

theorem State.pulse_shifts {tail head : Cell} {rest init : List Cell} (hz : s.scale.zeroRun = none) (hc : s.belt.cells = tail :: rest)
    (hp : s.belt.phase = 15) (hu : s.weighedTail tail :: rest = init ++ [head]) :
    s.pulse = ((s.shifted init head).attribute head).countShift.closeDecision.runoutTest := by
  rw [State.pulse_weighs hz, State.addPulse_weighs hz hc, State.advancePhase_shifts (by exact hp) (by exact hu)]
  rfl

/-- The end of a 16th pulse that reaches no target and ends no run-out. -/
theorem State.shift_settles (hshort : s.pour.state = .pouring ∨ s.pour.state = .throttled → s.targetReached = false)
    (hrun : s.pour.state = .runout → s.pour.gate = .opening ∨ s.pour.gate = .opened ∨ s.pour.gate = .closing
      ∨ (s.pour.gate = .fault ∧ s.pour.gateFault = some .closeFailed)
      ∨ (0 < s.belt.content ∧ s.pour.runoutShifts + 1 < 2 * s.block.cellCount)) :
    s.countShift.closeDecision.runoutTest = s.onPour (fun p => { p with
      runoutShifts := if s.pour.state = .runout then min (s.pour.runoutShifts + 1) 65535 else s.pour.runoutShifts }) := by
  rw [State.countShift_eq, State.closeDecision_short, State.runoutTest_stays]
  · intro hs
    refine State.runoutOver_false ?_
    rcases hrun hs with h | h | h | h | ⟨hc, hn⟩
    · exact .inl h
    · exact .inr (.inl h)
    · exact .inr (.inr (.inl h))
    · exact .inr (.inr (.inr (.inl h)))
    · refine .inr (.inr (.inr (.inr ⟨hc, ?_⟩)))
      show (if s.pour.state = .runout then min (s.pour.runoutShifts + 1) 65535 else s.pour.runoutShifts) < 2 * s.block.cellCount
      rw [if_pos (by exact hs)]
      omega
  · intro hs
    exact (State.targetReached_congr rfl rfl fun _ _ => rfl).trans (hshort hs)

/-! ## Delivery to the open line (R29) -/

theorem List.modify_eq_set_of {α : Type} {l : List α} {i : Nat} {a : α} (h : l[i]? = some a) (f : α → α) :
    l.modify i f = l.set i (f a) := by
  rw [List.modify_eq_set_getElem?, h]
  rfl

theorem State.onRow_row {x : Slot} {i : Nat} {rows : List Row} (hv : s.view x = some rows) (hi : 1 ≤ i) (hl : i ≤ rows.length)
    (g : Row → Row) : (s.onFill (fun f => f.onRow x i g)).row x i = g (s.row x i) := by
  have hlt : i - 1 < rows.length := by omega
  have hview : (s.onFill (fun f => f.onRow x i g)).view x = some (rows.modify (i - 1) g) := by
    unfold State.view at hv ⊢
    cases x <;> simp_all [Fill.onRow, Fill.onView, State.onFill, show i ≠ 0 by omega]
  unfold State.row
  rw [hview, hv]
  simp [show i ≠ 0 by omega, List.getD_eq_getElem?_getD, hlt]

theorem Fill.onRow_claim (f : Fill) (x : Slot) (i : Nat) (g : Row → Row) : (f.onRow x i g).claim = f.claim := by
  unfold Fill.onRow
  cases x <;> simp only [Fill.onView] <;> split <;> rfl

@[simp] theorem State.deliver_fill (x : Slot) (i : Nat) (c : Cell) :
    (s.deliver x i c).fill = s.fill.onRow x i (fun r => { r with delivered := r.delivered + c.mass }) := by simp [State.deliver]

@[simp] theorem State.deliver_belt (x : Slot) (i : Nat) (c : Cell) : (s.deliver x i c).belt = s.belt := by simp [State.deliver]
@[simp] theorem State.deliver_pour (x : Slot) (i : Nat) (c : Cell) : (s.deliver x i c).pour = s.pour := by simp [State.deliver]
@[simp] theorem State.deliver_line (x : Slot) (i : Nat) (c : Cell) : (s.deliver x i c).line = s.line := by simp [State.deliver]
@[simp] theorem State.deliver_cfg (x : Slot) (i : Nat) (c : Cell) : (s.deliver x i c).cfg = s.cfg := by simp [State.deliver]
@[simp] theorem State.deliver_scale (x : Slot) (i : Nat) (c : Cell) : (s.deliver x i c).scale = s.scale := by simp [State.deliver]

theorem State.onlyIn_onPour (s : State) (f : Pour → Pour) : s.onlyIn (s.onPour f) [.pour] := by
  intro b hb
  cases b <;> simp_all [State.agree]

theorem State.onlyIn_shifted (s : State) (init : List Cell) (head : Cell) : s.onlyIn (s.shifted init head) [.belt, .scale] := by
  intro b hb
  cases b <;> simp_all [State.agree, State.shifted]

theorem Bills.addMass_eq (bs : Bills) (m : Nat) (marked : Bool) : bs.addMass m marked
    = { bs with records := bs.records.map (fun r => r.map (fun b => { b with lines := b.lines.map (fun k => if k.cause = none then
        { k with mass := k.mass + m, estimated := if marked then k.estimated + m else k.estimated } else k) })) } := by
  unfold Bills.addMass Bills.onOpenLine
  simp only [Option.isNone_iff_eq_none]

theorem Fill.onRow_eq {x : Slot} {i : Nat} {rows : List Row} {row : Row} (hv : s.view x = some rows) (hi : i ≠ 0)
    (hrow : rows[i - 1]? = some row) (g : Row → Row) : s.fill.onRow x i g = (match (generalizing := false) x with
      | .a => { s.fill with viewA := some (rows.set (i - 1) (g row)) }
      | .b => { s.fill with viewB := some (rows.set (i - 1) (g row)) }) := by
  unfold Fill.onRow
  rw [if_neg hi]
  unfold State.view at hv
  cases x
  all_goals
    simp only at hv
    simp only [Fill.onView, hv, Option.map_some, List.modify_eq_set_of hrow]

theorem State.onHold_berth {x : Slot} {i : Nat} {ses : Session} {d : Hold} (hs : s.session x = some ses) (hd : ses.hold i = some d)
    (f : Hold → Hold) : (s.onHold x i f).berth x
      = { s.berth x with session := some { ses with holds := ses.holds.set (i - 1) (f d) } } := by
  have hi : i ≠ 0 := State.hold_ne_zero (s := s) (x := x) (by unfold State.hold; rw [hs]; exact hd)
  unfold Session.hold at hd
  rw [if_neg hi] at hd
  unfold State.onHold State.onSession
  rw [if_neg hi, State.onBerth_same]
  have hber : (s.berth x).session = some ses := hs
  rw [hber, Option.map_some, List.modify_eq_set_of hd]

theorem State.onlyIn_deliver (s : State) (x : Slot) (i : Nat) (c : Cell) : s.onlyIn (s.deliver x i c) [.bills, .fill, .berths] :=
  (((State.onlyIn_onBills s _).mono (by decide)).add (by decide) (State.onlyIn_onFill _ _)).add (by decide) (State.onlyIn_onHold _ _ _ _)

/-- What a cell's delivery adds to the hold total of the claim's hold. -/
theorem State.holdTotal_deliver {k : OwnClaim} {c : Cell} {rows : List Row} (hc : s.fill.claim = some k) (ha : k.phase = .active)
    (hv : s.view k.slot = some rows) (hi : 1 ≤ k.hold) (hl : k.hold ≤ rows.length) :
    (s.deliver k.slot k.hold c).holdTotal k.slot k.hold = s.holdTotal k.slot k.hold + c.mass := by
  have hclaim : (s.deliver k.slot k.hold c).fill.claim = some k := by rw [State.deliver_fill, Fill.onRow_claim, hc]
  have hrow : (s.deliver k.slot k.hold c).row k.slot k.hold
      = { s.row k.slot k.hold with delivered := (s.row k.slot k.hold).delivered + c.mass } :=
    (State.row_congr (s := s.onFill (fun f => f.onRow k.slot k.hold (fun r => { r with delivered := r.delivered + c.mass })))
      (State.deliver_fill ..) _ _).trans (State.onRow_row hv hi hl (fun r => { r with delivered := r.delivered + c.mass }))
  rw [State.holdTotal_active hclaim ha, State.holdTotal_active hc ha, hrow, State.deliver_belt]
  show (s.row k.slot k.hold).delivered + c.mass + s.belt.content + (s.row k.slot k.hold).peerTally = _
  omega

/-! ## The close decision at a pulse (R138) -/

/-- The pour record in which the close decision of a pour with its gate open leaves it. -/
def State.closing (s : State) : Pour :=
  { s.pour with
    state := .runout, phase := none, runoutCause := some .target, runoutShifts := 0, gateCommand := .closed
    gate := .closing, gateTimer := some (s.count + s.block.gateLimit * 1000) }

theorem State.closeDecision_closes (hs : s.pour.state = .pouring ∨ s.pour.state = .throttled) (hg : s.pour.gate = .opened)
    (hc : s.pour.causes = CauseSet.empty) (hb : s.pour.beltOn = true) (hr : s.targetReached = true) :
    s.closeDecision.runoutTest = s.poured s.closing [] s.bills true := by
  have hne : s.pour.state ≠ .runout := by rcases hs with h | h <;> rw [h] <;> nofun
  have hrun : s.pour.runningOut s .target = s.closing := by
    unfold Pour.runningOut
    rw [hc]
    refine (Pour.belted_keeps (by exact hb) _ _).trans ?_
    unfold Pour.shut State.closing
    rw [hg]
    rfl
  rw [State.closeDecision_reached hs hr, State.enterRunout_goesOn hne (.inr (.inl hg)), hrun]
  exact State.runoutTest_stays fun _ => State.runoutOver_false (.inr (.inr (.inl rfl)))

/-- The end of a pulse in a pour with its gate open: it closes where the target is reached, and goes on where it is not. -/
theorem State.pulse_decides (hq : s.quiet) (hs : s.pour.state = .pouring ∨ s.pour.state = .throttled) (hg : s.pour.gate = .opened)
    (hc : s.pour.causes = CauseSet.empty) (hb : s.pour.beltOn = true) : s.onlyIn s.closeDecision.runoutTest.finish [.pour, .line]
      ∧ (s.targetReached = true → s.closeDecision.runoutTest.finish.pour = s.closing)
      ∧ (s.targetReached = false → s.closeDecision.runoutTest.finish = s) := by
  have hne : s.pour.state ≠ .runout := by rcases hs with h | h <;> rw [h] <;> nofun
  have hshort : s.targetReached = false → s.closeDecision.runoutTest.finish = s := fun hr => by
    rw [State.closeDecision_short fun _ => hr, State.runoutTest_other hne, State.finish_of_quiet hq]
  have hreach : s.targetReached = true → s.closeDecision.runoutTest.finish = (s.poured s.closing [] s.bills true).finish := fun hr => by
    rw [State.closeDecision_closes hs hg hc hb hr]
  refine ⟨?_, fun hr => by rw [hreach hr, State.finish_pour]; rfl, hshort⟩
  cases hr : s.targetReached with
  | false => rw [hshort hr]; exact .refl _ _
  | true =>
    rw [hreach hr]
    have hline : s.onlyIn (s.poured s.closing [] s.bills true) [.pour, .line] := fun b hb => by
      cases b <;> simp_all [State.agree, LocalPort.raiseAll]
    exact hline.add (by decide) (State.onlyIn_finish _)

theorem State.countShift_other (h : s.pour.state ≠ .runout) : s.countShift = s := if_neg h

end Sys2Proof.Machine

open Sys2Proof Sys2Proof.Machine

/-- Settles O22. -/
theorem beltPulseWeighsIntoTheTail : Obligations.BeltPulseWeighsIntoTheTail := by
  refine ⟨fun s hq hm => ?_, fun s tail rest hq hc hm hz hp m hmass hshort hrun => ?_⟩
  · show Host.Outcome.next (State.finish (if s.configured then _ else _)) = _
    rw [State.unconfigured hm]
    exact congrArg _ (State.finish_of_quiet hq)
  · obtain rfl : m = s.pulseMass := hmass.trans s.pulseMass_eq.symm
    rw [exec_beltPulse hm, State.pulse_inside hz hc hp, State.closeDecision_short, State.runoutTest_stays,
      State.finish_of_quiet (by exact hq)]
    · rw [LoadStatus.marks_eq]
      rfl
    · intro hs
      refine State.runoutOver_false ?_
      rcases hrun hs with h | h | ⟨h, hn⟩
      · exact .inr (.inr (.inl h))
      · exact .inr (.inr (.inr (.inl h)))
      · exact .inr (.inr (.inr (.inr ⟨Nat.lt_add_right _ h, hn⟩)))
    · intro hs
      obtain ⟨c, hk, ha, hless⟩ := hshort hs
      exact State.unreached_after (s := s) hk ha rfl rfl le_rfl hless

/-- Settles O23. -/
theorem leavingCellIsAttributedOnce : Obligations.LeavingCellIsAttributedOnce := by
  intro s tail head rest init m u hq hm hz hc hp hmass hu hinit hle hshort hrun belt scale pour hbelt hscale hpour
  obtain rfl : m = s.pulseMass := hmass.trans s.pulseMass_eq.symm
  have htail : u = s.weighedTail tail := hu.trans (by rw [LoadStatus.marks_eq]; rfl)
  rw [htail] at hinit
  have call : exec .beltPulse s = .next ((s.shifted init head).attribute head).countShift.closeDecision.runoutTest.finish := by
    rw [exec_beltPulse hm, State.pulse_shifts hz hc hp hinit]
  have hsettles : ∀ t : State, t.pour = s.pour → t.belt = (s.shifted init head).belt → t.cfg = s.cfg → t.line = s.line →
      (t.pour.state = .pouring ∨ t.pour.state = .throttled → t.targetReached = false) →
      t.countShift.closeDecision.runoutTest.finish = t.onPour (fun _ => pour) := by
    intro t htp htb htc htl htr
    rw [State.shift_settles htr, State.finish_of_quiet]
    · unfold State.onPour
      rw [htp, hpour]
    · exact (congrArg QuayLine.statusDue htl).trans hq
    · rw [htp, htb, State.block, htc]
      exact hrun
  have hspilled : ∀ t : State, t.fill = s.fill → t.pour = s.pour → t.belt = (s.shifted init head).belt →
      (t.pour.state = .pouring ∨ t.pour.state = .throttled → t.targetReached = false) := by
    intro t htf htp htb hs
    rw [htp] at hs
    obtain ⟨c, hk, ha, hless⟩ := hshort hs
    refine State.unreached_after hk ha htf (by rw [htp]) ?_ hless
    rw [htb]
    exact Nat.sub_le ..
  have htranslate : (s.shifted init head).translate = s.translate := State.translate_congr rfl rfl rfl
  refine ⟨fun h0 => ?_, fun cause hpos hf ho => ?_, fun l x h rows row ses d hlo hpos ht hlines hlx hlh hv hrow hses hd hown => ?_⟩
  · rw [call, State.attribute_empty h0, hsettles (s.shifted init head) rfl rfl rfl rfl (hspilled (s.shifted init head) rfl rfl rfl), hbelt, hscale]
    rfl
  · rw [call, State.attribute_spills hpos (by rw [htranslate]; exact hf) (by rw [htranslate]; exact ho),
      hsettles ((s.shifted init head).spill cause head.mass) rfl rfl rfl rfl (hspilled ((s.shifted init head).spill cause head.mass) rfl rfl rfl), hbelt, hscale]
    rfl
  · have hline : s.bills.openLine = some l := by rw [Bills.openLine_eq_head, hlines]; rfl
    have hi : h ≠ 0 := State.hold_ne_zero (s := s) (x := x) (by unfold State.hold; rw [hses]; exact hd)
    have hlen : h - 1 < rows.length := (List.getElem?_eq_some_iff.1 hrow).1
    have hreach : ((s.shifted init head).deliver x h head).pour.state = .pouring
        ∨ ((s.shifted init head).deliver x h head).pour.state = .throttled →
        ((s.shifted init head).deliver x h head).targetReached = false := by
      rw [State.deliver_pour]
      intro hs
      obtain ⟨c, hk, ha, hless⟩ := hshort hs
      obtain ⟨rfl, rfl⟩ := hown c hk
      have hadd := State.holdTotal_deliver (s := s.shifted init head) (c := head) hk ha (by exact hv) (by omega) (by omega)
      have hmoves := State.holdTotal_moves (t := s.shifted init head) hk ha rfl
      have hcontent : (s.shifted init head).belt.content = s.belt.content + s.pulseMass - head.mass := rfl
      have hclaim : ((s.shifted init head).deliver c.slot c.hold head).fill.claim = some c := by
        rw [State.deliver_fill, Fill.onRow_claim]
        exact hk
      refine State.targetReached_short hclaim ?_
      rw [State.deliver_pour, hadd]
      refine lt_of_le_of_lt ?_ hless
      exact_mod_cast (by omega : (s.shifted init head).holdTotal c.slot c.hold + head.mass ≤ s.holdTotal c.slot c.hold + s.pulseMass)
    have hdone := hsettles ((s.shifted init head).deliver x h head) (State.deliver_pour ..) (State.deliver_belt ..) (State.deliver_cfg ..)
      (State.deliver_line ..) hreach
    rw [call, State.attribute_delivers hpos (htranslate.trans ht) hline hlx hlh, hdone]
    refine ⟨_, rfl, ?_, (State.deliver_belt ..).trans hbelt.symm, (State.deliver_scale ..).trans hscale.symm, rfl, ?_, ?_, ?_, ?_, ?_,
      State.onHold_other ..⟩
    · exact (((State.onlyIn_shifted s init head).mono (by decide)).trans ((State.onlyIn_deliver _ x h head).mono (by decide))).add
        (by decide) (State.onlyIn_onPour _ _)
    · exact (State.deliver_bills ..).trans (Bills.addMass_eq ..)
    · refine (congrArg Bills.openLines (State.deliver_bills ..)).trans ((Bills.openLines_addMass ..).trans ?_)
      rw [show (s.shifted init head).bills = s.bills from rfl, hlines]
      rfl
    · exact (congrArg Bills.billed (State.deliver_bills ..)).trans (Bills.billed_addMass _ _ hline (by exact hlines ▸ le_rfl))
    · exact (State.deliver_fill ..).trans (Fill.onRow_eq (s := s) hv hi hrow (fun r => { r with delivered := r.delivered + head.mass }))
    · exact State.onHold_berth (s := ((s.shifted init head).onBills _).onFill _) hses hd _

/-- Settles O46. -/
theorem closeDecisionMeasuresTheHoldTotal : Obligations.CloseDecisionMeasuresTheHoldTotal := by
  intro s c tail u rest m hq hm hz hcells hstate hg hcauses hb hk ha hmass hu reached runout hreached hrunout
  obtain rfl : m = s.pulseMass := hmass.trans s.pulseMass_eq.symm
  have htail : u = s.weighedTail tail := hu.trans (by rw [LoadStatus.marks_eq]; rfl)
  have hdecided : ∀ v : State, v.fill.claim = some c → v.pour = s.pour →
      v.holdTotal c.slot c.hold = s.holdTotal c.slot c.hold + s.pulseMass → (reached ↔ v.targetReached = true) := by
    intro v hv hp ht
    rw [State.targetReached_iff hv, ht, hp, hreached]
  have hclosing : ∀ v : State, v.pour = s.pour → v.count = s.count → v.cfg = s.cfg → v.closing = runout := by
    intro v hp hn hc
    unfold State.closing
    rw [hp, hn, State.block, hc, hrunout]
    rfl
  have hends : ∀ v : State, v.pour = s.pour → v.line = s.line → v.count = s.count → v.cfg = s.cfg →
      (reached ↔ v.targetReached = true) → v.onlyIn v.closeDecision.runoutTest.finish [.pour, .line]
        ∧ (reached → v.closeDecision.runoutTest.finish.pour = runout)
        ∧ (¬reached → v.closeDecision.runoutTest.finish = v) := by
    intro v hp hl hn hc hr
    obtain ⟨honly, hyes, hno⟩ := State.pulse_decides (s := v) ((congrArg QuayLine.statusDue hl).trans hq) (by rw [hp]; exact hstate)
      (by rw [hp]; exact hg) (by rw [hp]; exact hcauses) (by rw [hp]; exact hb)
    exact ⟨honly, fun h => (hyes (hr.1 h)).trans (hclosing v hp hn hc), fun h => hno (Bool.eq_false_iff.2 fun e => h (hr.2 e))⟩
  refine ⟨fun hp => ?_, fun init head hp hinit hle hcell => ?_⟩
  · have hmoves := State.holdTotal_moves (t := s.weighedIn tail rest) hk ha rfl
    have hcontent : (s.weighedIn tail rest).belt.content = s.belt.content + s.pulseMass := rfl
    obtain ⟨honly, hyes, hno⟩ := hends (s.weighedIn tail rest) rfl rfl rfl rfl (hdecided _ hk rfl (by omega))
    rw [exec_beltPulse hm, State.pulse_inside hz hcells hp]
    refine ⟨_, rfl, ((State.onlyIn_weighedIn s tail rest).mono (by decide)).trans (honly.mono (by decide)), ?_, ?_, hyes, fun h => ?_⟩
    · rw [htail]
      exact honly .belt (by decide)
    · exact honly .scale (by decide)
    · rw [hno h]
      exact ⟨rfl, rfl⟩
  · rw [htail] at hinit
    have hmoves := State.holdTotal_moves (t := s.shifted init head) hk ha rfl
    have hcontent : (s.shifted init head).belt.content = s.belt.content + s.pulseMass - head.mass := rfl
    obtain ⟨v, hv, hvonly, hvclaim, hvtotal⟩ : ∃ v, (s.shifted init head).attribute head = v
        ∧ (s.shifted init head).onlyIn v [.bills, .fill, .berths] ∧ v.fill.claim = some c
        ∧ v.holdTotal c.slot c.hold = s.holdTotal c.slot c.hold + s.pulseMass := by
      by_cases h0 : head.mass = 0
      · exact ⟨_, State.attribute_empty h0, .refl _ _, hk, by omega⟩
      · obtain ⟨l, rows, ht, hl, hlx, hlh, hview, h1, hlen⟩ := hcell.resolve_left h0
        have hadd := State.holdTotal_deliver (s := s.shifted init head) (c := head) hk ha (by exact hview) h1 hlen
        refine ⟨_, State.attribute_delivers (by omega) ((State.translate_congr rfl rfl rfl).trans ht) hl hlx hlh,
          State.onlyIn_deliver _ _ _ _, ?_, by omega⟩
        rw [State.deliver_fill, Fill.onRow_claim]
        exact hk
    have hpour : v.pour = s.pour := hvonly .pour (by decide)
    have hbelt : v.belt = (s.shifted init head).belt := hvonly .belt (by decide)
    have hscale : v.scale = (s.shifted init head).scale := hvonly .scale (by decide)
    obtain ⟨honly, hyes, hno⟩ := hends v hpour (hvonly .line (by decide)) (hvonly .count (by decide)) (hvonly .cfg (by decide))
      (hdecided v hvclaim hpour hvtotal)
    have hne : v.pour.state ≠ .runout := by rw [hpour]; rcases hstate with h | h <;> rw [h] <;> nofun
    rw [exec_beltPulse hm, State.pulse_shifts hz hcells hp hinit, hv, State.countShift_other hne]
    refine ⟨_, rfl, (((State.onlyIn_shifted s init head).mono (by decide)).trans (hvonly.mono (by decide))).trans (honly.mono (by decide)),
      ?_, ?_, ?_, hyes, fun h => ?_⟩
    · exact Eq.trans (honly .belt (by decide)) hbelt
    · exact Eq.trans (honly .scale (by decide)) hscale
    · exact (State.holdTotal_congr (honly .fill (by decide)) (honly .belt (by decide)) _ _).trans hvtotal
    · rw [hno h]
      exact ⟨hpour, hvonly .line (by decide)⟩

end

section
/-! The zero run (section 2.6). -/

namespace Sys2Proof.Machine

variable {s t u : State}

/-- Where every check has the one refusal, a failing request gets it. -/
theorem firstFailure_alike {l : List Check} {r : Reason × Nat} (hall : ∀ c ∈ l, c.2 = r) (h : ¬∀ c ∈ l, c.1 = true) :
    firstFailure l = some r := by
  induction l with
  | nil => simp at h
  | cons c rest ih =>
    obtain ⟨ok, q⟩ := c
    cases ok with
    | false => exact congrArg some (hall _ List.mem_cons_self)
    | true => exact ih (fun d hd => hall d (List.mem_cons_of_mem _ hd)) (by simpa using h)

theorem State.dustOwn_clear : s.dustOwn = false
    ↔ ∀ c, (s.dust.channel c).state ≠ .trip ∧ (s.dust.channel c).state ≠ .held := by
  have stops : ∀ x : DustClass, x.stops = false ↔ x ≠ .trip ∧ x ≠ .held := fun x => by cases x <;> simp [DustClass.stops]
  unfold State.dustOwn
  rw [Bool.or_eq_false_iff, stops, stops]
  constructor
  · rintro ⟨hs, hg⟩ c
    cases c
    · exact hs
    · exact hg
  · intro h
    exact ⟨h .spout, h .gallery⟩

/-- The checks of ZERO SCALE pass exactly so (R34). -/
theorem State.zeroChecks_pass : (∀ c ∈ s.zeroChecks, c.1 = true) ↔ s.scale.zeroRun = none ∧ s.pour.state = .idle ∧ s.pour.gate = .closed
    ∧ ∀ c, (s.dust.channel c).state ≠ .trip ∧ (s.dust.channel c).state ≠ .held := by
  simp [State.zeroChecks, orElse, State.dustOwn_clear, and_assoc]

/-! ## Pulses of a zero run -/

theorem State.addPulse_skips {z : ZeroRun} (h : s.scale.zeroRun = some z) : s.addPulse = s := if_pos (by simp [h])

/-- What a pulse leaves of the scale at the loop's length, and the notice (R37). -/
theorem State.endZeroRun_eq (z : ZeroRun) {y : ZeroRun} (hz : s.scale.zeroRun = some y) :
    ∃ (tare : Nat) (n : NoticeBody), s.endZeroRun z = s.weighed { s.scale with tare := tare, zeroRun := none, stillTimer := none } [n]
      ∧ (s.scale.status.reported = true → tare = s.scale.tare ∧ n = .zeroFailed .scale none)
      ∧ (s.scale.status.reported = false → z.sampleCount = 0 → tare = s.scale.tare ∧ n = .zeroFailed .noSamples none)
      ∧ (s.scale.status.reported = false → 0 < z.sampleCount → tare = newTare z ∧ n = .zeroDone z.oldTare (newTare z)) := by
  have hfail : ∀ r raw, s.failZeroRun r raw = s.weighed { s.scale with zeroRun := none, stillTimer := none } [.zeroFailed r raw] := by
    intro r raw
    unfold State.failZeroRun
    rw [hz]
    rfl
  unfold State.endZeroRun
  by_cases hr : s.scale.status.reported = true
  · rw [if_pos hr, hfail]
    exact ⟨s.scale.tare, _, rfl, fun _ => ⟨rfl, rfl⟩, by simp [hr], by simp [hr]⟩
  · rw [if_neg hr]
    by_cases h0 : z.sampleCount = 0
    · rw [if_pos h0, hfail]
      exact ⟨s.scale.tare, _, rfl, by simp [hr], fun _ _ => ⟨rfl, rfl⟩, fun _ => by omega⟩
    · rw [if_neg h0]
      exact ⟨newTare z, _, rfl, by simp [hr], fun _ h => absurd h h0, fun _ _ => ⟨rfl, rfl⟩⟩

/-- What a zero run makes of a pulse: the count, the still timer, and at the loop's length the end of the run (R35, R37). -/
theorem State.zeroPulse_eq {z : ZeroRun} (hz : s.scale.zeroRun = some z) : ∃ scale bodies, s.zeroPulse = s.weighed scale bodies
    ∧ scale.total = s.scale.total
    ∧ (z.pulses + 1 < s.block.beltLoop → scale = { s.scale with zeroRun := some { z with pulses := z.pulses + 1 }
                                                                stillTimer := some (s.count + 10000) } ∧ bodies = [])
    ∧ (s.block.beltLoop ≤ z.pulses + 1 → scale.zeroRun = none ∧ scale.stillTimer = none
      ∧ (s.scale.status.reported = true → scale.tare = s.scale.tare ∧ bodies = [.zeroFailed .scale none])
      ∧ (s.scale.status.reported = false → z.sampleCount = 0 → scale.tare = s.scale.tare ∧ bodies = [.zeroFailed .noSamples none])
      ∧ (s.scale.status.reported = false → 0 < z.sampleCount →
        scale.tare = newTare z ∧ bodies = [.zeroDone z.oldTare (newTare z)])) := by
  unfold State.zeroPulse
  rw [hz]
  dsimp only
  by_cases hend : s.block.beltLoop ≤ z.pulses + 1
  · rw [if_pos hend]
    obtain ⟨tare, n, he, hfail, hnone, hmean⟩ := State.endZeroRun_eq (s := s.onScale (fun c => { c with
      zeroRun := some { z with pulses := z.pulses + 1 }, stillTimer := s.timer Config.stillMs })) { z with pulses := z.pulses + 1 } rfl
    refine ⟨_, [n], he, rfl, fun h => by omega, fun _ => ⟨rfl, rfl, fun h => ?_, fun h h0 => ?_, fun h hn => ?_⟩⟩
    · obtain ⟨ht, rfl⟩ := hfail h
      exact ⟨ht, rfl⟩
    · obtain ⟨ht, rfl⟩ := hnone h h0
      exact ⟨ht, rfl⟩
    · obtain ⟨ht, rfl⟩ := hmean h hn
      exact ⟨ht, rfl⟩
  · rw [if_neg hend]
    exact ⟨_, [], rfl, rfl, fun _ => ⟨rfl, rfl⟩, fun h => absurd h hend⟩

theorem State.zeroPulse_pour : s.zeroPulse.pour = s.pour := by
  cases hz : s.scale.zeroRun with
  | none => simp only [State.zeroPulse, hz]
  | some z =>
    obtain ⟨scale, bodies, h, -⟩ := State.zeroPulse_eq hz
    rw [h]
    rfl

/-- A pulse of a zero run with the pour IDLE counts, after the register has done its part (R35, R37). -/
theorem State.pulse_counts {z : ZeroRun} (hz : s.scale.zeroRun = some z) (hi : s.pour.state = .idle) (hu : s.advancePhase = u)
    (hp : u.pour = s.pour) : s.pulse = u.zeroPulse := by
  have hidle : u.zeroPulse.pour.state = .idle := by rw [State.zeroPulse_pour, hp, hi]
  unfold State.pulse
  rw [State.addPulse_skips hz, hu, State.closeDecision_short (by simp [hidle]), State.runoutTest_other (by simp [hidle])]

end Sys2Proof.Machine

open Sys2Proof Sys2Proof.Machine

/-- Settles O24. -/
theorem zeroRunMeansTheRawCounts : Obligations.ZeroRunMeansTheRawCounts := by
  refine ⟨fun s hq hm hpost => ⟨fun hbad => ?_, fun hz hi hg hd => ?_⟩, fun s raw z hq hm hz hidle r hr excess hex net hnet zero hzero high
    hhigh => ?_, fun s u z hq hm hz hi hline hu => ?_, fun s z d hq hz hd => ?_⟩
  · have hfail : firstFailure s.zeroChecks = some (.stationBusy, 0) :=
      firstFailure_alike (by simp [State.zeroChecks, orElse]) (fun h => hbad (State.zeroChecks_pass.1 h))
    rw [show Instr.zeroScale = Request.row .zeroScale from rfl, exec_row hpost]
    show Host.Outcome.next (State.finish (s.whenMode inRunOnly (s.judged s.zeroChecks _))) = _
    rw [State.whenMode_allowed (by simp [inRunOnly, hm]), State.judged_refused hfail, State.finish_refuse hq]
  · have hpass : firstFailure s.zeroChecks = none := firstFailure_eq_none.2 (State.zeroChecks_pass.2 ⟨hz, hi, hg, hd⟩)
    rw [show Instr.zeroScale = Request.row .zeroScale from rfl, exec_row hpost]
    show ∃ t, Host.Outcome.next (State.finish (s.whenMode inRunOnly (s.judged s.zeroChecks (s.startZeroRun.done [])))) = _ ∧ _
    rw [State.whenMode_allowed (by simp [inRunOnly, hm]), State.judged_passed hpass, State.done,
      State.finish_reply (s := s.startZeroRun) hq]
    refine ⟨_, rfl, fun b hb => ?_, rfl, rfl, by simp [State.beltRunOutput, State.withMailbox, State.startZeroRun]⟩
    cases b <;> simp_all [State.agree, State.withMailbox, State.startZeroRun]
  · subst hr
    obtain ⟨hover, hload⟩ := State.overRange_eq hnet hzero hhigh
    have hexcess : netLoad raw.toNat z.oldTare s.block.span = excess := hex.symm
    have hdone : s.takeLoad raw.toNat = s.weighed (s.sampledScale raw.toNat) (s.sampleNotices raw.toNat) := by
      rw [State.takeLoad_eq]
      exact State.removeCause_idle hidle
    refine ⟨_, (exec_loadSample hm).trans (congrArg Host.Outcome.next ((congrArg State.finish hdone).trans
      (State.finish_of_quiet (s := s.weighed _ _) hq))), State.onlyIn_weighed s _ _, ?_, ?_⟩
    · show s.sampledScale raw.toNat = _
      unfold State.sampledScale State.zeroSampled
      rw [hover, hload, hz]
      dsimp only
      rw [hexcess]
      by_cases h20 : 20 < excess <;> simp only [h20, if_true, if_false]
    · refine congrArg (s.port.raiseAll s.count) ?_
      unfold State.sampleNotices
      simp only [hover, hz, hexcess, LoadStatus.reported_iff, Option.some.injEq, exists_eq_left']
  · have hadvance : s.advancePhase = u ∧ u.pour = s.pour ∧ u.scale = s.scale ∧ u.cfg = s.cfg ∧ u.count = s.count ∧ u.line = s.line := by
      rcases hu with ⟨hp, rfl⟩ | ⟨init, head, hp, hcells, h0, rfl⟩ | ⟨init, head, cause, hp, hcells, hpos, hok, hfault, rfl⟩
      · exact ⟨State.advancePhase_inside hp, rfl, rfl, rfl, rfl, rfl⟩
      · refine ⟨?_, rfl, rfl, rfl, rfl, rfl⟩
        rw [State.advancePhase_shifts hp hcells, State.attribute_empty h0, State.countShift_other (by simp [hi]), h0]
        rfl
      · refine ⟨?_, rfl, rfl, rfl, rfl, rfl⟩
        have same := State.translate_congr (s := s)
          (t := { s with belt := ⟨⟨0, false⟩ :: init, 0, s.belt.content - head.mass⟩ }) rfl rfl rfl
        rw [State.advancePhase_shifts hp hcells, State.attribute_spills (cause := cause) hpos (by rw [same]; exact hfault)
          (by rw [same]; exact fun x i h => ⟨hok x i h, by simp [hline]⟩)]
        exact State.countShift_other (by simp [State.spill, hi])
    obtain ⟨ha, hpour, hscale, hcfg, hcount, hl⟩ := hadvance
    obtain ⟨scale, bodies, hpulse, htotal, hgoes, hends⟩ := State.zeroPulse_eq (s := u) (z := z) (by rw [hscale, hz])
    have hblock : u.block = s.block := by rw [State.block, State.block, hcfg]
    rw [hscale, hblock, hcount] at hgoes
    rw [hscale, hblock] at hends
    have hgood : s.scale.status = .ok ∨ s.scale.status = .overrange → s.scale.status.reported = false := by
      rintro (h | h) <;> rw [h] <;> rfl
    refine ⟨u.weighed scale bodies, ?_, State.onlyIn_weighed _ _ _, htotal.trans (by rw [hscale]), fun h => ?_, fun h => ?_⟩
    · rw [exec_beltPulse hm, State.pulse_counts hz hi ha hpour, hpulse]
      exact congrArg _ (State.finish_of_quiet ((congrArg QuayLine.statusDue hl).trans hq))
    · obtain ⟨h1, rfl⟩ := hgoes h
      exact ⟨h1, rfl⟩
    · obtain ⟨h1, h2, h3, h4, h5⟩ := hends h
      refine ⟨h1, h2, fun hs => ?_, fun hs h0 => ?_, fun hs hn => ?_⟩
      · obtain ⟨ht, rfl⟩ := h3 ((LoadStatus.reported_iff _).2 hs)
        exact ⟨ht, by rw [← hcount]; rfl⟩
      · obtain ⟨ht, rfl⟩ := h4 (hgood hs) h0
        exact ⟨ht, by rw [← hcount]; rfl⟩
      · obtain ⟨ht, rfl⟩ := h5 (hgood hs) hn
        refine ⟨ht, ?_⟩
        rw [show (u.weighed scale [.zeroDone z.oldTare (newTare z)]).scale.tare = newTare z from ht, ← hcount]
        rfl
  · have run : exec .stillTimerExpiry s = .next (s.expire s.scale.stillTimer (fun t =>
        (t.onScale (fun c => { c with stillTimer := none })).failZeroRun .noBelt none)).finish := rfl
    rw [run, hd]
    show Host.Outcome.next (State.finish (((s.upTo d).onScale (fun c => { c with stillTimer := none })).failZeroRun .noBelt none)) = _
    unfold State.failZeroRun
    rw [show ((s.upTo d).onScale (fun c => { c with stillTimer := none })).scale.zeroRun = some z from hz]
    exact congrArg _ (State.finish_of_quiet hq)

end

section
/-! The Dust Monitor: samples, silence and acknowledgement, and how a change of a channel reaches the pour, the zero run and the line. -/

namespace Sys2Proof.Machine

variable {s t u v : State}

/-! ## Channel records -/

@[simp] theorem Dust.setChannel_channel (d : Dust) (c : Channel) (r : DustChannel) : (d.setChannel c r).channel c = r := by cases c <;> rfl

theorem Dust.setChannel_other (d : Dust) {c e : Channel} (r : DustChannel) (h : e ≠ c) : (d.setChannel c r).channel e = d.channel e := by
  cases c <;> cases e <;> simp_all [Dust.setChannel, Dust.channel]

@[simp] theorem Dust.setChannel_peers (d : Dust) (c : Channel) (r : DustChannel) : (d.setChannel c r).peers = d.peers := by cases c <;> rfl

theorem DustClass.stops_iff (x : DustClass) : x.stops = true ↔ x = .trip ∨ x = .held := by cases x <;> simp [DustClass.stops]

/-! ## A change of state (R154, R156) -/

/-- The state with the channel's new record, and the notices of its change of class raised (R154). -/
def State.dusted (s : State) (c : Channel) (r : DustChannel) : State :=
  { s with
    dust := s.dust.setChannel c r
    port := s.port.raiseAll s.count (dustNotices c (s.dust.channel c).state r) }

/-- The pour and the zero run hear of a change of class (R156). -/
def State.dustHeard (s : State) (entered : DustClass) : State := s.syncDustOwn.retestThrottle.dustAbort entered

/-- The line hears of a change of the SPOUT class (R156). -/
def State.toLine (s : State) (c : Channel) (old new : DustClass) : State :=
  match c with
  | .spout => s.spoutToLine old new
  | .gallery => s

theorem State.notifyOpt_eq (o : Option NoticeBody) : s.notifyOpt o = { s with port := s.port.raiseAll s.count o.toList } := by
  cases o <;> rfl

theorem dustNotices_eq (c : Channel) (old : DustClass) (r : DustChannel) :
    dustNotices c old r = (leaveNotice c old r).toList ++ (enterNotice c r).toList := by
  have hleave : (leaveNotice c old r).toList = (match old with
      | .alarm => [.dustAlarm c r.state r.last r.sampleHold]
      | .trip | .held => if r.state = .clear ∨ r.state = .failed then [.dustTrip c r.state r.last r.sampleHold] else []
      | .failed => [.dustFailed c r.state r.cause r.latchKept]
      | .clear | .watch => []) := by
    unfold leaveNotice
    cases old with
    | trip => dsimp only; split <;> rfl
    | held => dsimp only; split <;> rfl
    | _ => rfl
  have henter : (enterNotice c r).toList = (match r.state with
      | .trip | .held => [.dustTrip c r.state r.last r.sampleHold]
      | .alarm => [.dustAlarm c r.state r.last r.sampleHold]
      | .failed => [.dustFailed c r.state r.cause r.latchKept]
      | .clear | .watch => []) := by
    unfold enterNotice
    split <;> simp_all [dustTripOf, dustAlarmOf, dustFailedOf]
  rw [hleave, henter]
  rfl

theorem State.applyChannel_same {c : Channel} {r : DustChannel} (h : (s.dust.channel c).state = r.state) :
    s.applyChannel c r = s.onDust (fun d => d.setChannel c r) := if_pos h

theorem State.applyChannel_changes {c : Channel} {r : DustChannel} (h : (s.dust.channel c).state ≠ r.state) :
    s.applyChannel c r = ((s.dusted c r).dustHeard r.state).toLine c (s.dust.channel c).state r.state := by
  have noticed : ((s.onDust (fun d => d.setChannel c r)).notifyOpt (leaveNotice c (s.dust.channel c).state r)).notifyOpt (enterNotice c r)
      = s.dusted c r := by
    rw [State.notifyOpt_eq, State.notifyOpt_eq, State.dusted, dustNotices_eq, LocalPort.raiseAll_append]
    rfl
  unfold State.applyChannel
  rw [if_neg h, noticed]
  cases c <;> rfl

/-! ## What the change leaves of the pour -/

theorem State.syncDustOwn_idle (h : s.lineOpen = false ∨ s.pour.causes.has .dustOwn = s.dustOwn) : s.syncDustOwn = s := by
  unfold State.syncDustOwn State.syncCause
  cases hd : s.dustOwn with
  | true => exact State.addCause_idle (h.imp_right (·.trans hd))
  | false => exact State.removeCause_idle (h.imp_right (·.trans hd))

theorem State.retestThrottle_shut (h : s.lineOpen = false ∨ s.pour.state = .suspended) : s.retestThrottle = s := by
  have hne : ∀ x : PourState, x.lineOpen = true → x ≠ .suspended → s.pour.state ≠ x := by
    rintro x hx hs rfl
    rcases h with h | h
    · exact Bool.false_ne_true (h.symm.trans hx)
    · exact hs h
  exact State.retestThrottle_idle (hne _ rfl nofun) (hne _ rfl nofun) fun h => absurd h (hne _ rfl nofun)

theorem State.dustAbort_idle {entered : DustClass} (h : entered.stops = false ∨ s.scale.zeroRun = none) : s.dustAbort entered = s := by
  unfold State.dustAbort
  rcases h with h | h
  · rw [h]
    rfl
  · split
    · unfold State.failZeroRun
      rw [h]
    · rfl

theorem State.dustAbort_ends {entered : DustClass} (h : entered.stops = true) (hz : s.scale.zeroRun.isSome) : s.dustAbort entered
    = s.weighed { s.scale with zeroRun := none, stillTimer := none } [.zeroFailed .dust none] := by
  obtain ⟨z, hz⟩ := Option.isSome_iff_exists.1 hz
  unfold State.dustAbort State.failZeroRun
  rw [h, hz]
  rfl

theorem State.onlyIn_dustAbort (s : State) (entered : DustClass) : s.onlyIn (s.dustAbort entered) [.scale, .port] := by
  by_cases h : entered.stops = true ∧ s.scale.zeroRun.isSome
  · rw [State.dustAbort_ends h.1 h.2]
    exact State.onlyIn_weighed _ _ _
  · rw [State.dustAbort_idle]
    · exact .refl _ _
    · by_cases he : entered.stops = true
      · exact .inr (by simpa [he] using h)
      · exact .inl (by simpa using he)

/-- With no line open, or SUSPENDED with DUST_OWN as it stands, the pour does not change. -/
theorem State.dustHeard_shut (h : s.lineOpen = false ∨ (s.pour.state = .suspended ∧ s.pour.causes.has .dustOwn = s.dustOwn))
    (entered : DustClass) : s.dustHeard entered = s.dustAbort entered := by
  unfold State.dustHeard
  rw [State.syncDustOwn_idle (h.imp_right (·.2)), State.retestThrottle_shut (h.imp_right (·.1))]

/-- DUST_OWN comes to a pour with its gate open (R133). -/
theorem State.dustHeard_stops {k : OwnClaim} {entered : DustClass} (hs : s.pour.state = .pouring ∨ s.pour.state = .throttled)
    (hg : s.pour.gate = .opened) (hc : s.pour.causes = CauseSet.empty) (hz : s.scale.zeroRun = none) (hk : s.fill.claim = some k)
    (hd : s.dustOwn = true) : s.dustHeard entered = s.poured (s.stoppedBy .dustOwn)
      [.pourSuspended k.slot k.hold (CauseSet.empty.put true .dustOwn)] s.bills.countSuspension true := by
  have hflow : s.pour.state.flowing = true := by rcases hs with h | h <;> rw [h] <;> rfl
  have hadd : s.syncDustOwn = s.poured (s.stoppedBy .dustOwn)
      [.pourSuspended k.slot k.hold (CauseSet.empty.put true .dustOwn)] s.bills.countSuspension true := by
    unfold State.syncDustOwn State.syncCause
    rw [hd, if_pos rfl, State.addCause_suspends (by decide) hflow (by rw [hc]; rfl) hk, Pour.suspended_stoppedBy hc hg rfl, hc]
  unfold State.dustHeard
  rw [hadd, State.retestThrottle_shut (.inr rfl)]
  exact State.dustAbort_idle (.inr hz)

/-- DUST_OWN, the last cause, goes from a suspended pour with its belt at rest (R135). -/
theorem State.dustHeard_resumes {k : OwnClaim} {entered : DustClass} (hs : s.pour.state = .suspended)
    (hc : s.pour.causes = CauseSet.empty.put true .dustOwn) (hb : s.pour.beltOn = false) (hr : s.inputs.beltRunning = false)
    (hk : s.fill.claim = some k) (ht : s.translate = .ok k.slot k.hold) (hd : s.dustOwn = false) (he : entered.stops = false) :
    s.dustHeard entered = s.poured s.resumed [.pourSuspended k.slot k.hold CauseSet.empty] s.bills true := by
  have hgone : s.syncDustOwn = s.poured s.resumed [.pourSuspended k.slot k.hold CauseSet.empty] s.bills true := by
    unfold State.syncDustOwn State.syncCause
    rw [hd, if_neg Bool.false_ne_true, State.removeCause_resumes hs hc hk ht hb hr]
    rfl
  unfold State.dustHeard
  rw [hgone, State.retestThrottle_idle (by simp [State.resumed]) (by simp [State.resumed]) (by simp [State.resumed])]
  exact State.dustAbort_idle (.inl he)

/-- With no cause held and none of DUST_OWN to come, only the throttle condition acts. -/
theorem State.dustHeard_throttle {entered : DustClass} (hc : s.pour.causes = CauseSet.empty) (hd : s.dustOwn = false)
    (he : entered.stops = false ∨ s.retestThrottle.scale.zeroRun = none) : s.dustHeard entered = s.retestThrottle := by
  unfold State.dustHeard
  rw [State.syncDustOwn_idle (.inr (by rw [hc, hd]; rfl))]
  exact State.dustAbort_idle he

theorem State.throttle_of_spout (h : s.dust.spout.state = .alarm ∨ s.dust.spout.state = .failed) : s.throttle = true := by
  unfold State.throttle
  rcases h with h | h <;> rw [h] <;> rfl

theorem State.peerReports_none {x : DustClass} (h : ∀ q ∈ s.dust.peers, q.freshness = .fresh → q.spout ≠ x) :
    s.peerReports x = false := by
  unfold State.peerReports
  split
  · rw [List.any_eq_false]
    intro q hq
    cases hf : q.freshness == .fresh with
    | false => simp
    | true => simp [h q hq (by simpa using hf)]
  · rfl

theorem State.dusted_dustOwn {c : Channel} {r : DustChannel} : (s.dusted c r).dustOwn = false
    ↔ r.state.stops = false ∧ ∀ e, e ≠ c → (s.dust.channel e).state ≠ .trip ∧ (s.dust.channel e).state ≠ .held := by
  have stops : r.state.stops = false ↔ r.state ≠ .trip ∧ r.state ≠ .held := by cases r.state <;> simp [DustClass.stops]
  have same : (s.dusted c r).dust.channel c = r := Dust.setChannel_channel _ _ _
  have other : ∀ e, e ≠ c → (s.dusted c r).dust.channel e = s.dust.channel e := fun e h => Dust.setChannel_other _ _ h
  rw [State.dustOwn_clear, stops]
  constructor
  · intro h
    exact ⟨same ▸ h c, fun e he => other e he ▸ h e⟩
  · rintro ⟨hr, h⟩ e
    by_cases he : e = c
    · subst he
      rw [same]
      exact hr
    · rw [other e he]
      exact h e he

theorem State.onlyIn_dusted (s : State) (c : Channel) (r : DustChannel) : s.onlyIn (s.dusted c r) [.dust, .port] := by
  intro b hb
  cases b <;> simp_all [State.agree, State.dusted]

/-! ## What the change leaves of the line -/

theorem State.onlyIn_toLine (s : State) (c : Channel) (old new : DustClass) : s.onlyIn (s.toLine c old new) [.line] := by
  cases c with
  | gallery => exact .refl s _
  | spout =>
    have issued : s.onlyIn s.issueDust [.line] := by
      unfold State.issueDust
      split
      · exact State.onlyIn_onLine s _
      · exact .refl s _
    show s.onlyIn (s.spoutToLine old new) [.line]
    unfold State.spoutToLine
    split
    · exact issued.add (by decide) (State.onlyIn_onLine _ _)
    · exact State.onlyIn_onLine s _

theorem mem_enterOwn_other {e q : OwnEntry} {queue : List OwnEntry} (h : q ∈ queue) (hk : q.kind ≠ e.kind) : q ∈ enterOwn e queue := by
  have hkeep : (if q.kind == e.kind then e else q) = q := if_neg (by simpa using hk)
  unfold enterOwn
  split
  · exact h
  · split
    · exact List.mem_map.2 ⟨q, h, hkeep⟩
    · split
      · cases hu : q.kind.urgent <;> simp [h, hu]
      · exact List.mem_append_left _ h

/-- The end of a command keeps every own frame but a STATUS. -/
theorem State.finish_own {e : OwnEntry} (h : e ∈ s.line.own) (hk : e.kind ≠ .status) : e ∈ s.finish.line.own := by
  unfold State.finish
  split
  · split
    · split
      · exact h
      · have hown := (s.line.issue_timers .status (frameBytes 0x01 s.station 0 (s.report .run).payload)).1
        exact hown ▸ mem_enterOwn_other h hk
    · exact h
  · exact h

theorem mem_of_enterOwn {e q : OwnEntry} {queue : List OwnEntry} (h : q ∈ enterOwn e queue) (hk : q.kind ≠ e.kind) : q ∈ queue := by
  have hne : q ≠ e := fun he => hk (by rw [he])
  unfold enterOwn at h
  split at h
  · exact h
  · split at h
    · obtain ⟨p, hp, hq⟩ := List.mem_map.1 h
      split at hq
      · exact absurd hq.symm hne
      · exact hq ▸ hp
    · split at h
      · simp only [List.mem_append, List.mem_filter, List.mem_singleton] at h
        rcases h with (h | h) | h
        · exact h.1
        · exact absurd h hne
        · exact h.1
      · simp only [List.mem_append, List.mem_singleton] at h
        exact h.resolve_right hne

/-- The end of a command brings no own frame but a STATUS. -/
theorem State.own_of_finish {e : OwnEntry} (h : e ∈ s.finish.line.own) (hk : e.kind ≠ .status) : e ∈ s.line.own := by
  unfold State.finish at h
  split at h
  · split at h
    · split at h
      · exact h
      · have hown := (s.line.issue_timers .status (frameBytes 0x01 s.station 0 (s.report .run).payload)).1
        exact mem_of_enterOwn (hown ▸ h) hk
    · exact h
  · exact h

/-- The DUST frame of a change of SPOUT into or out of TRIP (R54, R156). -/
theorem State.spoutToLine_issues {old new : DustClass} (hr : s.inRun = true) (h : old = .trip ∨ new = .trip)
    (hc : s.line.up.chainEnd = false ∨ s.line.down.chainEnd = false) :
    ∃ e ∈ (s.spoutToLine old new).line.own, e.kind = .dust ∧ e.upSent = s.line.up.chainEnd ∧ e.downSent = s.line.down.chainEnd
      ∧ e.bytes = frameBytes 0x03 s.station 0
        (presence [s.translate.hold?.isSome] ++ [s.dust.spout.state.code] ++ holdField s.translate.hold?) := by
  have hown := (s.line.issue_timers .dust (frameBytes 0x03 s.station 0
    (presence [s.translate.hold?.isSome] ++ [s.dust.spout.state.code] ++ holdField s.translate.hold?))).1
  have hline : (s.spoutToLine old new).line.own = (s.line.issue .dust (frameBytes 0x03 s.station 0
      (presence [s.translate.hold?.isSome] ++ [s.dust.spout.state.code] ++ holdField s.translate.hold?))).own := by
    unfold State.spoutToLine State.issueDust
    rw [if_pos h, if_pos hr]
    rfl
  rw [hline, hown]
  refine ⟨_, mem_enterOwn _ _ ?_, rfl, Bool.or_false _, Bool.or_false _, rfl⟩
  show ((s.line.up.chainEnd || false) && (s.line.down.chainEnd || false)) = false
  rcases hc with h | h <;> simp [h]

theorem State.dustHeard_kept (s : State) (entered : DustClass) : (s.dustHeard entered).cfg = s.cfg ∧ (s.dustHeard entered).dust = s.dust
    ∧ (s.dustHeard entered).count = s.count ∧ s.port.Kept (s.dustHeard entered).port
    ∧ ∃ due, (s.dustHeard entered).line = { s.line with statusDue := due } := by
  have pour := (State.PourKept.refl s).syncDustOwn.retestThrottle
  have zero : s.syncDustOwn.retestThrottle.ScaleOnly (s.dustHeard entered) := by
    unfold State.dustHeard State.dustAbort
    split
    · exact (State.ScaleOnly.refl _).failZeroRun _ _
    · exact .refl _
  rw [zero.state]
  exact ⟨pour.cfg, pour.dust, pour.count, pour.port.trans zero.port, _, pour.line⟩

/-- A change of a channel's class, to the end of its command. -/
theorem State.applyChannel_finish {c : Channel} {r : DustChannel} (h : (s.dust.channel c).state ≠ r.state) :
    ((s.dusted c r).dustHeard r.state).onlyIn (s.applyChannel c r).finish [.line]
      ∧ (s.applyChannel c r).finish.dust = s.dust.setChannel c r
      ∧ (c = .gallery → ((s.dusted c r).dustHeard r.state).line.statusDue = false →
          (s.applyChannel c r).finish = (s.dusted c r).dustHeard r.state)
      ∧ (c = .spout → s.port.mode = .run → ((s.dust.channel c).state = .trip ∨ r.state = .trip) →
          (s.line.up.chainEnd = false ∨ s.line.down.chainEnd = false) →
          ∃ e ∈ (s.applyChannel c r).finish.line.own, e.kind = .dust ∧ e.upSent = s.line.up.chainEnd ∧ e.downSent = s.line.down.chainEnd
            ∧ e.bytes = frameBytes 0x03 s.station 0
              (presence [(s.applyChannel c r).finish.translate.hold?.isSome] ++ [r.state.code]
                ++ holdField (s.applyChannel c r).finish.translate.hold?)) := by
  rw [State.applyChannel_changes h]
  obtain ⟨hcfg, hdust, -, hport, due, hline⟩ := (s.dusted c r).dustHeard_kept r.state
  have honly : ((s.dusted c r).dustHeard r.state).onlyIn
      (((s.dusted c r).dustHeard r.state).toLine c (s.dust.channel c).state r.state).finish [.line] :=
    (State.onlyIn_toLine _ c _ _).add (by decide) (State.onlyIn_finish _)
  refine ⟨honly, Eq.trans (honly .dust (by decide)) hdust, ?_, ?_⟩
  · rintro rfl hd
    exact State.finish_of_quiet hd
  · rintro rfl hm htrip hend
    have hrun : ((s.dusted .spout r).dustHeard r.state).inRun = true := by
      have hmode : ((s.dusted .spout r).dustHeard r.state).port.mode = s.port.mode :=
        hport.mode.trans (LocalPort.raiseAll_kept _ _ _).mode
      simp [State.inRun, hmode, hm]
    obtain ⟨e, he, hkind, hup, hdown, hbytes⟩ := State.spoutToLine_issues (s := (s.dusted .spout r).dustHeard r.state) hrun htrip
      (by rw [hline]; exact hend)
    have hcall : (((s.dusted .spout r).dustHeard r.state).toLine .spout (s.dust.channel .spout).state r.state).finish.translate
        = ((s.dusted .spout r).dustHeard r.state).translate :=
      State.translate_congr (honly .cfg (by decide)) (congrArg Travel.position (honly .travel (by decide))) (honly .berths (by decide))
    refine ⟨e, State.finish_own he (by rw [hkind]; nofun), hkind, by rw [hup, hline]; rfl, by rw [hdown, hline]; rfl, ?_⟩
    rw [hbytes, hcall, hdust, State.station, State.station, State.block, State.block, hcfg]
    rfl

theorem State.dustSampled_eq (c : Channel) (value : BitVec 16) (fault : Bool) :
    s.takeDust c value.toNat fault = s.applyChannel c (s.dustSampled c value fault) := by cases c <;> rfl

theorem exec_dustSample {c : Channel} {value : BitVec 16} {fault : Bool} (h : s.port.mode ≠ .config) :
    exec (.dustSample c value fault) s = .next (s.applyChannel c (s.dustSampled c value fault)).finish := by
  show Host.Outcome.next (State.finish (if s.configured then _ else _)) = _
  rw [if_pos (by simpa [State.configured] using h), State.dustSampled_eq]

end Sys2Proof.Machine

open Sys2Proof Sys2Proof.Machine

/-- Settles O28. -/
theorem dustChangesReachThePour : Obligations.DustChangesReachThePour := by
  intro s c value fault u old stops hq hm hu hold hne hstops
  subst hold hstops
  have hne' : (s.dust.channel c).state ≠ u.state := fun e => hne e.symm
  obtain ⟨honly, hdust, hgallery, hframe⟩ := State.applyChannel_finish hne'
  have hdusted := State.onlyIn_dusted s c u
  refine ⟨_, hu ▸ exec_dustSample hm, by rw [hdust]; exact Dust.setChannel_channel _ _ _,
    fun e he => by rw [hdust]; exact Dust.setChannel_other _ _ he, by rw [hdust]; exact Dust.setChannel_peers _ _ _,
    fun hidle => ?_, hframe, fun k hstop hs hg hc hz hk => ?_, fun k hstop hother hs hc hb hr hk ht => ?_, fun hspout hc h1 h2 => ?_⟩
  · have hlo : (s.dusted c u).lineOpen = false := show s.pour.state.lineOpen = false by rw [hidle]; rfl
    have hheard := State.dustHeard_shut (.inl hlo) u.state
    rw [hheard] at honly hgallery
    have habort := State.onlyIn_dustAbort (s.dusted c u) u.state
    have hline : ((s.dusted c u).dustAbort u.state).line = s.line := habort .line (by decide)
    refine ⟨((hdusted.mono (by decide)).trans (habort.mono (by decide))).add (by decide) honly, fun hgal => ?_, fun hstop hz => ?_,
      fun hrest => ?_⟩
    · rw [hgallery hgal (by rw [hline]; exact hq)]
      exact hline
    · have hends := State.dustAbort_ends (s := s.dusted c u) ((DustClass.stops_iff _).2 hstop) hz
      rw [hends] at honly
      refine ⟨honly .scale (by decide), Eq.trans (honly .port (by decide)) ?_⟩
      rw [LocalPort.raiseAll_append]
      rfl
    · have hrests := State.dustAbort_idle (s := s.dusted c u) (entered := u.state)
        (hrest.imp_left fun h => by rw [← Bool.not_eq_true, DustClass.stops_iff]; exact h)
      rw [hrests] at honly
      exact ⟨honly .scale (by decide), honly .port (by decide)⟩
  · have hd : (s.dusted c u).dustOwn = true := by
      rw [← Bool.not_eq_false, State.dusted_dustOwn, (DustClass.stops_iff _).2 hstop]
      simp
    have hheard := State.dustHeard_stops (entered := u.state) (s := s.dusted c u) hs hg hc hz hk hd
    rw [hheard] at honly
    refine ⟨((hdusted.mono (by decide)).trans ((State.onlyIn_poured _ _ _ _ _).mono (by decide))).add (by decide) honly,
      honly .pour (by decide), honly .bills (by decide), Eq.trans (honly .port (by decide)) ?_⟩
    rw [LocalPort.raiseAll_append]
    rfl
  · have hnot : u.state.stops = false := by rw [← Bool.not_eq_true, DustClass.stops_iff]; exact hstop
    have hheard := State.dustHeard_resumes (entered := u.state) (s := s.dusted c u) hs hc hb hr hk
      ((State.translate_congr rfl rfl rfl).trans ht) (State.dusted_dustOwn.2 ⟨hnot, hother⟩) hnot
    rw [hheard] at honly
    refine ⟨((hdusted.mono (by decide)).trans ((State.onlyIn_poured_pour _ _ _ _).mono (by decide))).add (by decide) honly,
      honly .pour (by decide), Eq.trans (honly .port (by decide)) ?_⟩
    rw [LocalPort.raiseAll_append]
    rfl
  · subst hspout
    have hspout : (s.dusted .spout u).dust.spout = u := rfl
    have hthrottled : u.state.stops = false → ((s.dusted .spout u).dustHeard u.state) = (s.dusted .spout u).retestThrottle := fun h =>
      State.dustHeard_throttle hc (State.dusted_dustOwn.2 ⟨h, fun e he => by cases e with
        | spout => exact absurd rfl he
        | gallery => exact ⟨h1, h2⟩⟩) (.inl h)
    refine ⟨fun hu hs hg => ?_, fun hu hs hp hg => ?_, fun hu hpeers hs hg => ?_⟩
    · rw [hthrottled (by rcases hu with h | h <;> rw [h] <;> rfl),
        State.retestThrottle_slows (by exact hs) (State.throttle_of_spout (by exact hu)) (by exact hg)] at honly
      exact honly .pour (by decide)
    · rw [hthrottled (by rcases hu with h | h <;> rw [h] <;> rfl),
        State.retestThrottle_waiting (by exact hs) (by exact hp) (by exact hg)] at honly
      refine Eq.trans (honly .pour (by decide)) ?_
      rw [State.openRate, State.throttle_of_spout (by exact hu)]
      rfl
    · have hquick : (s.dusted .spout u).throttle = false := by
        unfold State.throttle
        rw [State.peerReports_none (s := s.dusted .spout u) hpeers, hspout]
        rcases hu with h | h <;> rw [h] <;> rfl
      rw [hthrottled (by rcases hu with h | h <;> rw [h] <;> rfl),
        State.retestThrottle_quickens (by exact hs) hquick (by exact hg)] at honly
      exact honly .pour (by decide)

/-- Settles O26. -/
theorem dustChannelsSampleFailAndRecover : Obligations.DustChannelsSampleFailAndRecover := by
  refine ⟨fun s c value fault hq => ⟨fun hm => ?_, fun hm u hu => ⟨fun hsame => ?_, fun t ht => ?_⟩⟩,
    fun r th n => ⟨fun h => ?_, fun h => ?_⟩, fun s c d u old hq hd hu hold => ?_⟩
  · show Host.Outcome.next (State.finish (if s.configured then _ else _)) = _
    rw [State.unconfigured hm]
    exact congrArg _ (State.finish_of_quiet hq)
  · rw [exec_dustSample hm, ← hu, State.applyChannel_same hsame.symm]
    refine ⟨_, congrArg _ (State.finish_of_quiet hq), fun b hb => by cases b <;> simp_all [State.agree], Dust.setChannel_channel _ _ _,
      Dust.setChannel_peers _ _ _, fun e he => Dust.setChannel_other _ _ he⟩
  · rw [exec_dustSample hm, ← hu] at ht
    cases ht
    by_cases hsame : (s.dust.channel c).state = u.state
    · rw [State.applyChannel_same hsame, State.finish_dust]
      exact Dust.setChannel_channel _ _ _
    · rw [(State.applyChannel_finish hsame).2.1]
      exact Dust.setChannel_channel _ _ _
  · simp [DustChannel.sample, DustChannel.silent, DustChannel.fail, h]
  · refine ⟨by simp [DustChannel.sample, h], by simp [DustChannel.silent, h], fun hg => ?_, fun hg => ?_⟩
    · simp [DustChannel.sample, DustChannel.recover, h, Config.goodRunLength, hg]
    · simp [DustChannel.sample, DustChannel.recover, h, Config.goodRunLength, hg]
  · have hcall : exec (.dustSampleTimerExpiry c) s = .next ((s.upTo d).applyChannel c u).finish := by
      have run : exec (.dustSampleTimerExpiry c) s = .next (s.expire (s.dust.channel c).timer (fun t =>
          t.applyChannel c (t.dust.channel c).silent)).finish := rfl
      rw [run, hd, hu]
      rfl
    have hfailed : u.state = .failed := by
      rw [hu]
      unfold DustChannel.silent
      split
      · assumption
      · rfl
    have hupto := State.onlyIn_upTo s d
    rw [hcall]
    by_cases hwas : old = .failed
    · have hsame : ((s.upTo d).dust.channel c).state = u.state := by
        rw [hfailed, ← hwas, hold]
        rfl
      rw [State.applyChannel_same hsame, State.finish_of_quiet (by exact hq)]
      refine ⟨_, rfl, rfl, Dust.setChannel_channel _ _ _, Dust.setChannel_peers _ _ _, fun e he => Dust.setChannel_other _ _ he,
        fun _ => ?_, fun h => absurd hwas h, ?_, ?_, fun _ h => absurd hwas h⟩
      · intro b hb
        cases b <;> simp_all [State.agree]
      · intro _ _ h
        rw [hwas] at h
        cases h
      · rintro e - h
        rw [hwas] at h
        rcases h with h | h <;> cases h
    · have hne : ((s.upTo d).dust.channel c).state ≠ u.state := by
        rw [hfailed]
        exact fun e => hwas (hold.trans e)
      have hdusted := State.onlyIn_dusted (s.upTo d) c u
      have hnot : u.state.stops = false := by rw [hfailed]; rfl
      obtain ⟨honly, hdust, hgallery, hframe⟩ := State.applyChannel_finish hne
      obtain ⟨-, -, hcount, -⟩ := ((s.upTo d).dusted c u).dustHeard_kept u.state
      have htcount : ((s.upTo d).applyChannel c u).finish.count = max s.count d := Eq.trans (honly .count (by decide)) hcount
      have hshut : ((s.upTo d).dusted c u).lineOpen = false ∨ (((s.upTo d).dusted c u).pour.state = .suspended
          ∧ ((s.upTo d).dusted c u).pour.causes.has .dustOwn = ((s.upTo d).dusted c u).dustOwn) →
          ((s.upTo d).dusted c u).dustHeard u.state = (s.upTo d).dusted c u := fun h => by
        rw [State.dustHeard_shut h, State.dustAbort_idle (.inl hnot)]
      refine ⟨_, rfl, htcount, by rw [hdust]; exact Dust.setChannel_channel _ _ _, by rw [hdust]; exact Dust.setChannel_peers _ _ _,
        fun e he => by rw [hdust]; exact Dust.setChannel_other _ _ he, fun h => absurd h hwas, fun _ hlo => ?_, ?_, fun e hec htrip hs hown => ?_,
        fun hspout _ hc h1 h2 => ?_⟩
      · rw [hshut (.inl hlo)] at honly hgallery
        refine ⟨((hupto.mono (by decide)).trans (hdusted.mono (by decide))).add (by decide) honly, fun hgal => ?_, ?_⟩
        · rw [hgallery hgal hq]
          rfl
        · rw [htcount, hold]
          exact honly .port (by decide)
      · rintro hspout hm htrip hend
        have hissued := hframe hspout hm (.inl (by rw [← htrip, hold]; rfl)) hend
        rw [hfailed] at hissued
        exact hissued
      · have hport : ∀ n, dustNotices c old u ++ n = dustNotices c ((s.upTo d).dust.channel c).state u ++ n := fun n => by
          rw [hold]
          rfl
        refine ⟨fun hother => ?_, fun k h1 h2 hc hb hr hk ht => ?_⟩
        · have hstays : ((s.upTo d).dusted c u).dustOwn = true := by
            rw [← Bool.not_eq_false, State.dusted_dustOwn]
            rintro ⟨-, h⟩
            exact hother.elim (h e hec).1 (h e hec).2
          rw [hshut (.inr ⟨hs, Eq.trans hown hstays.symm⟩)] at honly
          refine ⟨((hupto.mono (by decide)).trans (hdusted.mono (by decide))).add (by decide) honly, ?_⟩
          rw [htcount, hold]
          exact honly .port (by decide)
        · have hgone : ((s.upTo d).dusted c u).dustOwn = false := State.dusted_dustOwn.2 ⟨hnot, fun x hx => by
            obtain rfl : x = e := by cases x <;> cases e <;> cases c <;> simp_all
            exact ⟨h1, h2⟩⟩
          rw [State.dustHeard_resumes (s := (s.upTo d).dusted c u) hs hc hb hr hk ((State.translate_congr rfl rfl rfl).trans ht) hgone hnot]
            at honly
          refine ⟨(((hupto.mono (by decide)).trans (hdusted.mono (by decide))).trans ((State.onlyIn_poured_pour _ _ _ _).mono (by decide))).add
            (by decide) honly, Eq.trans (honly .pour (by decide)) ?_, Eq.trans (honly .port (by decide)) ?_⟩
          · rw [htcount]
            rfl
          · rw [htcount, hport, LocalPort.raiseAll_append]
            rfl
      · subst hspout
        have hclear : ((s.upTo d).dusted .spout u).dustOwn = false := State.dusted_dustOwn.2 ⟨hnot, fun e he => by cases e with
          | spout => exact absurd rfl he
          | gallery => exact ⟨h1, h2⟩⟩
        have hthrottle : ((s.upTo d).dusted .spout u).throttle = true := State.throttle_of_spout (.inr hfailed)
        have hport : s.port.raiseAll (max s.count d) (dustNotices .spout old u) = ((s.upTo d).dusted .spout u).port := by
          rw [hold]
          rfl
        rw [State.dustHeard_throttle (s := (s.upTo d).dusted .spout u) hc hclear (.inl hnot)] at honly
        refine ⟨fun hs hg => ?_, fun hs hp hg => ?_⟩
        · rw [State.retestThrottle_slows (by exact hs) hthrottle (by exact hg)] at honly
          refine ⟨(((hupto.mono (by decide)).trans (hdusted.mono (by decide))).trans ((State.onlyIn_poured_pour _ _ _ _).mono (by decide))).add
            (by decide) honly, ?_, honly .pour (by decide)⟩
          rw [htcount, hport]
          exact honly .port (by decide)
        · rw [State.retestThrottle_waiting (by exact hs) (by exact hp) (by exact hg)] at honly
          refine ⟨(((hupto.mono (by decide)).trans (hdusted.mono (by decide))).trans ((State.onlyIn_poured_pour _ _ _ _).mono (by decide))).add
            (by decide) honly, ?_, Eq.trans (honly .pour (by decide)) ?_⟩
          · rw [htcount, hport]
            exact honly .port (by decide)
          · rw [State.openRate, hthrottle]
            rfl

/-- Settles O27. -/
theorem dustAcknowledgeActsByTheChannelsState : Obligations.DustAcknowledgeActsByTheChannelsState := by
  intro s n c hq hm hpost hn
  have hcode : firstFailure [fieldIn 1 1 2 n] = none ∧ channelOf n = c := by
    rcases hn with ⟨rfl, rfl⟩ | ⟨rfl, rfl⟩ <;> exact ⟨by decide, rfl⟩
  have hcall : exec .dustAcknowledge s = .next (match (s.dust.channel c).acknowledge with
      | none => s.refuse (.notTripped, 0)
      | some r => (s.applyChannel c r).done []).finish := by
    rw [show Instr.dustAcknowledge = Request.row (.dustAcknowledge n) from rfl, exec_row hpost]
    show Host.Outcome.next (State.finish (s.whenMode inRunBypass (s.takeDustAcknowledge n))) = _
    rw [State.whenMode_allowed (PartMode.mem_runBypass hm)]
    unfold State.takeDustAcknowledge
    rw [hcode.1, hcode.2]
    cases (s.dust.channel c).acknowledge <;> rfl
  have hsame : ∀ r : DustChannel, (s.dust.channel c).acknowledge = some r → (s.dust.channel c).state = r.state →
      ∃ t, exec .dustAcknowledge s = .next t ∧ s.onlyIn t [.port, .dust] ∧ t.port = { s.port with mailbox := doneReply [] }
        ∧ t.dust.channel c = r ∧ t.dust.peers = s.dust.peers ∧ ∀ e, e ≠ c → t.dust.channel e = s.dust.channel e := by
    intro r hr hstate
    rw [hcall, hr]
    dsimp only
    rw [State.applyChannel_same hstate, State.done, State.finish_reply (s := s.onDust _) hq]
    refine ⟨_, rfl, fun b hb => by cases b <;> simp_all [State.agree, State.withMailbox], rfl, Dust.setChannel_channel _ _ _,
      Dust.setChannel_peers _ _ _, fun e he => Dust.setChannel_other _ _ he⟩
  refine ⟨fun hs => ?_, fun hs => ?_, fun hs hl => ?_, fun hs => ?_⟩
  · exact hsame { s.dust.channel c with acknowledged := true } (by simp [DustChannel.acknowledge, hs]) rfl
  · obtain ⟨r, hrec, hr⟩ : ∃ r : DustChannel, r = { s.dust.channel c with state := .clear, acknowledged := false }
        ∧ (s.dust.channel c).acknowledge = some r := ⟨_, rfl, by simp [DustChannel.acknowledge, hs]⟩
    have hclear : r.state = .clear := by rw [hrec]
    have hne : (s.dust.channel c).state ≠ r.state := by rw [hs, hclear]; nofun
    have hnot : r.state.stops = false := by rw [hclear]; rfl
    have hnotices : dustNotices c (s.dust.channel c).state r = [.dustTrip c .clear (s.dust.channel c).last (s.dust.channel c).sampleHold] := by
      rw [hs, hrec]
      rfl
    have hdusted := State.onlyIn_dusted s c r
    obtain ⟨-, hdust, -, -, due, hline⟩ := (s.dusted c r).dustHeard_kept r.state
    have hmarks : ((s.dusted c r).dustHeard r.state).toLine c .held r.state = (match c with
        | .spout => ((s.dusted c r).dustHeard r.state).markStatus
        | .gallery => (s.dusted c r).dustHeard r.state) := by
      rw [hclear]
      cases c <;> rfl
    have hown : (((s.dusted c r).dustHeard r.state).toLine c .held r.state).line.own = s.line.own := by
      have hkept : ((s.dusted c r).dustHeard r.state).line.own = s.line.own := by rw [hline]; rfl
      rw [hmarks]
      cases c with
      | spout => exact hkept
      | gallery => exact hkept
    have hlast : exec .dustAcknowledge s
        = .next ((((s.dusted c r).dustHeard r.state).toLine c .held r.state).onPort
            (fun p => { p with mailbox := doneReply [] })).finish := by
      rw [hcall, hr]
      dsimp only
      rw [State.applyChannel_changes hne, hs]
      rfl
    have honly := State.onlyIn_toLine ((s.dusted c r).dustHeard r.state) c .held r.state
    obtain ⟨t, ht, hkeep, hport, htown, htquiet⟩ : ∃ t, exec .dustAcknowledge s = .next t
        ∧ ((s.dusted c r).dustHeard r.state).onlyIn t [.port, .line]
        ∧ t.port = { ((s.dusted c r).dustHeard r.state).port with mailbox := doneReply [] }
        ∧ (∀ e ∈ t.line.own, e.kind = .dust → e ∈ s.line.own)
        ∧ (c = .gallery → ((s.dusted c r).dustHeard r.state).line = s.line → t.line = s.line) := by
      refine ⟨_, hlast, ?_, ?_, fun e he hk => ?_, ?_⟩
      · exact ((honly.mono (by decide)).add (by decide) (State.onlyIn_onPort _ _)).add (by decide) (State.onlyIn_finish _)
      · refine (State.finish_port _).trans ?_
        show { (((s.dusted c r).dustHeard r.state).toLine c .held r.state).port with mailbox := doneReply [] } = _
        rw [honly .port (by decide)]
      · have hmem := State.own_of_finish he (by rw [hk]; nofun)
        exact hown ▸ hmem
      · rintro rfl hl
        rw [State.finish_onPort (by rw [hmarks]; exact (congrArg QuayLine.statusDue hl).trans hq)]
        exact hl
    have hshut : (s.dusted c r).lineOpen = false ∨ ((s.dusted c r).pour.state = .suspended
        ∧ (s.dusted c r).pour.causes.has .dustOwn = (s.dusted c r).dustOwn) → (s.dusted c r).dustHeard r.state = s.dusted c r := fun h => by
      rw [State.dustHeard_shut h, State.dustAbort_idle (.inl hnot)]
    have hstill : (s.dusted c r).dustHeard r.state = s.dusted c r → s.onlyIn t [.port, .dust, .line]
        ∧ t.port = { s.port.raise s.count (.dustTrip c .clear (s.dust.channel c).last (s.dust.channel c).sampleHold) with
            mailbox := doneReply [] } := fun h => by
      rw [h] at hkeep hport
      refine ⟨(hdusted.mono (by decide)).trans (hkeep.mono (by decide)), hport.trans ?_⟩
      rw [State.dusted, hnotices]
      rfl
    have hchannels : t.dust = s.dust.setChannel c r := Eq.trans (hkeep .dust (by decide)) hdust
    refine ⟨t, ht, by rw [hchannels, ← hrec]; exact Dust.setChannel_channel _ _ _, by rw [hchannels]; exact Dust.setChannel_peers _ _ _,
      fun e he => by rw [hchannels]; exact Dust.setChannel_other _ _ he, by rw [hport], htown, fun hg hlo => ?_, fun hlo => ?_,
      fun e he hsus hheld hother => ?_, fun e k he hsus hcauses h1 h2 hb hrun hk htip => ?_⟩
    · exact htquiet hg (by rw [hshut (.inl hlo)]; rfl)
    · exact hstill (hshut (.inl hlo))
    · have hstays : (s.dusted c r).dustOwn = true := by
        rw [← Bool.not_eq_false, State.dusted_dustOwn]
        rintro ⟨-, h⟩
        exact hother.elim (h e he).1 (h e he).2
      exact hstill (hshut (.inr ⟨hsus, Eq.trans hheld hstays.symm⟩))
    · have hgone : (s.dusted c r).dustOwn = false := State.dusted_dustOwn.2 ⟨hnot, fun x hx => by
        obtain rfl : x = e := by cases x <;> cases e <;> cases c <;> simp_all
        exact ⟨h1, h2⟩⟩
      rw [State.dustHeard_resumes (s := s.dusted c r) hsus hcauses hb hrun hk ((State.translate_congr rfl rfl rfl).trans htip) hgone hnot]
        at hkeep hport
      refine ⟨((hdusted.mono (by decide)).trans ((State.onlyIn_poured_pour _ _ _ _).mono (by decide))).trans (hkeep.mono (by decide)),
        hkeep .pour (by decide), hport.trans ?_⟩
      rw [State.poured_port, State.dusted, hnotices]
      rfl
  · obtain ⟨t, h1, h2, h3, h4, -⟩ := hsame { s.dust.channel c with latchKept := false } (by simp [DustChannel.acknowledge, hs, hl]) rfl
    exact ⟨t, h1, h2, h3, h4⟩
  · have hnone : (s.dust.channel c).acknowledge = none := by
      unfold DustChannel.acknowledge
      rcases hs with h | h | h | ⟨h, hl⟩
      · rw [h]
      · rw [h]
      · rw [h]
      · simp [h, hl]
    rw [hcall, hnone]
    exact congrArg _ (State.finish_refuse hq _)

end

section
/-! The rules of the Travel Controller: what an order, a stop and a fault make of travel, written out as one state. -/

namespace Sys2Proof.Machine

variable {s t u : State}

/-! ## A state that differs in travel, its notices and the mark of a status change -/

/-- The state with this travel record, these notices raised, and the status change marked or not. -/
def State.traveled (s : State) (v : Travel) (bodies : List NoticeBody) (due : Bool) : State :=
  { s with travel := v, port := s.port.raiseAll s.count bodies, line := { s.line with statusDue := due } }

section Traveled

variable (s : State) (v : Travel) (bodies : List NoticeBody) (due : Bool)

theorem State.traveled_self : s.traveled s.travel [] s.line.statusDue = s := rfl

@[simp] theorem State.traveled_count : (s.traveled v bodies due).count = s.count := rfl
@[simp] theorem State.traveled_cfg : (s.traveled v bodies due).cfg = s.cfg := rfl
@[simp] theorem State.traveled_inputs : (s.traveled v bodies due).inputs = s.inputs := rfl
@[simp] theorem State.traveled_port : (s.traveled v bodies due).port = s.port.raiseAll s.count bodies := rfl
@[simp] theorem State.traveled_berths : (s.traveled v bodies due).berths = s.berths := rfl
@[simp] theorem State.traveled_scale : (s.traveled v bodies due).scale = s.scale := rfl
@[simp] theorem State.traveled_line : (s.traveled v bodies due).line = { s.line with statusDue := due } := rfl
@[simp] theorem State.traveled_belt : (s.traveled v bodies due).belt = s.belt := rfl
@[simp] theorem State.traveled_dust : (s.traveled v bodies due).dust = s.dust := rfl
@[simp] theorem State.traveled_pending : (s.traveled v bodies due).pending = s.pending := rfl
@[simp] theorem State.traveled_peers : (s.traveled v bodies due).peers = s.peers := rfl
@[simp] theorem State.traveled_travel : (s.traveled v bodies due).travel = v := rfl
@[simp] theorem State.traveled_fill : (s.traveled v bodies due).fill = s.fill := rfl
@[simp] theorem State.traveled_pour : (s.traveled v bodies due).pour = s.pour := rfl
@[simp] theorem State.traveled_bills : (s.traveled v bodies due).bills = s.bills := rfl
@[simp] theorem State.traveled_lineOpen : (s.traveled v bodies due).lineOpen = s.lineOpen := rfl
@[simp] theorem State.traveled_block : (s.traveled v bodies due).block = s.block := rfl

@[simp] theorem State.traveled_onTravel (f : Travel → Travel) : (s.traveled v bodies due).onTravel f = s.traveled (f v) bodies due := rfl
@[simp] theorem State.traveled_markStatus : (s.traveled v bodies due).markStatus = s.traveled v bodies true := rfl

@[simp] theorem State.traveled_notify (n : NoticeBody) : (s.traveled v bodies due).notify n = s.traveled v (bodies ++ [n]) due := by
  unfold State.traveled
  rw [LocalPort.raiseAll_append]
  rfl

@[simp] theorem State.traveled_traveled (w : Travel) (more : List NoticeBody) (d : Bool) :
    (s.traveled v bodies due).traveled w more d = s.traveled w (bodies ++ more) d := by
  unfold State.traveled
  rw [LocalPort.raiseAll_append]

theorem State.onTravel_eq (f : Travel → Travel) : s.onTravel f = s.traveled (f s.travel) [] s.line.statusDue := rfl

theorem State.onlyIn_traveled : s.onlyIn (s.traveled v bodies due) [.travel, .port, .line] := by
  intro b hb
  cases b <;> simp_all [State.agree]

theorem State.onlyIn_traveled_quiet : s.onlyIn (s.traveled v bodies s.line.statusDue) [.travel, .port] := by
  intro b hb
  cases b <;> simp_all [State.agree]

theorem State.onlyIn_traveled_silent : s.onlyIn (s.traveled v [] due) [.travel, .line] := by
  intro b hb
  cases b <;> simp_all [State.agree, LocalPort.raiseAll]

end Traveled

/-- The end of a request that is answered DONE. -/
theorem State.finish_done (s : State) (fields : List Byte) : s.onlyIn (s.done fields).finish [.port, .line]
    ∧ (s.done fields).finish.port = { s.port with mailbox := doneReply fields } := by
  refine ⟨?_, State.finish_port _⟩
  exact ((State.onlyIn_onPort s _).mono (by decide)).add (by decide) (State.onlyIn_finish _)

theorem State.finish_done_quiet (h : s.quiet) (fields : List Byte) : (s.done fields).finish = s.withMailbox (doneReply fields) :=
  State.finish_reply h _ _

theorem State.traveled_done (s : State) (v : Travel) (bodies : List NoticeBody) (due : Bool) :
    s.onlyIn ((s.traveled v bodies due).done []).finish [.travel, .port, .line]
      ∧ ((s.traveled v bodies due).done []).finish.port = { s.port.raiseAll s.count bodies with mailbox := doneReply [] }
      ∧ ((s.traveled v bodies due).done []).finish.travel = v := by
  obtain ⟨honly, hport⟩ := State.finish_done (s.traveled v bodies due) []
  exact ⟨(State.onlyIn_traveled _ _ _ _).trans (honly.mono (by decide)), hport, honly .travel (by decide)⟩

/-! ## Distances and the stop point (R88, R90) -/

theorem within_iff {d : Nat} {x y : Int} : within d x y = true ↔ ¬fartherThan d x y := by
  unfold within
  rw [decide_eq_true_eq]
  omega

theorem within_false {d : Nat} {x y : Int} : within d x y = false ↔ fartherThan d x y := by
  rw [← Bool.not_eq_true, within_iff, not_not]

theorem fartherThan_comm {d : Nat} {x y : Int} : fartherThan d x y ↔ fartherThan d y x := by
  unfold fartherThan
  omega

theorem Range.stopPoint_eq (r : Range) (pos target : Int) : r.stopPoint pos target = stopPointOf r.lower r.upper pos target := by
  unfold Range.stopPoint stopPointOf
  rw [min_comm pos, max_comm pos]

theorem behind_iff {dir : Side} {pos target : Int} : behind dir pos target = true ↔ 0 < sense dir * (target - pos) := by
  cases dir <;> simp [behind, sense]

theorem State.speedStep_eq (dir : Side) (d : Nat) : s.speedStep dir d
    = if s.travel.source = some .returning ∨ s.lineOpen = true ∨ (s.nearest dir).any (fun e => e.freshness != .fresh) then .creep
      else profileOf s.block.slowDown s.block.creep (d : Int) := by
  have hdoubt : s.doubtful dir = (s.nearest dir).any (fun e => e.freshness != .fresh) := by
    unfold State.doubtful
    cases s.nearest dir <;> rfl
  have hprofile : s.profileStep d = profileOf s.block.slowDown s.block.creep (d : Int) := by
    simp only [State.profileStep, profileOf, Nat.cast_lt]
  unfold State.speedStep
  rw [hdoubt, hprofile]
  simp only [Bool.or_eq_true, beq_iff_eq, or_assoc]

/-! ## Changes of travel state (R82) -/

/-- PARKED with no order. -/
def Travel.parked (v : Travel) : Travel :=
  { v with
    state := .parked, target := none, source := none, direction := none, step := .zero, stopMark := none
    releaseTimer := none, brakeFailTimer := none, settleTimer := none }

/-- RELEASING at the present count (R89). -/
def State.released (s : State) : Travel :=
  { s.travel with
    state := .releasing, releaseTimer := some (s.count + s.block.releaseDelay)
    brakeFailTimer := some (s.count + s.block.releaseDelay + 1000), settleTimer := none }

/-- SETTLING at the present count (R92). -/
def State.stopped (s : State) (mark : StopMark) : Travel :=
  { s.travel with
    state := .settling, step := .zero, direction := none, stopMark := some mark, releaseTimer := none, brakeFailTimer := none
    settleTimer := some (s.count + 1000) }

/-- HELD (R93). -/
def Travel.stayed (v : Travel) : Travel := { v with state := .held, stopMark := none, settleTimer := none }

/-- FAULTED, not so before (R97). -/
def Travel.broken (v : Travel) (cause : TravelFault) : Travel :=
  { v with
    state := .faulted, cause := some cause, target := none, source := none, direction := none, step := .zero
    recovery := none, sampleSince := false, stopMark := none, releaseTimer := none, brakeFailTimer := none, settleTimer := none }

theorem State.park_eq : s.park = s.traveled s.travel.parked [] (if s.travel.state = .parked then s.line.statusDue else true) := by
  unfold State.park
  dsimp only
  split <;> rfl

theorem State.enterReleasing_eq : s.enterReleasing = s.traveled s.released [] true := by
  unfold State.released
  rw [Nat.add_assoc]
  rfl

theorem State.enterSettling_eq (mark : StopMark) : s.enterSettling mark = s.traveled (s.stopped mark) [] true := rfl

section Order

variable {pos target : Int} {r : Range} (hp : s.travel.position = some pos) (hr : s.travel.range = some r)
  (ht : s.travel.target = some target)

include hp hr ht

theorem State.enterHeld_eq : s.enterHeld = s.traveled s.travel.stayed
    [.travelHeld (if target < pos then r.lowerTerm else r.upperTerm) pos target] true := by
  unfold State.enterHeld
  rw [hp, hr, ht]
  rfl

omit hr in
theorem State.arrive_eq {src : OrderSource} (hs : s.travel.source = some src) : s.arrive
    = (s.traveled s.travel.parked [.arrived pos target src] (if s.travel.state = .parked then s.line.statusDue else true), some src) := by
  unfold State.arrive
  rw [hp, ht, hs]
  dsimp only
  rw [State.park_eq, State.traveled_notify]
  rfl

/-- The action of PARKED on a new order (R88). -/
theorem State.parkedAct_eq {src : OrderSource} (hs : s.travel.source = some src) : s.parkedAct
    = if ¬fartherThan s.block.tolerance pos target then
        (s.traveled s.travel.parked [.arrived pos target src] (if s.travel.state = .parked then s.line.statusDue else true), some src)
      else if ¬fartherThan s.block.tolerance pos (stopPointOf r.lower r.upper pos target) then
        (s.traveled s.travel.stayed [.travelHeld (if target < pos then r.lowerTerm else r.upperTerm) pos target] true, none)
      else (s.traveled s.released [] true, none) := by
  have harrive := State.arrive_eq hp ht hs
  have hheld := State.enterHeld_eq hp hr ht
  unfold State.parkedAct
  rw [hp, hr, ht]
  simp only [within_iff, Range.stopPoint_eq, harrive, hheld, State.enterReleasing_eq]

/-- The action of HELD (R93). -/
theorem State.heldAct_eq {src : OrderSource} (hs : s.travel.source = some src) : s.heldAct
    = if ¬fartherThan s.block.tolerance pos target then
        (s.traveled s.travel.parked [.arrived pos target src] (if s.travel.state = .parked then s.line.statusDue else true), some src)
      else if stopPointOf r.lower r.upper pos target = target
          ∨ fartherThan s.block.creep pos (stopPointOf r.lower r.upper pos target) then
        (s.traveled s.released [] true, none)
      else (s, none) := by
  have harrive := State.arrive_eq hp ht hs
  unfold State.heldAct
  rw [hp, hr, ht]
  simp only [within_iff, Range.stopPoint_eq, harrive, State.enterReleasing_eq]
  by_cases h1 : stopPointOf r.lower r.upper pos target = target
  · simp only [h1, if_true, true_or]
  · by_cases h2 : fartherThan s.block.creep pos (stopPointOf r.lower r.upper pos target)
    · simp only [h1, h2, if_false, not_true_eq_false, false_or, if_true]
    · simp only [h1, h2, if_false, not_false_eq_true, or_self, if_true]

/-- The judgement at the end of settling (R92). -/
theorem State.settled_eq {src : OrderSource} (hs : s.travel.source = some src) : s.settled
    = if ¬fartherThan s.block.tolerance pos target then
        (s.traveled s.travel.parked [.arrived pos target src] (if s.travel.state = .parked then s.line.statusDue else true), some src)
      else if stopPointOf r.lower r.upper pos target = target
          ∨ fartherThan s.block.creep pos (stopPointOf r.lower r.upper pos target) then
        (s.traveled s.released [] true, none)
      else (s.traveled s.travel.stayed [.travelHeld (if target < pos then r.lowerTerm else r.upperTerm) pos target] true, none) := by
  have harrive := State.arrive_eq hp ht hs
  have hheld := State.enterHeld_eq hp hr ht
  unfold State.settled
  rw [hp, hr, ht]
  simp only [within_iff, Range.stopPoint_eq, harrive, hheld, State.enterReleasing_eq]
  by_cases h1 : stopPointOf r.lower r.upper pos target = target
  · simp only [h1, if_true, true_or]
  · by_cases h2 : fartherThan s.block.creep pos (stopPointOf r.lower r.upper pos target)
    · simp only [h1, h2, if_false, not_true_eq_false, false_or, if_true]
    · simp only [h1, h2, if_false, not_false_eq_true, or_self, if_true]

/-- The action of MOVING (R90). -/
theorem State.movingAct_eq {dir : Side} (hd : s.travel.direction = some dir) : s.movingAct
    = if ¬fartherThan s.block.tolerance pos target ∨ 0 < sense dir * (target - pos) then s.traveled (s.stopped .target) [] true
      else if ¬fartherThan s.block.tolerance pos (stopPointOf r.lower r.upper pos target) then s.traveled (s.stopped .edge) [] true
      else s.traveled { s.travel with
          step := s.speedStep dir (stopPointOf r.lower r.upper pos target - pos).natAbs } [] s.line.statusDue := by
  unfold State.movingAct
  rw [hp, hr, ht, hd]
  simp only [Bool.or_eq_true, within_iff, behind_iff, Range.stopPoint_eq, State.enterSettling_eq]
  rfl

/-- An order replaced in MOVING (R91). -/
theorem State.redirect_eq {dir : Side} (hd : s.travel.direction = some dir) : s.redirect
    = if ¬fartherThan s.block.tolerance pos target then s.traveled (s.stopped .target) [] true
      else if 0 < sense dir * (target - pos) then s.traveled (s.stopped .reversal) [] true
      else if ¬fartherThan s.block.tolerance pos (stopPointOf r.lower r.upper pos target) then s.traveled (s.stopped .edge) [] true
      else s.traveled { s.travel with
          step := s.speedStep dir (stopPointOf r.lower r.upper pos target - pos).natAbs } [] s.line.statusDue := by
  have hmoving := State.movingAct_eq hp hr ht hd
  unfold State.redirect
  rw [hp, ht, hd]
  dsimp only
  rw [hmoving, State.enterSettling_eq]
  by_cases h1 : fartherThan s.block.tolerance pos target
  · have hw := within_false.2 h1
    by_cases h2 : 0 < sense dir * (target - pos)
    · simp [h1, h2, hw, behind_iff.2 h2]
    · simp [h1, h2, hw, Bool.eq_false_iff.2 (mt behind_iff.1 h2)]
  · have hw := within_iff.2 h1
    simp [h1, hw]

/-- The end of RELEASING with the brake released (R89). -/
theorem State.enterMoving_eq : s.enterMoving
    = if ¬fartherThan s.block.tolerance pos (stopPointOf r.lower r.upper pos target) then
        s.traveled (s.stopped (if stopPointOf r.lower r.upper pos target = target then .target else .edge)) [] true
      else s.traveled { s.travel with
          state := .moving, direction := some (if target < pos then .up else .down), releaseTimer := none, brakeFailTimer := none
          step := s.speedStep (if target < pos then .up else .down) (stopPointOf r.lower r.upper pos target - pos).natAbs } [] true := by
  unfold State.enterMoving
  rw [hp, hr, ht]
  simp only [within_iff, Range.stopPoint_eq, State.enterSettling_eq]
  rfl

end Order

/-- Entry to FAULTED (R97). -/
theorem State.enterFaulted_eq (h : s.travel.state ≠ .faulted) (cause : TravelFault) : s.enterFaulted cause
    = s.traveled (s.travel.broken cause) [.travelFault cause s.travel.position] true := by
  unfold State.enterFaulted
  rw [if_neg h]
  rfl

/-- An encoder fault that replaces cause BRAKE (R97). -/
theorem State.enterFaulted_again (h : s.travel.state = .faulted) (cause : TravelFault) : s.enterFaulted cause
    = s.traveled { s.travel with cause := some cause, recovery := none } [.travelFault cause s.travel.position] s.line.statusDue := by
  unfold State.enterFaulted
  rw [if_pos h]
  rfl

/-! ## Orders (R88, R91, R93, R95) -/

/-- Travel with a new order. -/
def Travel.ordered (v : Travel) (target : Int) (source : OrderSource) : Travel := { v with target := some target, source := some source }

section Placed

variable {pos : Int} {r : Range} (target : Int) (source : OrderSource)

theorem State.placeOrder_faulted (h : s.travel.state = .faulted) : s.placeOrder target source = (s, none) := if_pos h

/-- An order placed in RELEASING or SETTLING replaces the target and nothing else. -/
theorem State.placeOrder_waits (h : s.travel.state = .releasing ∨ s.travel.state = .settling) : s.placeOrder target source
    = (s.traveled (s.travel.ordered target source) [] s.line.statusDue, none) := by
  unfold State.placeOrder
  rcases h with h | h <;> simp [h, State.onTravel_eq, Travel.ordered]

theorem State.placeOrder_parked (h : s.travel.state = .parked) (hp : s.travel.position = some pos) (hr : s.travel.range = some r) :
    s.placeOrder target source
      = if ¬fartherThan s.block.tolerance pos target then
          (s.traveled (s.travel.ordered target source).parked [.arrived pos target source] s.line.statusDue, some source)
        else if ¬fartherThan s.block.tolerance pos (stopPointOf r.lower r.upper pos target) then
          (s.traveled (s.travel.ordered target source).stayed
            [.travelHeld (if target < pos then r.lowerTerm else r.upperTerm) pos target] true, none)
        else (s.traveled (s.traveled (s.travel.ordered target source) [] s.line.statusDue).released [] true, none) := by
  have acts := State.parkedAct_eq (s := s.traveled (s.travel.ordered target source) [] s.line.statusDue) (pos := pos) (r := r)
    (target := target) (src := source) hp hr rfl rfl
  have found : (s.travel.ordered target source).state = .parked := h
  unfold State.placeOrder
  rw [if_neg (by simp [h]), h]
  refine Eq.trans acts ?_
  simp only [State.traveled_traveled, State.traveled_travel, found, if_true, List.nil_append, State.traveled_block, State.traveled_line]

theorem State.placeOrder_held (h : s.travel.state = .held) (hp : s.travel.position = some pos) (hr : s.travel.range = some r) :
    s.placeOrder target source
      = if ¬fartherThan s.block.tolerance pos target then
          (s.traveled (s.travel.ordered target source).parked [.arrived pos target source] true, some source)
        else if stopPointOf r.lower r.upper pos target = target
            ∨ fartherThan s.block.creep pos (stopPointOf r.lower r.upper pos target) then
          (s.traveled (s.traveled (s.travel.ordered target source) [] s.line.statusDue).released [] true, none)
        else (s.traveled (s.travel.ordered target source) [] s.line.statusDue, none) := by
  have acts := State.heldAct_eq (s := s.traveled (s.travel.ordered target source) [] s.line.statusDue) (pos := pos) (r := r)
    (target := target) (src := source) hp hr rfl rfl
  have found : (s.travel.ordered target source).state = .held := h
  unfold State.placeOrder
  rw [if_neg (by simp [h]), h]
  refine Eq.trans acts ?_
  simp only [State.traveled_traveled, State.traveled_travel, found, reduceCtorEq, if_false, List.nil_append, State.traveled_block]

theorem State.placeOrder_moving {dir : Side} (h : s.travel.state = .moving) (hp : s.travel.position = some pos)
    (hr : s.travel.range = some r) (hd : s.travel.direction = some dir) : s.placeOrder target source
      = (if ¬fartherThan s.block.tolerance pos target then
          s.traveled ((s.traveled (s.travel.ordered target source) [] s.line.statusDue).stopped .target) [] true
        else if 0 < sense dir * (target - pos) then
          s.traveled ((s.traveled (s.travel.ordered target source) [] s.line.statusDue).stopped .reversal) [] true
        else if ¬fartherThan s.block.tolerance pos (stopPointOf r.lower r.upper pos target) then
          s.traveled ((s.traveled (s.travel.ordered target source) [] s.line.statusDue).stopped .edge) [] true
        else s.traveled { (s.travel.ordered target source) with
            step := (s.traveled (s.travel.ordered target source) [] s.line.statusDue).speedStep dir
              (stopPointOf r.lower r.upper pos target - pos).natAbs } [] s.line.statusDue, none) := by
  have acts := State.redirect_eq (s := s.traveled (s.travel.ordered target source) [] s.line.statusDue) (pos := pos) (r := r)
    (target := target) hp hr rfl hd
  unfold State.placeOrder
  rw [if_neg (by simp [h]), h]
  refine congrArg (fun v => (v, none)) (Eq.trans acts ?_)
  simp only [State.traveled_traveled, State.traveled_travel, List.nil_append, State.traveled_block, State.traveled_line]

end Placed

/-! ## MOVE (R95) -/

theorem State.tellArrival_none (v : State) : State.tellArrival (v, none) = v := rfl

/-- The arrival of a HOST order is not acted on (R127). -/
theorem State.tellArrival_host (v : State) : State.tellArrival (v, some .host) = v := rfl

/-- No arrival is acted on with the pour not POSITIONING and no line open (R127). -/
theorem State.tellArrival_quiet {a : State × Option OrderSource} (h1 : a.1.pour.state ≠ .positioning) (h2 : a.1.lineOpen = false) :
    State.tellArrival a = a.1 := by
  obtain ⟨v, o⟩ := a
  cases o with
  | none => rfl
  | some source =>
    unfold State.tellArrival
    simp only [h1, h2, if_false, Bool.false_eq_true, ite_self]

theorem exec_move {target : Nat} (hm : s.port.mode = .run) (hpost : s.port.mailbox = .posted (.move target)) :
    exec .move s = .next (s.judged (s.moveChecks target) ((State.tellArrival (s.placeOrder target .host)).done [])).finish := by
  rw [show Instr.move = Request.row (.move target) from rfl, exec_row hpost]
  show Host.Outcome.next (State.finish (s.whenMode inRunOnly _)) = _
  rw [State.whenMode_allowed (by simp [inRunOnly, hm])]

theorem State.targetInWindow_iff {target : Int} {c : OwnClaim} {w : Int × Int} (hc : s.fill.claim = some c)
    (hw : s.loaderWindow c.slot c.hold = some w) : s.targetInWindow target = true ↔ w.1 ≤ target ∧ target ≤ w.2 := by
  unfold State.targetInWindow State.windowTerms
  rw [hc]
  dsimp only
  rw [hw]
  simp [inside]

/-- The checks of MOVE pass, and the answer is that of the order placed. -/
theorem exec_move_placed {target : Nat} {pos : Int} (hm : s.port.mode = .run) (hpost : s.port.mailbox = .posted (.move target))
    (h1 : s.block.railLower ≤ target) (h2 : (target : Int) ≤ s.block.railUpper) (hp : s.travel.position = some pos)
    (hf : s.travel.state ≠ .faulted) (hfree : s.lineOpen = false ∧ s.fill.claim = none
      ∨ ∃ c w, s.lineOpen = true ∧ s.fill.claim = some c ∧ s.loaderWindow c.slot c.hold = some w
        ∧ w.1 ≤ (target : Int) ∧ (target : Int) ≤ w.2) :
    exec .move s = .next ((State.tellArrival (s.placeOrder target .host)).done []).finish := by
  have hpass : firstFailure (s.moveChecks target) = none := by
    rw [firstFailure_eq_none]
    have hclaim : (s.fill.claim.isNone || s.lineOpen) = true ∧ (!s.lineOpen || s.targetInWindow target) = true := by
      rcases hfree with ⟨hlo, hc⟩ | ⟨c, w, hlo, hc, hw, hin⟩
      · simp [hlo, hc]
      · simp [hlo, (State.targetInWindow_iff hc hw).2 hin]
    simp [State.moveChecks, orElse, h1, h2, hp, hf, hclaim]
  rw [exec_move hm hpost, State.judged_passed hpass]

/-! ## Position samples (R83) -/

/-- The state after an accepted sample, before travel acts on it: the new position, the encoder timer, and the range for them. -/
def State.resampled (s : State) (x : Int) : State :=
  ((s.onTravel (fun t => { t with encoderTimer := some (s.count + 100) })).onTravel
    (fun t => { t with position := some x, sampleSince := t.sampleSince || t.state == .faulted })).recompute

theorem State.resampled_range (x : Int) : ∃ r, (s.resampled x).travel.range = some r := by
  have edges := State.computeEdge_isSome ((s.onTravel (fun t => { t with encoderTimer := some (s.count + 100) })).onTravel
    (fun t => { t with position := some x, sampleSince := t.sampleSince || t.state == .faulted }))
  obtain ⟨lo, hlo⟩ := Option.isSome_iff_exists.1 (edges .up _ rfl)
  obtain ⟨hi, hhi⟩ := Option.isSome_iff_exists.1 (edges .down _ rfl)
  exact ⟨_, (congrArg₂ Range.of hlo hhi)⟩

theorem State.resampled_form (s : State) (x : Int) : ∃ lo hi, s.resampled x = s.traveled { s.travel with
    position := some x, encoderTimer := some (s.count + 100), sampleSince := s.travel.sampleSince || s.travel.state == .faulted
    edgeUp := lo, edgeDown := hi } [] s.line.statusDue := ⟨_, _, rfl⟩

theorem Travel.encoderFault_of_ne {v : Travel} (h : v.state ≠ .faulted) : v.encoderFault = false := by
  simp [Travel.encoderFault, h]

theorem Travel.jumps_iff (v : Travel) (x : Int) : v.jumps x = true ↔ ∃ p, v.position = some p ∧ fartherThan 300 x p := by
  unfold Travel.jumps
  cases v.position with
  | none => simp
  | some p =>
    simp only [decide_eq_true_eq, Option.some.injEq, exists_eq_left']
    show 300 < (x - p).natAbs ↔ ((300 : Nat) : Int) < x - p ∨ ((300 : Nat) : Int) < p - x
    omega

theorem exec_positionSample {value : BitVec 20} (h : s.port.mode ≠ .config) : exec (.positionSample value) s
    = .next ((s.onTravel (fun t => { t with encoderTimer := some (s.count + 100) })).judgeSample value.toNat).finish := by
  show Host.Outcome.next (State.finish (if s.configured then _ else _)) = _
  rw [if_pos (by simpa [State.configured] using h)]
  rfl

/-- A sample in range and no jump, with no encoder fault standing, is accepted (R83). -/
theorem exec_positionSample_accepted {value : BitVec 20} {x : Int} (hm : s.port.mode ≠ .config) (hx : x = value.toNat) (hmax : x ≤ 1000000)
    (he : s.travel.encoderFault = false) (hj : ∀ p, s.travel.position = some p → ¬fartherThan 300 x p) :
    exec (.positionSample value) s = .next (State.tellArrival (s.resampled x).travelAct).mapTest.finish := by
  subst hx
  have hnojump : s.travel.jumps value.toNat = false := by
    rw [Bool.eq_false_iff]
    intro h
    obtain ⟨p, hp, hfar⟩ := (Travel.jumps_iff _ _).1 h
    exact hj p hp hfar
  rw [exec_positionSample hm]
  unfold State.judgeSample
  rw [if_neg (show ¬Config.railMax < _ by exact not_lt.2 hmax), if_neg (by exact Bool.eq_false_iff.1 he),
    if_neg (by exact Bool.eq_false_iff.1 hnojump)]
  rfl

theorem State.mapTest_shut (h : s.lineOpen = false) : s.mapTest = s := by
  unfold State.mapTest
  rw [h]
  rfl

end Sys2Proof.Machine

open Sys2Proof Sys2Proof.Machine

/-- Settles O29. -/
theorem moveFromParkedReleasesHoldsOrArrives : Obligations.MoveFromParkedReleasesHoldsOrArrives := by
  intro s target pos r hq hm hpost h1 h2 hp hr hs hfree
  have hcall := exec_move_placed hm hpost h1 h2 hp (by rw [hs]; nofun) hfree
  rw [State.placeOrder_parked _ _ hs hp hr] at hcall
  refine ⟨fun hnear => ?_, fun hfar hstop => ?_, fun hfar hstop => ?_⟩
  · rw [if_pos hnear, State.tellArrival_host, State.finish_done_quiet (by exact hq)] at hcall
    refine ⟨_, hcall, ?_, ?_, rfl⟩
    · exact (State.onlyIn_traveled_quiet _ _ _).trans ((State.onlyIn_onPort (s.traveled _ _ _)
        (fun p => { p with mailbox := doneReply [] })).mono (by decide))
    · simp [State.withMailbox, Travel.parked, Travel.ordered, hs]
  · rw [if_neg (not_not.2 hfar), if_pos hstop, State.tellArrival_none] at hcall
    obtain ⟨honly, hport⟩ := State.finish_done (s.traveled (s.travel.ordered target .host).stayed
      [.travelHeld (if (target : Int) < pos then r.lowerTerm else r.upperTerm) pos target] true) []
    exact ⟨_, hcall, (State.onlyIn_traveled _ _ _ _).trans (honly.mono (by decide)), honly .travel (by decide), hport⟩
  · rw [if_neg (not_not.2 hfar), if_neg (not_not.2 hstop), State.tellArrival_none] at hcall
    obtain ⟨honly, hport⟩ := State.finish_done (s.traveled (s.traveled (s.travel.ordered target .host) [] s.line.statusDue).released
      [] true) []
    have htravel := honly .travel (by decide)
    refine ⟨_, hcall, (State.onlyIn_traveled _ _ _ _).trans (honly.mono (by decide)), htravel, ?_, ?_, hport⟩
    · exact congrArg Travel.brakeReleaseOutput htravel
    · exact congrArg Travel.output htravel

/-- Settles O30. -/
theorem ordersAreReplacedByTheTravelState : Obligations.OrdersAreReplacedByTheTravelState := by
  refine ⟨fun s target hq hm hpost => ⟨fun hout => ?_, fun h1 h2 => ⟨fun hp => ?_, fun pos hp => ⟨fun hf => ?_, fun hf =>
    ⟨fun hc hlo => ?_, fun c w hlo hc hw hout => ?_, fun hfree => ⟨fun hs => ?_, fun dir r hs hd hr => ?_, fun r hs hr => ?_⟩⟩⟩⟩⟩,
    fun s value x pos target src hq hx hm hidle hmax hp hnear hs ht hsrc => ?_⟩
  · have hfail : firstFailure (s.moveChecks target) = some (.outOfRange, 0) := by
      simp [State.moveChecks, firstFailure, orElse, hout]
    rw [exec_move hm hpost, State.judged_refused hfail, State.finish_refuse hq]
  · have hfail : firstFailure (s.moveChecks target) = some (.noPosition, 0) := by
      simp [State.moveChecks, firstFailure, orElse, h1, h2, hp]
    rw [exec_move hm hpost, State.judged_refused hfail, State.finish_refuse hq]
  · have hfail : firstFailure (s.moveChecks target) = some (.travelFaulted, 0) := by
      simp [State.moveChecks, firstFailure, orElse, h1, h2, hp, hf]
    rw [exec_move hm hpost, State.judged_refused hfail, State.finish_refuse hq]
  · have hfail : firstFailure (s.moveChecks target) = some (.stationBusy, 0) := by
      simp [State.moveChecks, firstFailure, orElse, h1, h2, hp, hf, hlo, Option.isSome_iff_ne_none.1 hc]
    rw [exec_move hm hpost, State.judged_refused hfail, State.finish_refuse hq]
  · have hnot : s.targetInWindow target = false := Bool.eq_false_iff.2 fun h => hout ((State.targetInWindow_iff hc hw).1 h)
    have hfail : firstFailure (s.moveChecks target) = some (.outOfWindow, 0) := by
      simp [State.moveChecks, firstFailure, orElse, h1, h2, hp, hf, hlo, hnot]
    rw [exec_move hm hpost, State.judged_refused hfail, State.finish_refuse hq]
  · rw [exec_move_placed hm hpost h1 h2 hp hf hfree, State.placeOrder_waits _ _ hs, State.tellArrival_none,
      State.finish_done_quiet (by exact hq)]
    rfl
  · have hcall := exec_move_placed hm hpost h1 h2 hp hf hfree
    rw [State.placeOrder_moving _ _ hs hp hr hd, State.tellArrival_none] at hcall
    have hbehind : ((dir = .up ∧ pos < target) ∨ (dir = .down ∧ (target : Int) < pos)) ↔ 0 < sense dir * ((target : Int) - pos) := by
      cases dir <;> simp [sense]
    by_cases hnear : fartherThan s.block.tolerance pos target
    · rw [if_neg (not_not.2 hnear)] at hcall
      by_cases hback : 0 < sense dir * ((target : Int) - pos)
      · rw [if_pos hback] at hcall
        obtain ⟨honly, hport, htravel⟩ := State.traveled_done s ((s.traveled (s.travel.ordered target .host) []
          s.line.statusDue).stopped .reversal) [] true
        refine ⟨_, hcall, honly, hport, by rw [htravel]; rfl, by rw [htravel]; rfl, ?_⟩
        rw [if_neg (not_not.2 hnear), if_pos (hbehind.2 hback), htravel]
        exact ⟨rfl, rfl, rfl, rfl⟩
      · rw [if_neg hback] at hcall
        by_cases hstop : fartherThan s.block.tolerance pos (stopPointOf r.lower r.upper pos target)
        · rw [if_neg (not_not.2 hstop)] at hcall
          obtain ⟨honly, hport, htravel⟩ := State.traveled_done s { (s.travel.ordered target .host) with
            step := (s.traveled (s.travel.ordered target .host) [] s.line.statusDue).speedStep dir
              (stopPointOf r.lower r.upper pos target - pos).natAbs } [] s.line.statusDue
          refine ⟨_, hcall, honly, hport, by rw [htravel]; rfl, by rw [htravel]; rfl, ?_⟩
          rw [if_neg (not_not.2 hnear), if_neg (mt hbehind.1 hback), if_neg (not_not.2 hstop), htravel]
          refine ⟨hs, hd, (State.speedStep_eq _ _).trans ?_⟩
          simp [Travel.ordered, State.nearest]
        · rw [if_pos hstop] at hcall
          obtain ⟨honly, hport, htravel⟩ := State.traveled_done s ((s.traveled (s.travel.ordered target .host) []
            s.line.statusDue).stopped .edge) [] true
          refine ⟨_, hcall, honly, hport, by rw [htravel]; rfl, by rw [htravel]; rfl, ?_⟩
          rw [if_neg (not_not.2 hnear), if_neg (mt hbehind.1 hback), if_pos hstop, htravel]
          exact ⟨rfl, rfl, rfl, rfl⟩
    · rw [if_pos hnear] at hcall
      obtain ⟨honly, hport, htravel⟩ := State.traveled_done s ((s.traveled (s.travel.ordered target .host) []
        s.line.statusDue).stopped .target) [] true
      refine ⟨_, hcall, honly, hport, by rw [htravel]; rfl, by rw [htravel]; rfl, ?_⟩
      rw [if_pos hnear, htravel]
      exact ⟨rfl, rfl, rfl, rfl⟩
  · have hcall := exec_move_placed hm hpost h1 h2 hp hf hfree
    rw [State.placeOrder_held _ _ hs hp hr] at hcall
    by_cases hnear : fartherThan s.block.tolerance pos target
    · rw [if_neg (not_not.2 hnear)] at hcall
      by_cases hgo : stopPointOf r.lower r.upper pos target = target
          ∨ fartherThan s.block.creep pos (stopPointOf r.lower r.upper pos target)
      · rw [if_pos hgo, State.tellArrival_none] at hcall
        obtain ⟨honly, hport, htravel⟩ := State.traveled_done s (s.traveled (s.travel.ordered target .host) []
          s.line.statusDue).released [] true
        refine ⟨_, hcall, honly, by rw [hport], ?_⟩
        rw [if_neg (not_not.2 hnear), if_pos hgo, htravel]
        exact ⟨rfl, rfl, rfl, rfl, rfl, hport⟩
      · rw [if_neg hgo, State.tellArrival_none] at hcall
        obtain ⟨honly, hport, htravel⟩ := State.traveled_done s (s.travel.ordered target .host) [] s.line.statusDue
        refine ⟨_, hcall, honly, by rw [hport], ?_⟩
        rw [if_neg (not_not.2 hnear), if_neg hgo, htravel]
        exact ⟨rfl, hport⟩
    · rw [if_pos hnear, State.tellArrival_host] at hcall
      obtain ⟨honly, hport, htravel⟩ := State.traveled_done s (s.travel.ordered target .host).parked [.arrived pos target .host] true
      refine ⟨_, hcall, honly, by rw [hport], ?_⟩
      rw [if_pos hnear, htravel]
      exact ⟨rfl, rfl, rfl, hport⟩
  · have hcall := exec_positionSample_accepted hm hx hmax (Travel.encoderFault_of_ne (by rw [hs]; nofun))
      (fun p h => by rw [hp] at h; cases h; exact hnear)
    obtain ⟨r, hr⟩ := s.resampled_range x
    obtain ⟨lo, hi, hform⟩ := s.resampled_form x
    have hacts : (s.resampled x).travelAct = (s.resampled x).heldAct := by
      unfold State.travelAct
      rw [show (s.resampled x).travel.state = .held from hs]
    rw [hacts, State.heldAct_eq (target := target) (src := src) rfl hr ht hsrc] at hcall
    have hlo : s.lineOpen = false := by rw [State.lineOpen, hidle]; rfl
    have hends : ∀ (v : Travel) (bodies : List NoticeBody) (due : Bool) (o : Option OrderSource),
        (State.tellArrival ((s.resampled x).traveled v bodies due, o)).mapTest = s.traveled v bodies due := by
      intro v bodies due o
      rw [State.tellArrival_quiet (show s.pour.state ≠ .positioning by rw [hidle]; nofun) (by exact hlo), State.mapTest_shut (by exact hlo), hform,
        State.traveled_traveled]
      rfl
    have honly : ∀ (v : Travel) (bodies : List NoticeBody) (due : Bool),
        s.onlyIn (s.traveled v bodies due).finish [.travel, .port, .line] := fun v bodies due =>
      (State.onlyIn_traveled _ _ _ _).add (by decide) (State.onlyIn_finish _)
    by_cases hfar : fartherThan s.block.tolerance x target
    · rw [if_neg (by exact not_not.2 hfar)] at hcall
      by_cases hgo : stopPointOf r.lower r.upper x target = target ∨ fartherThan s.block.creep x (stopPointOf r.lower r.upper x target)
      · rw [if_pos (by exact hgo), hends] at hcall
        refine ⟨_, r, hcall, honly _ _ _, ?_, ?_, ?_⟩
        · exact (congrArg Travel.range (State.finish_travel _)).trans hr
        · exact congrArg Travel.position (State.finish_travel _)
        · rw [if_neg (not_not.2 hfar), if_pos hgo, State.finish_travel, State.finish_port]
          exact ⟨rfl, ht, hsrc, rfl, rfl⟩
      · rw [if_neg (by exact hgo)] at hcall
        have hstays := hends (s.resampled x).travel [] (s.resampled x).line.statusDue none
        rw [State.traveled_self] at hstays
        rw [hstays] at hcall
        refine ⟨_, r, hcall, honly _ _ _, ?_, ?_, ?_⟩
        · exact (congrArg Travel.range (State.finish_travel _)).trans hr
        · exact congrArg Travel.position (State.finish_travel _)
        · rw [if_neg (not_not.2 hfar), if_neg hgo, State.finish_travel, State.finish_port]
          exact ⟨hs, ht, hsrc, rfl⟩
    · rw [if_pos (by exact hfar), hends] at hcall
      refine ⟨_, r, hcall, honly _ _ _, ?_, ?_, ?_⟩
      · exact (congrArg Travel.range (State.finish_travel _)).trans hr
      · exact congrArg Travel.position (State.finish_travel _)
      · rw [if_pos hfar, State.finish_travel, State.finish_port]
        exact ⟨rfl, rfl, rfl, rfl⟩

end

section
/-! Position samples, the encoder and the brake (sections 5.2, 5.5 to 5.8). -/

namespace Sys2Proof.Machine

variable {s t u : State}

/-! ## Faults of travel (R97) -/

/-- With no line open a fault reaches travel alone (R97). -/
theorem State.faultTravel_shut (h : s.lineOpen = false) (cause : TravelFault) : s.faultTravel cause = s.enterFaulted cause := by
  unfold State.faultTravel
  refine State.addCause_idle (.inl ?_)
  unfold State.enterFaulted
  split <;> exact h

theorem State.faultTravel_breaks (hlo : s.lineOpen = false) (h : s.travel.state ≠ .faulted) (cause : TravelFault) :
    s.faultTravel cause = s.traveled (s.travel.broken cause) [.travelFault cause s.travel.position] true := by
  rw [State.faultTravel_shut hlo, State.enterFaulted_eq h]

theorem State.traveled_finish (s : State) (v : Travel) (bodies : List NoticeBody) (due : Bool) :
    s.onlyIn (s.traveled v bodies due).finish [.travel, .port, .line] ∧ (s.traveled v bodies due).finish.travel = v
      ∧ (s.traveled v bodies due).finish.port = s.port.raiseAll s.count bodies :=
  ⟨(State.onlyIn_traveled _ _ _ _).add (by decide) (State.onlyIn_finish _), State.finish_travel _, State.finish_port _⟩

theorem Travel.encoderFault_broken {v : Travel} {cause : TravelFault} (h : cause ≠ .brake) : (v.broken cause).encoderFault = true := by
  cases cause <;> simp_all [Travel.encoderFault, Travel.broken]

theorem State.computeEdge_congr (hc : t.cfg = s.cfg) (hp : t.travel.position = s.travel.position) (he : t.peers = s.peers)
    (hl : ∀ side, (t.line.port side).chainEnd = (s.line.port side).chainEnd) (side : Side) (w : Option (Int × Int)) :
    t.computeEdge side w = s.computeEdge side w := by
  have hbound : t.bound side = s.bound side := by
    simp only [State.bound, State.nearest, State.block, hc, hp, he, hl]
  simp only [State.computeEdge, hbound, State.plainEdge, State.block, hc]

/-- The edges that a computation leaves are those of the state it leaves. -/
theorem State.recompute_edges (s : State) : s.recompute.travel.edgeUp = s.recompute.computeEdge .up s.recompute.rangeWindow
    ∧ s.recompute.travel.edgeDown = s.recompute.computeEdge .down s.recompute.rangeWindow := by
  have hwindow : s.recompute.rangeWindow = s.rangeWindow := rfl
  rw [hwindow, State.computeEdge_congr (s := s) (t := s.recompute) rfl rfl rfl (fun _ => rfl),
    State.computeEdge_congr (s := s) (t := s.recompute) rfl rfl rfl (fun _ => rfl)]
  exact ⟨rfl, rfl⟩

theorem State.onlyIn_onTravel (s : State) (f : Travel → Travel) : s.onlyIn (s.onTravel f) [.travel] := by
  intro b hb
  cases b <;> simp_all [State.agree]

theorem State.judgeSample_outOfRange {x : Int} (hx : 1000000 < x) : s.judgeSample x
    = if s.travel.encoderFault then s else s.faultTravel .encoderRange := if_pos hx

theorem State.judgeSample_recovers {x : Int} (hx : x ≤ 1000000) (he : s.travel.encoderFault = true) :
    s.judgeSample x = s.onTravel (fun t => { t with recovery := some x }) := by
  unfold State.judgeSample
  rw [if_neg (show ¬Config.railMax < x from not_lt.2 hx), if_pos he]

theorem State.judgeSample_jumps {x : Int} (hx : x ≤ 1000000) (he : s.travel.encoderFault = false)
    (hj : ∃ p, s.travel.position = some p ∧ fartherThan 300 x p) : s.judgeSample x = s.faultTravel .encoderJump := by
  unfold State.judgeSample
  rw [if_neg (show ¬Config.railMax < x from not_lt.2 hx), if_neg (by simp [he]), if_pos ((Travel.jumps_iff _ _).2 hj)]

theorem State.travelAct_rests (h1 : s.travel.state ≠ .moving) (h2 : s.travel.state ≠ .held) : s.travelAct = (s, none) := by
  unfold State.travelAct
  cases hs : s.travel.state <;> simp_all

end Sys2Proof.Machine

open Sys2Proof Sys2Proof.Machine

/-- Settles O32. -/
theorem positionSamplesAreJudgedInOrder : Obligations.PositionSamplesAreJudgedInOrder := by
  refine ⟨fun s value hq x hx => ⟨fun hm => ?_, fun hm hlo => ⟨fun hmax he => ?_, fun hmax he => ?_, fun he hs hbad => ?_,
    fun he hmax hj h1 h2 => ?_⟩⟩,
    fun s t value dir hq x hx pos target r hm hlo hmax hp hnear hs ht hd hcall hr => ?_⟩
  · show Host.Outcome.next (State.finish (if s.configured then _ else _)) = _
    rw [State.unconfigured hm]
    exact congrArg _ (State.finish_of_quiet hq)
  · rw [exec_positionSample hm, ← hx, State.judgeSample_outOfRange hmax, if_pos (by exact he)]
    exact congrArg _ (State.finish_of_quiet hq)
  · rw [exec_positionSample hm, ← hx, State.judgeSample_recovers hmax (by exact he)]
    exact congrArg _ (State.finish_of_quiet hq)
  · obtain ⟨cause, hcause, hjudged⟩ : ∃ cause, cause = (if 1000000 < x then TravelFault.encoderRange else .encoderJump)
        ∧ (s.onTravel (fun t => { t with encoderTimer := some (s.count + 100) })).judgeSample x
          = (s.onTravel (fun t => { t with encoderTimer := some (s.count + 100) })).faultTravel cause := by
      by_cases hmax : 1000000 < x
      · exact ⟨_, rfl, (State.judgeSample_outOfRange (s := s.onTravel _) hmax).trans
          (by rw [if_neg (by exact Bool.eq_false_iff.1 he), if_pos hmax])⟩
      · obtain ⟨p, hp, -, hfar⟩ := hbad.resolve_left hmax
        exact ⟨_, rfl, (State.judgeSample_jumps (s := s.onTravel _) (not_lt.1 hmax) (by exact he) ⟨p, by exact hp, hfar⟩).trans (by rw [if_neg hmax])⟩
    have hencoder : cause ≠ .brake := by rw [hcause]; split <;> nofun
    rw [exec_positionSample hm, ← hx, hjudged, State.faultTravel_breaks (by exact hlo) (by exact hs), State.onTravel_eq, State.traveled_traveled]
    obtain ⟨honly, htravel, hport⟩ := State.traveled_finish s (({ s.travel with encoderTimer := some (s.count + 100) } : Travel).broken cause)
      [.travelFault cause s.travel.position] true
    refine ⟨_, cause, rfl, honly, hcause, htravel, ?_, ?_, ?_, hport⟩
    · refine (congrArg Travel.positionValid htravel).trans ?_
      unfold Travel.positionValid
      rw [Travel.encoderFault_broken hencoder]
      exact Bool.and_false _
    · exact congrArg Travel.brakeReleaseOutput htravel
    · exact congrArg Travel.output htravel
  · rw [exec_positionSample_accepted hm hx hmax he hj, State.travelAct_rests (by exact h1) (by exact h2), State.tellArrival_none,
      State.mapTest_shut (by exact hlo), State.finish_of_quiet (by exact hq)]
    refine ⟨_, rfl, ?_, ?_⟩
    · obtain ⟨lo, hi, hform⟩ := s.resampled_form x
      rw [hform]
      exact State.onlyIn_onTravel s (fun _ => _)
    · have hwindow : (s.resampled x).rangeWindow = none := by
        unfold State.rangeWindow
        rw [show (s.resampled x).lineOpen = false from hlo]
        rfl
      obtain ⟨hup, hdown⟩ := State.recompute_edges ((s.onTravel (fun t => { t with encoderTimer := some (s.count + 100) })).onTravel
        (fun t => { t with position := some x, sampleSince := t.sampleSince || t.state == .faulted }))
      rw [← hwindow]
      rw [show (s.resampled x).computeEdge .up (s.resampled x).rangeWindow = (s.resampled x).travel.edgeUp from hup.symm,
        show (s.resampled x).computeEdge .down (s.resampled x).rangeWindow = (s.resampled x).travel.edgeDown from hdown.symm]
      rfl
  · rw [exec_positionSample_accepted hm hx hmax (Travel.encoderFault_of_ne (by rw [hs]; nofun))
      (fun p h => by rw [hp] at h; cases h; exact hnear)] at hcall
    obtain ⟨q, hq'⟩ := s.resampled_range x
    have hacts : (s.resampled x).travelAct = ((s.resampled x).movingAct, none) := by
      unfold State.travelAct
      rw [show (s.resampled x).travel.state = .moving from hs]
    rw [hacts, State.tellArrival_none, State.movingAct_eq (s := s.resampled x) (target := target) (dir := dir) rfl hq' ht hd] at hcall
    have hbehind : ((dir = .up ∧ x < target) ∨ (dir = .down ∧ target < x)) ↔ 0 < sense dir * (target - x) := by
      cases dir <;> simp [sense]
    have hends : ∀ (v : Travel) (due : Bool), ((s.resampled x).traveled v [] due).mapTest.finish.travel = v := fun v due => by
      rw [State.mapTest_shut (by exact hlo), State.finish_travel]
      rfl
    have hrange : ∀ v : Travel, t.travel = v → v.edgeUp = (s.resampled x).travel.edgeUp →
        v.edgeDown = (s.resampled x).travel.edgeDown → q = r := fun v hv h1 h2 => by
      have : v.range = some q := by
        rw [← hq', Travel.range, Travel.range, h1, h2]
      rw [hv, this] at hr
      cases hr
      rfl
    by_cases hover : ¬fartherThan s.block.tolerance x target ∨ (dir = .up ∧ x < target) ∨ (dir = .down ∧ target < x)
    · rw [if_pos (by exact hover.imp_right hbehind.1)] at hcall
      cases hcall
      rw [hends, if_pos hover]
      exact ⟨rfl, ht, rfl, rfl, rfl, rfl⟩
    · rw [if_neg (by exact mt (Or.imp_right hbehind.2) hover)] at hcall
      by_cases hstop : ¬fartherThan s.block.tolerance x (stopPointOf q.lower q.upper x target)
      · rw [if_pos (by exact hstop)] at hcall
        cases hcall
        obtain rfl := hrange _ (hends _ _) rfl rfl
        rw [hends, if_neg hover, if_pos hstop]
        exact ⟨rfl, ht, rfl, rfl, rfl, rfl⟩
      · rw [if_neg (by exact hstop)] at hcall
        cases hcall
        obtain rfl := hrange _ (hends _ _) rfl rfl
        rw [hends, if_neg hover, if_neg hstop]
        refine ⟨rfl, ht, hs, hd, (State.speedStep_eq _ _).trans ?_⟩
        rw [show (s.resampled x).lineOpen = false from hlo]
        simp only [Bool.false_eq_true, false_or]
        rfl

end

section
/-! The brake and the end of settling (sections 5.5, 5.7 and 5.8). -/

namespace Sys2Proof.Machine

variable {s t u : State}

theorem State.speedStep_ne_zero (dir : Side) (d : Nat) : s.speedStep dir d ≠ .zero := by
  rw [State.speedStep_eq]
  unfold profileOf
  split
  · nofun
  · split
    · nofun
    · split <;> nofun

theorem State.speedStep_open (h : s.lineOpen = true) (dir : Side) (d : Nat) : s.speedStep dir d = .creep := by
  rw [State.speedStep_eq]
  exact if_pos (.inr (.inl h))

/-- What a travel timer's command leaves. -/
theorem State.traveled_at {d : Nat} {v : Travel} {bodies : List NoticeBody} {due : Bool} {c : Instr}
    (h : exec c s = .next ((s.upTo d).traveled v bodies due).finish) : ∃ t, exec c s = .next t
      ∧ s.onlyIn t [.count, .travel, .port, .line] ∧ t.count = max s.count d ∧ t.travel = v
      ∧ t.port = s.port.raiseAll (max s.count d) bodies ∧ (bodies = [] → s.onlyIn t [.count, .travel, .line]) := by
  obtain ⟨honly, htravel, hport⟩ := State.traveled_finish (s.upTo d) v bodies due
  refine ⟨_, h, ((State.onlyIn_upTo s d).mono (by decide)).trans (honly.mono (by decide)), honly .count (by decide), htravel, hport, ?_⟩
  rintro rfl
  exact ((State.onlyIn_upTo s d).mono (by decide)).trans
    (((State.onlyIn_traveled_silent _ _ _).mono (by decide)).add (by decide) (State.onlyIn_finish _))

theorem exec_releaseTimer {d : Nat} (hd : s.travel.releaseTimer = some d) (hs : s.travel.state = .releasing) :
    exec .releaseTimerExpiry s = .next (if s.inputs.brakeReleased = true then
      ((s.upTo d).onTravel (fun v => { v with releaseTimer := none })).enterMoving
      else (s.upTo d).onTravel (fun v => { v with releaseTimer := none })).finish := by
  have run : exec .releaseTimerExpiry s = .next (s.expire s.travel.releaseTimer (fun t =>
      let u := t.onTravel (fun v => { v with releaseTimer := none })
      if u.travel.state = .releasing ∧ u.inputs.brakeReleased then u.enterMoving else u)).finish := rfl
  rw [run, hd]
  show Host.Outcome.next (State.finish (if s.travel.state = .releasing ∧ s.inputs.brakeReleased then _ else _)) = _
  simp only [hs, true_and]
  rfl

theorem exec_settleTimer {d : Nat} (hd : s.travel.settleTimer = some d) (hs : s.travel.state = .settling) :
    exec .settleTimerExpiry s = .next (if s.inputs.brakeReleased = true then
      ((s.upTo d).onTravel (fun v => { v with settleTimer := none })).faultTravel .brake
      else State.tellArrival ((s.upTo d).onTravel (fun v => { v with settleTimer := none })).settled).finish := by
  have run : exec .settleTimerExpiry s = .next (s.expire s.travel.settleTimer State.settleExpiry).finish := rfl
  rw [run, hd]
  refine congrArg (fun v => Host.Outcome.next (State.finish v)) ?_
  exact if_pos hs

theorem exec_brakeChange {active : Bool} (h : s.port.mode ≠ .config) : exec (.brakeReleasedChange active) s
    = .next (({ s with inputs := { s.inputs with brakeReleased := active } } : State).brakeInput active).finish := by
  show Host.Outcome.next (State.finish (if s.configured then _ else _)) = _
  rw [if_pos (by simpa [State.configured] using h)]

theorem State.settled_without (h : s.travel.target = none) : s.settled = (s.park, none) := by
  unfold State.settled
  rw [h]
  split <;> simp_all

/-! ## Every command that faults travel (R83, R84, R89, R92, R94) -/

theorem State.upTo_past {d : Nat} (h : d ≤ s.count) : s.upTo d = s := by
  unfold State.upTo
  rw [max_eq_left h]

/-- A command that faults travel runs its fault on a state that differs in the inputs and travel alone. -/
theorem exec_faultsTravel {c : Instr} {cause : TravelFault} (h : s.faultsTravel c cause) : ∃ v : State,
    exec c s = .next (v.faultTravel cause).finish ∧ s.onlyIn v [.inputs, .travel] ∧ v.travel.state ≠ .faulted
      ∧ v.travel.position = s.travel.position := by
  obtain ⟨hne, h⟩ := h
  cases c <;> simp only at h
  case positionSample value =>
    obtain ⟨hm, h⟩ := h
    refine ⟨s.onTravel (fun t => { t with encoderTimer := some (s.count + 100) }), ?_,
      (State.onlyIn_onTravel _ _).mono (by decide), hne, rfl⟩
    have he := Travel.encoderFault_of_ne hne
    rcases h with ⟨hmax, rfl⟩ | ⟨hmax, rfl, hj⟩
    · rw [exec_positionSample hm, State.judgeSample_outOfRange (by exact hmax), if_neg (by exact Bool.eq_false_iff.1 he)]
    · rw [exec_positionSample hm, State.judgeSample_jumps (by exact hmax) (by exact he) (by exact hj)]
  case encoderTimerExpiry =>
    obtain ⟨rfl, d, hd, hle⟩ := h
    refine ⟨s.onTravel (fun v => { v with encoderTimer := none }), ?_, (State.onlyIn_onTravel _ _).mono (by decide), hne, rfl⟩
    have run : exec .encoderTimerExpiry s = .next (s.expire s.travel.encoderTimer State.encoderExpiry).finish := rfl
    rw [run, hd]
    show Host.Outcome.next (State.finish (s.upTo d).encoderExpiry) = _
    rw [State.upTo_past hle]
    exact congrArg (fun v => Host.Outcome.next (State.finish v)) (if_neg (by exact Bool.eq_false_iff.1 (Travel.encoderFault_of_ne hne)))
  case brakeReleasedChange active =>
    obtain ⟨hm, rfl, h⟩ := h
    refine ⟨{ s with inputs := { s.inputs with brakeReleased := active } }, ?_, fun b hb => by cases b <;> simp_all [State.agree], hne, rfl⟩
    rw [exec_brakeChange hm]
    refine congrArg (fun v => Host.Outcome.next (State.finish v)) ?_
    unfold State.brakeInput
    rcases h with ⟨rfl, hs | hs⟩ | ⟨rfl, hs⟩ <;> simp [hs]
  case brakeFailTimerExpiry =>
    obtain ⟨rfl, hs, d, hd, hle⟩ := h
    refine ⟨s.onTravel (fun v => { v with brakeFailTimer := none }), ?_, (State.onlyIn_onTravel _ _).mono (by decide), hne, rfl⟩
    have run : exec .brakeFailTimerExpiry s = .next (s.expire s.travel.brakeFailTimer (fun t =>
        let u := t.onTravel (fun v => { v with brakeFailTimer := none })
        if u.travel.state = .releasing then u.faultTravel .brake else u)).finish := rfl
    rw [run, hd]
    refine congrArg (fun v => Host.Outcome.next (State.finish v)) ((if_pos hs).trans ?_)
    rw [show ({ s with count := max s.count d } : State) = s from State.upTo_past hle]
  case settleTimerExpiry =>
    obtain ⟨rfl, hs, hb, d, hd, hle⟩ := h
    refine ⟨s.onTravel (fun v => { v with settleTimer := none }), ?_, (State.onlyIn_onTravel _ _).mono (by decide), hne, rfl⟩
    rw [exec_settleTimer hd hs, if_pos hb, State.upTo_past hle]

theorem State.heldBy_congr (hp : t.pour = s.pour) (hn : t.count = s.count) (hc : t.cfg = s.cfg) (c : SuspendCause) :
    t.heldBy c = s.heldBy c := by
  unfold State.heldBy
  rw [hp, hn, State.block, State.block, hc]

/-- The end of a command that has faulted travel and given the pour this record. -/
theorem State.faulted_poured {v : State} {cause : TravelFault} {p : Pour} {bodies : List NoticeBody} {b : Bills} {due : Bool}
    (honly : s.onlyIn v [.inputs, .travel]) (hpos : v.travel.position = s.travel.position)
    (ht : t = ((v.traveled (v.travel.broken cause) [.travelFault cause v.travel.position] true).poured p bodies b due).finish) :
    s.onlyIn t [.inputs, .travel, .port, .line, .pour, .bills] ∧ t.travel = v.travel.broken cause ∧ t.pour = p ∧ t.bills = b
      ∧ t.port = s.port.raiseAll s.count (.travelFault cause s.travel.position :: bodies) := by
  subst ht
  refine ⟨?_, State.finish_travel _, State.finish_pour _, State.finish_bills _, ?_⟩
  · exact (((honly.mono (by decide)).trans ((State.onlyIn_traveled _ _ _ _).mono (by decide))).trans
      ((State.onlyIn_poured _ _ _ _ _).mono (by decide))).add (by decide) (State.onlyIn_finish _)
  · refine (State.finish_port _).trans ?_
    have hport : v.port = s.port := honly .port (by decide)
    have hcount : v.count = s.count := honly .count (by decide)
    rw [State.poured_port, State.traveled_port, State.traveled_count, hport, hcount, hpos]
    rfl

end Sys2Proof.Machine

open Sys2Proof Sys2Proof.Machine

/-- Settles O36. -/
theorem releasingAndSettlingEndByTheBrake : Obligations.ReleasingAndSettlingEndByTheBrake := by
  refine ⟨⟨fun s d pos target r hq hs hp hr ht hd => ⟨fun hb => ?_, fun hb hfar => ?_, fun hb hnear => ?_⟩,
    fun s pos target r hq hm hs hp hr ht hfar => ⟨fun d hd => ?_, fun hd => ?_⟩, fun s d hq hs hd hlo => ?_⟩,
    fun s d hq hs hd hidle => ⟨fun hb => ?_, fun hb ht => ?_, fun pos target r src hb hp ht hr hsrc => ?_⟩⟩
  · rw [exec_releaseTimer hd hs, if_neg (by simp [hb])]
    exact congrArg _ (State.finish_of_quiet hq)
  · have hmove := State.enterMoving_eq (s := (s.upTo d).onTravel (fun v => { v with releaseTimer := none })) (pos := pos)
      (target := target) (r := r) hp hr ht
    rw [if_neg (by exact not_not.2 hfar)] at hmove
    have hrun := exec_releaseTimer hd hs
    rw [if_pos hb, hmove, State.onTravel_eq, State.traveled_traveled] at hrun
    obtain ⟨t, hcall, -, hcount, htravel, -, honly⟩ := State.traveled_at hrun
    have hstep := congrArg Travel.step htravel
    refine ⟨t, hcall, honly rfl, hcount, ?_, ?_, ?_, fun hlo => ?_⟩
    · rw [hstep]
      exact htravel
    · rw [hstep, htravel]
      rfl
    · rw [hstep]
      exact State.speedStep_ne_zero _ _
    · rw [hstep]
      exact State.speedStep_open hlo _ _
  · have hmove := State.enterMoving_eq (s := (s.upTo d).onTravel (fun v => { v with releaseTimer := none })) (pos := pos)
      (target := target) (r := r) hp hr ht
    rw [if_pos (by exact hnear)] at hmove
    have hrun := exec_releaseTimer hd hs
    rw [if_pos hb, hmove, State.onTravel_eq, State.traveled_traveled] at hrun
    obtain ⟨t, hcall, -, hcount, htravel, -, honly⟩ := State.traveled_at hrun
    refine ⟨t, hcall, honly rfl, hcount, ?_⟩
    rw [htravel, hcount]
    exact ⟨rfl, ht, rfl, rfl, rfl, rfl, rfl, rfl, rfl⟩
  · rw [exec_brakeChange hm]
    unfold State.brakeInput
    rw [show ({ s with inputs := { s.inputs with brakeReleased := true } } : State).travel.state = .releasing from hs]
    refine congrArg Host.Outcome.next ((congrArg State.finish (if_neg ?_)).trans (State.finish_of_quiet (by exact hq)))
    rintro ⟨-, h⟩
    rw [show s.travel.releaseTimer = none from h] at hd
    cases hd
  · have hmove := State.enterMoving_eq (s := { s with inputs := { s.inputs with brakeReleased := true } }) (pos := pos)
      (target := target) (r := r) hp hr ht
    rw [if_neg (by exact not_not.2 hfar)] at hmove
    have hrun := exec_brakeChange (s := s) (active := true) hm
    unfold State.brakeInput at hrun
    rw [show ({ s with inputs := { s.inputs with brakeReleased := true } } : State).travel.state = .releasing from hs] at hrun
    dsimp only at hrun
    rw [if_pos ⟨rfl, hd⟩, hmove] at hrun
    obtain ⟨honly, htravel, -⟩ := State.traveled_finish { s with inputs := { s.inputs with brakeReleased := true } } { s.travel with
      state := .moving, direction := some (if target < pos then .up else .down), releaseTimer := none, brakeFailTimer := none
      step := ({ s with inputs := { s.inputs with brakeReleased := true } } : State).speedStep (if target < pos then .up else .down)
        (stopPointOf r.lower r.upper pos target - pos).natAbs } [] true
    refine ⟨_, hrun, fun b hb => ?_, honly .inputs (by decide), congrArg Travel.state htravel, congrArg Travel.direction htravel⟩
    cases b <;> simp_all [State.agree, LocalPort.raiseAll]
  · have run : exec .brakeFailTimerExpiry s = .next (s.expire s.travel.brakeFailTimer (fun t =>
        let u := t.onTravel (fun v => { v with brakeFailTimer := none })
        if u.travel.state = .releasing then u.faultTravel .brake else u)).finish := rfl
    have hfault := State.faultTravel_breaks (s := (s.upTo d).onTravel (fun v => { v with brakeFailTimer := none })) hlo
      (by show s.travel.state ≠ .faulted; rw [hs]; nofun) .brake
    have hrun : exec .brakeFailTimerExpiry s
        = .next (((s.upTo d).onTravel (fun v => { v with brakeFailTimer := none })).faultTravel .brake).finish := by
      rw [run, hd]
      refine congrArg (fun v => Host.Outcome.next (State.finish v)) ?_
      exact if_pos hs
    rw [hfault, State.onTravel_eq, State.traveled_traveled] at hrun
    obtain ⟨t, hcall, honly, -, htravel, hport, -⟩ := State.traveled_at hrun
    refine ⟨t, hcall, honly, ?_⟩
    rw [htravel, hport]
    exact ⟨rfl, rfl, rfl, rfl, rfl, rfl, rfl⟩
  · have hlo : s.lineOpen = false := by rw [State.lineOpen, hidle]; rfl
    have hfault := State.faultTravel_breaks (s := (s.upTo d).onTravel (fun v => { v with settleTimer := none })) hlo
      (by show s.travel.state ≠ .faulted; rw [hs]; nofun) .brake
    have hrun := exec_settleTimer hd hs
    rw [if_pos hb, hfault, State.onTravel_eq, State.traveled_traveled] at hrun
    obtain ⟨t, hcall, honly, -, htravel, -⟩ := State.traveled_at hrun
    refine ⟨t, hcall, ?_, ?_, honly⟩ <;> rw [htravel] <;> rfl
  · have hrun := exec_settleTimer hd hs
    rw [if_neg (by simp [hb]), State.settled_without (by exact ht), State.tellArrival_none, State.park_eq, State.onTravel_eq,
      State.traveled_traveled] at hrun
    obtain ⟨t, hcall, -, -, htravel, -, honly⟩ := State.traveled_at hrun
    refine ⟨t, hcall, honly rfl, ?_⟩
    rw [htravel]
    exact ⟨rfl, rfl, rfl⟩
  · have hlo : s.lineOpen = false := by rw [State.lineOpen, hidle]; rfl
    have hrun := exec_settleTimer hd hs
    rw [if_neg (by simp [hb]), State.settled_eq (s := (s.upTo d).onTravel (fun v => { v with settleTimer := none })) (pos := pos)
      (target := target) (r := r) (src := src) hp hr ht hsrc] at hrun
    have hends : ∀ (v : Travel) (bodies : List NoticeBody) (due : Bool) (o : Option OrderSource),
        State.tellArrival (((s.upTo d).onTravel (fun v => { v with settleTimer := none })).traveled v bodies due, o)
          = (s.upTo d).traveled v bodies due := by
      intro v bodies due o
      rw [State.tellArrival_quiet (show s.pour.state ≠ .positioning by rw [hidle]; nofun) (by exact hlo), State.onTravel_eq, State.traveled_traveled]
      rfl
    by_cases hfar : fartherThan s.block.tolerance pos target
    · rw [if_neg (by exact not_not.2 hfar)] at hrun
      by_cases hgo : stopPointOf r.lower r.upper pos target = target ∨ fartherThan s.block.creep pos (stopPointOf r.lower r.upper pos target)
      · rw [if_pos (by exact hgo), hends] at hrun
        obtain ⟨t, hcall, honly, hcount, htravel, hport, -⟩ := State.traveled_at hrun
        refine ⟨t, hcall, honly, hcount, by rw [htravel]; exact hp, ?_⟩
        rw [if_neg (not_not.2 hfar), if_pos hgo, htravel, hport, hcount]
        exact ⟨rfl, ht, hsrc, rfl, rfl⟩
      · rw [if_neg (by exact hgo), hends] at hrun
        obtain ⟨t, hcall, honly, hcount, htravel, hport, -⟩ := State.traveled_at hrun
        refine ⟨t, hcall, honly, hcount, by rw [htravel]; exact hp, ?_⟩
        rw [if_neg (not_not.2 hfar), if_neg hgo, htravel, hport, hcount]
        exact ⟨rfl, ht, hsrc, rfl⟩
    · rw [if_pos (by exact hfar), hends] at hrun
      obtain ⟨t, hcall, honly, hcount, htravel, hport, -⟩ := State.traveled_at hrun
      refine ⟨t, hcall, honly, hcount, by rw [htravel]; exact hp, ?_⟩
      rw [if_pos hfar, htravel, hport, hcount]
      exact ⟨rfl, rfl, rfl, rfl⟩

/-- Settles O35. -/
theorem encoderAndBrakeFaultTravel : Obligations.EncoderAndBrakeFaultTravel := by
  refine ⟨fun s d hq hd => ⟨fun he => ?_, fun he hlo => ?_⟩, fun s active hq => ⟨fun hrest => ?_, fun hm hlo hbad => ?_⟩,
    fun s c cause k hq hfault hk => ⟨fun hs hg hcauses hb => ?_, fun hs hcauses hb hoff => ?_⟩⟩
  · have run : exec .encoderTimerExpiry s = .next (s.expire s.travel.encoderTimer State.encoderExpiry).finish := rfl
    rw [run, hd]
    refine congrArg Host.Outcome.next ((congrArg State.finish (if_pos (by exact he))).trans ?_)
    exact State.finish_of_quiet hq
  · have hfault : ∃ w, ((s.upTo d).onTravel (fun v => { v with encoderTimer := none })).faultTravel .encoderSilent
          = ((s.upTo d).traveled w [.travelFault .encoderSilent s.travel.position] (if s.travel.state = .faulted then s.line.statusDue else true))
        ∧ w.state = .faulted ∧ w.cause = some .encoderSilent ∧ w.position = s.travel.position ∧ w.recovery = none
        ∧ w.encoderTimer = none ∧ (s.travel.state ≠ .faulted → w.target = none ∧ w.source = none ∧ w.direction = none) := by
      by_cases hf : s.travel.state = .faulted
      · rw [State.faultTravel_shut (by exact hlo), State.enterFaulted_again (by exact hf), State.onTravel_eq, State.traveled_traveled, if_pos hf]
        exact ⟨_, rfl, hf, rfl, rfl, rfl, rfl, fun h => absurd hf h⟩
      · rw [State.faultTravel_breaks (by exact hlo) (by exact hf), State.onTravel_eq, State.traveled_traveled, if_neg hf]
        exact ⟨_, rfl, rfl, rfl, rfl, rfl, rfl, fun _ => ⟨rfl, rfl, rfl⟩⟩
    obtain ⟨w, hw, hstate, hcause, hposition, hrecovery, htimer, hdropped⟩ := hfault
    have run : exec .encoderTimerExpiry s = .next ((s.upTo d).traveled w [.travelFault .encoderSilent s.travel.position]
        (if s.travel.state = .faulted then s.line.statusDue else true)).finish := by
      have call : exec .encoderTimerExpiry s = .next (s.expire s.travel.encoderTimer State.encoderExpiry).finish := rfl
      rw [call, hd, ← hw]
      refine congrArg (fun v => Host.Outcome.next (State.finish v)) ?_
      exact if_neg (by exact Bool.eq_false_iff.1 he)
    obtain ⟨t, hcall, honly, hcount, htravel, hport, -⟩ := State.traveled_at run
    refine ⟨t, hcall, honly, hcount, ?_⟩
    rw [htravel, hport, hcount]
    refine ⟨hstate, hcause, hposition, ?_, hrecovery, htimer, hdropped, rfl⟩
    simp [Travel.positionValid, Travel.encoderFault, hstate, hcause]
  · have still : exec (.brakeReleasedChange active) s
        = .next ({ s with inputs := { s.inputs with brakeReleased := active } } : State).finish := by
      by_cases hm : s.port.mode = .config
      · show Host.Outcome.next (State.finish (if s.configured then _ else _)) = _
        rw [State.unconfigured hm]
        rfl
      · rw [exec_brakeChange hm]
        refine congrArg (fun v => Host.Outcome.next (State.finish v)) ?_
        unfold State.brakeInput
        rcases hrest.resolve_left hm with hs | hs | ⟨rfl, hs | hs⟩ | ⟨rfl, hs⟩ <;> simp [hs]
    rw [still]
    exact congrArg _ (State.finish_of_quiet hq)
  · have hact : ({ s with inputs := { s.inputs with brakeReleased := active } } : State).brakeInput active
        = ({ s with inputs := { s.inputs with brakeReleased := active } } : State).faultTravel .brake := by
      unfold State.brakeInput
      rcases hbad with ⟨rfl, hs | hs⟩ | ⟨rfl, hs⟩ <;> simp [hs]
    have hne : s.travel.state ≠ .faulted := by
      rcases hbad with ⟨-, hs | hs⟩ | ⟨-, hs⟩ <;> rw [hs] <;> nofun
    rw [exec_brakeChange hm, hact, State.faultTravel_breaks (by exact hlo) (by exact hne)]
    obtain ⟨honly, htravel, hport⟩ := State.traveled_finish { s with inputs := { s.inputs with brakeReleased := active } }
      (s.travel.broken .brake) [.travelFault .brake s.travel.position] true
    have hinputs : s.onlyIn ({ s with inputs := { s.inputs with brakeReleased := active } } : State) [.inputs] := fun b hb => by
      cases b <;> simp_all [State.agree]
    refine ⟨_, rfl, (hinputs.mono (by decide)).trans (honly.mono (by decide)), honly .inputs (by decide), ?_⟩
    simp only [htravel, hport]
    exact ⟨rfl, rfl, rfl, rfl, rfl, rfl⟩
  · obtain ⟨v, hcall, honly, hne, hpos⟩ := exec_faultsTravel hfault
    have hpour : v.pour = s.pour := honly .pour (by decide)
    have hfill : v.fill = s.fill := honly .fill (by decide)
    have hbills : v.bills = s.bills := honly .bills (by decide)
    have hsuspends : v.faultTravel cause
        = (v.traveled (v.travel.broken cause) [.travelFault cause v.travel.position] true).poured (s.heldBy .travel)
          [.pourSuspended k.slot k.hold { CauseSet.empty with travel := true }] s.bills.countSuspension true := by
      have hflow : v.pour.state.flowing = true := by rw [hpour]; rcases hs with h | h <;> rw [h] <;> rfl
      unfold State.faultTravel
      rw [State.enterFaulted_eq hne, State.addCause_suspends (by decide) (by exact hflow) (by rw [State.traveled_pour, hpour, hcauses]; rfl)
        (by rw [State.traveled_fill, hfill]; exact hk),
        Pour.suspended_heldBy (by rw [State.traveled_pour, hpour]; exact hcauses) (by rw [State.traveled_pour, hpour]; exact hg) rfl
          (by rw [State.traveled_pour, hpour]; exact hb),
        State.heldBy_congr (s := s) (t := State.traveled _ _ _ _) hpour (honly .count (by decide)) (honly .cfg (by decide)), State.traveled_pour, hpour, hcauses,
        State.traveled_bills, hbills]
      rfl
    rw [hsuspends] at hcall
    obtain ⟨hframe, htravel, htpour, htbills, hport⟩ := State.faulted_poured honly hpos rfl
    refine ⟨_, hcall, hframe, ?_⟩
    rw [htravel, htpour, htbills, hport]
    exact ⟨rfl, rfl, rfl, rfl, rfl, rfl, hpos, rfl, rfl, rfl⟩
  · obtain ⟨v, hcall, honly, hne, hpos⟩ := exec_faultsTravel hfault
    have hpour : v.pour = s.pour := honly .pour (by decide)
    have hfill : v.fill = s.fill := honly .fill (by decide)
    have hbills : v.bills = s.bills := honly .bills (by decide)
    have hstops : (s.pour.causes.put true .travel).stopsBelt = s.pour.causes.stopsBelt := rfl
    have hbelted : ∀ running timer, (s.pour.withCause .travel).belted running timer (!(s.pour.causes.put true .travel).stopsBelt)
        = s.pour.withCause .travel := by
      intro running timer
      rw [hstops, ← hb]
      cases hon : s.pour.beltOn with
      | true => exact Pour.belted_keeps (by exact hon) _ _
      | false =>
        obtain ⟨hw, ht⟩ := hoff hon
        exact Pour.belted_off_of (by exact hon) (by exact hw) (by exact ht) _ _
    have hjoins : v.faultTravel cause
        = (v.traveled (v.travel.broken cause) [.travelFault cause v.travel.position] true).poured (s.pour.withCause .travel)
          [.pourSuspended k.slot k.hold { s.pour.causes with travel := true }] s.bills true := by
      have hlo : v.lineOpen = true := by
        rw [State.lineOpen, hpour]
        rcases hs with h | h <;> rw [h] <;> rfl
      unfold State.faultTravel
      rw [State.enterFaulted_eq hne, State.addCause_of_clear (by rw [State.traveled_pour, hpour]; exact hcauses) (by exact hlo),
        if_neg (by decide), State.causes_join (by rw [State.traveled_pour, hpour]; exact hs) (by rw [State.traveled_pour, hpour]; exact hcauses)
          (by rw [State.traveled_fill, hfill]; exact hk), State.traveled_pour, hpour, hbelted, State.traveled_bills, hbills]
      rfl
    rw [hjoins] at hcall
    obtain ⟨hframe, htravel, htpour, htbills, hport⟩ := State.faulted_poured honly hpos rfl
    refine ⟨_, hcall, hframe.drop fun b hb => ?_, ?_⟩
    · by_cases hbill : b = .bills
      · subst hbill
        exact .inr htbills
      · exact .inl (by simpa [hbill] using hb)
    · rw [htravel, htpour, hport]
      exact ⟨rfl, rfl, rfl, rfl, rfl, rfl⟩

end

section
/-! Trim and draft (section 6.3) and the permitted range (section 5.3). -/

namespace Sys2Proof.Machine

variable {s t u : State}

/-! ## Trim and draft (R105) -/

/-- The entered holds, numbered from `i`. -/
def enteredFrom (i : Nat) (holds : List Hold) : List (Nat × HoldPlan) :=
  (holds.zipIdx i).filterMap (fun hd => hd.1.plan.map (fun p => (hd.2, p)))

theorem cargoSums_eq (pred : Nat → Nat) (holds : List Hold) (i : Nat) : cargoSums pred i holds
    = (((enteredFrom i holds).map (fun e => pred e.1)).sum, ((enteredFrom i holds).map (fun e => (pred e.1 : Int) * e.2.lever)).sum) := by
  induction holds generalizing i with
  | nil => rfl
  | cons d rest ih =>
    have tail := ih (i + 1)
    unfold cargoSums
    cases hp : d.plan with
    | none =>
      have skip : enteredFrom i (d :: rest) = enteredFrom (i + 1) rest := by simp [enteredFrom, hp]
      rw [skip]
      exact tail
    | some p =>
      have take : enteredFrom i (d :: rest) = (i, p) :: enteredFrom (i + 1) rest := by simp [enteredFrom, hp]
      rw [take, tail]
      simp only [List.map_cons, List.sum_cons]
      rw [Nat.add_comm, Int.add_comm]

theorem ceilDiv_bounds (a b : Nat) (h : 0 < b) : a ≤ ceilDiv a b * b ∧ (0 < ceilDiv a b → (ceilDiv a b - 1) * b < a) := by
  unfold ceilDiv
  have hdiv := Nat.div_add_mod (a + b - 1) b
  have hmod := Nat.mod_lt (a + b - 1) h
  have hcomm := Nat.mul_comm b ((a + b - 1) / b)
  refine ⟨by omega, fun hq => ?_⟩
  rw [Nat.sub_mul, Nat.one_mul]
  have hle : b ≤ (a + b - 1) / b * b := Nat.le_mul_of_pos_left b hq
  omega

/-! ## The permitted range (R85, R86) -/

/-- The tighter of two terms of a side, the second where they are equal. -/
def tighten (side : Side) (edge term : Int × EdgeTerm) : Int × EdgeTerm :=
  if sense side * edge.1 ≤ sense side * term.1 then term else edge

theorem tighten_up (edge term : Int × EdgeTerm) : tighten .up edge term = raiseEdge edge term := by
  simp [tighten, raiseEdge, sense]

theorem tighten_down (edge term : Int × EdgeTerm) : tighten .down edge term = lowerEdge edge term := by
  simp [tighten, lowerEdge, sense]

/-- The result of a tightening is one of the two, and no less tight than either. -/
theorem tighten_cases (side : Side) (edge term : Int × EdgeTerm) :
    (tighten side edge term = term ∧ sense side * edge.1 ≤ sense side * term.1)
      ∨ (tighten side edge term = edge ∧ sense side * term.1 < sense side * edge.1) := by
  unfold tighten
  split
  · exact .inl ⟨rfl, ‹_›⟩
  · exact .inr ⟨rfl, not_le.1 ‹_›⟩

theorem State.plainEdge_eq (side : Side) (w : Option (Int × Int)) : s.plainEdge side w = (match w with
    | none => (s.railEnd side, .rail)
    | some iv => tighten side (s.railEnd side, .rail) (windowEnd iv side, .window)) := by
  cases side <;> cases w <;> simp [State.plainEdge, State.railEnd, windowEnd, tighten_up, tighten_down]

theorem Report.underWay_iff (q : Report) : q.underWay = true ↔ q.travel = 0x02 ∨ q.travel = 0x03 := by
  simp [Report.underWay, TravelState.code]

theorem Report.boundFrom_eq (q : Report) (side : Side) : q.boundFrom side = boundedFrom side q := by
  unfold Report.boundFrom boundedFrom
  cases q.target with
  | none => rfl
  | some goal => cases side <;> simp [Report.underWay_iff, sense]

theorem awayFrom_eq (side : Side) (x d : Int) : awayFrom side x d = x + sense side * d := by
  cases side <;> simp [awayFrom, sense]
  rfl

/-- The term of a side, with its value (R86). -/
theorem State.bound_some_iff {side : Side} {value : Int} {term : EdgeTerm} :
    s.bound side = some (some value, term) ↔ s.sideTerm side value term := by
  unfold State.bound State.sideTerm
  cases hn : s.nearest side with
  | none =>
    simp only [true_and, reduceCtorEq, false_and, exists_false, or_false]
    cases (s.line.port side).chainEnd <;> simp [eq_comm]
  | some e =>
    simp only [reduceCtorEq, false_and, false_or, Option.some.injEq, exists_eq_left']
    cases hr : e.report with
    | none => simp [eq_comm, and_comm]
    | some q =>
      dsimp only
      rw [awayFrom_eq, awayFrom_eq, Report.boundFrom_eq]
      cases q.positionValid with
      | false => simp [eq_comm, and_comm]
      | true =>
        by_cases hf : e.freshness = .fresh
        · simp [hf, eq_comm, and_comm]
        · simp [hf, eq_comm, and_comm, Config.staleMargin]

/-- A side whose term has no value: the position that would give it is unknown (R86, assumption 25). -/
theorem State.bound_none_iff {side : Side} : (∃ term, s.bound side = some (none, term))
    ↔ s.travel.position = none ∧ ((s.nearest side = none ∧ (s.line.port side).chainEnd = false)
      ∨ ∃ e, s.nearest side = some e ∧ positionKnown e.report = false) := by
  unfold State.bound
  cases hn : s.nearest side with
  | none =>
    simp only [true_and, reduceCtorEq, false_and, exists_false, or_false]
    cases (s.line.port side).chainEnd <;> simp
  | some e =>
    simp only [reduceCtorEq, false_and, false_or, Option.some.injEq, exists_eq_left']
    cases hr : e.report with
    | none => simp [positionKnown]
    | some q =>
      dsimp only [positionKnown]
      cases q.positionValid with
      | false => simp
      | true =>
        by_cases hf : e.freshness = .fresh
        · simp [hf]
        · simp [hf]

/-- What an edge is, and that no term of its side is tighter (R85). -/
theorem State.computeEdge_spec {side : Side} {w : Option (Int × Int)} {edge : Int × EdgeTerm} (h : s.computeEdge side w = some edge) :
    sense side * s.railEnd side ≤ sense side * edge.1
      ∧ (∀ iv, w = some iv → sense side * windowEnd iv side ≤ sense side * edge.1)
      ∧ (∀ value term, s.sideTerm side value term → sense side * value ≤ sense side * edge.1)
      ∧ ((edge = (s.railEnd side, .rail) ∧ (∀ iv, w = some iv → sense side * windowEnd iv side < sense side * edge.1)
            ∧ ∀ value term, s.sideTerm side value term → sense side * value < sense side * edge.1)
        ∨ ((∃ iv, w = some iv ∧ edge = (windowEnd iv side, .window))
            ∧ ∀ value term, s.sideTerm side value term → sense side * value < sense side * edge.1)
        ∨ s.sideTerm side edge.1 edge.2) := by
  have hplain : sense side * s.railEnd side ≤ sense side * (s.plainEdge side w).1
      ∧ (∀ iv, w = some iv → sense side * windowEnd iv side ≤ sense side * (s.plainEdge side w).1)
      ∧ ((s.plainEdge side w = (s.railEnd side, .rail)
            ∧ ∀ iv, w = some iv → sense side * windowEnd iv side < sense side * (s.plainEdge side w).1)
        ∨ ∃ iv, w = some iv ∧ s.plainEdge side w = (windowEnd iv side, .window)) := by
    rw [State.plainEdge_eq]
    cases w with
    | none => exact ⟨le_rfl, nofun, .inl ⟨rfl, nofun⟩⟩
    | some iv =>
      dsimp only
      rcases tighten_cases side (s.railEnd side, .rail) (windowEnd iv side, .window) with ⟨he, hle⟩ | ⟨he, hlt⟩
      · rw [he]
        exact ⟨hle, fun jv hj => by cases hj; exact le_rfl, .inr ⟨iv, rfl, rfl⟩⟩
      · rw [he]
        exact ⟨le_rfl, fun jv hj => by cases hj; exact hlt.le, .inl ⟨rfl, fun jv hj => by cases hj; exact hlt⟩⟩
  obtain ⟨hrail, hwindow, hcredit⟩ := hplain
  unfold State.computeEdge at h
  cases hb : s.bound side with
  | none =>
    have hnone : ∀ value term, ¬s.sideTerm side value term := fun value term k => by
      rw [← State.bound_some_iff, hb] at k
      cases k
    rw [hb] at h
    cases h
    refine ⟨hrail, hwindow, fun value term k => absurd k (hnone _ _), ?_⟩
    rcases hcredit with ⟨he, hlt⟩ | he
    · exact .inl ⟨he, hlt, fun value term k => absurd k (hnone _ _)⟩
    · exact .inr (.inl ⟨he, fun value term k => absurd k (hnone _ _)⟩)
  | some bt =>
    obtain ⟨b, term⟩ := bt
    rw [hb] at h
    cases b with
    | none => cases h
    | some b =>
      have hside : s.sideTerm side b term := State.bound_some_iff.1 hb
      have honly : ∀ value k, s.sideTerm side value k → value = b := fun value k hk => by
        rw [← State.bound_some_iff, hb] at hk
        cases hk
        rfl
      have hedge : edge = tighten side (s.plainEdge side w) (b, term) := by
        cases side
        · exact (Option.some.inj h).symm.trans (tighten_up _ _).symm
        · exact (Option.some.inj h).symm.trans (tighten_down _ _).symm
      rcases tighten_cases side (s.plainEdge side w) (b, term) with ⟨he, hle⟩ | ⟨he, hlt⟩
      · rw [hedge, he]
        refine ⟨hrail.trans hle, fun iv hi => (hwindow iv hi).trans hle, fun value k hk => ?_, .inr (.inr hside)⟩
        rw [honly value k hk]
      · rw [hedge, he]
        refine ⟨hrail, hwindow, fun value k hk => by rw [honly value k hk]; exact hlt.le, ?_⟩
        have hless : ∀ value k, s.sideTerm side value k → sense side * value < sense side * (s.plainEdge side w).1 :=
          fun value k hk => by rw [honly value k hk]; exact hlt
        rcases hcredit with ⟨he, hlt⟩ | he
        · exact .inl ⟨he, hlt, hless⟩
        · exact .inr (.inl ⟨he, hless⟩)

/-- The side's own term for a peer whose position is known (R86). -/
theorem State.sideTerm_known {side : Side} {e : PeerEntry} {q : Report} (he : s.nearest side = some e) (hr : e.report = some q)
    (hv : q.positionValid = true) :
    (e.freshness = .fresh → s.sideTerm side (boundedFrom side q + sense side * s.block.separation) (.peer e.station))
      ∧ (e.freshness ≠ .fresh → s.sideTerm side (q.position + sense side * (s.block.separation + 5000)) (.peer e.station)) := by
  constructor
  · intro hf
    exact .inr ⟨e, he, rfl, by simp [hr, hv, hf]⟩
  · intro hf
    exact .inr ⟨e, he, rfl, by simp [hr, hv, hf]⟩

/-- The side's own term where the present position gives it (R86). -/
theorem State.sideTerm_here {side : Side} {pos : Int} (hp : s.travel.position = some pos) :
    (∀ e, s.nearest side = some e → positionKnown e.report = false → s.sideTerm side pos (.peer e.station))
      ∧ (s.nearest side = none → (s.line.port side).chainEnd = false → s.sideTerm side pos .noPeer) := by
  refine ⟨fun e he hk => .inr ⟨e, he, rfl, ?_⟩, fun hn hc => .inl ⟨hn, hc, hp, rfl⟩⟩
  cases hr : e.report with
  | none => exact hp
  | some q =>
    rw [hr] at hk
    exact (if_pos hk).mpr hp

theorem State.sideTerm_credit {side : Side} {value : Int} {term : EdgeTerm} (h : s.sideTerm side value term) :
    (s.nearest side = none ∧ term = .noPeer) ∨ ∃ e, s.nearest side = some e ∧ term = .peer e.station := by
  rcases h with ⟨hn, -, -, rfl⟩ | ⟨e, he, rfl, -⟩
  · exact .inl ⟨hn, rfl⟩
  · exact .inr ⟨e, he, rfl⟩

/-- What a FRESH peer's report bounds from is neither before its position nor before its target under way. -/
theorem boundedFrom_le (side : Side) (q : Report) : sense side * q.position ≤ sense side * boundedFrom side q
    ∧ ∀ goal, q.target = some goal → (q.travel = 0x02 ∨ q.travel = 0x03) → sense side * goal ≤ sense side * boundedFrom side q := by
  unfold boundedFrom
  cases q.target with
  | none => exact ⟨le_rfl, nofun⟩
  | some goal =>
    dsimp only
    split
    · next h =>
      have hlt := h.2
      rw [mul_sub] at hlt
      exact ⟨by omega, fun g hg _ => by cases hg; exact le_rfl⟩
    · next h =>
      refine ⟨le_rfl, fun g hg hu => ?_⟩
      cases hg
      have hle : ¬0 < sense side * (goal - q.position) := fun hlt => h ⟨hu, hlt⟩
      rw [mul_sub] at hle
      omega

theorem sense_mul_add (side : Side) (x d : Int) : sense side * (x + sense side * d) = sense side * x + d := by
  cases side <;> simp [sense]
  omega

/-- How far an edge keeps from a peer whose position is known, and from the present position otherwise (R85, R86). -/
theorem State.edge_keeps {side : Side} {w : Option (Int × Int)} {edge : Int × EdgeTerm} (h : s.computeEdge side w = some edge) :
    (∀ e q, s.nearest side = some e → e.report = some q → q.positionValid = true →
        (e.freshness = .fresh → sense side * q.position + s.block.separation ≤ sense side * edge.1
          ∧ ∀ goal, q.target = some goal → (q.travel = 0x02 ∨ q.travel = 0x03) →
            sense side * goal + s.block.separation ≤ sense side * edge.1)
        ∧ (e.freshness ≠ .fresh → sense side * q.position + s.block.separation + 5000 ≤ sense side * edge.1))
      ∧ (∀ pos, s.travel.position = some pos →
        (∀ e, s.nearest side = some e → positionKnown e.report = false → sense side * pos ≤ sense side * edge.1)
        ∧ (s.nearest side = none → (s.line.port side).chainEnd = false → sense side * pos ≤ sense side * edge.1))
      ∧ (edge = (s.railEnd side, .rail) ∨ (∃ iv, w = some iv ∧ edge = (windowEnd iv side, .window))
        ∨ (s.nearest side = none ∧ edge.2 = .noPeer) ∨ ∃ e, s.nearest side = some e ∧ edge.2 = .peer e.station) := by
  obtain ⟨-, -, hside, hcredit⟩ := State.computeEdge_spec h
  refine ⟨fun e q he hr hv => ⟨fun hf => ?_, fun hf => ?_⟩, fun pos hp => ⟨fun e he hk => hside _ _ ((State.sideTerm_here hp).1 e he hk),
    fun hn hc => hside _ _ ((State.sideTerm_here hp).2 hn hc)⟩, ?_⟩
  · have hle := hside _ _ ((State.sideTerm_known he hr hv).1 hf)
    rw [sense_mul_add] at hle
    obtain ⟨hpos, hgoal⟩ := boundedFrom_le side q
    exact ⟨by omega, fun goal hg hu => by have := hgoal goal hg hu; omega⟩
  · have hle := hside _ _ ((State.sideTerm_known he hr hv).2 hf)
    rw [sense_mul_add] at hle
    omega
  · rcases hcredit with ⟨he, -⟩ | ⟨he, -⟩ | he
    · exact .inl he
    · exact .inr (.inl he)
    · exact .inr (.inr (State.sideTerm_credit he))

end Sys2Proof.Machine

open Sys2Proof Sys2Proof.Machine

/-- Settles O37. -/
theorem trimAndDraftAreComputedExactly : Obligations.TrimAndDraftAreComputedExactly := by
  intro ses pred entered hentered hmct htpc
  have hsums := cargoSums_eq pred ses.holds 1
  rw [show enteredFrom 1 ses.holds = entered from hentered.symm] at hsums
  obtain ⟨hfits, hleast⟩ := ceilDiv_bounds (cargoSums pred 1 ses.holds).1 (ses.tpc * 1000) (by omega)
  have hdraft : (ses.trimDraft pred).meanDraft - ses.meanDraft = ceilDiv (cargoSums pred 1 ses.holds).1 (ses.tpc * 1000) :=
    Nat.add_sub_cancel_left ..
  refine ⟨_, rfl, congrArg Prod.fst hsums, ?_, rfl, ⟨Nat.le_add_right .., ?_, fun h => ?_⟩, rfl, ?_⟩
  · exact congrArg (· + ses.moment * 10000) (congrArg Prod.snd hsums)
  · rw [hdraft]
    exact hfits
  · rw [hdraft]
    exact hleast (by omega)
  · unfold Session.limits
    simp only [not_and_or, not_le]

/-- Settles O33. -/
theorem permittedRangeKeepsTheSeparation : Obligations.PermittedRangeKeepsTheSeparation := by
  refine ⟨fun s w lo h => ?_, fun s w hi h => ?_, fun s side w edge h => ?_, fun s side w => ?_⟩
  · obtain ⟨hrail, hwindow, -⟩ := State.computeEdge_spec h
    obtain ⟨hpeer, hhere, hcredit⟩ := State.edge_keeps h
    simp only [sense, one_mul, State.railEnd, windowEnd] at hrail hwindow hpeer hhere hcredit
    refine ⟨hrail, hwindow, fun e q he hr hv => ?_, hhere, hcredit⟩
    obtain ⟨hfresh, hstale⟩ := hpeer e q he hr hv
    exact ⟨hfresh, hstale⟩
  · obtain ⟨hrail, hwindow, -⟩ := State.computeEdge_spec h
    obtain ⟨hpeer, hhere, hcredit⟩ := State.edge_keeps h
    simp only [sense, neg_mul, one_mul, State.railEnd, windowEnd, neg_le_neg_iff] at hrail hwindow hpeer hhere hcredit
    refine ⟨hrail, hwindow, fun e q he hr hv => ?_, hhere, hcredit⟩
    obtain ⟨hfresh, hstale⟩ := hpeer e q he hr hv
    refine ⟨fun hf => ?_, fun hf => ?_⟩
    · obtain ⟨hpos, hgoal⟩ := hfresh hf
      exact ⟨by omega, fun goal hg hu => by have := hgoal goal hg hu; omega⟩
    · have := hstale hf
      omega
  · obtain ⟨-, -, -, hcredit⟩ := State.computeEdge_spec h
    rcases hcredit with ⟨rfl, hwindow, hside⟩ | ⟨⟨iv, hw, rfl⟩, hside⟩ | hside
    · exact ⟨fun _ => ⟨rfl, hwindow, hside⟩, nofun, by rintro (h | ⟨n, h⟩) <;> cases h⟩
    · exact ⟨nofun, fun _ => ⟨⟨iv, hw, rfl⟩, hside⟩, by rintro (h | ⟨n, h⟩) <;> cases h⟩
    · have hterm := State.sideTerm_credit hside
      refine ⟨fun he => ?_, fun he => ?_, fun _ => hside⟩
      · rw [he] at hterm
        rcases hterm with ⟨-, h⟩ | ⟨e, -, h⟩ <;> cases h
      · rw [he] at hterm
        rcases hterm with ⟨-, h⟩ | ⟨e, -, h⟩ <;> cases h
  · rw [← State.bound_none_iff]
    unfold State.computeEdge
    cases hb : s.bound side with
    | none => simp
    | some bt =>
      obtain ⟨b, term⟩ := bt
      cases b <;> simp

end

section
/-! Quay frames read back as sent (section 11.2). -/

namespace Sys2Proof.Machine

/-! ## Numbers and bytes (R184) -/

@[simp] theorem bytesBE_length (width n : Nat) : (bytesBE width n).length = width := by
  induction width with
  | zero => rfl
  | succ w ih => simp [bytesBE, ih]

theorem natBE_from (bytes : List Byte) (a : Nat) : bytes.foldl (fun acc b => acc * 256 + b.toNat) a
    = a * 256 ^ bytes.length + natBE bytes := by
  unfold natBE
  induction bytes generalizing a with
  | nil => simp
  | cons b rest ih =>
    rw [List.foldl_cons, List.foldl_cons, ih, ih (0 * 256 + b.toNat), List.length_cons, pow_succ]
    ring

theorem natBE_cons (b : Byte) (rest : List Byte) : natBE (b :: rest) = b.toNat * 256 ^ rest.length + natBE rest := by
  rw [natBE, List.foldl_cons, natBE_from]
  ring

theorem natBE_bytesBE_mod (width n : Nat) : natBE (bytesBE width n) = n % 256 ^ width := by
  induction width with
  | zero => simp [bytesBE, natBE, Nat.mod_one]
  | succ w ih =>
    rw [bytesBE, natBE_cons, ih, bytesBE_length, BitVec.toNat_ofNat, show 2 ^ 8 = 256 from rfl, Nat.mod_pow_succ (b := 256), Nat.add_comm,
      Nat.mul_comm]

theorem natBE_bytesBE {width n : Nat} (h : n < 256 ^ width) : natBE (bytesBE width n) = n := by
  rw [natBE_bytesBE_mod, Nat.mod_eq_of_lt h]

theorem uField_eq {width : Nat} {x : Int} (h0 : 0 ≤ x) (h : x < (256 ^ width : Nat)) : uField width x = bytesBE width x.toNat :=
  if_pos ⟨h0, h⟩

theorem uField_one {n : Nat} (h : n < 256) : uField 1 n = [BitVec.ofNat 8 n] := by
  rw [uField_eq (by omega) (by omega)]
  simp [bytesBE]

theorem kgField_eq {kg : Nat} (h : kg < 4294967296) : kgField kg = bytesBE 4 kg := by
  unfold kgField
  rw [min_eq_left (by omega)]

theorem toNat_byte {n : Nat} (h : n < 256) : (BitVec.ofNat 8 n).toNat = n := by
  rw [BitVec.toNat_ofNat]
  omega

/-! ## The check word (R46) -/

theorem crcBit_lt {r : Nat} (h : r < 65536) : crcBit r < 65536 := by
  have hle : r / 32768 ≤ 1 := by omega
  have hmul : r / 32768 * 0x1021 < 2 ^ 16 := by omega
  exact Nat.xor_lt_two_pow (n := 16) (by omega) hmul

theorem crcByte_lt {r : Nat} (h : r < 65536) (b : Byte) : crcByte r b < 65536 := by
  have hb := b.isLt
  have hin : r ^^^ (b.toNat * 256) < 65536 := Nat.xor_lt_two_pow (n := 16) (by omega) (by omega)
  unfold crcByte
  exact crcBit_lt (crcBit_lt (crcBit_lt (crcBit_lt (crcBit_lt (crcBit_lt (crcBit_lt (crcBit_lt hin)))))))

theorem checkWord_lt (bytes : List Byte) : checkWord bytes < 65536 := by
  have all : ∀ r, r < 65536 → bytes.foldl crcByte r < 65536 := by
    induction bytes with
    | nil => exact fun r h => h
    | cons b rest ih => exact fun r h => ih _ (crcByte_lt h b)
  exact all _ (by omega)

/-- The body of a checked frame, and its check word. -/
theorem withCheck_body (body : List Byte) : (withCheck body).take ((withCheck body).length - 2) = body
    ∧ (withCheck body).drop ((withCheck body).length - 2) = bytesBE 2 (checkWord body) := by
  have hlen : (withCheck body).length - 2 = body.length := by simp [withCheck]
  rw [hlen]
  exact ⟨List.take_left, List.drop_left⟩

/-- A frame with its check word right is read by its kind, origin, hop count and payload. -/
theorem readFrame_withCheck {kind : Byte} {origin hop : Nat} {payload : List Byte} (h1 : 1 ≤ origin) (h8 : origin ≤ 8) (hh : hop < 256) :
    readFrame (withCheck (kind :: BitVec.ofNat 8 origin :: BitVec.ofNat 8 hop :: payload))
      = (readContent kind payload).map (fun c => ⟨origin, hop, c⟩) := by
  obtain ⟨hbody, hcheck⟩ := withCheck_body (kind :: BitVec.ofNat 8 origin :: BitVec.ofNat 8 hop :: payload)
  have hword : natBE (bytesBE 2 (checkWord (kind :: BitVec.ofNat 8 origin :: BitVec.ofNat 8 hop :: payload)))
      = checkWord (kind :: BitVec.ofNat 8 origin :: BitVec.ofNat 8 hop :: payload) := natBE_bytesBE (checkWord_lt _)
  have horigin := toNat_byte (n := origin) (by omega)
  have hhop := toNat_byte hh
  unfold readFrame
  simp only [hbody, hcheck]
  rw [if_neg (by simp [withCheck]), if_neg (not_not.2 hword)]
  simp only [List.getD_cons_zero, List.getD_cons_succ, horigin, hhop, List.drop_succ_cons, List.drop_zero]
  rw [if_neg (by omega)]
  cases readContent kind payload <;> rfl

theorem readFrame_frameBytes {kind : Byte} {origin hop : Nat} {payload : List Byte} (h1 : 1 ≤ origin) (h8 : origin ≤ 8) (hh : hop < 256) :
    readFrame (frameBytes kind origin hop payload) = (readContent kind payload).map (fun c => ⟨origin, hop, c⟩) := by
  rw [frameBytes, uField_one (by omega), uField_one hh]
  exact readFrame_withCheck h1 h8 hh

/-! ## The fields -/

theorem Slot.ofCode_code (x : Slot) : Slot.ofCode? x.code.toNat = some x := by cases x <;> rfl

theorem ClaimPhase.ofCode_code (x : ClaimPhase) : ClaimPhase.ofCode? x.code.toNat = some x := by cases x <;> rfl

theorem DustClass.ofCode_code (x : DustClass) : DustClass.ofCode x.code.toNat = x := by cases x <;> rfl

theorem readHoldRef_sent {x : Slot} {h : Nat} (hok : holdRefOk (x, h)) : readHoldRef [x.code, BitVec.ofNat 8 h] = some (x, h) := by
  obtain ⟨h1, h9⟩ := hok
  dsimp only at h1 h9
  have hbyte := toNat_byte (n := h) (by omega)
  unfold readHoldRef
  simp only [Slot.ofCode_code, hbyte]
  exact if_pos ⟨h1, h9⟩

/-! ## The payload of a STATUS -/

/-- The fixed part of a STATUS payload. -/
def Report.head (r : Report) : List Byte :=
  [r.mode, r.presence] ++ bytesBE 2 r.tagA ++ bytesBE 2 r.tagB ++ bytesBE 4 r.position.toNat ++ [r.travel, r.pour, r.spout.code]

theorem Report.head_length (r : Report) : r.head.length = 13 := by simp [Report.head]

/-- The fields of the fixed part, wherever it stands in front. -/
theorem Report.head_fields {r : Report} (hr : r.wellFormed) (rest : List Byte) : (r.head ++ rest).getD 0 0 = r.mode
    ∧ (r.head ++ rest).getD 1 0 = r.presence ∧ natBE (((r.head ++ rest).drop 2).take 2) = r.tagA
    ∧ natBE (((r.head ++ rest).drop 4).take 2) = r.tagB ∧ (natBE (((r.head ++ rest).drop 6).take 4) : Int) = r.position
    ∧ (r.head ++ rest).getD 10 0 = r.travel ∧ (r.head ++ rest).getD 11 0 = r.pour ∧ (r.head ++ rest).getD 12 0 = r.spout.code := by
  obtain ⟨hA, hB, ⟨h0, hpos⟩, -⟩ := hr
  have tagA : natBE (bytesBE 2 r.tagA) = r.tagA := natBE_bytesBE hA
  have tagB : natBE (bytesBE 2 r.tagB) = r.tagB := natBE_bytesBE hB
  have pos : natBE (bytesBE 4 r.position.toNat) = r.position.toNat := natBE_bytesBE (by omega)
  refine ⟨rfl, rfl, tagA, tagB, (congrArg Nat.cast pos).trans (Int.toNat_of_nonneg h0), rfl, rfl, rfl⟩

theorem Report.presence_bits (r : Report) : r.presence.getLsbD 0 = r.target.isSome ∧ r.presence.getLsbD 1 = r.claim.isSome
    ∧ r.presence.getLsbD 2 = r.spoutHold.isSome ∧ r.presence.getLsbD 3 = r.onBelt.isSome
    ∧ r.presence.getLsbD 4 = r.positionValid := by
  unfold Report.presence
  generalize r.target.isSome = a, r.claim.isSome = b, r.spoutHold.isSome = c, r.onBelt.isSome = d, r.positionValid = e
  revert a b c d e
  decide

theorem ReportClaim.bytes_eq {c : ReportClaim} (h : holdRefOk (c.slot, c.hold)) (hp : c.pass ≤ 6) (ht : c.target < 4294967296) :
    c.bytes = c.slot.code :: BitVec.ofNat 8 c.hold :: BitVec.ofNat 8 c.pass :: c.phase.code :: bytesBE 4 c.target := by
  obtain ⟨h1, h9⟩ := h
  dsimp only at h1 h9
  unfold ReportClaim.bytes
  rw [uField_one (by omega), uField_one (by omega), kgField_eq ht]
  rfl

theorem readClaim_sent {c : ReportClaim} (h : holdRefOk (c.slot, c.hold)) (h1 : 1 ≤ c.pass) (hp : c.pass ≤ 6) (ht : c.target < 4294967296) :
    c.bytes.length = 8 ∧ readClaim c.bytes = some c := by
  rw [ReportClaim.bytes_eq h hp ht]
  refine ⟨by simp, ?_⟩
  have hpass := toNat_byte (n := c.pass) (by omega)
  have htarget : natBE (bytesBE 4 c.target) = c.target := natBE_bytesBE ht
  have href := readHoldRef_sent h
  unfold readClaim
  simp only [List.take_succ_cons, List.take_zero, href, List.getD_cons_zero, List.getD_cons_succ, ClaimPhase.ofCode_code, hpass,
    List.drop_succ_cons, List.drop_zero, htarget]
  exact if_pos ⟨h1, hp⟩

theorem Tally.bytes_eq {y : Tally} (h : holdRefOk (y.slot, y.hold)) (hk : y.kg < 4294967296) :
    y.bytes = y.slot.code :: BitVec.ofNat 8 y.hold :: bytesBE 4 y.kg := by
  obtain ⟨h1, h9⟩ := h
  dsimp only at h1 h9
  unfold Tally.bytes
  rw [uField_one (by omega), kgField_eq hk]
  rfl

theorem readTallies_sent {l : List Tally} (h : ∀ y ∈ l, holdRefOk (y.slot, y.hold) ∧ y.kg < 4294967296) :
    (l.flatMap Tally.bytes).length = 6 * l.length ∧ readTallies l.length (l.flatMap Tally.bytes) = l := by
  induction l with
  | nil => exact ⟨rfl, rfl⟩
  | cons y rest ih =>
    obtain ⟨hlen, hread⟩ := ih fun z hz => h z (List.mem_cons_of_mem _ hz)
    obtain ⟨hok, hk⟩ := h y List.mem_cons_self
    have hkg : natBE (bytesBE 4 y.kg) = y.kg := natBE_bytesBE hk
    have href := readHoldRef_sent hok
    rw [List.flatMap_cons, Tally.bytes_eq hok hk]
    refine ⟨by simp [hlen]; omega, ?_⟩
    rw [List.length_cons, readTallies]
    have htake : ((bytesBE 4 y.kg ++ rest.flatMap Tally.bytes).take 4) = bytesBE 4 y.kg := List.take_left' (by simp)
    have hdrop : ((bytesBE 4 y.kg ++ rest.flatMap Tally.bytes).drop 4) = rest.flatMap Tally.bytes := List.drop_left' (by simp)
    simp only [List.cons_append, List.take_succ_cons, List.take_zero, href, List.drop_succ_cons, List.drop_zero, htake, hdrop, hkg, hread]

/-- A block that may be left out, by the presence bit. -/
theorem block_length {α : Type} {f : α → List Byte} {o : Option α} {p : Byte} {i width : Nat} (hp : p.getLsbD i = o.isSome)
    (hf : ∀ x, o = some x → (f x).length = width) : (block f o).length = blockLength p i width := by
  unfold blockLength
  cases o with
  | none => simp [block, hp]
  | some x => simp [block, hp, hf x rfl]

/-- The reading of a STATUS payload, its blocks being of the lengths that the presence byte gives. -/
theorem readReport_sent {r : Report} (hr : r.wellFormed) : readReport r.payload = some r := by
  have hfields := Report.head_fields hr
  obtain ⟨hbit0, hbit1, hbit2, hbit3, hbit4⟩ := r.presence_bits
  obtain ⟨hA, hB, hpos, htarget, hclaim, hhold, hbelt, hmany, htallies⟩ := hr
  obtain ⟨hlen, hread⟩ := readTallies_sent htallies
  have hT : (block (uField 4) r.target).length = blockLength r.presence 0 4 := block_length hbit0 fun x hx => by
    rw [uField_eq (htarget x hx).1 (by exact_mod_cast (htarget x hx).2), bytesBE_length]
  have hC : (block ReportClaim.bytes r.claim).length = blockLength r.presence 1 8 := block_length hbit1 fun c hc => by
    obtain ⟨hok, h1, h6, hkg⟩ := hclaim c hc
    exact (readClaim_sent hok h1 h6 hkg).1
  have hH : (block (fun h : Slot × Nat => h.1.code :: uField 1 h.2) r.spoutHold).length = blockLength r.presence 2 2 :=
    block_length hbit2 fun h hh => by
      obtain ⟨h1, h9⟩ := hhold h hh
      rw [uField_one (by omega)]
      rfl
  have hN : (block kgField r.onBelt).length = blockLength r.presence 3 4 := block_length hbit3 fun kg hkg => by
    rw [kgField_eq (hbelt kg hkg), bytesBE_length]
  have hcount : (BitVec.ofNat 8 r.tallies.length).toNat = r.tallies.length := toNat_byte (by omega)
  have rT : ∀ rest, (if r.presence.getLsbD 0 then some (natBE ((block (uField 4) r.target ++ rest).take 4) : Int) else none) = r.target :=
    fun rest => by
      rw [hbit0]
      cases ht : r.target with
      | none => rfl
      | some x =>
        obtain ⟨h0, hx⟩ := htarget x ht
        have hfield : uField 4 x = bytesBE 4 x.toNat := uField_eq h0 (by exact_mod_cast hx)
        have hval : natBE (bytesBE 4 x.toNat) = x.toNat := natBE_bytesBE (by omega)
        simp only [block, hfield, Option.isSome_some, if_true, List.take_left' (bytesBE_length 4 x.toNat), hval]
        rw [Int.toNat_of_nonneg h0]
  have rC : ∀ rest, (if r.presence.getLsbD 1 then readClaim ((block ReportClaim.bytes r.claim ++ rest).take 8) else none) = r.claim :=
    fun rest => by
      rw [hbit1]
      cases hc : r.claim with
      | none => rfl
      | some c =>
        obtain ⟨hok, h1, h6, hkg⟩ := hclaim c hc
        obtain ⟨hlen, hread⟩ := readClaim_sent hok h1 h6 hkg
        simp only [block, Option.isSome_some, if_true, List.take_left' hlen, hread]
  have rH : ∀ rest, (if r.presence.getLsbD 2 then
      readHoldRef ((block (fun h : Slot × Nat => h.1.code :: uField 1 h.2) r.spoutHold ++ rest).take 2) else none) = r.spoutHold :=
    fun rest => by
      rw [hbit2]
      cases hh : r.spoutHold with
      | none => rfl
      | some h =>
        have hread := readHoldRef_sent (hhold h hh)
        obtain ⟨h1, h9⟩ := hhold h hh
        simp only [block, uField_one (n := h.2) (by omega), Option.isSome_some, if_true, List.cons_append, List.nil_append,
          List.take_succ_cons, List.take_zero, hread]
  have rN : ∀ rest, (if r.presence.getLsbD 3 then some (natBE ((block kgField r.onBelt ++ rest).take 4)) else none) = r.onBelt :=
    fun rest => by
      rw [hbit3]
      cases hk : r.onBelt with
      | none => rfl
      | some kg =>
        have hval : natBE (bytesBE 4 kg) = kg := natBE_bytesBE (hbelt kg hk)
        simp only [block, kgField_eq (hbelt kg hk), Option.isSome_some, if_true, List.take_left' (bytesBE_length 4 kg), hval]
  generalize hTb : block (uField 4) r.target = T at hT rT
  generalize hCb : block ReportClaim.bytes r.claim = C at hC rC
  generalize hHb : block (fun h : Slot × Nat => h.1.code :: uField 1 h.2) r.spoutHold = H at hH rH
  generalize hNb : block kgField r.onBelt = N at hN rN
  have hpl : r.payload = r.head ++ (T ++ (C ++ (H ++ (N ++ (BitVec.ofNat 8 r.tallies.length :: r.tallies.flatMap Tally.bytes))))) := by
    unfold Report.payload Report.head
    rw [uField_eq (x := (r.tagA : Int)) (by omega) (by exact_mod_cast hA), uField_eq (x := (r.tagB : Int)) (by omega) (by exact_mod_cast hB),
      uField_eq hpos.1 (by exact_mod_cast hpos.2), uField_one (by omega), hTb, hCb, hHb, hNb]
    simp only [List.append_assoc, Int.toNat_natCast, List.singleton_append]
  have h13 := r.head_length
  have dT : r.payload.drop 13 = T ++ (C ++ (H ++ (N ++ (BitVec.ofNat 8 r.tallies.length :: r.tallies.flatMap Tally.bytes)))) := by
    rw [hpl]
    exact List.drop_left' h13
  have dC : r.payload.drop (13 + T.length) = C ++ (H ++ (N ++ (BitVec.ofNat 8 r.tallies.length :: r.tallies.flatMap Tally.bytes))) := by
    rw [← List.drop_drop, dT]
    exact List.drop_left
  have dH : r.payload.drop (13 + T.length + C.length) = H ++ (N ++ (BitVec.ofNat 8 r.tallies.length :: r.tallies.flatMap Tally.bytes)) := by
    rw [← List.drop_drop, dC]
    exact List.drop_left
  have dN : r.payload.drop (13 + T.length + C.length + H.length)
      = N ++ (BitVec.ofNat 8 r.tallies.length :: r.tallies.flatMap Tally.bytes) := by
    rw [← List.drop_drop, dH]
    exact List.drop_left
  have dK : r.payload.drop (13 + T.length + C.length + H.length + N.length)
      = BitVec.ofNat 8 r.tallies.length :: r.tallies.flatMap Tally.bytes := by
    rw [← List.drop_drop, dN]
    exact List.drop_left
  have dR : r.payload.drop (13 + T.length + C.length + H.length + N.length + 1) = r.tallies.flatMap Tally.bytes := by
    rw [← List.drop_drop, dK]
    rfl
  have kK : (r.payload.getD (13 + T.length + C.length + H.length + N.length) 0).toNat = r.tallies.length := by
    rw [List.getD_eq_getElem?_getD, ← Nat.add_zero (13 + T.length + C.length + H.length + N.length), ← List.getElem?_drop, dK]
    exact hcount
  have hlength : r.payload.length = 13 + T.length + C.length + H.length + N.length + 1 + 6 * r.tallies.length := by
    rw [hpl]
    simp only [List.length_append, List.length_cons, hlen, h13]
    omega
  obtain ⟨f0, f1, f2, f4, f6, f10, f11, f12⟩ := hfields (T ++ (C ++ (H ++ (N ++ (BitVec.ofNat 8 r.tallies.length :: r.tallies.flatMap Tally.bytes)))))
  rw [← hpl] at f0 f1 f2 f4 f6 f10 f11 f12
  unfold readReport
  dsimp only
  rw [f1, ← hT, ← hC, ← hH, ← hN, kK, if_neg (by omega), f0, f2, f4, f6, f10, f11, f12, hbit4, dT, dC, dH, dN, dR, rT, rC, rH, rN, hread,
    DustClass.ofCode_code]

end Sys2Proof.Machine

open Sys2Proof Sys2Proof.Machine

/-- Settles O56. -/
theorem quayFramesReadBackAsSent : Obligations.QuayFramesReadBackAsSent := by
  refine ⟨fun station hop r h1 h8 hh hr => ?_, fun station hop h pass target tag x h1 h8 hh hok hp1 hp6 ht htag => ?_,
    fun station hop k hold h1 h8 hh hok => ?_, fun station hop side h1 h8 hh => ?_⟩
  · rw [readFrame_frameBytes h1 h8 hh, readContent, if_pos rfl, readReport_sent hr]
    rfl
  · obtain ⟨hh1, hh9⟩ := hok
    dsimp only at hh1 hh9
    have hpass := toNat_byte (n := pass) (by omega)
    have htarget : natBE (bytesBE 4 target) = target := natBE_bytesBE ht
    have htagged : natBE (bytesBE 2 tag) = tag := natBE_bytesBE htag
    have href := readHoldRef_sent (x := x) (h := h) ⟨hh1, hh9⟩
    have hfield : uField 2 (tag : Int) = bytesBE 2 tag := uField_eq (by omega) (by omega)
    rw [readFrame_frameBytes h1 h8 hh, uField_one (by omega), uField_one (by omega), kgField_eq ht, hfield, readContent,
      if_neg (by decide), if_pos rfl, if_pos (by simp)]
    simp only [List.nil_append, List.append_assoc, List.cons_append, List.take_succ_cons, List.take_zero, href, List.getD_cons_zero,
      List.getD_cons_succ, hpass]
    rw [if_pos ⟨hp1, hp6⟩]
    have htake : (bytesBE 4 target ++ bytesBE 2 tag).take 4 = bytesBE 4 target := List.take_left' (by simp)
    have hdrop : (bytesBE 4 target ++ bytesBE 2 tag).drop 4 = bytesBE 2 tag := List.drop_left' (by simp)
    simp only [List.drop_succ_cons, List.drop_zero, htake, hdrop, htarget, htagged]
    rfl
  · have hbits : ∀ b : Bool, ∃ q : Byte, presence [b] = [q] ∧ q.getLsbD 0 = b := fun b => by cases b <;> exact ⟨_, rfl, rfl⟩
    obtain ⟨q, hq, hbit⟩ := hbits hold.isSome
    rw [readFrame_frameBytes h1 h8 hh, hq]
    cases hold with
    | none =>
      rw [readContent, if_neg (by decide), if_neg (by decide), if_pos rfl, if_pos (by rfl)]
      simp only [List.cons_append, List.nil_append, List.getD_cons_zero, List.getD_cons_succ, DustClass.ofCode_code, hbit]
      rfl
    | some ref =>
      obtain ⟨x, h⟩ := ref
      have hread := readHoldRef_sent (hok _ rfl)
      obtain ⟨hh1, hh9⟩ := hok _ rfl
      dsimp only at hh1 hh9
      have hfield : holdField (some (x, h)) = [x.code, BitVec.ofNat 8 h] := by
        show x.code :: uField 1 h = _
        rw [uField_one (by omega)]
      rw [hfield, readContent, if_neg (by decide), if_neg (by decide), if_pos rfl, if_pos (by rfl)]
      simp only [List.cons_append, List.nil_append, List.getD_cons_zero, List.getD_cons_succ, DustClass.ofCode_code, hbit,
        Option.isSome_some, if_true, List.drop_succ_cons, List.drop_zero, hread]
      rfl
  · rw [readFrame_frameBytes h1 h8 hh]
    cases side <;> rfl

end

section
/-! STOP TRAVEL, FAULT CLEAR and END POUR (O31, O41), and the ends of a claim and of a line. -/

namespace Sys2Proof.Machine

variable {s t u : State}

/-! ## The end of the own claim -/

/-- The hold table with the own claim taken out of its view. -/
def Fill.dropped (f : Fill) (station : Nat) (c : OwnClaim) : Fill :=
  { f.onView c.slot (removeClaims station) with claim := none, claimTimer := none }

theorem Fill.dropped_claim (f : Fill) (n : Nat) (c : OwnClaim) : (f.dropped n c).claim = none := rfl

theorem Fill.dropped_claimTimer (f : Fill) (n : Nat) (c : OwnClaim) : (f.dropped n c).claimTimer = none := rfl

theorem State.view_dropped {c : OwnClaim} (h : t.fill = s.fill.dropped s.station c) (x : Slot) :
    t.view x = if x = c.slot then (s.view x).map (removeClaims s.station) else s.view x := by
  unfold State.view
  rw [h]
  unfold Fill.dropped Fill.onView
  cases hc : c.slot <;> cases x <;> simp

theorem State.row_dropped {c : OwnClaim} (h : t.fill = s.fill.dropped s.station c) (g : Nat) :
    t.row c.slot g = { s.row c.slot g with claims := (s.row c.slot g).claims.filter (fun k => k.station != s.station) } := by
  unfold State.row
  rw [State.view_dropped h, if_pos rfl]
  cases s.view c.slot with
  | none => rfl
  | some rows =>
    simp only [Option.map_some]
    split
    · rfl
    · simp only [removeClaims, List.getD_eq_getElem?_getD, List.getElem?_map]
      cases rows[g - 1]? <;> rfl

/-- No own claim is left on the slot. -/
theorem State.unclaimed_dropped {c : OwnClaim} (h : t.fill = s.fill.dropped s.station c) (g : Nat) :
    ∀ k ∈ (t.row c.slot g).claims, k.station ≠ s.station := by
  rw [State.row_dropped h]
  intro k hk
  simpa using (List.mem_filter.1 hk).2

/-- The own claim ended, with this travel, pour and bills left, and these notices raised. -/
def State.ended (s : State) (c : OwnClaim) (v : Travel) (p : Pour) (b : Bills) (bodies : List NoticeBody) : State :=
  { s with
    travel := v, pour := p, bills := b, port := s.port.raiseAll s.count bodies
    fill := s.fill.dropped s.station c
    berths := (s.onHold c.slot c.hold (fun d => { d with tokenPass := false })).berths
    line := { s.line with statusDue := true } }

theorem State.onlyIn_ended (s : State) (c : OwnClaim) (v : Travel) (p : Pour) (b : Bills) (bodies : List NoticeBody) :
    s.onlyIn (s.ended c v p b bodies) [.travel, .port, .line, .fill, .pour, .berths, .bills] := by
  intro x hx
  cases x <;> first | rfl | simp at hx

theorem State.hold_same {x : Slot} {h : Nat} (k : t.berths = s.berths) : t.hold x h = s.hold x h := by
  unfold State.hold State.session State.berth
  rw [k]

theorem State.hold_unmarked {c : OwnClaim} {d : Hold} (k : t.berths = (s.onHold c.slot c.hold (fun d => { d with tokenPass := false })).berths)
    (hd : s.hold c.slot c.hold = some d) : t.hold c.slot c.hold = some { d with tokenPass := false } := by
  rw [State.hold_same k, State.onHold_hold (State.hold_ne_zero hd), if_pos rfl, hd]
  rfl

theorem State.onHold_berths (k : t.berths = s.berths) (x : Slot) (h : Nat) (f : Hold → Hold) :
    (t.onHold x h f).berths = (s.onHold x h f).berths := by
  unfold State.onHold
  split
  · exact k
  · unfold State.onSession State.onBerth State.onBerths
    rw [k]

@[simp] theorem State.ended_traveled (s : State) (c : OwnClaim) (w v : Travel) (p : Pour) (b : Bills) (first bodies : List NoticeBody)
    (due : Bool) : (s.traveled w first due).ended c v p b bodies = s.ended c v p b (first ++ bodies) := by
  unfold State.ended
  rw [State.onHold_berths (s := s) (t := s.traveled w first due) rfl, LocalPort.raiseAll_append]
  rfl

@[simp] theorem State.ended_poured (s : State) (c : OwnClaim) (v : Travel) (p q : Pour) (b d : Bills) (first bodies : List NoticeBody)
    (due : Bool) : (s.poured q first d due).ended c v p b bodies = s.ended c v p b (first ++ bodies) := by
  unfold State.ended
  rw [State.onHold_berths (s := s) (t := s.poured q first d due) rfl, LocalPort.raiseAll_append]
  rfl

@[simp] theorem State.ended_notify (s : State) (c : OwnClaim) (v : Travel) (p : Pour) (b : Bills) (bodies : List NoticeBody)
    (n : NoticeBody) : (s.ended c v p b bodies).notify n = s.ended c v p b (bodies ++ [n]) := by
  unfold State.ended
  rw [LocalPort.raiseAll_append]
  rfl

theorem State.endClaim_eq {c : OwnClaim} (hc : s.fill.claim = some c) : s.endClaim = s.ended c s.travel s.pour s.bills [] := by
  unfold State.endClaim
  rw [hc]
  unfold State.onHold State.ended
  dsimp only
  unfold State.onHold
  split <;> rfl

/-- The own claim lost before its window is over, the loss told by a notice. -/
def State.claimLost (s : State) (c : OwnClaim) (notice : NoticeBody) : State :=
  { s with
    fill := s.fill.dropped s.station c, pour := { s.pour with state := .idle }, line := { s.line with statusDue := true }
    port := s.port.raise s.count notice }

theorem State.onlyIn_claimLost (s : State) (c : OwnClaim) (notice : NoticeBody) :
    s.onlyIn (s.claimLost c notice) [.port, .line, .fill, .pour] := by
  intro x hx
  cases x <;> first | rfl | simp at hx

/-- A PENDING claim lost or dropped (R117). -/
theorem State.loseClaim_eq {c : OwnClaim} (hc : s.fill.claim = some c) (h : s.pour.state ≠ .idle) (reason : Reason) :
    s.loseClaim reason = s.claimLost c (.claimResult c.slot c.hold c.pass c.target (some reason)) := by
  unfold State.loseClaim
  rw [hc]
  exact State.setPour_of_ne (by exact h)

/-! ## STOP TRAVEL's effect on travel (R96) -/

theorem State.stopTravel_form (s : State) : ∃ due, s.stopTravel = s.traveled s.travelStopped [] due := by
  unfold State.stopTravel State.travelStopped
  cases hs : s.travel.state with
  | parked => exact ⟨s.line.statusDue, rfl⟩
  | faulted => exact ⟨s.line.statusDue, rfl⟩
  | releasing => exact ⟨true, State.enterSettling_eq (s := s.onTravel _) _⟩
  | moving => exact ⟨true, State.enterSettling_eq (s := s.onTravel _) _⟩
  | settling => exact ⟨s.line.statusDue, rfl⟩
  | held => exact ⟨_, State.park_eq⟩

/-- A stop finds nothing more to stop. -/
theorem State.travelStopped_again (h : t.travel = s.travelStopped) (hs : t.travel.source = some .position) :
    t.travelStopped = t.travel := by
  unfold State.travelStopped at h
  have hrest : t.travel.state = .parked ∨ t.travel.state = .faulted := by
    cases hv : s.travel.state with
    | parked => rw [hv] at h; exact .inl (by rw [h, hv])
    | faulted => rw [hv] at h; exact .inr (by rw [h, hv])
    | releasing => rw [hv] at h; rw [h] at hs; cases hs
    | moving => rw [hv] at h; rw [h] at hs; cases hs
    | settling => rw [hv] at h; rw [h] at hs; cases hs
    | held => rw [hv] at h; rw [h] at hs; cases hs
  unfold State.travelStopped
  rcases hrest with h | h <;> rw [h]

/-- An ACTIVE claim withdrawn with no line (R128). -/
theorem State.withdrawClaim_eq {c : OwnClaim} (hc : s.fill.claim = some c) (h : s.pour.state ≠ .idle) (cause : WithdrawCause) :
    s.withdrawClaim cause = s.ended c (if s.travel.source = some .position then s.travelStopped else s.travel)
      { s.pour with state := .idle, positioningTimer := none } s.bills [.claimWithdrawn c.slot c.hold cause c.pass c.target] := by
  have ends : ∀ due, (((s.poured { s.pour with positioningTimer := none } [] s.bills due).endClaim.notify
      (.claimWithdrawn c.slot c.hold cause c.pass c.target)).setPour .idle)
      = s.ended c s.travel { s.pour with state := .idle, positioningTimer := none } s.bills
        [.claimWithdrawn c.slot c.hold cause c.pass c.target] := by
    intro due
    rw [State.endClaim_eq (by exact hc), State.ended_poured, State.ended_notify, State.setPour_of_ne (by exact h)]
    rfl
  unfold State.withdrawClaim
  rw [hc]
  dsimp only
  split
  · obtain ⟨due, hstop⟩ := (s.onPour (fun p => { p with positioningTimer := none })).stopTravel_form
    rw [hstop, State.endClaim_eq (by exact hc), State.ended_traveled, State.ended_notify, State.setPour_of_ne (by exact h)]
    exact State.ended_poured s c s.travelStopped { s.pour with state := .idle, positioningTimer := none } _ s.bills _ [] _ s.line.statusDue
  · exact ends s.line.statusDue

/-! ## A run-out entered with cause STOPPED -/

theorem State.stoppedPour_of (h : t.pour = s.pour.runningOut s .stopped) : s.stoppedPour t := by
  have hstop : s.pour.causes.stopsBelt = false ↔ s.pour.causes.dustOwn = false ∧ s.pour.causes.dustPeer = false
      ∧ s.pour.causes.map = false ∧ s.pour.causes.belt = false := by
    simp [CauseSet.stopsBelt, and_assoc]
  unfold State.stoppedPour
  rw [h, ← hstop]
  unfold Pour.runningOut
  cases s.pour.causes.stopsBelt with
  | true => exact ⟨rfl, by simp [Pour.belted_off], fun _ => ⟨rfl, rfl⟩, by simp [Pour.belted_off]⟩
  | false =>
    simp only [Bool.not_false, Pour.belted, if_true]
    by_cases hb : s.pour.beltOn = true
    · rw [if_pos (by exact hb)]
      exact ⟨rfl, by simp [Pour.shut, hb], by simp [Pour.shut, hb], fun _ _ => ⟨rfl, rfl⟩⟩
    · rw [if_neg (by exact hb)]
      split
      · exact ⟨rfl, by simp, nofun, fun _ h => absurd h hb⟩
      · exact ⟨rfl, by simp, nofun, fun _ h => absurd h hb⟩

/-! ## The edges of the range as the end of a command leaves them -/

theorem State.issueStatusAs_chainEnd (m : PartMode) (side : Side) :
    ((s.issueStatusAs m).line.port side).chainEnd = (s.line.port side).chainEnd := by
  have kept := (s.line.issue_ports .status (frameBytes 0x01 s.station 0 (s.report m).payload) side).2.1
  unfold State.issueStatusAs
  cases side <;> exact kept

theorem State.finish_chainEnd (side : Side) : (s.finish.line.port side).chainEnd = (s.line.port side).chainEnd := by
  unfold State.finish
  split
  · split
    · split
      · cases side <;> rfl
      · exact State.issueStatusAs_chainEnd _ side
    · cases side <;> rfl
  · rfl

/-- The reply and the STATUS of a command leave its edges as they were computed. -/
theorem State.edges_finish (s : State) (side : Side) : s.finish.computeEdge side s.finish.rangeWindow = s.computeEdge side s.rangeWindow := by
  have hwindow : s.finish.rangeWindow = s.rangeWindow := by
    simp only [State.rangeWindow, State.lineOpen, State.windowTerms, State.loaderWindow, State.window, State.plan, State.hold,
      State.session, State.berth, State.block, State.finish_pour, State.finish_fill, State.finish_berths, State.finish_cfg] <;> rfl
  rw [hwindow]
  exact State.computeEdge_congr (State.finish_cfg s) (congrArg Travel.position (State.finish_travel s)) (State.finish_peers s)
    (fun _ => State.finish_chainEnd _) side _

/-! ## STOP TRAVEL and FAULT CLEAR (R96, R98) -/

theorem exec_stopTravel (hm : s.port.mode ≠ .config) (hpost : s.port.mailbox = .posted .stopTravel) :
    exec .stopTravel s = .next (s.stopTravel.stopPour.done []).finish := by
  rw [show Instr.stopTravel = Request.row .stopTravel from rfl, exec_row hpost]
  show Host.Outcome.next (State.finish (s.whenMode inRunBypass _)) = _
  rw [State.whenMode_allowed (PartMode.mem_runBypass hm)]

theorem exec_faultClear (hm : s.port.mode ≠ .config) (hpost : s.port.mailbox = .posted .faultClear) :
    exec .faultClear s = .next (s.judged s.clearChecks (s.clearFault.done [])).finish := by
  rw [show Instr.faultClear = Request.row .faultClear from rfl, exec_row hpost]
  show Host.Outcome.next (State.finish (s.whenMode inRunBypass _)) = _
  rw [State.whenMode_allowed (PartMode.mem_runBypass hm)]

/-- A sample has arrived since the fault, by the kind of the fault. -/
theorem Travel.sampled_iff (v : Travel) : v.sampled = true
    ↔ v.encoderFault = true ∧ v.recovery ≠ none ∨ v.encoderFault = false ∧ v.sampleSince = true := by
  unfold Travel.sampled
  cases v.encoderFault <;> simp [Option.isSome_iff_ne_none]

theorem State.clearChecks_pass (h1 : s.travel.state = .faulted) (h2 : s.travel.sampled = true) (h3 : s.inputs.brakeReleased = false) :
    firstFailure s.clearChecks = none := by
  simp [State.clearChecks, firstFailure, orElse, h1, h2, h3]

/-- Travel after an accepted FAULT CLEAR, its edges not yet computed. -/
theorem Travel.cleared_eq (h : v.sampled = true) : Travel.cleared v = { v with
    position := if v.encoderFault then v.recovery else v.position
    state := .parked, cause := none, recovery := none, sampleSince := false } := by
  unfold Travel.cleared
  congr 1
  split
  · next he =>
    rcases v.sampled_iff.1 h with ⟨-, hr⟩ | ⟨hn, -⟩
    · split
      · next hv => exact hv.symm
      · next hv => exact absurd hv hr
    · rw [he] at hn; cases hn
  · rfl

/-- The state that an accepted FAULT CLEAR gives the Pour Sequencer. -/
def State.refreshed (s : State) : State := (s.onTravel Travel.cleared).markStatus.recompute

theorem State.refreshed_travel (h : s.travel.sampled = true) : s.refreshed.travel = { s.travel with
    position := if s.travel.encoderFault then s.travel.recovery else s.travel.position
    state := .parked, cause := none, recovery := none, sampleSince := false
    edgeUp := (s.refreshed.done []).computeEdge .up (s.refreshed.done []).rangeWindow
    edgeDown := (s.refreshed.done []).computeEdge .down (s.refreshed.done []).rangeWindow } := by
  obtain ⟨hup, hdown⟩ := ((s.onTravel Travel.cleared).markStatus).recompute_edges
  have edges : ∀ side, (s.refreshed.done []).computeEdge side (s.refreshed.done []).rangeWindow
      = s.refreshed.computeEdge side s.refreshed.rangeWindow :=
    fun side => State.computeEdge_congr (s := s.refreshed) (t := s.refreshed.done []) rfl rfl rfl (fun _ => rfl) side _
  rw [edges, edges, show s.refreshed.travel = { Travel.cleared s.travel with
    edgeUp := s.refreshed.travel.edgeUp, edgeDown := s.refreshed.travel.edgeDown } from rfl, Travel.cleared_eq h]
  exact congrArg₂ (fun a b => ({ s.travel with
    position := if s.travel.encoderFault then s.travel.recovery else s.travel.position
    state := .parked, cause := none, recovery := none, sampleSince := false, edgeUp := a, edgeDown := b } : Travel)) hup hdown

/-- The translation at the position that the fault's end gives. -/
theorem State.refreshed_translate (h : s.travel.sampled = true) {r : Translation} (ht : ({ s with travel := { s.travel with
    position := if s.travel.encoderFault then s.travel.recovery else s.travel.position } } : State).translate = r) :
    s.refreshed.translate = r := by
  rw [← ht]
  refine State.translate_congr rfl ?_ rfl
  rw [s.refreshed_travel h]

theorem State.onlyIn_refreshed (s : State) : s.onlyIn s.refreshed [.travel, .line] :=
  State.onlyIn_traveled_silent s s.refreshed.travel true

theorem State.clearFault_idle (h1 : s.pour.state ≠ .positioning) (h2 : s.lineOpen = false) (h3 : s.pour.causes.map = false) :
    s.clearFault = s.refreshed := by
  have hret : s.refreshed.placeReturn = s.refreshed := by
    unfold State.placeReturn
    rw [show s.refreshed.pour.causes.map = false from h3]
    rfl
  show State.pourAfterClear s.refreshed = _
  unfold State.pourAfterClear
  rw [if_neg (by exact h1), hret]
  exact State.removeCause_idle (.inl h2)

theorem State.clearFault_reopens {k : OwnClaim} (hs : s.pour.state = .suspended)
    (hc : s.pour.causes = { CauseSet.empty with travel := true }) (hk : s.fill.claim = some k)
    (ht : s.refreshed.translate = .ok k.slot k.hold)
    (hb : s.pour.beltOn = true) (hw : s.pour.watch = .running) (hg : s.pour.gate = .closed ∨ s.pour.gate = .closing)
    (hless : (s.holdTotal k.slot k.hold : Int) < ((k.target : Int) - (s.pour.allowance.getD 0 : Nat)) * 1000) :
    s.clearFault = s.refreshed.poured s.reopened [.pourSuspended k.slot k.hold CauseSet.empty] s.bills true := by
  have hret : s.refreshed.placeReturn = s.refreshed := by
    unfold State.placeReturn
    rw [show s.refreshed.pour.causes.map = false by rw [show s.refreshed.pour = s.pour from rfl, hc]; rfl]
    rfl
  show State.pourAfterClear s.refreshed = _
  unfold State.pourAfterClear
  rw [if_neg (by rw [show s.refreshed.pour = s.pour from rfl, hs]; nofun), hret]
  exact State.removeCause_reopens (by nofun) hs hc hk ht hb hw hg hless

end Sys2Proof.Machine
open Sys2Proof Sys2Proof.Machine

/-- STOP TRAVEL by the pour state (O31). -/
theorem stopTravel_by_pour {s : State} (hm : s.port.mode ≠ .config) (hpost : s.port.mailbox = .posted .stopTravel) :
    (s.pour.state = .idle ∨ s.pour.state = .runout →
        ∃ t, exec .stopTravel s = .next t ∧ s.onlyIn t [.travel, .port, .line] ∧ t.port = { s.port with mailbox := doneReply [] }
          ∧ t.travel = s.travelStopped)
      ∧ (∀ c, s.pour.state = .claiming → s.fill.claim = some c →
        ∃ t, exec .stopTravel s = .next t ∧ s.onlyIn t [.travel, .port, .line, .fill, .pour] ∧ t.travel = s.travelStopped
          ∧ t.fill.claim = none ∧ t.fill.claimTimer = none ∧ (∀ g, ∀ k ∈ (t.row c.slot g).claims, k.station ≠ s.station)
          ∧ t.view c.slot.other = s.view c.slot.other ∧ t.pour = { s.pour with state := .idle }
          ∧ t.port = { s.port.raise s.count (.claimResult c.slot c.hold c.pass c.target (some .stopped)) with
              mailbox := doneReply [] })
      ∧ (∀ c, s.pour.state = .positioning → s.fill.claim = some c →
        ∃ t, exec .stopTravel s = .next t ∧ s.onlyIn t [.travel, .port, .line, .fill, .pour, .berths] ∧ t.travel = s.travelStopped
          ∧ t.fill.claim = none ∧ (∀ g, ∀ k ∈ (t.row c.slot g).claims, k.station ≠ s.station)
          ∧ (∀ hd, s.hold c.slot c.hold = some hd → t.hold c.slot c.hold = some { hd with tokenPass := false })
          ∧ t.pour = { s.pour with state := .idle, positioningTimer := none }
          ∧ t.port = { s.port.raise s.count (.claimWithdrawn c.slot c.hold .stopped c.pass c.target) with
              mailbox := doneReply [] })
      ∧ (s.lineOpen = true → s.pour.state ≠ .runout → s.runoutGoesOn →
        ∃ t, exec .stopTravel s = .next t ∧ s.onlyIn t [.travel, .port, .line, .pour] ∧ t.travel = s.travelStopped
          ∧ s.stoppedPour t ∧ t.port = { s.port with mailbox := doneReply [] }) := by
  obtain ⟨due, hstop⟩ := s.stopTravel_form
  have hexec := exec_stopTravel hm hpost
  rw [hstop] at hexec
  refine ⟨fun hs => ⟨_, hexec, ?_⟩, fun c hs hc => ⟨_, hexec, ?_⟩, fun c hs hc => ⟨_, hexec, ?_⟩, fun ho hr hg => ⟨_, hexec, ?_⟩⟩
  · have hpour : (s.traveled s.travelStopped [] due).stopPour = s.traveled s.travelStopped [] due := by
      unfold State.stopPour
      rw [State.traveled_pour]
      rcases hs with hs | hs <;> rw [hs]
    rw [hpour]
    exact State.traveled_done s s.travelStopped [] due
  · have hpour : (s.traveled s.travelStopped [] due).stopPour = (s.traveled s.travelStopped [] due).loseClaim .stopped := by
      unfold State.stopPour
      rw [State.traveled_pour, hs]
    rw [hpour, State.loseClaim_eq (by exact hc) (by rw [State.traveled_pour, hs]; nofun)]
    obtain ⟨honly, hport⟩ := State.finish_done ((s.traveled s.travelStopped [] due).claimLost c
      (.claimResult c.slot c.hold c.pass c.target (some .stopped))) []
    have hfill : _ = s.fill.dropped s.station c := honly .fill (by decide)
    refine ⟨?_, honly .travel (by decide), congrArg Fill.claim hfill, congrArg Fill.claimTimer hfill,
      State.unclaimed_dropped hfill, ?_, honly .pour (by decide), hport⟩
    · refine ((State.onlyIn_traveled s s.travelStopped [] due).mono (by decide)).trans (State.onlyIn.trans ?_ (honly.mono (by decide)))
      exact (State.onlyIn_claimLost _ _ _).mono (by decide)
    · rw [State.view_dropped hfill, if_neg (by cases c.slot <;> nofun)]
  · have hpour : (s.traveled s.travelStopped [] due).stopPour = (s.traveled s.travelStopped [] due).withdrawClaim .stopped := by
      unfold State.stopPour
      rw [State.traveled_pour, hs]
    have htravel : (if (s.traveled s.travelStopped [] due).travel.source = some .position
        then (s.traveled s.travelStopped [] due).travelStopped else (s.traveled s.travelStopped [] due).travel) = s.travelStopped := by
      split
      · next hsource => exact State.travelStopped_again (s := s) (t := s.traveled s.travelStopped [] due) rfl hsource
      · rfl
    rw [hpour, State.withdrawClaim_eq (by exact hc) (by rw [State.traveled_pour, hs]; nofun), htravel, State.ended_traveled]
    obtain ⟨honly, hport⟩ := State.finish_done (s.ended c s.travelStopped { s.pour with state := .idle, positioningTimer := none } s.bills
      [.claimWithdrawn c.slot c.hold .stopped c.pass c.target]) []
    have hfill := honly .fill (by decide)
    refine ⟨?_, honly .travel (by decide), congrArg Fill.claim hfill, State.unclaimed_dropped hfill, ?_, honly .pour (by decide), hport⟩
    · refine ((State.onlyIn_ended _ _ _ _ _ _).trans (honly.mono (by decide))).drop fun b hb => ?_
      cases b <;> first | exact .inl (by decide) | exact .inr (honly .bills (by decide)) | simp at hb
    · exact fun hd hhd => State.hold_unmarked (honly .berths (by decide)) hhd
  · have hpour : (s.traveled s.travelStopped [] due).stopPour = (s.traveled s.travelStopped [] due).enterRunout .stopped := by
      unfold State.stopPour
      have ho' : s.pour.state.lineOpen = true := ho
      rw [State.traveled_pour]
      cases hs : s.pour.state <;> simp_all [PourState.lineOpen]
    rw [hpour, State.enterRunout_goesOn (by exact hr) (by exact hg)]
    obtain ⟨honly, hport⟩ := State.finish_done ((s.traveled s.travelStopped [] due).poured
      (s.pour.runningOut (s.traveled s.travelStopped [] due) .stopped) [] s.bills true) []
    refine ⟨?_, honly .travel (by decide), State.stoppedPour_of (honly .pour (by decide)), hport⟩
    refine ((State.onlyIn_traveled s s.travelStopped [] due).mono (by decide)).trans
      (State.onlyIn.trans ?_ (honly.mono (by decide)))
    exact (State.onlyIn_poured_pour _ _ _ _).mono (by decide)

/-- Settles O31. -/
theorem stopTravelAndFaultClearEndOrders : Obligations.StopTravelAndFaultClearEndOrders := by
  refine ⟨fun s _ hm hpost => stopTravel_by_pour hm hpost, fun s hq hm hpost => ?_⟩
  have hexec := exec_faultClear hm hpost
  have refused : ∀ {r}, firstFailure s.clearChecks = some r → exec .faultClear s = .next (s.withMailbox (refusedReply r.1 r.2)) :=
    fun hf => by rw [hexec, State.judged_refused hf, State.finish_refuse hq]
  refine ⟨fun hs => ?_, fun hs hno => ?_, fun hs hyes => ?_⟩
  · exact refused (r := (.notFaulted, 0)) (by simp [State.clearChecks, firstFailure, orElse, hs])
  · have hsampled : s.travel.sampled = false := by
      rw [Bool.eq_false_iff, Ne, Travel.sampled_iff]
      rcases hno with ⟨h1, h2⟩ | ⟨h1, h2⟩ <;> simp [h1, h2]
    exact refused (r := (.noPosition, 0)) (by simp [State.clearChecks, firstFailure, orElse, hs, hsampled])
  have hsampled : s.travel.sampled = true := s.travel.sampled_iff.2 hyes
  refine ⟨fun hb => ?_, fun hb hidle hmap => ?_, fun k hb hsus hcauses hbelt hwatch hgate hk htr hless => ?_⟩
  · exact refused (r := (.brakeReleased, 0)) (by simp [State.clearChecks, firstFailure, orElse, hs, hsampled, hb])
  · have ho : s.lineOpen = false := by rw [State.lineOpen, hidle]; rfl
    refine ⟨_, by rw [hexec, State.judged_passed (State.clearChecks_pass hs hsampled hb),
      State.clearFault_idle (by rw [hidle]; nofun) ho hmap], ?_⟩
    obtain ⟨honly, hport⟩ := State.finish_done s.refreshed []
    refine ⟨?_, hport, ?_⟩
    · exact (s.onlyIn_refreshed.mono (by decide)).trans (honly.mono (by decide))
    · rw [State.edges_finish, State.edges_finish]
      exact Eq.trans (honly .travel (by decide)) (s.refreshed_travel hsampled)
  · refine ⟨_, by rw [hexec, State.judged_passed (State.clearChecks_pass hs hsampled hb),
      State.clearFault_reopens hsus hcauses hk (s.refreshed_translate hsampled htr) hbelt hwatch hgate hless], ?_⟩
    obtain ⟨honly, hport⟩ := State.finish_done (s.refreshed.poured s.reopened [.pourSuspended k.slot k.hold CauseSet.empty] s.bills true) []
    have htravel : _ = s.refreshed.travel := honly .travel (by decide)
    refine ⟨?_, congrArg Travel.state htravel, congrArg Travel.cause htravel, honly .pour (by decide), hport⟩
    refine (s.onlyIn_refreshed.mono (by decide)).trans (State.onlyIn.trans ?_ (honly.mono (by decide)))
    exact (State.onlyIn_poured_pour _ _ _ _).mono (by decide)

end

section
/-! The end of a line (R136, R140), written out, and END POUR (O41). -/

namespace Sys2Proof.Machine

variable {s t u : State}

/-! ## What travel does at a range computed afresh -/

theorem State.movingAct_form (s : State) : ∃ v due, s.movingAct = s.traveled v [] due ∧ v.position = s.travel.position := by
  unfold State.movingAct
  split
  · split
    · exact ⟨_, _, State.enterSettling_eq _, rfl⟩
    · split
      · exact ⟨_, _, State.enterSettling_eq _, rfl⟩
      · exact ⟨_, s.line.statusDue, rfl, rfl⟩
  · exact ⟨s.travel, s.line.statusDue, rfl, rfl⟩

theorem State.arrive_form (s : State) : ∃ v bodies due, s.arrive.1 = s.traveled v bodies due ∧ v.position = s.travel.position := by
  unfold State.arrive
  split
  · exact ⟨_, _, _, (congrArg (State.notify · _) State.park_eq).trans (State.traveled_notify ..), rfl⟩
  · exact ⟨_, _, _, State.park_eq, rfl⟩

theorem State.heldAct_form (s : State) : ∃ v bodies due, s.heldAct.1 = s.traveled v bodies due ∧ v.position = s.travel.position := by
  unfold State.heldAct
  split
  · split
    · exact s.arrive_form
    · split
      · exact ⟨_, _, _, State.enterReleasing_eq, rfl⟩
      · split
        · exact ⟨s.travel, [], s.line.statusDue, rfl, rfl⟩
        · exact ⟨_, _, _, State.enterReleasing_eq, rfl⟩
  · exact ⟨s.travel, [], s.line.statusDue, rfl, rfl⟩

/-- Only HELD travel tells of what it does. -/
theorem State.travelAct_form (s : State) : ∃ v bodies due, s.travelAct.1 = s.traveled v bodies due ∧ v.position = s.travel.position
    ∧ (s.travel.state ≠ .held → bodies = []) := by
  unfold State.travelAct
  cases hs : s.travel.state with
  | moving =>
    obtain ⟨v, due, hv, hp⟩ := s.movingAct_form
    exact ⟨v, [], due, hv, hp, fun _ => rfl⟩
  | held =>
    obtain ⟨v, bodies, due, hv, hp⟩ := s.heldAct_form
    exact ⟨v, bodies, due, hv, hp, fun h => absurd rfl h⟩
  | parked => exact ⟨s.travel, [], s.line.statusDue, rfl, rfl, fun _ => rfl⟩
  | releasing => exact ⟨s.travel, [], s.line.statusDue, rfl, rfl, fun _ => rfl⟩
  | settling => exact ⟨s.travel, [], s.line.statusDue, rfl, rfl, fun _ => rfl⟩
  | faulted => exact ⟨s.travel, [], s.line.statusDue, rfl, rfl, fun _ => rfl⟩

theorem State.rangeEvent_form (s : State) : ∃ v bodies due, s.rangeEvent.1 = s.traveled v bodies due ∧ v.position = s.travel.position
    ∧ (s.travel.state ≠ .held → bodies = []) := by
  obtain ⟨v, bodies, due, hv, hp, hb⟩ := s.recompute.travelAct_form
  exact ⟨v, bodies, due, hv, hp, hb⟩

/-! ## The end of a line -/

theorem State.ended_onPour (s : State) (f : Pour → Pour) (c : OwnClaim) (v : Travel) (p : Pour) (b : Bills)
    (bodies : List NoticeBody) : (s.onPour f).ended c v p b bodies = s.ended c v p b bodies :=
  State.ended_poured s c v p (f s.pour) b s.bills [] bodies s.line.statusDue

/-- The pour record at the end of a line: the belt OFF, no cause, the pour IDLE (R136, R140). -/
def Pour.finished (p : Pour) : Pour :=
  { p with
    state := .idle, beltOn := false, watch := .off, beltStartTimer := none, beltRetryTimer := none, causes := CauseSet.empty
    runoutCause := none, runoutShifts := 0 }

/-- The notice of the line that closed, if one was open. -/
def lineNotice (line : Option BillLine) (cause : ClosureCause) (overshoot : Option Int) (residue : Option Nat) (allowance : Option Nat) :
    List NoticeBody :=
  match line with
  | some l => [.lineClosed l.slot l.hold l.number cause (l.mass / 1000) overshoot residue (allowance.getD 0)]
  | none => []

theorem State.notifyLineClosed_ended (s : State) (c : OwnClaim) (v : Travel) (p : Pour) (b : Bills) (bodies : List NoticeBody)
    (line : Option BillLine) (cause : ClosureCause) (overshoot : Option Int) (residue : Option Nat) :
    (s.ended c v p b bodies).notifyLineClosed line cause overshoot residue
      = s.ended c v p b (bodies ++ lineNotice line cause overshoot residue p.allowance) := by
  unfold State.notifyLineClosed lineNotice
  cases line with
  | none => rw [List.append_nil]
  | some l => exact State.ended_notify ..

/-- The overshoot that an end of run-out notes (R140). -/
def State.excess (s : State) (cause : RunoutCause) : Option Int := if cause = .target then s.overshoot else none

/-- The grain left on the belt at the end of run-out, in kg (R140). -/
def State.residue (s : State) : Option Nat := if 0 < s.belt.content then some (s.belt.content / 1000) else none

/-- The allowance after an end of run-out (R143). -/
def State.adapted (s : State) (cause : RunoutCause) : Option Nat :=
  if cause = .target ∧ s.pour.passSuspended = false then
    s.pour.allowance.map (fun a => adaptAllowance a s.block.ceiling ((s.excess cause).getD 0))
  else s.pour.allowance

theorem State.adapt_eq {c : OwnClaim} (hc : s.fill.claim = some c) {cause : RunoutCause} (ha : t.pour.allowance = s.pour.allowance)
    (hp : t.pour.passSuspended = s.pour.passSuspended) (hcfg : t.cfg = s.cfg) :
    t.adapt cause (s.excess cause) = t.onPour (fun p => { p with allowance := s.adapted cause }) := by
  have kept : t = t.onPour (fun p => { p with allowance := s.pour.allowance }) := by
    unfold State.onPour
    rw [← ha]
  unfold State.adapt State.adapted State.excess State.overshoot
  rw [hc]
  cases cause with
  | target =>
    dsimp only
    rw [hp, if_pos rfl]
    cases hs : s.pour.passSuspended with
    | true => simpa using kept
    | false =>
      simp only [State.onPour, State.block, ha, hcfg, if_true, and_self, Option.getD_some]
      rfl
  | stopped => exact kept
  | yielded => exact kept

/-- The state in which the end of a run-out reaches travel. -/
def State.lineShut (s : State) (cause : RunoutCause) : State :=
  s.poured s.pour.finished [] (s.bills.closeLine s.count cause.closure (s.excess cause) s.residue) true

theorem State.endRunout_steps (hs : s.pour.state ≠ .idle) (cause : RunoutCause) : s.endRunout cause
    = (((s.lineShut cause).rangeEvent.1.adapt cause (s.excess cause)).endClaim).notifyLineClosed s.bills.openLine cause.closure
        (s.excess cause) s.residue := by
  have stopped : ((((s.onBills (fun b => b.closeLine s.count cause.closure (s.excess cause) s.residue)).setBelt false).onPour
      (fun p => { p with beltRetryTimer := none, causes := CauseSet.empty, runoutCause := none, runoutShifts := 0 })).setPour .idle)
      = s.lineShut cause := by
    rw [State.setBelt_eq, show (s.onBills (fun b => b.closeLine s.count cause.closure (s.excess cause) s.residue))
      = s.poured s.pour [] (s.bills.closeLine s.count cause.closure (s.excess cause) s.residue) s.line.statusDue from rfl,
      State.poured_onPour, State.poured_onPour, State.setPour_of_ne (by exact hs), State.poured_onPour, State.poured_markStatus,
      Pour.belted_off]
    rfl
  rw [← stopped]
  rfl

/-- The end of a run-out (R140): travel acts on the line's end first, and tells of it only where it was HELD. -/
theorem State.endRunout_eq {c : OwnClaim} (hc : s.fill.claim = some c) (hs : s.pour.state ≠ .idle) (cause : RunoutCause) :
    ∃ v bodies, s.endRunout cause = s.ended c v { s.pour.finished with allowance := s.adapted cause }
        (s.bills.closeLine s.count cause.closure (s.excess cause) s.residue)
        (bodies ++ lineNotice s.bills.openLine cause.closure (s.excess cause) s.residue (s.adapted cause))
      ∧ (s.travel.state ≠ .held → bodies = []) := by
  obtain ⟨v, bodies, due, hv, -, hquiet⟩ := (s.lineShut cause).rangeEvent_form
  refine ⟨v, bodies, ?_, hquiet⟩
  have hadapt := State.adapt_eq (s := s) (t := (s.lineShut cause).traveled v bodies due) hc (cause := cause) rfl rfl rfl
  have hended : (((s.lineShut cause).traveled v bodies due).onPour (fun p => { p with allowance := s.adapted cause })).endClaim
      = s.ended c v { s.pour.finished with allowance := s.adapted cause }
        (s.bills.closeLine s.count cause.closure (s.excess cause) s.residue) bodies := by
    refine (State.endClaim_eq (by exact hc)).trans ?_
    rw [State.ended_onPour, State.ended_traveled, List.append_nil]
    exact State.ended_poured s c v { s.pour.finished with allowance := s.adapted cause } s.pour.finished _ _ [] bodies true
  rw [State.endRunout_steps hs, hv, hadapt, hended, State.notifyLineClosed_ended]

/-! ## The withdrawal of a pass -/

/-- The causes dropped, which a line still open tells of. -/
theorem State.setCauses_empty (s : State) : ∃ bodies, s.setCauses CauseSet.empty
    = s.poured { s.pour with causes := CauseSet.empty } bodies s.bills s.line.statusDue := by
  unfold State.setCauses
  split
  · next h => exact ⟨[], by rw [← h]; rfl⟩
  · have put : s.onPour (fun p => { p with causes := CauseSet.empty, passSuspended := p.passSuspended || !CauseSet.empty.isEmpty })
        = s.poured { s.pour with causes := CauseSet.empty } [] s.bills s.line.statusDue := by
      rw [show CauseSet.empty.isEmpty = true from rfl]
      simp only [Bool.not_true, Bool.or_false]
      rfl
    rw [put]
    dsimp only
    split
    · split
      · exact ⟨_, State.poured_notify ..⟩
      · exact ⟨[], rfl⟩
    · exact ⟨[], rfl⟩

/-- The pour record that a withdrawn pass leaves (R136). -/
def State.givenUp (s : State) : Pour := { (s.pour.shut s.gateTimer).finished with phase := none }

/-- The pour record with the gate and the belt commanded to stop. -/
def State.halted (s : State) : Pour :=
  { s.pour.shut s.gateTimer with
    beltOn := false, watch := .off, beltStartTimer := none, beltRetryTimer := none, phase := none }

/-- The pass withdrawn, up to the end of its line in travel (R136). -/
theorem State.withdrawPass_steps (hs : s.pour.state ≠ .idle) : ∃ bodies, s.withdrawPass
    = ((s.poured s.givenUp bodies (s.bills.closeLine s.count .withdrawn none none) true).lineClosedToTravel.endClaim).notifyLineClosed
        s.bills.openLine .withdrawn none none := by
  have stopped : (((s.setGate .closed).setBelt false).onPour (fun p => { p with beltRetryTimer := none, phase := none }))
      = s.poured s.halted [] s.bills s.line.statusDue := by
    rw [State.setGate_closed, State.setBelt_eq]
    rfl
  obtain ⟨bodies, hcauses⟩ := (s.poured s.halted [] s.bills s.line.statusDue).setCauses_empty
  refine ⟨bodies, ?_⟩
  have idle : ((((s.poured s.halted [] s.bills s.line.statusDue).setCauses CauseSet.empty).onBills
      (fun b => b.closeLine s.count .withdrawn none none)).onPour (fun p => { p with runoutCause := none, runoutShifts := 0 })).setPour .idle
      = s.poured s.givenUp bodies (s.bills.closeLine s.count .withdrawn none none) true := by
    rw [hcauses, State.poured_onBills, State.poured_onPour, State.setPour_of_ne (by exact hs)]
    rfl
  rw [← idle, ← stopped]
  rfl

/-- The pass withdrawn (R136). -/
theorem State.withdrawPass_eq {c : OwnClaim} (hc : s.fill.claim = some c) (hs : s.pour.state ≠ .idle) : ∃ v bodies, s.withdrawPass
    = s.ended c v s.givenUp (s.bills.closeLine s.count .withdrawn none none) bodies := by
  obtain ⟨first, hsteps⟩ := State.withdrawPass_steps hs
  obtain ⟨v, bodies, due, hv, -, -⟩ :=
    (s.poured s.givenUp first (s.bills.closeLine s.count .withdrawn none none) true).rangeEvent_form
  refine ⟨v, first ++ bodies ++ lineNotice s.bills.openLine .withdrawn none none s.givenUp.allowance, ?_⟩
  have hended : ((s.poured s.givenUp first (s.bills.closeLine s.count .withdrawn none none) true).traveled v bodies due).endClaim
      = s.ended c v s.givenUp (s.bills.closeLine s.count .withdrawn none none) (first ++ bodies) := by
    refine (State.endClaim_eq (by exact hc)).trans ?_
    rw [State.ended_traveled, List.append_nil]
    exact State.ended_poured s c v s.givenUp s.givenUp _ _ first _ true
  rw [hsteps, show State.lineClosedToTravel _ = _ from hv, hended, State.notifyLineClosed_ended]

/-! ## Runs out and ends at once -/

theorem Pour.runningOut_more (p : Pour) (s : State) (cause : RunoutCause) : (p.runningOut s cause).state = .runout
    ∧ (p.runningOut s cause).runoutCause = some cause ∧ (p.runningOut s cause).allowance = p.allowance
    ∧ (p.runningOut s cause).gateCommand = .closed ∧ (p.runningOut s cause).passSuspended = p.passSuspended := by
  unfold Pour.runningOut
  obtain ⟨w, k, h⟩ := Pour.belted_form ({ (p.shut s.gateTimer) with
    phase := none, runoutCause := some cause, runoutShifts := 0, state := .runout } : Pour) s.inputs.beltRunning
    (s.timer Config.beltStartMs) (!p.causes.stopsBelt)
  rw [h]
  exact ⟨rfl, rfl, rfl, rfl, rfl⟩

/-- Entered with the gate at rest and the belt empty, a run-out ends at its entry (R139). -/
theorem State.enterRunout_ends (h : s.pour.state ≠ .runout)
    (hg : s.pour.gate = .closed ∨ (s.pour.gate = .fault ∧ s.pour.gateFault = some .openFailed)) (hb : s.belt.content = 0)
    (cause : RunoutCause) : s.enterRunout cause = (s.poured (s.pour.runningOut s cause) [] s.bills true).endRunout cause := by
  obtain ⟨hstate, hcause, -⟩ := s.pour.runningOut_more s cause
  obtain ⟨hgate, hfault, -⟩ := s.pour.runningOut_fields s cause
  have hover : (s.poured (s.pour.runningOut s cause) [] s.bills true).runoutOver = true := by
    simp only [State.runoutOver, State.poured_pour, State.poured_belt, hgate, hfault, hb, Pour.shut]
    rcases hg with h | ⟨h, hf⟩ <;> simp [h]
    exact hf
  rw [State.enterRunout_eq h]
  unfold State.runoutTest
  rw [State.poured_pour, hstate, hcause]
  exact if_pos hover

/-! ## END POUR (R141) -/

theorem exec_endPour (hm : s.port.mode = .run) (hpost : s.port.mailbox = .posted .endPour) :
    exec .endPour s = .next (if s.pour.state = .idle then s.refuse (.noPour, 0) else s.stopPour.done []).finish := by
  rw [show Instr.endPour = Request.row .endPour from rfl, exec_row hpost]
  show Host.Outcome.next (State.finish (s.whenMode inRunOnly _)) = _
  rw [State.whenMode_allowed (by simp [inRunOnly, hm])]

theorem State.stopPour_open (h : s.pour.state = .starting ∨ s.pour.state = .pouring ∨ s.pour.state = .throttled ∨ s.pour.state = .suspended) :
    s.stopPour = s.enterRunout .stopped := by
  unfold State.stopPour
  rcases h with h | h | h | h <;> rw [h]

end Sys2Proof.Machine

open Sys2Proof Sys2Proof.Machine

/-- Settles O41. -/
theorem endPourByPourState : Obligations.EndPourByPourState := by
  intro s hq hm hpost
  have hexec := exec_endPour hm hpost
  refine ⟨fun hs => ?_, fun hs => ?_, fun c hs hc => ?_, fun c hs hc => ?_, fun hs => ⟨fun hg => ?_, fun c hg hb hc => ?_⟩⟩
  · rw [hexec, if_pos hs, State.finish_refuse hq]
  · have hstop : s.stopPour = s := by
      unfold State.stopPour
      rw [hs]
    rw [hexec, if_neg (by rw [hs]; nofun), hstop, State.finish_done_quiet hq]
  · have hstop : s.stopPour = s.loseClaim .stopped := by
      unfold State.stopPour
      rw [hs]
    have hidle : s.pour.state ≠ .idle := by rw [hs]; nofun
    rw [hexec, if_neg hidle, hstop, State.loseClaim_eq hc hidle]
    obtain ⟨honly, hport⟩ := State.finish_done (s.claimLost c (.claimResult c.slot c.hold c.pass c.target (some .stopped))) []
    have hfill : _ = s.fill.dropped s.station c := honly .fill (by decide)
    exact ⟨_, rfl, (State.onlyIn_claimLost _ _ _).trans (honly.mono (by decide)), congrArg Fill.claim hfill,
      congrArg Fill.claimTimer hfill, honly .pour (by decide), hport⟩
  · have hstop : s.stopPour = s.withdrawClaim .stopped := by
      unfold State.stopPour
      rw [hs]
    have hidle : s.pour.state ≠ .idle := by rw [hs]; nofun
    rw [hexec, if_neg hidle, hstop, State.withdrawClaim_eq hc hidle]
    obtain ⟨honly, hport⟩ := State.finish_done (s.ended c (if s.travel.source = some .position then s.travelStopped else s.travel)
      { s.pour with state := .idle, positioningTimer := none } s.bills [.claimWithdrawn c.slot c.hold .stopped c.pass c.target]) []
    have htravel : _ = if s.travel.source = some .position then s.travelStopped else s.travel := honly .travel (by decide)
    refine ⟨_, rfl, ?_, congrArg Fill.claim (honly .fill (by decide)), honly .pour (by decide),
      fun hd hhd => State.hold_unmarked (honly .berths (by decide)) hhd, fun hsrc => ?_, fun hsrc => ?_, hport⟩
    · refine ((State.onlyIn_ended _ _ _ _ _ _).trans (honly.mono (by decide))).drop fun b hb => ?_
      cases b <;> first | exact .inl (by decide) | exact .inr (honly .bills (by decide)) | simp at hb
    · exact htravel.trans (if_neg hsrc)
    · exact htravel.trans (if_pos hsrc)
  · have hidle : s.pour.state ≠ .idle := by rcases hs with h | h | h | h <;> rw [h] <;> nofun
    have hrun : s.pour.state ≠ .runout := by rcases hs with h | h | h | h <;> rw [h] <;> nofun
    rw [hexec, if_neg hidle, State.stopPour_open hs, State.enterRunout_goesOn hrun hg]
    obtain ⟨honly, hport⟩ := State.finish_done (s.poured (s.pour.runningOut s .stopped) [] s.bills true) []
    refine ⟨_, rfl, ?_, hport, State.stoppedPour_of (honly .pour (by decide))⟩
    exact ((State.onlyIn_poured_pour _ _ _ _).mono (by decide)).trans (honly.mono (by decide))
  · have hidle : s.pour.state ≠ .idle := by rcases hs with h | h | h | h <;> rw [h] <;> nofun
    have hrun : s.pour.state ≠ .runout := by rcases hs with h | h | h | h <;> rw [h] <;> nofun
    obtain ⟨hstate, -, hallow, hcommand, -⟩ := s.pour.runningOut_more s .stopped
    obtain ⟨v, bodies, hend, -⟩ := State.endRunout_eq (s := s.poured (s.pour.runningOut s .stopped) [] s.bills true) (c := c) hc
      (by rw [State.poured_pour, hstate]; nofun) .stopped
    rw [hexec, if_neg hidle, State.stopPour_open hs, State.enterRunout_ends hrun hg hb]
    have kept := ((State.onlyIn_poured s (s.pour.runningOut s .stopped) [] s.bills true).mono
      (m := [.travel, .port, .line, .fill, .pour, .berths, .bills]) (by decide)).trans (hend ▸ State.onlyIn_ended _ _ _ _ _ _)
    generalize State.endRunout _ _ = e at hend kept ⊢
    obtain ⟨honly, hport⟩ := State.finish_done e []
    have agrees := kept.trans (honly.mono (by decide))
    refine ⟨_, rfl, congrArg LocalPort.mailbox hport, ?_⟩
    rw [Eq.trans (honly .pour (by decide)) (congrArg State.pour hend), Eq.trans (honly .fill (by decide)) (congrArg State.fill hend),
      Eq.trans (honly .bills (by decide)) (congrArg State.bills hend)]
    refine ⟨rfl, rfl, rfl, rfl, rfl, hcommand, hallow, rfl, ?_, agrees .belt (by decide), agrees .scale (by decide),
      agrees .dust (by decide), agrees .peers (by decide)⟩
    show s.bills.closeLine s.count .stopped none (if 0 < s.belt.content then some (s.belt.content / 1000) else none) = _
    rw [hb]
    rfl

end

section
/-! The gate, the belt and their failures (O42, O43, O44). -/

namespace Sys2Proof.Machine

variable {s t u : State}

/-! ## The commands (R129, R131, R136) -/

theorem exec_gateOpenLimit (hm : s.port.mode ≠ .config) : exec .gateOpenLimit s
    = .next (if s.pour.gate = .opening then s.gateOpened else s).finish := by
  show Host.Outcome.next (State.finish (if s.configured then _ else _)) = _
  rw [if_pos (by simpa [State.configured] using hm)]

theorem exec_gateClosedLimit (hm : s.port.mode ≠ .config) : exec .gateClosedLimit s
    = .next (if s.pour.gate = .closing ∨ s.pour.gate = .fault then s.gateShut else s).finish := by
  show Host.Outcome.next (State.finish (if s.configured then _ else _)) = _
  rw [if_pos (by simpa [State.configured] using hm)]

theorem exec_gateTimer {d : Nat} (hd : s.pour.gateTimer = some d) : exec .gateTimerExpiry s = .next ((s.upTo d).gateExpiry).finish := by
  have run : exec .gateTimerExpiry s = .next (s.expire s.pour.gateTimer State.gateExpiry).finish := rfl
  rw [run, hd]
  rfl

theorem exec_beltChange (hm : s.port.mode ≠ .config) (active : Bool) : exec (.beltRunningChange active) s
    = .next (({ s with inputs := { s.inputs with beltRunning := active } } : State).beltInput active).finish := by
  show Host.Outcome.next (State.finish (if s.configured then _ else _)) = _
  rw [if_pos (by simpa [State.configured] using hm)]

theorem exec_beltStartTimer {d : Nat} (hd : s.pour.beltStartTimer = some d) (hw : s.pour.watch = .waiting) :
    exec .beltStartTimerExpiry s = .next ((s.upTo d).beltFails).finish := by
  have run : exec .beltStartTimerExpiry s = .next (s.expire s.pour.beltStartTimer (fun t =>
    if t.pour.watch = .waiting then t.beltFails else t.onPour (fun p => { p with beltStartTimer := none }))).finish := rfl
  rw [run, hd]
  exact congrArg (fun v => Host.Outcome.next (State.finish v)) (if_pos hw)

theorem exec_beltRetryTimer {d : Nat} (hd : s.pour.beltRetryTimer = some d) : exec .beltRetryTimerExpiry s
    = .next (((s.upTo d).onPour (fun p => { p with beltRetryTimer := none })).removeCause .belt).finish := by
  have run : exec .beltRetryTimerExpiry s = .next (s.expire s.pour.beltRetryTimer (fun t =>
    (t.onPour (fun p => { p with beltRetryTimer := none })).removeCause .belt)).finish := rfl
  rw [run, hd]
  rfl

/-! ## Causes with or without a claim to name -/

/-- A cause comes, told of where the claim names its hold. -/
theorem State.setCauses_joins {c : SuspendCause} (hc : s.pour.causes.has c = false) : ∃ bodies,
    s.setCauses (s.pour.causes.put true c) = s.poured (s.pour.withCause c) bodies s.bills s.line.statusDue := by
  have put : s.onPour (fun p => { p with
      causes := s.pour.causes.put true c, passSuspended := p.passSuspended || !(s.pour.causes.put true c).isEmpty })
      = s.poured (s.pour.withCause c) [] s.bills s.line.statusDue := by
    rw [SuspendCause.put_nonempty]
    simp only [Bool.not_false, Bool.or_true]
    rfl
  unfold State.setCauses
  rw [if_neg (SuspendCause.put_ne c hc), put]
  dsimp only
  split
  · split
    · exact ⟨_, State.poured_notify ..⟩
    · exact ⟨[], rfl⟩
  · exact ⟨[], rfl⟩

/-- Any set of causes, told of where the claim names its hold. -/
theorem State.setCauses_form (s : State) (c : CauseSet) : ∃ b bodies,
    s.setCauses c = s.poured { s.pour with causes := c, passSuspended := b } bodies s.bills s.line.statusDue := by
  unfold State.setCauses
  split
  · next h => exact ⟨s.pour.passSuspended, [], by rw [← h]; rfl⟩
  · dsimp only
    split
    · split
      · exact ⟨s.pour.passSuspended || !c.isEmpty, [_], rfl⟩
      · exact ⟨s.pour.passSuspended || !c.isEmpty, [], rfl⟩
    · exact ⟨s.pour.passSuspended || !c.isEmpty, [], rfl⟩

/-- The pour record that a counted failure suspends. -/
def State.failed (s : State) (c : SuspendCause) : Pour :=
  { s.pour.withCause c with
    failures := s.pour.failures + 1
    beltRetryTimer := if c = .belt then s.timer 10000 else s.pour.beltRetryTimer }

/-- A counted failure, not the third (R134), told of where the claim names its hold. -/
theorem State.failCause_counts {c : SuspendCause} (hs : s.pour.state.flowing = true) (hc : s.pour.causes.has c = false)
    (hf : s.pour.failures < 2) : ∃ bodies, s.failCause c
      = s.poured ((s.failed c).suspended s) bodies s.bills.countSuspension true := by
  have hmin : min (s.pour.failures + 1) Config.maxFailures = s.pour.failures + 1 := by unfold Config.maxFailures; omega
  have hless : ¬Config.maxFailures ≤ s.pour.failures + 1 := by unfold Config.maxFailures; omega
  obtain ⟨bodies, hset⟩ := State.setCauses_joins hc
  refine ⟨bodies, ?_⟩
  have counted : (s.setCauses (s.pour.causes.put true c)).onPour (fun p => { p with
        failures := min (p.failures + 1) Config.maxFailures
        beltRetryTimer := if c = .belt then s.timer Config.beltRetryMs else p.beltRetryTimer })
      = s.poured (s.failed c) bodies s.bills s.line.statusDue := by
    rw [hset, State.poured_onPour]
    dsimp only [Pour.withCause]
    rw [hmin]
    rfl
  unfold State.failCause
  rw [if_pos (show s.lineOpen = true from PourState.lineOpen_of_flowing hs)]
  dsimp only
  rw [counted, State.poured_pour, if_neg (by exact hless), State.reactAdd_flowing (by exact hs),
    State.enterSuspended_eq (by exact PourState.ne_suspended_of_flowing hs)]
  rfl

/-- The third failure withdraws the pass (R136). -/
theorem State.failCause_withdraws {c : SuspendCause} (ho : s.lineOpen = true) (hf : s.pour.failures = 2) : ∃ b r bodies,
    s.failCause c = (s.poured { s.pour with causes := s.pour.causes.put true c, passSuspended := b, failures := 3, beltRetryTimer := r }
      bodies s.bills s.line.statusDue).withdrawPass := by
  obtain ⟨b, bodies, hset⟩ := s.setCauses_form (s.pour.causes.put true c)
  refine ⟨b, if c = .belt then s.timer Config.beltRetryMs else s.pour.beltRetryTimer, bodies, ?_⟩
  have counted : (s.setCauses (s.pour.causes.put true c)).onPour (fun p => { p with
        failures := min (p.failures + 1) Config.maxFailures
        beltRetryTimer := if c = .belt then s.timer Config.beltRetryMs else p.beltRetryTimer })
      = s.poured { s.pour with
          causes := s.pour.causes.put true c, passSuspended := b, failures := 3
          beltRetryTimer := if c = .belt then s.timer Config.beltRetryMs else s.pour.beltRetryTimer } bodies s.bills s.line.statusDue := by
    rw [hset, State.poured_onPour, hf]
    rfl
  unfold State.failCause
  rw [if_pos ho]
  dsimp only
  rw [counted]
  exact if_pos (Nat.le_refl 3)

/-- A pour suspended with its belt ON and no belt-stop cause keeps its belt. -/
theorem Pour.suspended_runs {p : Pour} (hb : p.beltOn = true) (hc : p.causes.stopsBelt = false) (s : State) :
    p.suspended s = { p.shut s.gateTimer with phase := none, passSuspended := true, state := .suspended } := by
  unfold Pour.suspended
  rw [hc]
  exact Pour.belted_keeps (by exact hb) _ _

/-- A pour suspended by a belt-stop cause has its belt stopped. -/
theorem Pour.suspended_stops {p : Pour} (hc : p.causes.stopsBelt = true) (s : State) :
    p.suspended s = { p.shut s.gateTimer with
      phase := none, passSuspended := true, state := .suspended, beltOn := false, watch := .off, beltStartTimer := none } := by
  unfold Pour.suspended
  rw [hc]
  rfl

theorem Pour.shut_closed {p : Pour} (h : p.gate = .closed) (timer : Timer) : p.shut timer = { p with gateCommand := .closed } := by
  unfold Pour.shut
  cases p
  simp_all

theorem Pour.shut_fault {p : Pour} (h : p.gate = .fault) (timer : Timer) : p.shut timer = { p with gateCommand := .closed } := by
  unfold Pour.shut
  cases p
  simp_all

/-! ## The gate fails -/

theorem State.gateFails_eq (kind : GateFault) : s.gateFails kind
    = (match kind with
      | .openFailed => (s.poured { s.pour with gate := .fault, gateFault := some kind, gateTimer := none }
          [.gateFault kind s.pour.state] s.bills s.line.statusDue).failCause .gate
      | .closeFailed => (s.poured { s.pour with gate := .fault, gateFault := some kind, gateTimer := none }
          [.gateFault kind s.pour.state] s.bills s.line.statusDue).addCause .gate).runoutTest := by
  unfold State.gateFails
  cases kind <;> rfl

theorem State.failCause_idle {c : SuspendCause} (h : s.lineOpen = false) : s.failCause c = s := by
  simp [State.failCause, h]

theorem PourState.ne_runout_of_shut {x : PourState} (h : x.lineOpen = false) : x ≠ .runout := by
  rintro rfl
  cases h

theorem State.onlyIn_pour_finish {p : Pour} {bodies : List NoticeBody} {b : Bills} {due : Bool} :
    s.onlyIn (s.poured p bodies b due).finish [.port, .line, .pour, .bills] :=
  ((State.onlyIn_poured _ _ _ _ _).mono (by decide)).trans ((State.onlyIn_finish _).mono (by decide))

/-- The gate reaching OPEN in GATE_WAIT (R130). -/
theorem State.gateOpened_waiting (hs : s.pour.state = .starting) (hp : s.pour.phase = some .gateWait) : s.gateOpened
    = s.poured { s.pour with
        gate := .opened, gateTimer := none, phase := none, state := if s.throttle then .throttled else .pouring } [] s.bills true := by
  unfold State.gateOpened
  dsimp only
  rw [if_pos (by exact ⟨hs, hp⟩), State.setPour_of_ne (by
    rw [show State.pour (State.onPour _ _) = { s.pour with gate := .opened, gateTimer := none, phase := none } from rfl, hs]
    split <;> nofun)]
  rfl

theorem State.throttle_iff : s.throttle = true ↔ s.dust.spout.state = .alarm ∨ s.dust.spout.state = .failed
    ∨ ∃ c, s.fill.claim = some c ∧ c.phase = .active ∧
        ∃ q ∈ s.dust.peers, q.freshness = .fresh ∧ q.spout = .alarm ∧ q.hold = some (c.slot, c.hold) := by
  have hpeers : s.peerReports .alarm = true ↔ ∃ c, s.fill.claim = some c ∧ c.phase = .active ∧
      ∃ q ∈ s.dust.peers, q.freshness = .fresh ∧ q.spout = .alarm ∧ q.hold = some (c.slot, c.hold) := by
    unfold State.peerReports State.activeClaim
    cases s.fill.claim with
    | none => simp
    | some c => by_cases hc : c.phase = .active <;> simp [hc, and_assoc]
  unfold State.throttle
  rw [Bool.or_eq_true, Bool.or_eq_true, hpeers, beq_iff_eq, beq_iff_eq, or_assoc]

end Sys2Proof.Machine

open Sys2Proof Sys2Proof.Machine

/-- Settles O42. -/
theorem gateFollowsItsLimitsAndTimer : Obligations.GateFollowsItsLimitsAndTimer := by
  refine ⟨⟨fun s hq hm => ?_, fun s hq hm ho => ?_, fun s d hq ho hd => ⟨fun hg => ?_, fun hg => ?_⟩, fun s hg => if_pos hg⟩,
    fun s hq hm hs hp hg => ?_⟩
  · have idle : s.configured = false := by simp [State.configured, hm]
    constructor
    · show Host.Outcome.next (State.finish (if s.configured then _ else s)) = _
      rw [idle, if_neg Bool.false_ne_true, State.finish_of_quiet hq]
    · show Host.Outcome.next (State.finish (if s.configured then _ else s)) = _
      rw [idle, if_neg Bool.false_ne_true, State.finish_of_quiet hq]
  · have hstart : s.pour.state ≠ .starting := by
      intro e
      rw [State.lineOpen, e] at ho
      cases ho
    constructor
    · rw [exec_gateOpenLimit hm]
      split
      · refine congrArg Host.Outcome.next ((State.finish_of_quiet ?_).trans ?_)
        · unfold State.gateOpened
          rw [if_neg (by exact fun e => hstart e.1)]
          exact hq
        · unfold State.gateOpened
          rw [if_neg (by exact fun e => hstart e.1)]
          rfl
      · rw [State.finish_of_quiet hq]
    · rw [exec_gateClosedLimit hm]
      split
      · have hshut : s.gateShut = s.onPour (fun p => { p with gate := .closed, gateFault := none, gateTimer := none }) := by
          unfold State.gateShut
          rw [State.removeCause_idle (.inl (by exact ho)), State.runoutTest_other (by exact PourState.ne_runout_of_shut ho)]
        rw [hshut, State.finish_of_quiet (by exact hq)]
        rfl
      · rw [State.finish_of_quiet hq]
  · rw [exec_gateTimer hd]
    have hfails : (s.upTo d).gateExpiry = (s.upTo d).gateFails .openFailed := by
      unfold State.gateExpiry
      rw [State.upTo_pour, hg]
    rw [hfails, State.gateFails_eq, State.failCause_idle (by exact ho),
      State.runoutTest_other (by exact PourState.ne_runout_of_shut ho), State.finish_of_quiet (by exact hq)]
    rfl
  · rw [exec_gateTimer hd]
    have hfails : (s.upTo d).gateExpiry = (s.upTo d).gateFails .closeFailed := by
      unfold State.gateExpiry
      rw [State.upTo_pour, hg]
    rw [hfails, State.gateFails_eq, State.addCause_idle (.inl (by exact ho)),
      State.runoutTest_other (by exact PourState.ne_runout_of_shut ho), State.finish_of_quiet (by exact hq)]
    rfl
  · refine ⟨_, by rw [exec_gateOpenLimit hm, if_pos hg, State.gateOpened_waiting hs hp], ?_⟩
    have honly := State.onlyIn_finish (s.poured { s.pour with
        gate := .opened, gateTimer := none, phase := none, state := if s.throttle then .throttled else .pouring } [] s.bills true)
    have hpour : _ = ({ s.pour with
        gate := .opened, gateTimer := none, phase := none, state := if s.throttle then .throttled else .pouring } : Pour) :=
      honly .pour (by decide)
    refine ⟨?_, ?_, ?_, ?_⟩
    · refine (((State.onlyIn_poured_pour _ _ _ _).mono (by decide)).trans
        (honly.mono (m := [.port, .line, .pour]) (by decide))).drop fun b hb => ?_
      cases b <;> first | exact .inl (by decide) | exact .inr (honly .port (by decide)) | simp at hb
    · rw [hpour]
    · rw [hpour]
      dsimp only
      split
      · exact .inr rfl
      · exact .inl rfl
    · rw [hpour, ← State.throttle_iff]
      dsimp only
      cases s.throttle <;> simp

end

section
/-! Belt feedback, and the failures of a pass (O43, O44). -/

namespace Sys2Proof.Machine

variable {s t u : State}

theorem State.onlyIn_inputs (s : State) (i : Inputs) : s.onlyIn { s with inputs := i } [.inputs] := by
  intro b hb
  cases b <;> first | rfl | simp at hb

/-- The belt starts while BELT_WAIT waits for it (R130). -/
theorem State.beltInput_waited (hw : s.pour.watch = .waiting) (hs : s.pour.state = .starting) (hp : s.pour.phase = some .beltWait) :
    s.beltInput true = (s.onPour (fun p => { p with watch := .running, beltStartTimer := none })).gateWait := by
  unfold State.beltInput State.beltRuns
  rw [hw]
  exact if_pos (show s.pour.state = .starting ∧ s.pour.phase = some .beltWait from ⟨hs, hp⟩)

theorem State.beltInput_fails (hw : s.pour.watch = .running) : s.beltInput false = s.beltFails := by
  unfold State.beltInput
  rw [hw]
  rfl

theorem State.beltInput_unheard {active : Bool} (h : s.pour.watch = .off ∨ (s.pour.watch = .waiting ∧ active = false)
    ∨ (s.pour.watch = .running ∧ active = true)) : s.beltInput active = s := by
  unfold State.beltInput
  rcases h with h | ⟨h, rfl⟩ | ⟨h, rfl⟩ <;> rw [h] <;> rfl

theorem State.targetReached_none (h : s.fill.claim = none) : s.targetReached = false := by
  simp [State.targetReached, h]

/-- A run-out whose belt retry timer is over commands the belt ON again (R136). -/
theorem State.removeCause_runs {c : SuspendCause} (hs : s.pour.state = .runout) (hc : s.pour.causes = CauseSet.empty.put true c)
    (hb : s.pour.beltOn = false) (hr : s.inputs.beltRunning = false) : ∃ bodies, s.removeCause c
      = s.poured { s.pour with
          causes := CauseSet.empty, beltRetryTimer := if c = .belt then none else s.pour.beltRetryTimer, beltOn := true
          watch := .waiting, beltStartTimer := some (s.count + 10000) } bodies s.bills s.line.statusDue := by
  obtain ⟨bodies, hset⟩ := s.setCauses_empty
  refine ⟨bodies, ?_⟩
  have hhas : s.pour.causes.has c = true := by rw [hc]; exact CauseSet.put_has c _
  have hput : s.pour.causes.put false c = CauseSet.empty := by rw [hc]; exact CauseSet.put_put_empty c
  have removed : (s.setCauses CauseSet.empty).onPour (fun p => { p with
        beltRetryTimer := if c = .belt then none else p.beltRetryTimer })
      = s.poured { s.pour with causes := CauseSet.empty, beltRetryTimer := if c = .belt then none else s.pour.beltRetryTimer }
        bodies s.bills s.line.statusDue := by
    rw [hset]
    rfl
  unfold State.removeCause
  rw [State.lineOpen_of hs rfl, hhas, hput]
  simp only [Bool.and_self, if_true]
  rw [removed]
  simp only [State.poured_pour, hs]
  unfold State.beltByCauses
  rw [State.setBelt_eq, State.poured_onPour]
  unfold Pour.belted
  simp only [State.poured_pour, State.poured_inputs, hb, hr]
  rfl

/-! ## The belt-running input (R130, R131) -/

/-- The start of the belt while BELT_WAIT waits for it. -/
theorem exec_beltStarts (hm : s.port.mode ≠ .config) (hw : s.pour.watch = .waiting) (hs : s.pour.state = .starting)
    (hp : s.pour.phase = some .beltWait) : exec (.beltRunningChange true) s
      = .next (({ s with
          inputs := { s.inputs with beltRunning := true }
          pour := { s.pour with watch := .running, beltStartTimer := none } } : State).gateWait).finish := by
  rw [exec_beltChange hm, State.beltInput_waited (by exact hw) (by exact hs) (by exact hp)]
  rfl

/-- The belt starts with grain still to pour: the gate is commanded open. -/
theorem beltStarts_opens (hq : s.quiet) (hm : s.port.mode ≠ .config) (hw : s.pour.watch = .waiting) (hs : s.pour.state = .starting)
    (hp : s.pour.phase = some .beltWait) (hg : s.pour.gate = .closed)
    (hless : ∀ c, s.fill.claim = some c →
      (s.holdTotal c.slot c.hold : Int) < ((c.target : Int) - (s.pour.allowance.getD 0 : Nat)) * 1000) :
    ∃ t, exec (.beltRunningChange true) s = .next t ∧ s.onlyIn t [.inputs, .pour]
      ∧ t.pour = { s.pour with
          watch := .running, beltStartTimer := none, phase := some .gateWait, gate := .opening
          gateTimer := some (s.count + s.block.gateLimit * 1000)
          gateCommand := if s.throttle then .openReduced else .openFull } := by
  have hr : s.targetReached = false := by
    cases hc : s.fill.claim with
    | none => exact State.targetReached_none hc
    | some c => exact State.targetReached_short hc (hless c hc)
  have hopens := State.gateWait_opens (s := { s with
    inputs := { s.inputs with beltRunning := true }, pour := { s.pour with watch := .running, beltStartTimer := none } })
    ((State.targetReached_congr rfl rfl fun _ _ => rfl).trans hr) (.inl hg)
  refine ⟨_, by rw [exec_beltStarts hm hw hs hp, hopens, State.finish_of_quiet (by exact hq)], fun b hb => ?_, rfl⟩
  cases b <;> first | rfl | simp at hb

/-- The belt starts with the target reached already: the pour runs out, its gate never opened. -/
theorem beltStarts_runsOut {c : OwnClaim} (hm : s.port.mode ≠ .config) (hw : s.pour.watch = .waiting)
    (hs : s.pour.state = .starting) (hp : s.pour.phase = some .beltWait) (hg : s.pour.gate = .closed)
    (hcauses : s.pour.causes = CauseSet.empty) (hb : s.pour.beltOn = true) (hc : s.fill.claim = some c)
    (hmet : ((c.target : Int) - (s.pour.allowance.getD 0 : Nat)) * 1000 ≤ (s.holdTotal c.slot c.hold : Int))
    (hgrain : 0 < s.belt.content) (hcells : 0 < s.block.cellCount) :
    ∃ t, exec (.beltRunningChange true) s = .next t ∧ s.onlyIn t [.inputs, .pour, .line]
      ∧ t.pour = { s.pour with
          watch := .running, beltStartTimer := none, state := .runout, phase := none, runoutCause := some .target
          runoutShifts := 0, gateCommand := .closed } := by
  obtain ⟨u, hu⟩ : ∃ u : State, u = { s with
    inputs := { s.inputs with beltRunning := true }, pour := { s.pour with watch := .running, beltStartTimer := none } } := ⟨_, rfl⟩
  have hr : u.targetReached = true := by
    rw [hu]
    exact (State.targetReached_congr rfl rfl fun _ _ => rfl).trans ((State.targetReached_iff hc).2 hmet)
  have hrun : u.gateWait = u.poured (u.pour.runningOut u .target) [] u.bills true := by
    unfold State.gateWait
    rw [if_pos hr]
    refine State.enterRunout_goesOn ?_ (.inr (.inr (.inr (.inr ?_)))) _
    · rw [hu]
      exact hs ▸ nofun
    · rw [hu]
      exact ⟨hgrain, hcells⟩
  have hpour : u.pour.runningOut u .target = { s.pour with
      watch := .running, beltStartTimer := none, state := .runout, phase := none, runoutCause := some .target
      runoutShifts := 0, gateCommand := .closed } := by
    unfold Pour.runningOut
    rw [Pour.shut_closed (by rw [hu]; exact hg), show u.pour.causes.stopsBelt = false by rw [hu]; exact congrArg CauseSet.stopsBelt hcauses]
    refine (Pour.belted_keeps (by rw [hu]; exact hb) _ _).trans ?_
    rw [hu]
  have hexec := exec_beltStarts hm hw hs hp
  rw [← hu, hrun] at hexec
  have honly := State.onlyIn_finish (u.poured (u.pour.runningOut u .target) [] u.bills true)
  refine ⟨_, hexec, fun b hb => ?_, Eq.trans (honly .pour (by decide)) hpour⟩
  have kept := honly b (by revert hb; cases b <;> decide)
  rw [hu] at kept ⊢
  cases b <;> first | exact kept | simp at hb

/-- The belt starts with the gate failed: the failure is counted, and the pour SUSPENDED with its belt running. -/
theorem beltStarts_suspends {c : OwnClaim} (hm : s.port.mode ≠ .config) (hw : s.pour.watch = .waiting)
    (hs : s.pour.state = .starting) (hp : s.pour.phase = some .beltWait) (hg : s.pour.gate = .fault)
    (hcauses : s.pour.causes = CauseSet.empty) (hb : s.pour.beltOn = true) (hf : s.pour.failures < 2) (hc : s.fill.claim = some c)
    (hless : (s.holdTotal c.slot c.hold : Int) < ((c.target : Int) - (s.pour.allowance.getD 0 : Nat)) * 1000) :
    ∃ t, exec (.beltRunningChange true) s = .next t ∧ s.onlyIn t [.inputs, .pour, .port, .bills, .line]
      ∧ t.pour = { s.pour with
          watch := .running, beltStartTimer := none, state := .suspended, phase := none
          causes := { CauseSet.empty with gate := true }, passSuspended := true, failures := s.pour.failures + 1
          gateCommand := .closed }
      ∧ t.bills = s.bills.countSuspension
      ∧ t.port = s.port.raise s.count (.pourSuspended c.slot c.hold { CauseSet.empty with gate := true }) := by
  obtain ⟨u, hu⟩ : ∃ u : State, u = { s with
    inputs := { s.inputs with beltRunning := true }, pour := { s.pour with watch := .running, beltStartTimer := none } } := ⟨_, rfl⟩
  have hr : u.targetReached = false := by
    rw [hu]
    exact (State.targetReached_congr rfl rfl fun _ _ => rfl).trans (State.targetReached_short hc hless)
  have hset : u.pour.causes.put true .gate = { CauseSet.empty with gate := true } := by
    rw [hu]
    exact congrArg (CauseSet.put · true .gate) hcauses
  have hsuspends : u.gateWait = u.poured ((u.failed .gate).suspended u)
      [.pourSuspended c.slot c.hold { CauseSet.empty with gate := true }] u.bills.countSuspension true := by
    unfold State.gateWait
    rw [hr, if_neg Bool.false_ne_true, if_pos (by rw [hu]; exact hg), ← hset]
    refine State.failCause_suspends ?_ ?_ (by rw [hu]; exact hc) (by rw [hu]; exact hf)
    · rw [hu]
      exact hs ▸ rfl
    · rw [hu]
      exact congrArg (CauseSet.has · .gate) hcauses
  have hpour : (u.failed .gate).suspended u = { s.pour with
      watch := .running, beltStartTimer := none, state := .suspended, phase := none
      causes := { CauseSet.empty with gate := true }, passSuspended := true, failures := s.pour.failures + 1
      gateCommand := .closed } := by
    rw [Pour.suspended_runs (by rw [hu]; exact hb) (by exact congrArg CauseSet.stopsBelt hset), Pour.shut_fault (by rw [hu]; exact hg)]
    unfold State.failed Pour.withCause
    rw [hset, hu]
    rfl
  have hexec := exec_beltStarts hm hw hs hp
  rw [← hu, hsuspends] at hexec
  have honly := State.onlyIn_finish (u.poured ((u.failed .gate).suspended u)
      [.pourSuspended c.slot c.hold { CauseSet.empty with gate := true }] u.bills.countSuspension true)
  refine ⟨_, hexec, fun b hb => ?_, Eq.trans (honly .pour (by decide)) hpour, ?_, ?_⟩
  · have kept := honly b (by revert hb; cases b <;> decide)
    rw [hu] at kept ⊢
    cases b <;> first | exact kept | simp at hb
  · refine Eq.trans (honly .bills (by decide)) ?_
    rw [hu]
    rfl
  · refine Eq.trans (honly .port (by decide)) ?_
    rw [hu]
    rfl

/-- The belt fails while the gate is open: BELT is added and counted, and the pour SUSPENDED with its belt stopped. -/
theorem beltFails_suspends (hm : s.port.mode ≠ .config) (hw : s.pour.watch = .running)
    (hs : s.pour.state = .pouring ∨ s.pour.state = .throttled) (hf : s.pour.failures < 2) (hcauses : s.pour.causes = CauseSet.empty)
    (hg : s.pour.gate = .opened) :
    ∃ t, exec (.beltRunningChange false) s = .next t ∧ s.onlyIn t [.inputs, .pour, .port, .bills, .line]
      ∧ t.pour.state = .suspended ∧ t.pour.causes = { CauseSet.empty with belt := true }
      ∧ t.pour.failures = s.pour.failures + 1 ∧ t.pour.beltRetryTimer = some (s.count + 10000)
      ∧ t.pour.beltOn = false ∧ t.pour.watch = .off ∧ t.pour.gateCommand = .closed ∧ t.pour.gate = .closing
      ∧ t.pour.passSuspended = true ∧ t.bills = s.bills.countSuspension := by
  obtain ⟨u, hu⟩ : ∃ u : State, u = { s with
    inputs := { s.inputs with beltRunning := false }, pour := { s.pour with beltStartTimer := none } } := ⟨_, rfl⟩
  have hset : u.pour.causes.put true .belt = { CauseSet.empty with belt := true } := by
    rw [hu]
    exact congrArg (CauseSet.put · true .belt) hcauses
  obtain ⟨bodies, hfails⟩ := State.failCause_counts (s := u) (c := .belt)
    (by rw [hu]; rcases hs with h | h <;> exact congrArg PourState.flowing h)
    (by rw [hu]; exact congrArg (CauseSet.has · .belt) hcauses) (by rw [hu]; exact hf)
  have hexec : exec (.beltRunningChange false) s = .next (u.failCause .belt).finish := by
    rw [exec_beltChange hm, State.beltInput_fails (by exact hw), hu]
    rfl
  rw [hfails] at hexec
  have honly := State.onlyIn_finish (u.poured ((u.failed .belt).suspended u) bodies u.bills.countSuspension true)
  refine ⟨_, hexec, fun b hb => ?_, ?_⟩
  · have kept := honly b (by revert hb; cases b <;> decide)
    rw [hu] at kept ⊢
    cases b <;> first | exact kept | simp at hb
  · rw [Eq.trans (honly .pour (by decide)) (Pour.suspended_stops (by exact congrArg CauseSet.stopsBelt hset) u),
      Eq.trans (honly .bills (by decide)) (State.poured_bills ..)]
    refine ⟨rfl, hset, ?_, ?_, rfl, rfl, rfl, ?_, rfl, ?_⟩
    · rw [hu]; rfl
    · rw [hu]; rfl
    · rw [hu]
      simp [Pour.shut, State.failed, Pour.withCause, hg]
    · rw [hu]

/-! ## The belt timers (R136) -/

/-- The belt does not start in time: BELT is added and counted, and the pour SUSPENDED. -/
theorem beltStartTimer_suspends {d : Nat} (hd : s.pour.beltStartTimer = some d) (hw : s.pour.watch = .waiting)
    (hs : s.pour.state = .starting) (hcommand : s.pour.gateCommand = .closed) (hg : s.pour.gate = .closed) (hf : s.pour.failures < 2)
    (hcauses : s.pour.causes = CauseSet.empty) :
    ∃ t, exec .beltStartTimerExpiry s = .next t ∧ s.onlyIn t [.count, .pour, .port, .bills, .line]
      ∧ t.pour = { s.pour with
          state := .suspended, phase := none, causes := { CauseSet.empty with belt := true }, passSuspended := true
          failures := s.pour.failures + 1, beltRetryTimer := some (max s.count d + 10000), beltOn := false, watch := .off
          beltStartTimer := none } := by
  obtain ⟨u, hu⟩ : ∃ u : State, u = (s.upTo d).onPour (fun p => { p with beltStartTimer := none }) := ⟨_, rfl⟩
  have hset : u.pour.causes.put true .belt = { CauseSet.empty with belt := true } := by
    rw [hu]
    exact congrArg (CauseSet.put · true .belt) hcauses
  obtain ⟨bodies, hfails⟩ := State.failCause_counts (s := u) (c := .belt) (by rw [hu]; exact congrArg PourState.flowing hs)
    (by rw [hu]; exact congrArg (CauseSet.has · .belt) hcauses) (by rw [hu]; exact hf)
  have hexec : exec .beltStartTimerExpiry s = .next (u.failCause .belt).finish := by
    rw [exec_beltStartTimer hd hw, hu]
    rfl
  rw [hfails] at hexec
  have honly := State.onlyIn_finish (u.poured ((u.failed .belt).suspended u) bodies u.bills.countSuspension true)
  refine ⟨_, hexec, fun b hb => ?_, ?_⟩
  · have kept := honly b (by revert hb; cases b <;> decide)
    rw [hu] at kept ⊢
    cases b <;> first | exact kept | simp at hb
  · rw [Eq.trans (honly .pour (by decide)) (Pour.suspended_stops (by exact congrArg CauseSet.stopsBelt hset) u),
      Pour.shut_closed (by rw [hu]; exact hg)]
    unfold State.failed Pour.withCause
    rw [hset, ← hcommand, hu]
    rfl

/-- The belt is tried again in a run-out. -/
theorem beltRetryTimer_runs {d : Nat} (hq : s.quiet) (hd : s.pour.beltRetryTimer = some d) (hs : s.pour.state = .runout)
    (hcauses : s.pour.causes = { CauseSet.empty with belt := true }) (hb : s.pour.beltOn = false) (hr : s.inputs.beltRunning = false) :
    ∃ t, exec .beltRetryTimerExpiry s = .next t ∧ s.onlyIn t [.count, .pour, .port]
      ∧ t.pour = { s.pour with
          causes := CauseSet.empty, beltRetryTimer := none, beltOn := true, watch := .waiting
          beltStartTimer := some (max s.count d + 10000) } := by
  obtain ⟨bodies, hruns⟩ := State.removeCause_runs (s := (s.upTo d).onPour (fun p => { p with beltRetryTimer := none })) (c := .belt) hs
    hcauses hb hr
  refine ⟨_, by rw [exec_beltRetryTimer hd, hruns, State.finish_of_quiet (by exact hq)], fun b hb => ?_, rfl⟩
  cases b <;> first | rfl | simp at hb

/-- The belt is tried again by a pour that BELT alone held. -/
theorem beltRetryTimer_resumes {d : Nat} {c : OwnClaim} (hd : s.pour.beltRetryTimer = some d) (hs : s.pour.state = .suspended)
    (hcauses : s.pour.causes = { CauseSet.empty with belt := true }) (hb : s.pour.beltOn = false) (hr : s.inputs.beltRunning = false)
    (hc : s.fill.claim = some c) (ht : s.translate = .ok c.slot c.hold) :
    ∃ t, exec .beltRetryTimerExpiry s = .next t ∧ s.onlyIn t [.count, .pour, .port, .line] ∧ t.count = max s.count d
      ∧ t.pour = { s.pour with
          state := .starting, phase := some .beltWait, causes := CauseSet.empty, beltRetryTimer := none, beltOn := true
          watch := .waiting, beltStartTimer := some (t.count + 10000) }
      ∧ t.port = s.port.raise t.count (.pourSuspended c.slot c.hold CauseSet.empty) := by
  obtain ⟨u, hu⟩ : ∃ u : State, u = (s.upTo d).onPour (fun p => { p with beltRetryTimer := none }) := ⟨_, rfl⟩
  have hresumes := State.removeCause_resumes (s := u) (c := .belt) (k := c) (by rw [hu]; exact hs) (by rw [hu]; exact hcauses)
    (by rw [hu]; exact hc) (by rw [hu]; exact (State.translate_congr rfl rfl rfl).trans ht) (by rw [hu]; exact hb) (by rw [hu]; exact hr)
  have hexec := exec_beltRetryTimer hd
  rw [← hu, hresumes] at hexec
  refine ⟨_, hexec, fun b hb => ?_, ?_, ?_, ?_⟩
  · have kept := State.onlyIn_finish (u.poured { u.resumed with
        beltRetryTimer := if SuspendCause.belt = .belt then none else u.pour.beltRetryTimer }
        [.pourSuspended c.slot c.hold CauseSet.empty] u.bills true) b
      (by revert hb; cases b <;> decide)
    rw [hu] at kept ⊢
    cases b <;> first | exact kept | simp at hb
  · rw [State.finish_count, hu]
    rfl
  · rw [State.finish_pour, State.finish_count, hu]
    rfl
  · rw [State.finish_port, State.finish_count, hu]
    rfl

end Sys2Proof.Machine

open Sys2Proof Sys2Proof.Machine

/-- Settles O43. -/
theorem beltFeedbackOpensTheGateOrFails : Obligations.BeltFeedbackOpensTheGateOrFails := by
  refine ⟨⟨fun s active hq h => ?_, fun s hq hm hw hs hp hg hless => beltStarts_opens hq hm hw hs hp hg hless,
    fun s c _ hm hw hs hp hg hcauses hb hc hmet hgrain hcells => beltStarts_runsOut hm hw hs hp hg hcauses hb hc hmet hgrain hcells,
    fun s c _ hm hw hs hp hg hcauses hb hf hc hless => beltStarts_suspends hm hw hs hp hg hcauses hb hf hc hless,
    fun s _ hm hw hs hf hcauses hg => beltFails_suspends hm hw hs hf hcauses hg⟩,
    fun s d _ hd hw hs _ hcommand hg hf hcauses => beltStartTimer_suspends hd hw hs hcommand hg hf hcauses,
    fun s d hq hd hs hcauses hb hr => beltRetryTimer_runs hq hd hs hcauses hb hr,
    fun s d c _ hd hs hcauses hb hr hc ht => beltRetryTimer_resumes hd hs hcauses hb hr hc ht⟩
  by_cases hm : s.port.mode = .config
  · have idle : s.configured = false := by simp [State.configured, hm]
    show Host.Outcome.next (State.finish (if s.configured then _ else _)) = _
    rw [idle, if_neg Bool.false_ne_true, State.finish_of_quiet (by exact hq)]
  · rw [exec_beltChange hm, State.beltInput_unheard (by exact h.resolve_left hm), State.finish_of_quiet (by exact hq)]

end

section
/-! Failures suspend the pass, and the third withdraws it (O44). -/

namespace Sys2Proof.Machine

variable {s t u : State}

theorem State.gateExpiry_fails (kind : GateFault) (hg : s.pour.gate = .opening ∧ kind = .openFailed ∨ s.pour.gate = .closing ∧ kind = .closeFailed) :
    s.gateExpiry = s.gateFails kind := by
  unfold State.gateExpiry
  rcases hg with ⟨hg, rfl⟩ | ⟨hg, rfl⟩ <;> rw [hg]

/-- The state in which a gate failure reaches the pour. -/
def State.gateBroken (s : State) (kind : GateFault) : State :=
  s.poured { s.pour with gate := .fault, gateFault := some kind, gateTimer := none } [.gateFault kind s.pour.state] s.bills
    s.line.statusDue

theorem State.gateFails_opening : s.gateFails .openFailed = ((s.gateBroken .openFailed).failCause .gate).runoutTest :=
  State.gateFails_eq _

theorem State.gateFails_closing : s.gateFails .closeFailed = ((s.gateBroken .closeFailed).addCause .gate).runoutTest :=
  State.gateFails_eq _

/-- The third failure, whatever it is: the pass withdrawn, its line closed, its claim ended (R136). -/
theorem State.thirdFailure {c : SuspendCause} {k : OwnClaim} (ho : s.lineOpen = true) (hf : s.pour.failures = 2)
    (hk : s.fill.claim = some k) : (s.failCause c).pour.state = .idle ∧ (s.failCause c).pour.gateCommand = .closed
      ∧ (s.failCause c).pour.beltOn = false ∧ (s.failCause c).pour.watch = .off ∧ (s.failCause c).pour.causes = CauseSet.empty
      ∧ (s.failCause c).pour.beltRetryTimer = none ∧ (s.failCause c).pour.allowance = s.pour.allowance
      ∧ (s.failCause c).pour.gate = (s.pour.shut s.gateTimer).gate ∧ (s.failCause c).pour.gateFault = s.pour.gateFault
      ∧ (s.failCause c).fill.claim = none ∧ (s.failCause c).bills = s.bills.closeLine s.count .withdrawn none none
      ∧ s.onlyIn (s.failCause c) [.travel, .port, .line, .fill, .pour, .berths, .bills] := by
  obtain ⟨b, r, bodies, hwithdraws⟩ := State.failCause_withdraws (c := c) ho hf
  obtain ⟨v, more, hends⟩ := State.withdrawPass_eq (s := s.poured { s.pour with
    causes := s.pour.causes.put true c, passSuspended := b, failures := 3, beltRetryTimer := r } bodies s.bills s.line.statusDue) (c := k) hk
    (by rw [State.poured_pour]; intro e; rw [State.lineOpen, show s.pour.state = .idle from e] at ho; cases ho)
  rw [hwithdraws, hends]
  exact ⟨rfl, rfl, rfl, rfl, rfl, rfl, rfl, rfl, rfl, rfl, rfl,
    ((State.onlyIn_poured s _ bodies _ _).mono (by decide)).trans (State.onlyIn_ended _ _ _ _ _ _)⟩

/-- The belt fails for the third time while the gate is open. -/
theorem beltFails_withdraws {c : OwnClaim} (hm : s.port.mode ≠ .config) (hw : s.pour.watch = .running)
    (hs : s.pour.state = .pouring ∨ s.pour.state = .throttled) (hf : s.pour.failures = 2) (hc : s.fill.claim = some c) :
    ∃ t, exec (.beltRunningChange false) s = .next t ∧ t.pour.state = .idle ∧ t.pour.gateCommand = .closed
      ∧ t.pour.beltOn = false ∧ t.pour.watch = .off ∧ t.pour.causes = CauseSet.empty ∧ t.pour.beltRetryTimer = none
      ∧ t.pour.allowance = s.pour.allowance ∧ t.fill.claim = none
      ∧ t.bills = s.bills.closeLine s.count .withdrawn none none ∧ t.bills.openLines = []
      ∧ s.agree t .belt ∧ s.agree t .scale ∧ s.agree t .dust ∧ s.agree t .peers := by
  obtain ⟨u, hu⟩ : ∃ u : State, u = { s with
    inputs := { s.inputs with beltRunning := false }, pour := { s.pour with beltStartTimer := none } } := ⟨_, rfl⟩
  have hexec : exec (.beltRunningChange false) s = .next (u.failCause .belt).finish := by
    rw [exec_beltChange hm, State.beltInput_fails (by exact hw), hu]
    rfl
  obtain ⟨hstate, hcommand, hbelt, hwatch, hcauses, hretry, hallow, -, -, hclaim, hbills, honly⟩ :=
    State.thirdFailure (s := u) (c := .belt) (k := c) (by rw [hu]; rcases hs with h | h <;> exact congrArg PourState.lineOpen h)
      (by rw [hu]; exact hf) (by rw [hu]; exact hc)
  have hbills' : (u.failCause .belt).bills = s.bills.closeLine s.count .withdrawn none none := by
    rw [hbills, hu]
  refine ⟨_, hexec, ?_⟩
  simp only [State.agree, State.finish_pour, State.finish_fill, State.finish_bills, State.finish_belt, State.finish_scale,
    State.finish_dust, State.finish_peers, hbills', Bills.openLines_closeLine]
  refine ⟨hstate, hcommand, hbelt, hwatch, hcauses, hretry, hallow.trans (by rw [hu]), hclaim, trivial, trivial,
    Eq.trans (honly .belt (by decide)) (by rw [hu]), Eq.trans (honly .scale (by decide)) (by rw [hu]),
    Eq.trans (honly .dust (by decide)) (by rw [hu]), Eq.trans (honly .peers (by decide)) (by rw [hu])⟩

/-- The gate does not open in time in GATE_WAIT. -/
theorem gateTimer_suspends {d : Nat} {c : OwnClaim} (hd : s.pour.gateTimer = some d) (hg : s.pour.gate = .opening)
    (hs : s.pour.state = .starting) (hcauses : s.pour.causes = CauseSet.empty) (hb : s.pour.beltOn = true)
    (hc : s.fill.claim = some c) (hf : s.pour.failures < 2) :
    ∃ t, exec .gateTimerExpiry s = .next t ∧ s.onlyIn t [.count, .pour, .port, .bills, .line] ∧ t.count = max s.count d
      ∧ t.pour = { s.pour with
          state := .suspended, phase := none, causes := { CauseSet.empty with gate := true }, passSuspended := true
          failures := s.pour.failures + 1, gateCommand := .closed, gate := .fault, gateFault := some .openFailed
          gateTimer := none }
      ∧ t.gateOutput = .closed ∧ t.bills = s.bills.countSuspension
      ∧ t.port = (s.port.raise t.count (.gateFault .openFailed .starting)).raise t.count
          (.pourSuspended c.slot c.hold { CauseSet.empty with gate := true }) := by
  obtain ⟨u, hu⟩ : ∃ u : State, u = (s.upTo d).gateBroken .openFailed := ⟨_, rfl⟩
  have hset : u.pour.causes.put true .gate = { CauseSet.empty with gate := true } := by
    rw [hu]
    exact congrArg (CauseSet.put · true .gate) hcauses
  have hfails := State.failCause_suspends (s := u) (c := .gate) (k := c) (by rw [hu]; exact congrArg PourState.flowing hs)
    (by rw [hu]; exact congrArg (CauseSet.has · .gate) hcauses) (by rw [hu]; exact hc) (by rw [hu]; exact hf)
  rw [hset] at hfails
  have hpour : (u.failed .gate).suspended u = { s.pour with
      state := .suspended, phase := none, causes := { CauseSet.empty with gate := true }, passSuspended := true
      failures := s.pour.failures + 1, gateCommand := .closed, gate := .fault, gateFault := some .openFailed
      gateTimer := none } := by
    rw [Pour.suspended_runs (by rw [hu]; exact hb) (by exact congrArg CauseSet.stopsBelt hset), Pour.shut_fault (by rw [hu]; rfl)]
    unfold State.failed Pour.withCause
    rw [hset, hu]
    rfl
  have hexec : exec .gateTimerExpiry s = .next (u.poured ((u.failed .gate).suspended u)
      [.pourSuspended c.slot c.hold { CauseSet.empty with gate := true }] u.bills.countSuspension true).finish := by
    rw [exec_gateTimer hd, State.gateExpiry_fails (s := s.upTo d) .openFailed (.inl ⟨hg, rfl⟩), State.gateFails_opening, ← hu, hfails,
      State.runoutTest_other (by rw [State.poured_pour, Pour.suspended_state]; nofun)]
    rfl
  have honly := State.onlyIn_finish (u.poured ((u.failed .gate).suspended u)
      [.pourSuspended c.slot c.hold { CauseSet.empty with gate := true }] u.bills.countSuspension true)
  refine ⟨_, hexec, fun b hb => ?_, ?_, ?_, ?_, ?_, ?_⟩
  · have kept := honly b (by revert hb; cases b <;> decide)
    rw [hu] at kept ⊢
    cases b <;> first | exact kept | simp at hb
  · rw [State.finish_count, hu]
    rfl
  · rw [State.finish_pour, State.poured_pour, hpour]
  · unfold State.gateOutput
    rw [State.finish_pour, State.poured_pour, hpour]
    rfl
  · rw [State.finish_bills, hu]
    rfl
  · rw [State.finish_port, State.finish_count, hu, ← hs]
    rfl

/-- The gate fails to open for the third failure of the pass. -/
theorem gateTimer_withdraws {d : Nat} {c : OwnClaim} (hd : s.pour.gateTimer = some d) (hg : s.pour.gate = .opening)
    (hs : s.pour.state = .starting) (hc : s.fill.claim = some c) (hf : s.pour.failures = 2) :
    ∃ t, exec .gateTimerExpiry s = .next t ∧ t.count = max s.count d ∧ t.pour.state = .idle ∧ t.pour.gateCommand = .closed
      ∧ t.pour.gate = .fault ∧ t.pour.gateFault = some .openFailed ∧ t.pour.beltOn = false ∧ t.pour.watch = .off
      ∧ t.pour.causes = CauseSet.empty ∧ t.pour.allowance = s.pour.allowance ∧ t.fill.claim = none
      ∧ t.bills = s.bills.closeLine t.count .withdrawn none none ∧ t.bills.openLines = []
      ∧ s.agree t .belt ∧ s.agree t .scale ∧ s.agree t .dust ∧ s.agree t .peers := by
  obtain ⟨u, hu⟩ : ∃ u : State, u = (s.upTo d).gateBroken .openFailed := ⟨_, rfl⟩
  obtain ⟨hstate, hcommand, hbelt, hwatch, hcauses, -, hallow, hgate, hfault, hclaim, hbills, honly⟩ :=
    State.thirdFailure (s := u) (c := .gate) (k := c) (by rw [hu]; exact congrArg PourState.lineOpen hs)
      (by rw [hu]; exact hf) (by rw [hu]; exact hc)
  have hexec : exec .gateTimerExpiry s = .next (u.failCause .gate).finish := by
    rw [exec_gateTimer hd, State.gateExpiry_fails (s := s.upTo d) .openFailed (.inl ⟨hg, rfl⟩), State.gateFails_opening, ← hu,
      State.runoutTest_other (by rw [hstate]; nofun)]
  have hcount : (u.failCause .gate).count = max s.count d := Eq.trans (honly .count (by decide)) (by rw [hu]; rfl)
  have hbills' : (u.failCause .gate).bills = s.bills.closeLine (max s.count d) .withdrawn none none := by
    rw [hbills, hu]
    rfl
  refine ⟨_, hexec, ?_⟩
  simp only [State.agree, State.finish_count, State.finish_pour, State.finish_fill, State.finish_bills, State.finish_belt,
    State.finish_scale, State.finish_dust, State.finish_peers, hbills', hcount, Bills.openLines_closeLine]
  refine ⟨trivial, hstate, hcommand, hgate.trans (by rw [hu]; rfl), hfault.trans (by rw [hu]; rfl), hbelt, hwatch, hcauses,
    hallow.trans (by rw [hu]; rfl), hclaim, trivial, trivial,
    Eq.trans (honly .belt (by decide)) (by rw [hu]; rfl), Eq.trans (honly .scale (by decide)) (by rw [hu]; rfl),
    Eq.trans (honly .dust (by decide)) (by rw [hu]; rfl), Eq.trans (honly .peers (by decide)) (by rw [hu]; rfl)⟩

/-- The gate does not close in time: GATE is held besides, and not counted. -/
theorem gateTimer_joins {d : Nat} {c : OwnClaim} (hq : s.quiet) (hd : s.pour.gateTimer = some d) (hg : s.pour.gate = .closing)
    (hs : s.pour.state = .suspended ∨ s.pour.state = .runout) (hno : s.pour.causes.gate = false)
    (hb : s.pour.beltOn = !s.pour.causes.stopsBelt)
    (hoff : s.pour.beltOn = false → s.pour.watch = .off ∧ s.pour.beltStartTimer = none) (hc : s.fill.claim = some c) :
    ∃ t, exec .gateTimerExpiry s = .next t ∧ s.onlyIn t [.count, .pour, .port] ∧ t.count = max s.count d
      ∧ t.pour = { s.pour with
          causes := { s.pour.causes with gate := true }, passSuspended := true, gate := .fault
          gateFault := some .closeFailed, gateTimer := none }
      ∧ t.port = (s.port.raise t.count (.gateFault .closeFailed s.pour.state)).raise t.count
          (.pourSuspended c.slot c.hold { s.pour.causes with gate := true }) := by
  obtain ⟨u, hu⟩ : ∃ u : State, u = (s.upTo d).gateBroken .closeFailed := ⟨_, rfl⟩
  have hjoins := State.causes_join (s := u) (c := .gate) (k := c) (by rw [hu]; exact hs) (by rw [hu]; exact hno) (by rw [hu]; exact hc)
  have hadd : u.addCause .gate = (u.setCauses (u.pour.causes.put true .gate)).reactAdd :=
    (State.addCause_of_clear (by rw [hu]; exact hno)
      (by rw [hu]; rcases hs with h | h <;> exact congrArg PourState.lineOpen h)).trans (if_neg (by nofun))
  have hpour : (u.pour.withCause .gate).belted u.inputs.beltRunning (u.timer Config.beltStartMs) (!(u.pour.causes.put true .gate).stopsBelt)
      = { s.pour with
          causes := { s.pour.causes with gate := true }, passSuspended := true, gate := .fault
          gateFault := some .closeFailed, gateTimer := none } := by
    have hstop : (!(u.pour.causes.put true .gate).stopsBelt) = s.pour.beltOn := by
      rw [hb, hu]
      rfl
    rw [hstop]
    cases hon : s.pour.beltOn with
    | true =>
      refine (Pour.belted_keeps (by rw [hu]; exact hon) _ _).trans ?_
      rw [hu]
      rfl
    | false =>
      obtain ⟨hw, ht⟩ := hoff hon
      refine (Pour.belted_off_of (by rw [hu]; exact hon) (by rw [hu]; exact hw) (by rw [hu]; exact ht) _ _).trans ?_
      rw [hu]
      rfl
  rw [hpour] at hjoins
  have hset : u.pour.causes.put true .gate = { s.pour.causes with gate := true } := by
    rw [hu]
    rfl
  have hexec : exec .gateTimerExpiry s = .next (u.addCause .gate).runoutTest.finish := by
    rw [exec_gateTimer hd, State.gateExpiry_fails (s := s.upTo d) .closeFailed (.inr ⟨hg, rfl⟩), State.gateFails_closing, ← hu]
  have hrests : (u.addCause .gate).runoutTest = u.addCause .gate := by
    rw [hadd, hjoins]
    rcases hs with h | h
    · exact State.runoutTest_other (by rw [State.poured_pour]; simp [h])
    · refine State.runoutTest_goesOn ?_
      unfold State.runoutOver
      rw [State.poured_pour]
      rfl
  rw [hrests, hadd, hjoins, hset, State.finish_of_quiet (by rw [hu]; exact hq)] at hexec
  refine ⟨_, hexec, fun b hb => ?_, ?_, ?_, ?_⟩
  · rw [hu]
    cases b <;> first | rfl | simp at hb
  · rw [hu]
    rfl
  · rfl
  · rw [hu]
    rfl

/-- The closed limit removes GATE, and the pour that it alone held commands the gate open again. -/
theorem gateClosedLimit_reopens {c : OwnClaim} (hm : s.port.mode ≠ .config) (hg : s.pour.gate = .fault)
    (hs : s.pour.state = .suspended) (hcauses : s.pour.causes = { CauseSet.empty with gate := true }) (hb : s.pour.beltOn = true)
    (hw : s.pour.watch = .running) (hc : s.fill.claim = some c) (ht : s.translate = .ok c.slot c.hold)
    (hless : (s.holdTotal c.slot c.hold : Int) < ((c.target : Int) - (s.pour.allowance.getD 0 : Nat)) * 1000) :
    ∃ t, exec .gateClosedLimit s = .next t ∧ s.onlyIn t [.pour, .port, .line]
      ∧ t.pour = { s.pour with
          state := .starting, phase := some .gateWait, causes := CauseSet.empty, gate := .opening, gateFault := none
          gateTimer := some (s.count + s.block.gateLimit * 1000)
          gateCommand := if s.throttle then .openReduced else .openFull }
      ∧ t.port = s.port.raise s.count (.pourSuspended c.slot c.hold CauseSet.empty) := by
  obtain ⟨u, hu⟩ : ∃ u : State, u = s.onPour (fun p => { p with gate := .closed, gateFault := none, gateTimer := none }) := ⟨_, rfl⟩
  have hreopens := State.removeCause_reopens (s := u) (c := .gate) (k := c) (by nofun) (by rw [hu]; exact hs) (by rw [hu]; exact hcauses)
    (by rw [hu]; exact hc) (by rw [hu]; exact (State.translate_congr rfl rfl rfl).trans ht) (by rw [hu]; exact hb) (by rw [hu]; exact hw)
    (.inl (by rw [hu]; rfl)) (by rw [hu]; exact hless)
  have hexec : exec .gateClosedLimit s = .next (u.poured u.reopened [.pourSuspended c.slot c.hold CauseSet.empty] u.bills true).finish := by
    rw [exec_gateClosedLimit hm, if_pos (.inr hg)]
    unfold State.gateShut
    rw [← hu, hreopens, State.runoutTest_other (by nofun)]
  have honly := State.onlyIn_finish (u.poured u.reopened [.pourSuspended c.slot c.hold CauseSet.empty] u.bills true)
  refine ⟨_, hexec, fun b hb => ?_, ?_, ?_⟩
  · have kept := honly b (by revert hb; cases b <;> decide)
    rw [hu] at kept ⊢
    cases b <;> first | exact kept | simp at hb
  · rw [State.finish_pour, hu]
    rfl
  · rw [State.finish_port, hu]
    rfl

end Sys2Proof.Machine

open Sys2Proof Sys2Proof.Machine

/-- Settles O44. -/
theorem failuresSuspendThenWithdrawThePass : Obligations.FailuresSuspendThenWithdrawThePass :=
  ⟨fun _ _ _ hm hw hs hf hc => beltFails_withdraws hm hw hs hf hc,
    fun _ _ _ _ hd hg hs _ hcauses hb hc => ⟨fun hf => gateTimer_suspends hd hg hs hcauses hb hc hf,
      fun hf => gateTimer_withdraws hd hg hs hc hf⟩,
    fun _ _ _ hq hd hg hs hno hb hoff hc => gateTimer_joins hq hd hg hs hno hb hoff hc,
    fun _ _ _ hm hg hs hcauses hb hw hc ht hless => gateClosedLimit_reopens hm hg hs hcauses hb hw hc ht hless⟩

end

section
/-! The end of run-out (O48). -/

namespace Sys2Proof.Machine

variable {s t u : State}

/-- From `s` to `e` the run-out has ended with its cause (R140): the line closed, the belt OFF, the claim ended, the pour IDLE. -/
structure State.RanOut (s e : State) (c : OwnClaim) (cause : RunoutCause) : Prop where
  pour : e.pour = { s.pour.finished with allowance := s.adapted cause }
  fill : e.fill = s.fill.dropped s.station c
  bills : e.bills = s.bills.closeLine s.count cause.closure (s.excess cause) s.residue
  berths : e.berths = (s.onHold c.slot c.hold (fun d => { d with tokenPass := false })).berths
  kept : s.onlyIn e [.travel, .port, .line, .fill, .pour, .berths, .bills]
  notice : ∀ l, s.travel.state ≠ .held → s.bills.openLine = some l → e.port = s.port.raise s.count
    (.lineClosed l.slot l.hold l.number cause.closure (l.mass / 1000) (s.excess cause) s.residue ((s.adapted cause).getD 0))

theorem State.endRunout_ranOut {c : OwnClaim} (hc : s.fill.claim = some c) (hs : s.pour.state ≠ .idle) (cause : RunoutCause) :
    s.RanOut (s.endRunout cause) c cause := by
  obtain ⟨v, bodies, hends, hquiet⟩ := State.endRunout_eq hc hs cause
  rw [hends]
  refine ⟨rfl, rfl, rfl, rfl, State.onlyIn_ended _ _ _ _ _ _, fun l hl hopen => ?_⟩
  rw [hquiet hl, hopen]
  rfl

theorem State.RanOut.finish {e : State} {c : OwnClaim} {cause : RunoutCause} (h : s.RanOut e c cause) : s.RanOut e.finish c cause where
  pour := (State.finish_pour e).trans h.pour
  fill := (State.finish_fill e).trans h.fill
  bills := (State.finish_bills e).trans h.bills
  berths := (State.finish_berths e).trans h.berths
  kept := h.kept.trans ((State.onlyIn_finish e).mono (by decide))
  notice l hl ho := (State.finish_port e).trans (h.notice l hl ho)

/-- A run-out that is over ends (R139). -/
theorem State.runoutTest_ends {c : OwnClaim} {cause : RunoutCause} (hc : s.fill.claim = some c) (hs : s.pour.state = .runout)
    (hr : s.pour.runoutCause = some cause) (hover : s.runoutOver = true) : s.RanOut s.runoutTest c cause := by
  have hend : s.runoutTest = s.endRunout cause := by
    unfold State.runoutTest
    rw [hs, hr]
    exact if_pos hover
  rw [hend]
  exact State.endRunout_ranOut hc (by rw [hs]; nofun) cause

/-- The gate at rest: CLOSED, or in FAULT failed to open. -/
def Pour.gateRests (p : Pour) : Prop := p.gate = .closed ∨ (p.gate = .fault ∧ p.gateFault = some .openFailed)

theorem State.runoutOver_iff : s.runoutOver = true
    ↔ s.pour.gateRests ∧ (s.belt.content = 0 ∨ 2 * s.block.cellCount ≤ s.pour.runoutShifts) := by
  unfold State.runoutOver Pour.gateRests
  simp

/-- The 16th pulse, its cell attributed, ends a run-out whose gate is at rest and whose grain or shifts are at an end. -/
theorem State.shift_ranOut {c : OwnClaim} {cause : RunoutCause} (hc : s.fill.claim = some c) (hs : s.pour.state = .runout)
    (hr : s.pour.runoutCause = some cause) (hg : s.pour.gateRests)
    (hover : s.belt.content = 0 ∨ 2 * s.block.cellCount ≤ min (s.pour.runoutShifts + 1) 65535) :
    s.RanOut s.countShift.closeDecision.runoutTest c cause := by
  have hcount : s.countShift = s.onPour (fun p => { p with runoutShifts := min (s.pour.runoutShifts + 1) 65535 }) := by
    rw [State.countShift_eq, if_pos hs]
  have hends := State.runoutTest_ends (s := s.onPour (fun p => { p with runoutShifts := min (s.pour.runoutShifts + 1) 65535 })) (cause := cause)
    hc hs hr (State.runoutOver_iff.2 ⟨hg, hover⟩)
  rw [hcount, State.closeDecision_short (by rw [show (s.onPour _).pour.state = s.pour.state from rfl, hs]; rintro (h | h) <;> cases h)]
  exact ⟨hends.pour, hends.fill, hends.bills, hends.berths.trans (State.onHold_berths (s := s) (t := s.onPour _) rfl _ _ _),
    ((State.onlyIn_onPour s _).mono (by decide)).trans hends.kept, hends.notice⟩

theorem State.excess_of {c : OwnClaim} (hc : s.fill.claim = some c) (cause : RunoutCause) : s.excess cause
    = if cause = .target then some (((s.holdTotal c.slot c.hold / 1000 : Nat) : Int) - (c.target : Int)) else none := by
  unfold State.excess State.overshoot
  rw [hc]

theorem RunoutCause.closure_eq (cause : RunoutCause) : cause.closure = (match cause with
    | .target => .target
    | .stopped => .stopped
    | .yielded => .yielded) := by
  cases cause <;> rfl

/-- The closed limit with the belt empty (O48). -/
theorem gateClosedLimit_ranOut {c : OwnClaim} {cause : RunoutCause} (hm : s.port.mode ≠ .config) (hs : s.pour.state = .runout)
    (hr : s.pour.runoutCause = some cause) (hc : s.fill.claim = some c) (hg : s.pour.gate = .closing) (hno : s.pour.causes.gate = false)
    (hb : s.belt.content = 0) : ∃ t u, exec .gateClosedLimit s = .next t
      ∧ u = s.onPour (fun p => { p with gate := .closed, gateFault := none, gateTimer := none }) ∧ u.RanOut t c cause := by
  refine ⟨_, _, by rw [exec_gateClosedLimit hm, if_pos (.inl hg)], rfl, ?_⟩
  unfold State.gateShut
  rw [State.removeCause_idle (.inr (by exact hno))]
  exact (State.runoutTest_ends (s := s.onPour (fun p => { p with gate := .closed, gateFault := none, gateTimer := none })) hc hs hr
    (State.runoutOver_iff.2 ⟨.inl rfl, .inl hb⟩)).finish

/-- The 16th pulse of a run-out, its leaving cell empty or the open line's (O48). -/
theorem beltPulse_ranOut {c : OwnClaim} {cause : RunoutCause} {tail head : Cell} {rest init : List Cell}
    (hm : s.port.mode ≠ .config) (hz : s.scale.zeroRun = none) (hcells : s.belt.cells = tail :: rest) (hp : s.belt.phase = 15)
    (hinit : s.weighedTail tail :: rest = init ++ [head]) (hu : u = (s.shifted init head).attribute head)
    (hpour : u.pour = s.pour) (hbelt : u.belt = (s.shifted init head).belt) (hcfg : u.cfg = s.cfg)
    (hs : s.pour.state = .runout) (hr : s.pour.runoutCause = some cause) (hc : u.fill.claim = some c) (hg : s.pour.gateRests)
    (hover : s.belt.content + s.pulseMass - head.mass = 0 ∨ 2 * s.block.cellCount ≤ min (s.pour.runoutShifts + 1) 65535) :
    ∃ t, exec .beltPulse s = .next t ∧ u.RanOut t c cause := by
  refine ⟨_, by rw [exec_beltPulse hm, State.pulse_shifts hz hcells hp hinit, ← hu], ?_⟩
  refine (State.shift_ranOut hc (by rw [hpour]; exact hs) (by rw [hpour]; exact hr) (by rw [hpour]; exact hg) ?_).finish
  rw [hbelt, hpour, State.block, hcfg]
  exact hover

end Sys2Proof.Machine

open Sys2Proof Sys2Proof.Machine

/-- Settles O48. -/
theorem runoutEndsAtTheClosedGate : Obligations.RunoutEndsAtTheClosedGate := by
  intro s c cause closure hq hm hs hr hc hclosure
  obtain rfl : closure = cause.closure := hclosure.trans cause.closure_eq.symm
  refine ⟨fun hg hno hb excess hexcess => ?_, fun tail u rest init m hz hcells hp hmass hu hinit hgrain ha hg hshifts hn excess hexcess => ?_,
    fun tail u head rest init m l rows row ses d hz hcells hp hmass hu hinit hpos hall ha hg htr hlines hlx hlh hv hrow hses hd excess
      hexcess delivered hdelivered => ?_⟩
  · obtain ⟨t, u, hexec, hu, hend⟩ := gateClosedLimit_ranOut hm hs hr hc hg hno hb
    have hx : u.excess cause = excess := by
      rw [hexcess, hu]
      exact State.excess_of hc cause
    have hres : u.residue = none := by
      rw [hu]
      exact if_neg (by rw [show (s.onPour _).belt = s.belt from rfl, hb]; exact Nat.lt_irrefl 0)
    have hkept := hend.kept
    refine ⟨t, hexec, ?_⟩
    rw [hend.pour, hend.fill, hend.bills, hx, hres]
    subst hu
    refine ⟨rfl, rfl, rfl, rfl, rfl, rfl, rfl, rfl, rfl, fun hd hhd => ?_, hkept .belt (by decide), hkept .scale (by decide),
      hkept .dust (by decide), hkept .peers (by decide), fun l _ hheld hl => ?_⟩
    · exact State.hold_unmarked (hend.berths.trans (State.onHold_berths rfl _ _ _)) hhd
    · rw [hend.notice l hheld hl, hx, hres]
      rfl
  · obtain ⟨marked, hinit⟩ := hinit
    obtain rfl : m = s.pulseMass := hmass.trans s.pulseMass_eq.symm
    rw [show u = s.weighedTail tail from hu.trans (by rw [LoadStatus.marks_eq]; rfl)] at hinit
    obtain ⟨x, hX⟩ : ∃ x, x = s.shifted init ⟨0, marked⟩ := ⟨_, rfl⟩
    obtain ⟨t, hexec, hend⟩ := beltPulse_ranOut (u := x) (c := c) hm hz hcells hp hinit
      (hX.trans (State.attribute_empty (c := ⟨0, marked⟩) rfl).symm) (by rw [hX]; rfl) (by rw [hX]) (by rw [hX]; rfl) hs hr
      (by rw [hX]; exact hc) hg (.inr (by omega))
    have htotal : x.holdTotal c.slot c.hold = s.holdTotal c.slot c.hold + s.pulseMass := by
      have hmoves := State.holdTotal_moves (t := x) hc ha (by rw [hX]; rfl)
      have hcontent : x.belt.content = s.belt.content + s.pulseMass := by rw [hX]; rfl
      omega
    have hx : x.excess cause = excess := by
      rw [hexcess, State.excess_of (by rw [hX]; exact hc), htotal]
    have hres : x.residue = some ((s.belt.content + s.pulseMass) / 1000) := by
      rw [hX]
      exact if_pos hgrain
    have hkept := hend.kept
    refine ⟨t, hexec, ?_⟩
    rw [hend.pour, hend.fill, hend.bills, hx, hres, Eq.trans (hkept .belt (by decide)) (congrArg State.belt hX),
      Eq.trans (hkept .scale (by decide)) (congrArg State.scale hX)]
    subst hX
    refine ⟨rfl, rfl, rfl, rfl, rfl, rfl, rfl, rfl, rfl, rfl, rfl, hkept .dust (by decide), hkept .peers (by decide),
      fun l _ hheld hl => ?_⟩
    rw [hend.notice l hheld hl, hx, hres]
    rfl
  · obtain rfl : m = s.pulseMass := hmass.trans s.pulseMass_eq.symm
    rw [show u = s.weighedTail tail from hu.trans (by rw [LoadStatus.marks_eq]; rfl)] at hinit
    have hline : s.bills.openLine = some l := by rw [Bills.openLine_eq_head, hlines]; rfl
    have hi : c.hold ≠ 0 := State.hold_ne_zero (s := s) (x := c.slot) (by unfold State.hold; rw [hses]; exact hd)
    have hlen : c.hold - 1 < rows.length := (List.getElem?_eq_some_iff.1 hrow).1
    obtain ⟨x, hX⟩ : ∃ x, x = (s.shifted init head).deliver c.slot c.hold head := ⟨_, rfl⟩
    have hXfill : x.fill = s.fill.onRow c.slot c.hold (fun r => { r with delivered := r.delivered + head.mass }) := by
      rw [hX, State.deliver_fill]
      rfl
    have hXc : x.fill.claim = some c := by rw [hXfill, Fill.onRow_claim]; exact hc
    obtain ⟨t, hexec, hend⟩ := beltPulse_ranOut (u := x) (c := c) hm hz hcells hp hinit
      (hX.trans (State.attribute_delivers (s := s.shifted init head) hpos ((State.translate_congr rfl rfl rfl).trans htr) hline hlx hlh).symm)
      (by rw [hX]; exact State.deliver_pour ..) (by rw [hX]; exact State.deliver_belt ..) (by rw [hX]; exact State.deliver_cfg ..)
      hs hr hXc hg (.inl (by omega))
    have htotal : x.holdTotal c.slot c.hold = s.holdTotal c.slot c.hold + s.pulseMass := by
      have hadd := State.holdTotal_deliver (s := s.shifted init head) (c := head) hc ha (by exact hv) (by omega) (by omega)
      have hmoves := State.holdTotal_moves (t := s.shifted init head) hc ha rfl
      have hcontent : (s.shifted init head).belt.content = s.belt.content + s.pulseMass - head.mass := rfl
      rw [hX, hadd]
      omega
    have hx : x.excess cause = excess := by
      rw [hexcess, State.excess_of hXc, htotal]
    have hXbelt : x.belt = ⟨⟨0, false⟩ :: init, 0, 0⟩ := by
      rw [hX, State.deliver_belt]
      show (⟨⟨0, false⟩ :: init, 0, s.belt.content + s.pulseMass - head.mass⟩ : Belt) = _
      rw [show s.belt.content + s.pulseMass - head.mass = 0 by omega]
    have hres : x.residue = none := if_neg (by rw [hXbelt]; exact Nat.lt_irrefl 0)
    have hXbills : x.bills = s.bills.addMass head.mass head.marked := by
      rw [hX]
      exact State.deliver_bills ..
    have hXline : x.bills.openLine = some { l with
        mass := l.mass + head.mass, estimated := if head.marked then l.estimated + head.mass else l.estimated } := by
      rw [hXbills, Bills.openLine_eq_head, Bills.openLines_addMass, hlines]
      rfl
    have hkept := hend.kept
    have hXpour : x.pour = s.pour := by rw [hX]; exact State.deliver_pour ..
    have hXcfg : x.cfg = s.cfg := by rw [hX]; exact State.deliver_cfg ..
    have hadapted : x.adapted cause = if cause = .target ∧ s.pour.passSuspended = false then
        s.pour.allowance.map (fun a => adaptAllowance a s.block.ceiling (excess.getD 0)) else s.pour.allowance := by
      rw [State.adapted, hx, hXpour, State.block, hXcfg]
      rfl
    have hXonly : s.onlyIn x [.belt, .scale, .bills, .fill, .berths] := by
      rw [hX]
      exact ((State.onlyIn_shifted s init head).mono (by decide)).trans ((State.onlyIn_deliver _ _ _ _).mono (by decide))
    have hrowX : (x.row c.slot c.hold).delivered = row.delivered + head.mass := by
      rw [State.row_congr (s := s.onFill (fun f => f.onRow c.slot c.hold (fun r => { r with delivered := r.delivered + head.mass })))
        hXfill, State.onRow_row hv (by omega) (by omega)]
      unfold State.row
      rw [hv]
      simp [hi, List.getD_eq_getElem?_getD, hrow]
    have hholdX : x.hold c.slot c.hold = some { d with touched := true } := by
      have hs' : s.hold c.slot c.hold = some d := by unfold State.hold; rw [hses]; exact hd
      rw [State.hold_same (s := s.onHold c.slot c.hold (fun d => { d with touched := true }))
        (by rw [hX]; exact State.onHold_berths (s := s) (t := ((s.shifted init head).onBills _).onFill _) rfl _ _ _), State.onHold_hold hi, if_pos rfl, hs']
      rfl
    have hagree : ∀ b : Block, b = .dust ∨ b = .peers → s.agree t b := fun b hb =>
      (hXonly.mono (m := [.belt, .scale, .bills, .fill, .berths, .travel, .port, .line, .pour]) (by decide)).trans
        (hkept.mono (by decide)) b (by rcases hb with rfl | rfl <;> decide)
    refine ⟨t, hexec, ?_⟩
    rw [hend.pour, hend.fill, hend.bills, hx, hres, Eq.trans (hkept .belt (by decide)) hXbelt,
      Eq.trans (hkept .scale (by decide)) (congrArg State.scale hX), hXbills, hXpour, Bills.closeLine_billed]
    have hcount : x.count = s.count := hXonly .count (by decide)
    refine ⟨rfl, rfl, rfl, rfl, rfl, rfl, rfl, hadapted, rfl, rfl, ?_, ?_, s.bills.billed_addMass _ _ hline (by rw [hlines]; rfl), ?_, ?_,
      hagree .dust (.inl rfl), hagree .peers (.inr rfl), fun _ hheld => ?_⟩
    · exact State.deliver_scale ..
    · rw [hdelivered, Bills.addMass_eq, hcount]
    · rw [State.row_dropped hend.fill]
      exact hrowX
    · exact State.hold_unmarked hend.berths hholdX
    · rw [hend.notice _ (by rw [show x.travel = s.travel from hXonly .travel (by decide)]; exact hheld) hXline, hx, hres, hcount, hXonly .port (by decide)]

end

section
/-! The transmitters of the Line Unit (O52, O53): what a take, an issue and a frame sent make of each port. -/

namespace Sys2Proof.Machine

variable {s t u : State} {l m : QuayLine}

/-! ## Ports -/

@[simp] theorem QuayLine.port_onPort_same (l : QuayLine) (p : Side) (f : PortRec → PortRec) : (l.onPort p f).port p = f (l.port p) := by
  cases p <;> rfl

@[simp] theorem QuayLine.port_onPort_other (l : QuayLine) (p : Side) (f : PortRec → PortRec) :
    (l.onPort p f).port (otherSide p) = l.port (otherSide p) := by
  cases p <;> rfl

theorem otherSide_otherSide (p : Side) : otherSide (otherSide p) = p := by cases p <;> rfl

theorem QuayLine.waiting_onPort (l : QuayLine) (p q : Side) (f : PortRec → PortRec) : (l.onPort p f).waiting q = l.waiting q := by
  cases p <;> rfl

/-- A transmitter that is SENDING takes nothing. -/
theorem QuayLine.take_busy {p : Side} (h : (l.port p).sending.isSome = true) : l.take p = l := by
  unfold QuayLine.take
  rw [h]
  rfl

/-- A take touches its own port alone. -/
theorem QuayLine.port_take_other (l : QuayLine) (p : Side) : (l.take p).port (otherSide p) = l.port (otherSide p) := by
  unfold QuayLine.take
  repeat' split
  · rfl
  all_goals exact l.port_onPort_other p _

theorem QuayLine.takeBoth_busy {p : Side} (h : (l.port (otherSide p)).sending.isSome = true) : l.takeBoth = l.take p := by
  unfold QuayLine.takeBoth
  cases p with
  | up => exact QuayLine.take_busy (by rw [← h]; exact congrArg (fun r : PortRec => r.sending.isSome) (l.port_take_other .up))
  | down => rw [QuayLine.take_busy (p := .up) h]

/-- What an IDLE transmitter takes (R56). -/
theorem QuayLine.port_take {p : Side} (hs : (l.port p).sending = none) (hc : (l.port p).chainEnd = false) : (l.take p).port p
    = match (generalizing := false) (l.port p).queue, l.waiting p with
      | [], none => { l.port p with passOver := 0 }
      | [], some e => { l.port p with sending := some ⟨e.bytes, some e.serial⟩, passOver := 0 }
      | f :: rest, none => { l.port p with sending := some ⟨f, none⟩, queue := rest, passOver := 0 }
      | f :: rest, some e =>
        if (l.port p).passOver < 4 then { l.port p with sending := some ⟨f, none⟩, queue := rest, passOver := (l.port p).passOver + 1 }
        else { l.port p with sending := some ⟨e.bytes, some e.serial⟩, passOver := 0 } := by
  unfold QuayLine.take
  rw [hs, hc]
  simp only [Option.isSome_none, Bool.or_self, Bool.false_eq_true, if_false]
  cases hq : (l.port p).queue with
  | nil => cases hw : l.waiting p <;> simp [hq]
  | cons f rest =>
    cases hw : l.waiting p with
    | none => simp [hq]
    | some e =>
      by_cases hn : (l.port p).passOver < 4
      · simp [hq, hn, Config.passOverMax]
      · simp [hq, hn, Config.passOverMax]

/-- The pass-over count of one port settled. -/
def QuayLine.settleAt (l : QuayLine) (p : Side) : QuayLine :=
  match l.waiting p with
  | none => l.onPort p (fun r => { r with passOver := 0 })
  | some _ => l

theorem QuayLine.settle_eq (l : QuayLine) : l.settlePassOver = (l.settleAt .up).settleAt .down := rfl

theorem QuayLine.waiting_settleAt (l : QuayLine) (p q : Side) : (l.settleAt p).waiting q = l.waiting q := by
  unfold QuayLine.settleAt
  split
  · exact l.waiting_onPort p q _
  · rfl

theorem QuayLine.port_settleAt_same (l : QuayLine) (p : Side) : (l.settleAt p).port p
    = match (generalizing := false) l.waiting p with
      | none => { l.port p with passOver := 0 }
      | some _ => l.port p := by
  unfold QuayLine.settleAt
  cases l.waiting p with
  | none => exact l.port_onPort_same p _
  | some e => rfl

theorem QuayLine.port_settleAt_other (l : QuayLine) (p : Side) : (l.settleAt p).port (otherSide p) = l.port (otherSide p) := by
  unfold QuayLine.settleAt
  split
  · exact l.port_onPort_other p _
  · rfl

/-- The pass-over count of a port for which no own frame waits falls to 0, and nothing else changes. -/
theorem QuayLine.port_settle (l : QuayLine) (p : Side) : l.settlePassOver.port p
    = match (generalizing := false) l.waiting p with
      | none => { l.port p with passOver := 0 }
      | some _ => l.port p := by
  rw [l.settle_eq]
  cases p with
  | up => exact ((l.settleAt .up).port_settleAt_other .down).trans (l.port_settleAt_same .up)
  | down =>
    rw [(l.settleAt .up).port_settleAt_same .down, l.waiting_settleAt, show (l.settleAt .up).port .down = l.port .down from
      l.port_settleAt_other .up]

theorem QuayLine.settle_own (l : QuayLine) : l.settlePassOver.own = l.own := by
  rw [l.settlePassOver_takenOnly.rest]

theorem QuayLine.waiting_congr (h : m.own = l.own) (p : Side) : m.waiting p = l.waiting p := by
  unfold QuayLine.waiting
  rw [h]

/-! ## What reaches a port that is SENDING -/

/-- The pass-through queue, its overflow count and what is being sent, as they were. -/
def PortRec.Steady (r q : PortRec) : Prop := q.queue = r.queue ∧ q.overflows = r.overflows ∧ q.sending = r.sending

theorem PortRec.Steady.refl (r : PortRec) : r.Steady r := ⟨rfl, rfl, rfl⟩

theorem PortRec.Steady.trans {r q w : PortRec} (h : r.Steady q) (k : q.Steady w) : r.Steady w :=
  ⟨k.1.trans h.1, k.2.1.trans h.2.1, k.2.2.trans h.2.2⟩

theorem QuayLine.settle_steady (l : QuayLine) (p : Side) : (l.port p).Steady (l.settlePassOver.port p) := by
  rw [l.port_settle]
  split <;> exact ⟨rfl, rfl, rfl⟩

theorem QuayLine.takeBoth_steady {p : Side} (h : (l.port p).sending.isSome = true) : (l.port p).Steady (l.takeBoth.port p) := by
  have k := QuayLine.takeBoth_busy (l := l) (p := otherSide p) (by rw [otherSide_otherSide]; exact h)
  have e := l.port_take_other (otherSide p)
  rw [otherSide_otherSide] at e
  rw [k, e]
  exact .refl _

theorem QuayLine.issue_steady {p : Side} (h : (l.port p).sending.isSome = true) (kind : OwnKind) (bytes : List Byte) :
    (l.port p).Steady ((l.issue kind bytes).port p) := by
  unfold QuayLine.issue
  have settled := QuayLine.settle_steady { l with
    serial := l.serial + 1
    own := enterOwn ⟨kind, l.serial, bytes, l.up.chainEnd || kind == .brk .up, l.down.chainEnd || kind == .brk .down⟩ l.own } p
  have start : (l.port p).Steady (QuayLine.port { l with
    serial := l.serial + 1
    own := enterOwn ⟨kind, l.serial, bytes, l.up.chainEnd || kind == .brk .up, l.down.chainEnd || kind == .brk .down⟩ l.own } p) := by
    cases p <;> exact .refl _
  exact (start.trans settled).trans (QuayLine.takeBoth_steady (by rw [(start.trans settled).2.2]; exact h))

theorem State.finish_steady {p : Side} (h : (s.line.port p).sending.isSome = true) : (s.line.port p).Steady (s.finish.line.port p) := by
  have marked : ∀ b c : Bool, (s.line.port p).Steady (QuayLine.port { s.line with statusDue := b, changePending := c } p) := by
    intro b c
    cases p <;> exact .refl _
  unfold State.finish
  split
  · split
    · split
      · exact marked false true
      · have issued := QuayLine.issue_steady h .status (frameBytes 0x01 s.station 0 (s.report .run).payload)
        refine issued.trans ?_
        unfold State.issueStatus State.issueStatusAs
        cases p <;> exact .refl _
    · exact marked false s.line.changePending
  · exact .refl _

/-! ## What the Peer Table and the pour leave of the line -/

/-- The line with at most the mark of a status change set. -/
def State.LineKept (s t : State) : Prop := t.line = { s.line with statusDue := t.line.statusDue }

theorem State.LineKept.trans (h : s.LineKept t) (k : t.LineKept u) : s.LineKept u := by
  unfold State.LineKept at *
  rw [k, h]

theorem State.TableOnly.line (h : s.TableOnly t) : s.LineKept t := by
  unfold State.LineKept
  rw [h.state]

theorem State.afterPeers_line (s before : State) (occasion : Bool) : s.LineKept (s.afterPeers before occasion) := by
  have decided : s.LineKept (if occasion || s.freshnesses != before.freshnesses then (s.decideMismatch .a).decideMismatch .b else s) := by
    split
    · exact (((State.TableOnly.refl s).decideMismatch .a).decideMismatch .b).line
    · exact rfl
  have moved := (State.PourKept.refl (if occasion || s.freshnesses != before.freshnesses then
    (s.decideMismatch .a).decideMismatch .b else s)).travelEvent
  exact decided.trans ((State.PourKept.ite moved.lateConflictTest moved).syncDustPeer.line)

theorem State.hear_line (s : State) (p : Side) (f : Frame) : s.LineKept (s.hear p f) := by
  unfold State.hear
  split
  · exact ((((State.TableOnly.refl s).putChanged _).handOn _ _).useBreak _ _ _).line.trans (State.afterPeers_line _ _ _)
  · split
    · exact rfl
    · split
      · exact ((((State.TableOnly.refl s).putEntry _ _).handOn _ _).useBreak _ _ _).line.trans (State.afterPeers_line _ _ _)
      · exact (((State.TableOnly.refl s).notify _).putChanged _).line.trans (State.afterPeers_line _ _ _)

/-! ## Repeating (R49, R50) -/

theorem exec_frame {c : Instr} {p : Side} {bytes : List Byte} (h : frameOf c = some (p, bytes)) :
    exec c s = .next (s.frameArrives p bytes).finish := by
  cases c <;> simp only [frameOf, Option.some.injEq, Prod.mk.injEq, reduceCtorEq] at h
  all_goals
    obtain ⟨rfl, rfl⟩ := h
    rfl

theorem exec_frame_taken {c : Instr} {p : Side} {bytes : List Byte} {f : Frame} (h : frameOf c = some (p, bytes))
    (hm : s.port.mode = .run) (hr : readFrame bytes = some f) (ho : f.origin ≠ s.station) :
    exec c s = .next (s.takeFrame p bytes f).finish := by
  rw [exec_frame h]
  unfold State.frameArrives
  rw [if_pos (by simp [State.inRun, hm]), hr]
  exact congrArg (fun v => Host.Outcome.next (State.finish v)) (if_neg ho)

theorem State.LineKept.steady (h : s.LineKept t) (p : Side) : (s.line.port p).Steady (t.line.port p) := by
  rw [h]
  cases p <;> exact .refl _

/-- The line with a port restored (R59). -/
def State.restoredLine (s : State) (p : Side) : QuayLine :=
  (({ s.line with own := s.line.own.filter (fun e => e.kind != .brk p) } : QuayLine).onPort p
    (fun r => ({ r with state := .up, restoreCount := 0, repeatHold := Config.restoreFrames, breakTimer := none } :
      PortRec).startSilence (s.timer Config.silenceMs))).settlePassOver

theorem State.restore_eq (s : State) (p : Side) :
    s.restore p = (({ s with line := s.restoredLine p } : State).notify (.portRestored p)).travelEvent := rfl

/-- A restore leaves the other port's queue and transmitter. -/
theorem State.restore_steady (s : State) (p : Side) : (s.line.port (otherSide p)).Steady ((s.restore p).line.port (otherSide p)) := by
  have settled : (s.line.port (otherSide p)).Steady ((s.restoredLine p).port (otherSide p)) := by
    refine PortRec.Steady.trans ?_ (QuayLine.settle_steady _ _)
    rw [QuayLine.port_onPort_other]
    cases p <;> exact .refl _
  have moved : State.LineKept _ _ :=
    (State.PourKept.refl (({ s with line := s.restoredLine p } : State).notify (.portRestored p))).travelEvent.line
  rw [s.restore_eq]
  exact settled.trans (moved.steady _)

/-- The arrival of a frame, its restore count and all that follows leave the queue and the transmitter of the other port. -/
theorem State.countRestore_steady (s : State) (p : Side) (hop : Nat) :
    (s.line.port (otherSide p)).Steady ((s.countRestore p hop).line.port (otherSide p)) := by
  unfold State.countRestore
  split
  · split
    · split
      · exact (s.line.port_onPort_other p _).symm ▸ .refl _
      · exact s.restore_steady p
    · exact (s.line.port_onPort_other p _).symm ▸ .refl _
  · exact .refl _

theorem QuayLine.repeats_iff (p : Side) (hop : Nat) : l.repeats p hop = true ↔ (hop ≤ 6 ∧ (l.port p).state = .up
    ∧ (l.port (otherSide p)).chainEnd = false ∧ (l.port (otherSide p)).state = .up ∧ (l.port (otherSide p)).repeatHold = 0) := by
  unfold QuayLine.repeats
  simp [and_assoc]

/-- A copy offered to a port that is SENDING joins its queue or is counted as dropped (R50). -/
theorem State.offer_busy {out : Side} (h : (s.line.port out).sending.isSome = true) (bytes : List Byte) :
    ((s.line.port out).offer bytes).Steady ((s.offer out bytes).line.port out) := by
  have hport : (s.line.onPort out (fun r => r.offer bytes)).port out = (s.line.port out).offer bytes := QuayLine.port_onPort_same _ _ _
  have taken := QuayLine.takeBoth_steady (l := s.line.onPort out (fun r => r.offer bytes)) (p := out) (by
    rw [hport]
    unfold PortRec.offer
    split <;> exact h)
  rw [hport] at taken
  unfold State.offer
  dsimp only
  split <;> exact taken

/-- A frame that reads carries its kind, origin and hop count in its first three bytes. -/
theorem readFrame_some {bytes : List Byte} {f : Frame} (h : readFrame bytes = some f) : ∃ kind origin hop payload,
    bytes.take (bytes.length - 2) = kind :: origin :: hop :: payload ∧ 1 ≤ origin.toNat ∧ origin.toNat ≤ 8
      ∧ ∃ c, readContent kind payload = some c ∧ f = ⟨origin.toNat, hop.toNat, c⟩ := by
  unfold readFrame at h
  dsimp only at h
  split at h
  · cases h
  · next hlen =>
    have h3 : 3 ≤ (bytes.take (bytes.length - 2)).length := by
      rw [List.length_take]
      omega
    obtain ⟨kind, origin, hop, payload, hbody⟩ : ∃ kind origin hop payload,
        bytes.take (bytes.length - 2) = kind :: origin :: hop :: payload := by
      match hb : bytes.take (bytes.length - 2), h3 with
      | kind :: origin :: hop :: payload, _ => exact ⟨kind, origin, hop, payload, rfl⟩
    rw [hbody] at h
    split at h
    · cases h
    · split at h
      · cases h
      · next horigin =>
        simp only [List.getD_cons_zero, List.getD_cons_succ, List.drop_succ_cons, List.drop_zero] at h horigin
        refine ⟨kind, origin, hop, payload, hbody, by omega, by omega, ?_⟩
        split at h
        · next c hc => exact ⟨c, hc, (Option.some.inj h).symm⟩
        · cases h

/-- The copy that is sent on reads as the frame with its hop count raised (R49). -/
theorem readFrame_repeatedCopy {bytes : List Byte} {f : Frame} (h : readFrame bytes = some f) (hh : f.hop ≤ 6) :
    readFrame (repeatedCopy bytes) = some { f with hop := f.hop + 1 } := by
  obtain ⟨kind, origin, hop, payload, hbody, h1, h8, c, hc, rfl⟩ := readFrame_some h
  have hhop : hop.toNat ≤ 6 := hh
  have raised : hop + 1 = BitVec.ofNat 8 (hop.toNat + 1) := by
    apply BitVec.eq_of_toNat_eq
    rw [BitVec.toNat_add, BitVec.toNat_ofNat]
    rfl
  unfold repeatedCopy
  rw [hbody]
  show readFrame (withCheck (kind :: origin :: (hop + 1) :: payload)) = _
  rw [raised, show origin = BitVec.ofNat 8 origin.toNat from (BitVec.ofNat_toNat 8 origin ▸ (BitVec.setWidth_eq origin).symm),
    readFrame_withCheck (by simpa using h1) (by simpa using h8) (by omega), hc]
  simp

theorem PortRec.offer_sending (r : PortRec) (bytes : List Byte) : (r.offer bytes).sending = r.sending := by
  unfold PortRec.offer
  split <;> rfl

/-- What a frame of another station leaves of the other port, SENDING (R49). -/
theorem State.takeFrame_steady {p : Side} (h : (s.line.port (otherSide p)).sending.isSome = true) (bytes : List Byte) (f : Frame) :
    (if s.line.repeats p f.hop then (s.line.port (otherSide p)).offer (repeatedCopy bytes) else s.line.port (otherSide p)).Steady
      ((s.takeFrame p bytes f).finish.line.port (otherSide p)) := by
  obtain ⟨u, hu⟩ : ∃ u, u = (s.onLine (fun l => l.onPort p (fun r => r.hear (s.timer Config.silenceMs)))).countRestore p f.hop := ⟨_, rfl⟩
  have counted : (s.line.port (otherSide p)).Steady (u.line.port (otherSide p)) := by
    have k := State.countRestore_steady (s.onLine (fun l => l.onPort p (fun r => r.hear (s.timer Config.silenceMs)))) p f.hop
    have hstart : (s.onLine (fun l => l.onPort p (fun r => r.hear (s.timer Config.silenceMs)))).line.port (otherSide p)
        = s.line.port (otherSide p) := s.line.port_onPort_other p _
    rw [hstart] at k
    rw [hu]
    exact k
  have hbusy : (u.line.port (otherSide p)).sending.isSome = true := by rw [counted.2.2]; exact h
  have ends : ∀ v : State, (v.line.port (otherSide p)).sending.isSome = true →
      (v.line.port (otherSide p)).Steady ((v.hear p f).finish.line.port (otherSide p)) := fun v hv =>
    have k := (v.hear_line p f).steady (otherSide p)
    k.trans (State.finish_steady (by rw [k.2.2]; exact hv))
  unfold State.takeFrame
  dsimp only
  rw [← hu]
  split
  · have offered := State.offer_busy hbusy (repeatedCopy bytes)
    refine PortRec.Steady.trans (q := (u.line.port (otherSide p)).offer (repeatedCopy bytes)) ?_
      (offered.trans (ends _ (by rw [offered.2.2, PortRec.offer_sending]; exact hbusy)))
    unfold PortRec.offer
    rw [counted.1]
    split
    · exact ⟨rfl, counted.2.1, counted.2.2⟩
    · exact ⟨rfl, congrArg (fun n => min (n + 1) Config.countMax) counted.2.1, counted.2.2⟩
  · exact counted.trans (ends _ hbusy)

end Sys2Proof.Machine

open Sys2Proof Sys2Proof.Machine

/-- Settles O52. -/
theorem framesAreRepeatedOutOfTheOtherPort : Obligations.FramesAreRepeatedOutOfTheOtherPort := by
  refine ⟨fun s c p bytes f _ hc hm hr ho hbusy => ?_, fun bytes f hr hh => ?_⟩
  · have steady := State.takeFrame_steady (s := s) hbusy bytes f
    refine ⟨_, _, exec_frame_taken hc hm hr ho, rfl, fun hrep => ?_, fun hrep => ?_⟩
    · rw [if_pos (QuayLine.repeats_iff p f.hop |>.2 hrep)] at steady
      obtain ⟨hqueue, hover, -⟩ := steady
      rw [hqueue, hover]
      unfold PortRec.offer
      refine ⟨fun hlen => ?_, fun hlen => ?_⟩
      · rw [if_pos (by exact hlen)]
        exact ⟨rfl, rfl⟩
      · rw [if_neg (by exact Nat.not_lt.2 hlen)]
        exact ⟨rfl, rfl⟩
    · rw [if_neg (fun h => hrep (QuayLine.repeats_iff p f.hop |>.1 h))] at steady
      exact ⟨steady.1, steady.2.1⟩
  · exact readFrame_repeatedCopy hr hh

end

section
/-! FRAME SENT (O53). -/

namespace Sys2Proof.Machine

variable {s t u : State} {l m : QuayLine}

theorem exec_frameSent {p : Side} {sd : Sending} (h : (s.line.port p).sending = some sd) : exec (.frameSent p) s
    = .next (if (((s.line.sent p sd).takeBoth).closeRelay).relayOpen = s.line.relayOpen
        then { s with line := ((s.line.sent p sd).takeBoth).closeRelay }
        else ({ s with line := ((s.line.sent p sd).takeBoth).closeRelay } : State).recompute).finish := by
  show Host.Outcome.next (State.finish (s.frameSent p)) = _
  unfold State.frameSent
  rw [h]
  rfl

/-- The own frames after a frame sent (R57). -/
def sentOwn (p : Side) (sd : Sending) (own : List OwnEntry) : List OwnEntry :=
  match sd.own with
  | none => own
  | some serial => markSent p serial own

/-- The port after a frame sent, its transmitter IDLE (R57). -/
def PortRec.idled (r : PortRec) (sd : Sending) : PortRec :=
  { r with sending := none, repeatHold := if sd.own.isSome then r.repeatHold - 1 else r.repeatHold }

theorem QuayLine.sent_eq (l : QuayLine) (p : Side) (sd : Sending) : l.sent p sd
    = (({ l with own := sentOwn p sd l.own } : QuayLine).onPort p (fun r => r.idled sd)).settlePassOver := by
  unfold QuayLine.sent sentOwn PortRec.idled
  cases sd.own <;> rfl

theorem QuayLine.sent_own (l : QuayLine) (p : Side) (sd : Sending) : (l.sent p sd).own = sentOwn p sd l.own := by
  rw [l.sent_eq, QuayLine.settle_own]
  cases p <;> rfl

/-- The line's own fields after a frame sent: the queue of own frames alone changes. -/
theorem QuayLine.sent_rest (l : QuayLine) (p : Side) (sd : Sending) : (l.sent p sd).takeBoth
    = { l with
        up := (l.sent p sd).takeBoth.up, down := (l.sent p sd).takeBoth.down, own := sentOwn p sd l.own } := by
  have h : (({ l with own := sentOwn p sd l.own } : QuayLine).onPort p (fun r => r.idled sd)).TakenOnly (l.sent p sd).takeBoth := by
    rw [l.sent_eq]
    exact (QuayLine.settlePassOver_takenOnly _).trans (QuayLine.takeBoth_takenOnly _)
  refine h.rest.trans ?_
  cases p <;> rfl

theorem QuayLine.port_sent (l : QuayLine) (p : Side) (sd : Sending) : (l.sent p sd).port p
    = match (generalizing := false) (l.sent p sd).waiting p with
      | none => { (l.port p).idled sd with passOver := 0 }
      | some _ => (l.port p).idled sd := by
  have hport : (({ l with own := sentOwn p sd l.own } : QuayLine).onPort p (fun r => r.idled sd)).port p = (l.port p).idled sd := by
    rw [QuayLine.port_onPort_same]
    cases p <;> rfl
  have hwait : (({ l with own := sentOwn p sd l.own } : QuayLine).onPort p (fun r => r.idled sd)).waiting p = (l.sent p sd).waiting p :=
    QuayLine.waiting_congr (by rw [l.sent_own]; cases p <;> rfl) p
  rw [← hwait, ← hport, l.sent_eq]
  exact QuayLine.port_settle _ _

theorem QuayLine.port_sent_other (l : QuayLine) (p : Side) (sd : Sending) :
    (l.port (otherSide p)).Steady ((l.sent p sd).port (otherSide p)) := by
  have k := QuayLine.settle_steady (({ l with own := sentOwn p sd l.own } : QuayLine).onPort p (fun r => r.idled sd)) (otherSide p)
  rw [QuayLine.port_onPort_other] at k
  rw [l.sent_eq]
  refine PortRec.Steady.trans ?_ k
  cases p <;> exact .refl _

theorem QuayLine.sent_errors (l : QuayLine) (p q : Side) (sd : Sending) :
    ((l.sent p sd).takeBoth.port q).errors = (l.port q).errors := by
  have h : (({ l with own := sentOwn p sd l.own } : QuayLine).onPort p (fun r => r.idled sd)).TakenOnly (l.sent p sd).takeBoth := by
    rw [l.sent_eq]
    exact (QuayLine.settlePassOver_takenOnly _).trans (QuayLine.takeBoth_takenOnly _)
  obtain ⟨⟨f, c, n, hup⟩, ⟨g, d, k, hdown⟩, -⟩ := h
  cases q with
  | up =>
    show (QuayLine.up _).errors = _
    rw [hup]
    cases p <;> rfl
  | down =>
    show (QuayLine.down _).errors = _
    rw [hdown]
    cases p <;> rfl

theorem QuayLine.closeRelay_none (h : l.closing = .none) : l.closeRelay = l := by
  unfold QuayLine.closeRelay
  rw [h]

/-- What the transmitter takes after a frame sent (R56, R57). -/
theorem QuayLine.port_sent_taken {p : Side} {sd : Sending} (hb : (l.port (otherSide p)).sending.isSome = true)
    (hc : (l.port p).chainEnd = false) {r : PortRec} {waiting : Option OwnEntry}
    (hr : { r with sending := none } = (l.port p).idled sd) (hw : waiting = (l.sent p sd).waiting p) :
    (l.sent p sd).takeBoth.port p = match (generalizing := false) r.queue, waiting with
        | [], none => { r with sending := none, passOver := 0 }
        | [], some e => { r with sending := some ⟨e.bytes, some e.serial⟩, passOver := 0 }
        | f :: rest, none => { r with sending := some ⟨f, none⟩, queue := rest, passOver := 0 }
        | f :: rest, some e =>
          if r.passOver < 4 then { r with sending := some ⟨f, none⟩, queue := rest, passOver := r.passOver + 1 }
          else { r with sending := some ⟨e.bytes, some e.serial⟩, passOver := 0 } := by
  have hport := l.port_sent p sd
  have hend : r.chainEnd = false := (congrArg PortRec.chainEnd hr).trans hc
  rw [← hr] at hport
  rw [QuayLine.takeBoth_busy (by rw [(l.port_sent_other p sd).2.2]; exact hb),
    QuayLine.port_take (by rw [hport]; split <;> rfl) (by rw [hport]; split <;> exact hend)]
  generalize (l.sent p sd).port p = q at hport ⊢
  generalize (l.sent p sd).waiting p = w at hport hw ⊢
  subst hw hport
  cases waiting with
  | none => cases hq : r.queue <;> simp [hq]
  | some e => cases hq : r.queue <;> simp [hq]

/-! ## The entry to BYPASS (R63) -/

theorem mem_sentOwn_serial {p : Side} {sd : Sending} {serial : Nat} {own : List OwnEntry} (hs : sd.own = some serial)
    (hsent : ∀ e ∈ own, e.serial = serial → e.sent (otherSide p) = true) : ∀ e ∈ sentOwn p sd own, e.serial ≠ serial := by
  intro e he hserial
  unfold sentOwn markSent at he
  rw [hs] at he
  obtain ⟨hmem, hkeep⟩ := List.mem_filter.1 he
  obtain ⟨old, hold, rfl⟩ := List.mem_map.1 hmem
  by_cases hos : old.serial = serial
  · have := hsent old hold hos
    cases p <;> simp_all [OwnEntry.sent, otherSide]
  · simp [hos] at hserial

theorem exists_sentOwn_serial {p : Side} {sd : Sending} {serial : Nat} {own : List OwnEntry}
    (h : ∃ e ∈ own, e.serial = serial ∧ e.sent (otherSide p) = false) : ∃ e ∈ sentOwn p sd own, e.serial = serial := by
  obtain ⟨e, he, hserial, hsent⟩ := h
  unfold sentOwn
  cases hs : sd.own with
  | none => exact ⟨e, he, hserial⟩
  | some n =>
    unfold markSent
    refine ⟨_, List.mem_filter.2 ⟨List.mem_map.2 ⟨e, he, rfl⟩, ?_⟩, ?_⟩
    · cases p <;> simp_all [OwnEntry.sent, otherSide] <;> split <;> simp_all
    · cases p <;> simp <;> split <;> simp_all

/-- The relay closed (R63). -/
theorem QuayLine.closeRelay_closes {serial : Nat} (hc : l.closing = .sending serial) (h : ∀ e ∈ l.own, e.serial ≠ serial) :
    l.closeRelay = { l with
      relayOpen := false, closing := .none, statusTimer := none
      up := { l.up.setUp with passOver := 0, silenceTimer := none, breakTimer := none }
      down := { l.down.setUp with passOver := 0, silenceTimer := none, breakTimer := none } } := by
  unfold QuayLine.closeRelay
  rw [hc]
  exact if_neg (by simpa using h)

theorem QuayLine.closeRelay_waits {serial : Nat} (hc : l.closing = .sending serial) (h : ∃ e ∈ l.own, e.serial = serial) :
    l.closeRelay = l := by
  unfold QuayLine.closeRelay
  rw [hc]
  exact if_pos (by simpa using h)

end Sys2Proof.Machine

open Sys2Proof Sys2Proof.Machine

/-- Settles O53. -/
theorem frameSentTakesTheNextFrame : Obligations.FrameSentTakesTheNextFrame := by
  refine ⟨fun s p sd hq hsd hbusy hclosing hend own hown waiting hwaiting r hr => ?_, fun s p sd serial hq hsd hclosing hopen => ?_⟩
  · have hrest := s.line.sent_rest p sd
    have howned : own = sentOwn p sd s.line.own := by
      rw [hown]
      unfold sentOwn markSent
      cases sd.own with
      | none => rfl
      | some n => cases p <;> simp
    have hw : waiting = (s.line.sent p sd).waiting p := by
      rw [hwaiting]
      unfold QuayLine.waiting
      rw [s.line.sent_own, ← howned]
      cases p <;> rfl
    have hclose : (s.line.sent p sd).takeBoth.closeRelay = (s.line.sent p sd).takeBoth :=
      QuayLine.closeRelay_none (by rw [hrest]; exact hclosing)
    rw [exec_frameSent hsd, hclose, if_pos (by rw [hrest]), State.finish_of_quiet (by
      show ((s.line.sent p sd).takeBoth).statusDue = false
      rw [hrest]
      exact hq)]
    refine ⟨_, rfl, fun b hb => by cases b <;> first | rfl | simp at hb, ?_, ?_⟩
    · show ((s.line.sent p sd).takeBoth).own = own
      rw [hrest, howned]
    · exact QuayLine.port_sent_taken (r := r) hbusy hend (by rw [hr]; rfl) hw
  · have hrest := s.line.sent_rest p sd
    refine ⟨fun hown hsent => ?_, fun hleft => ?_⟩
    · have hclose := QuayLine.closeRelay_closes (l := (s.line.sent p sd).takeBoth) (serial := serial) (by rw [hrest]; exact hclosing)
        (by rw [hrest]; exact mem_sentOwn_serial hown hsent)
      have hne : ¬((s.line.sent p sd).takeBoth.closeRelay).relayOpen = s.line.relayOpen := by rw [hclose, hopen]; nofun
      rw [exec_frameSent hsd, if_neg hne, State.finish_of_quiet (by
        show ((s.line.sent p sd).takeBoth.closeRelay).statusDue = false
        rw [hclose, hrest]
        exact hq)]
      refine ⟨_, rfl, fun b hb => by cases b <;> first | rfl | simp at hb, congrArg QuayLine.relayOpen hclose,
        congrArg QuayLine.closing hclose, congrArg QuayLine.statusTimer hclose, ?_, fun q => ?_, rfl⟩
      · show ∀ e ∈ ((s.line.sent p sd).takeBoth.closeRelay).own, e.serial ≠ serial
        rw [hclose, hrest]
        exact mem_sentOwn_serial hown hsent
      · have herrors : ((s.line.sent p sd).takeBoth.port q).errors = (s.line.port q).errors := s.line.sent_errors p q sd
        show ((s.line.sent p sd).takeBoth.closeRelay.port q).state = .up ∧ _
        rw [← herrors]
        show ((s.line.sent p sd).takeBoth.closeRelay.port q).state = .up
          ∧ ((s.line.sent p sd).takeBoth.closeRelay.port q).restoreCount = 0
          ∧ ((s.line.sent p sd).takeBoth.closeRelay.port q).repeatHold = 0
          ∧ ((s.line.sent p sd).takeBoth.closeRelay.port q).silenceTimer = none
          ∧ ((s.line.sent p sd).takeBoth.closeRelay.port q).breakTimer = none
          ∧ ((s.line.sent p sd).takeBoth.closeRelay.port q).errors = _
        rw [hclose]
        cases q <;> exact ⟨rfl, rfl, rfl, rfl, rfl, rfl⟩
    · have hclose : (s.line.sent p sd).takeBoth.closeRelay = (s.line.sent p sd).takeBoth :=
        QuayLine.closeRelay_waits (serial := serial) (by rw [hrest]; exact hclosing) (by rw [hrest]; exact exists_sentOwn_serial hleft)
      rw [exec_frameSent hsd, hclose, if_pos (by rw [hrest]), State.finish_of_quiet (by
        show ((s.line.sent p sd).takeBoth).statusDue = false
        rw [hrest]
        exact hq)]
      refine ⟨_, rfl, fun b hb => by cases b <;> first | rfl | simp at hb, ?_, ?_⟩
      · show ((s.line.sent p sd).takeBoth).relayOpen = true
        rw [hrest, hopen]
      · show ((s.line.sent p sd).takeBoth).closing = s.line.closing
        rw [hrest]

end

section
/-! BYPASS ON and BYPASS OFF (O13). -/

namespace Sys2Proof.Machine

variable {s t u : State} {l m : QuayLine}

/-! ## A STATUS issued into an empty own-frame queue -/

/-- The STATUS that an issue enters. -/
def QuayLine.statusEntry (l : QuayLine) (bytes : List Byte) : OwnEntry :=
  ⟨.status, l.serial, bytes, l.up.chainEnd, l.down.chainEnd⟩

theorem QuayLine.statusEntry_sent (l : QuayLine) (bytes : List Byte) (q : Side) :
    (l.statusEntry bytes).sent q = (l.port q).chainEnd := by
  cases q <;> rfl

/-- A port whose transmitter, IDLE and of no chain end, sends the frame `f`; only the pass-over count is left open. -/
def PortRec.Sends (r : PortRec) (f : Option Sending) (r' : PortRec) : Prop :=
  ∃ n, (r.passOver = 0 → n = 0) ∧ r' = { r with
    passOver := n, sending := if r.sending.isSome ∨ r.chainEnd then r.sending else f }

theorem QuayLine.port_take_empty {q : Side} (hq : (l.port q).queue = []) :
    (l.port q).Sends ((l.waiting q).map (fun e => ⟨e.bytes, some e.serial⟩)) ((l.take q).port q) := by
  by_cases hb : (l.port q).sending.isSome ∨ (l.port q).chainEnd
  · have h : l.take q = l := by
      unfold QuayLine.take
      exact if_pos (by simpa using hb)
    exact ⟨_, id, by rw [h, if_pos hb]⟩
  · have hs : (l.port q).sending = none := by
      cases h : (l.port q).sending with
      | none => rfl
      | some f => exact absurd (.inl (by rw [h]; rfl)) hb
    have hc : (l.port q).chainEnd = false := by simpa using fun h => hb (.inr h)
    refine ⟨0, fun _ => rfl, ?_⟩
    rw [QuayLine.port_take hs hc, if_neg hb, hq]
    cases h : l.waiting q with
    | none => simp [hs, hq]
    | some e => simp [hq]

theorem QuayLine.port_takeBoth_empty (hqueue : ∀ q, (l.port q).queue = []) (q : Side) :
    (l.port q).Sends ((l.waiting q).map (fun e => ⟨e.bytes, some e.serial⟩)) (l.takeBoth.port q) := by
  unfold QuayLine.takeBoth
  cases q with
  | up =>
    rw [show ((l.take .up).take .down).port .up = (l.take .up).port .up from (l.take .up).port_take_other .down]
    exact QuayLine.port_take_empty (hqueue .up)
  | down =>
    have hport : (l.take .up).port .down = l.port .down := l.port_take_other .up
    have hown : (l.take .up).own = l.own := by rw [(l.take_takenOnly .up).rest]
    have h := QuayLine.port_take_empty (l := l.take .up) (q := .down) (by rw [hport]; exact hqueue .down)
    rwa [hport, QuayLine.waiting_congr hown] at h

/-- A port whose pass-over count may have fallen to 0 sends what it would have sent. -/
theorem PortRec.Sends.after {r a b : PortRec} {f : Option Sending} {n : Nat} (hn : r.passOver = 0 → n = 0)
    (ha : a = { r with passOver := n }) (h : a.Sends f b) : r.Sends f b := by
  obtain ⟨k, hk, rfl⟩ := h
  subst ha
  exact ⟨k, fun h => hk (hn h), rfl⟩

/-- What a chain end is offered does not matter. -/
theorem PortRec.Sends.chainEnd {r a : PortRec} {f g : Option Sending} (hc : r.chainEnd = true ∨ f = g) (h : r.Sends f a) :
    r.Sends g a := by
  obtain ⟨k, hk, rfl⟩ := h
  refine ⟨k, hk, ?_⟩
  rcases hc with hc | rfl
  · rw [if_pos (Or.inr hc), if_pos (Or.inr hc)]
  · rfl

theorem QuayLine.port_settle_form (l : QuayLine) (q : Side) : ∃ n, ((l.port q).passOver = 0 → n = 0)
    ∧ l.settlePassOver.port q = { l.port q with passOver := n } := by
  rw [l.port_settle]
  split
  · exact ⟨0, fun _ => rfl, rfl⟩
  · exact ⟨_, id, rfl⟩

/-- A STATUS issued while nothing else waits: its entry, and what each port sends (R55, R56). -/
theorem QuayLine.issue_alone (hown : l.own = []) (hqueue : ∀ q, (l.port q).queue = []) (bytes : List Byte) :
    (l.issue .status bytes).own = (if l.up.chainEnd ∧ l.down.chainEnd then [] else [l.statusEntry bytes])
      ∧ ∀ q, (l.port q).Sends (some ⟨bytes, some l.serial⟩) ((l.issue .status bytes).port q) := by
  have hentered : enterOwn (l.statusEntry bytes) l.own
      = if l.up.chainEnd ∧ l.down.chainEnd then [] else [l.statusEntry bytes] := by
    unfold enterOwn QuayLine.statusEntry
    rw [hown]
    simp [OwnKind.urgent]
  have hissue : l.issue .status bytes = ({ l with
      serial := l.serial + 1, own := enterOwn (l.statusEntry bytes) l.own } : QuayLine).settlePassOver.takeBoth := by
    have hentry : (⟨.status, l.serial, bytes, l.up.chainEnd || OwnKind.status == .brk .up,
        l.down.chainEnd || OwnKind.status == .brk .down⟩ : OwnEntry) = l.statusEntry bytes := by
      rw [show (OwnKind.status == OwnKind.brk .up) = false from rfl, show (OwnKind.status == OwnKind.brk .down) = false from rfl,
        Bool.or_false, Bool.or_false]
      rfl
    unfold QuayLine.issue
    rw [hentry]
  refine ⟨?_, fun q => ?_⟩
  · rw [hissue, (QuayLine.takeBoth_takenOnly _).rest]
    exact (QuayLine.settle_own _).trans hentered
  · obtain ⟨m, hm⟩ : ∃ m : QuayLine, m = { l with serial := l.serial + 1, own := enterOwn (l.statusEntry bytes) l.own } := ⟨_, rfl⟩
    have hport : ∀ p, m.port p = l.port p := by rw [hm]; intro p; cases p <;> rfl
    rw [hissue, ← hm]
    have hempty : ∀ p, (m.settlePassOver.port p).queue = [] := by
      intro p
      obtain ⟨n, -, hn⟩ := m.port_settle_form p
      rw [hn, hport]
      exact hqueue p
    obtain ⟨n, hn, hset⟩ := m.port_settle_form q
    rw [hport] at hn hset
    refine PortRec.Sends.after hn hset (PortRec.Sends.chainEnd ?_ (QuayLine.port_takeBoth_empty hempty q))
    by_cases hc : (l.port q).chainEnd = true
    · exact .inl (by rw [hset]; exact hc)
    · have hopen : ¬(l.up.chainEnd = true ∧ l.down.chainEnd = true) := by
        intro h
        cases q
        · exact hc h.1
        · exact hc h.2
      have hmown : m.own = [l.statusEntry bytes] := by rw [hm]; exact hentered.trans (if_neg hopen)
      refine .inr ?_
      rw [QuayLine.waiting_congr m.settle_own]
      unfold QuayLine.waiting
      rw [hmown, List.find?_cons_of_pos (by rw [l.statusEntry_sent]; simpa using hc)]
      rfl

/-! ## The last STATUS before the relay closes (R63) -/

/-- The frame of the last STATUS. -/
def State.lastBytes (s : State) : List Byte := frameBytes 0x01 s.station 0 (s.report .bypass).payload

/-- The line after the last STATUS has been issued, before the relay may close. -/
def State.lastIssued (s : State) : QuayLine :=
  { ({ s.line with closing := .sending s.line.serial } : QuayLine).issue .status s.lastBytes with
    statusTimer := some (s.count + 200), spacingTimer := some (s.count + 50), changePending := false, statusDue := false }

theorem State.issueLastStatus_eq (s : State) : s.issueLastStatus = { s with line := s.lastIssued.closeRelay } := rfl

theorem State.lastIssued_closing (s : State) : s.lastIssued.closing = .sending s.line.serial
    ∧ s.lastIssued.relayOpen = s.line.relayOpen := by
  obtain ⟨-, -, -, -, hclosing, hrelay, -⟩ :=
    QuayLine.issue_timers { s.line with closing := .sending s.line.serial } .status s.lastBytes
  exact ⟨hclosing, hrelay⟩

theorem State.lastIssued_alone (hown : s.line.own = []) (hqueue : ∀ q, (s.line.port q).queue = []) :
    s.lastIssued.own = (if s.line.up.chainEnd ∧ s.line.down.chainEnd then [] else [s.line.statusEntry s.lastBytes])
      ∧ ∀ q, (s.line.port q).Sends (some ⟨s.lastBytes, some s.line.serial⟩) (s.lastIssued.port q) := by
  have hport : ∀ (q : Side) (m : QuayLine) (a b : Timer) (c d : Bool), QuayLine.port { m with
      statusTimer := a, spacingTimer := b, changePending := c, statusDue := d } q = m.port q := by
    intro q m a b c d
    cases q <;> rfl
  have hclosing : ∀ q, QuayLine.port { s.line with closing := .sending s.line.serial } q = s.line.port q := by
    intro q
    cases q <;> rfl
  obtain ⟨howned, hsends⟩ := QuayLine.issue_alone (l := { s.line with closing := .sending s.line.serial }) hown
    (fun q => by rw [hclosing]; exact hqueue q) s.lastBytes
  refine ⟨howned, fun q => ?_⟩
  have h := hsends q
  rw [hclosing] at h
  unfold State.lastIssued
  rw [hport]
  exact h

/-- With a port that is no chain end the relay waits for the last STATUS. -/
theorem State.issueLastStatus_waits (hown : s.line.own = []) (hqueue : ∀ q, (s.line.port q).queue = [])
    (hopen : s.line.up.chainEnd = false ∨ s.line.down.chainEnd = false) :
    s.issueLastStatus = { s with line := s.lastIssued } ∧ s.lastIssued.own = [s.line.statusEntry s.lastBytes] := by
  have howned := (State.lastIssued_alone hown hqueue).1
  rw [if_neg (by rintro ⟨hup, hdown⟩; simp [hup, hdown] at hopen)] at howned
  refine ⟨?_, howned⟩
  rw [State.issueLastStatus_eq, QuayLine.closeRelay_waits s.lastIssued_closing.1 ⟨_, by rw [howned]; exact .head _, rfl⟩]

/-- With both ports chain ends the relay closes at the issue. -/
theorem State.issueLastStatus_closes (hown : s.line.own = []) (hqueue : ∀ q, (s.line.port q).queue = [])
    (hup : s.line.up.chainEnd = true) (hdown : s.line.down.chainEnd = true) :
    s.issueLastStatus = { s with line := { s.lastIssued with
      own := [], relayOpen := false, closing := .none, statusTimer := none
      up := { s.lastIssued.up.setUp with passOver := 0, silenceTimer := none, breakTimer := none }
      down := { s.lastIssued.down.setUp with passOver := 0, silenceTimer := none, breakTimer := none } } } := by
  have howned := (State.lastIssued_alone hown hqueue).1
  rw [if_pos ⟨hup, hdown⟩] at howned
  rw [State.issueLastStatus_eq, QuayLine.closeRelay_closes s.lastIssued_closing.1 (by rw [howned]; nofun), ← howned]

/-- The last STATUS of `u`, issued for `s`: the two have the same report, and their ports send the same. -/
theorem State.lastStatusIssued_of (hown : u.line.own = []) (hqueue : ∀ q, (u.line.port q).queue = [])
    (hopen : u.line.up.chainEnd = false ∨ u.line.down.chainEnd = false) (hbytes : u.lastBytes = s.lastBytes)
    (hports : ∀ q, (u.line.port q).chainEnd = (s.line.port q).chainEnd ∧ (u.line.port q).sending = (s.line.port q).sending)
    (hrelay : u.line.relayOpen = s.line.relayOpen) (hline : t.line = u.issueLastStatus.line) (hcount : t.count = u.count) :
    s.lastStatusIssued t := by
  obtain ⟨heq, howned⟩ := State.issueLastStatus_waits hown hqueue hopen
  have hline : t.line = u.lastIssued := hline.trans (congrArg State.line heq)
  refine ⟨u.line.serial, u.lastBytes, hbytes, ?_, ?_, ?_, ?_, ?_, fun q => ?_⟩
  · rw [hline, howned, QuayLine.statusEntry, show u.line.up.chainEnd = s.line.up.chainEnd from (hports .up).1,
      show u.line.down.chainEnd = s.line.down.chainEnd from (hports .down).1]
  · rw [hline, u.lastIssued_closing.1]
  · rw [hline, u.lastIssued_closing.2, hrelay]
  · rw [hline, hcount]
    rfl
  · rw [hline, hcount]
    rfl
  · obtain ⟨n, -, hq⟩ := (State.lastIssued_alone hown hqueue).2 q
    rw [hline, hq, ← (hports q).1, ← (hports q).2]
    exact ⟨rfl, rfl⟩

/-! ## BYPASS ON and BYPASS OFF -/

theorem State.bypassChecks_pass : (∀ c ∈ s.bypassChecks, c.1 = true)
    ↔ s.pour.state = .idle ∧ s.travel.state = .parked ∧ s.scale.zeroRun = none := by
  simp [State.bypassChecks, orElse]

/-- The part with its mode BYPASS and its line emptied (R63). -/
def State.leaving (s : State) : State :=
  { s with
    port := { s.port with mode := .bypass }
    line := { s.line with
      own := [], statusTimer := none, changePending := false, closing := .spacing
      up := { s.line.up with queue := [], silenceTimer := none, breakTimer := none, passOver := 0 }
      down := { s.line.down with queue := [], silenceTimer := none, breakTimer := none, passOver := 0 } } }

theorem exec_bypassOn (hmode : s.port.mode = .run) (hbox : s.port.mailbox = .posted .bypassOn)
    (hfree : s.pour.state = .idle ∧ s.travel.state = .parked ∧ s.scale.zeroRun = none) : exec .bypassOn s
    = .next ((if s.line.spacingTimer.isSome then s.leaving else s.leaving.issueLastStatus.recompute).done []).finish := by
  have hpass : firstFailure s.bypassChecks = none := firstFailure_eq_none.2 (State.bypassChecks_pass.2 hfree)
  refine (exec_row hbox).trans (congrArg (fun x : State => Host.Outcome.next x.finish) ?_)
  show s.whenMode inRunOnly _ = _
  rw [State.whenMode_allowed (by rw [hmode]; decide), State.judged_passed hpass]
  unfold State.bypassLine
  show State.done (if s.line.spacingTimer.isSome then _ else _) [] = _
  rfl

theorem exec_bypassOn_refused (hq : s.quiet) (hmode : s.port.mode = .run) (hbox : s.port.mailbox = .posted .bypassOn)
    (hbusy : ¬(s.pour.state = .idle ∧ s.travel.state = .parked ∧ s.scale.zeroRun = none)) :
    exec .bypassOn s = .next (s.withMailbox (refusedReply .stationBusy 0)) := by
  have hfail : firstFailure s.bypassChecks = some (.stationBusy, 0) :=
    firstFailure_alike (by simp [State.bypassChecks, orElse]) (fun h => hbusy (State.bypassChecks_pass.1 h))
  refine (exec_row hbox).trans (congrArg Host.Outcome.next ?_)
  refine Eq.trans (congrArg State.finish ?_) (State.finish_reply hq (.refused .stationBusy 0) [[]])
  show s.whenMode inRunOnly _ = _
  rw [State.whenMode_allowed (by rw [hmode]; decide), State.judged_refused hfail]
  rfl

theorem exec_spacingTimer_last {d : Nat} (ht : s.line.spacingTimer = some d) (hc : s.line.closing = .spacing) :
    exec .spacingTimerExpiry s = .next (({ s with
      count := max s.count d, line := { s.line with spacingTimer := none } } : State).issueLastStatus.recompute).finish := by
  have run : exec .spacingTimerExpiry s = .next (s.expire s.line.spacingTimer State.spacingExpiry).finish := rfl
  rw [run, ht]
  show Host.Outcome.next (State.finish (State.spacingExpiry { s with count := max s.count d })) = _
  unfold State.spacingExpiry
  rw [if_pos (show s.line.closing = .spacing from hc)]
  rfl

/-- Ports whose queues are empty and whose timers are stopped stay so at the last STATUS; no change is pending after it. -/
theorem State.issueLastStatus_stopped (hown : s.line.own = []) (hqueue : ∀ q, (s.line.port q).queue = []) :
    s.issueLastStatus.line.changePending = false ∧ s.issueLastStatus.line.statusDue = false
      ∧ ∀ q, (s.issueLastStatus.line.port q).queue = []
        ∧ ((s.line.port q).silenceTimer = none → (s.issueLastStatus.line.port q).silenceTimer = none)
        ∧ ((s.line.port q).breakTimer = none → (s.issueLastStatus.line.port q).breakTimer = none) := by
  have hissued : ∀ q, (s.lastIssued.port q).queue = []
      ∧ ((s.line.port q).silenceTimer = none → (s.lastIssued.port q).silenceTimer = none)
      ∧ ((s.line.port q).breakTimer = none → (s.lastIssued.port q).breakTimer = none) := by
    intro q
    obtain ⟨n, -, hn⟩ := (State.lastIssued_alone hown hqueue).2 q
    rw [hn]
    exact ⟨hqueue q, id, id⟩
  by_cases hopen : s.line.up.chainEnd = false ∨ s.line.down.chainEnd = false
  · rw [(State.issueLastStatus_waits hown hqueue hopen).1]
    exact ⟨rfl, rfl, hissued⟩
  · obtain ⟨hup, hdown⟩ := not_or.1 hopen
    rw [State.issueLastStatus_closes hown hqueue (by simpa using hup) (by simpa using hdown)]
    refine ⟨rfl, rfl, fun q => ?_⟩
    cases q with
    | up => exact ⟨(hissued .up).1, fun _ => rfl, fun _ => rfl⟩
    | down => exact ⟨(hissued .down).1, fun _ => rfl, fun _ => rfl⟩

theorem State.onlyIn_issueLastStatus (s : State) : s.onlyIn s.issueLastStatus.recompute [.line, .travel] := by
  rw [s.issueLastStatus_eq]
  intro b hb
  cases b <;> first | rfl | simp at hb

/-- The line at the end of BYPASS ON. -/
theorem State.leaving_issued (s : State) : s.leaving.line.own = [] ∧ ∀ q, (s.leaving.line.port q).queue = []
    ∧ (s.leaving.line.port q).silenceTimer = none ∧ (s.leaving.line.port q).breakTimer = none
    ∧ (s.leaving.line.port q).chainEnd = (s.line.port q).chainEnd ∧ (s.leaving.line.port q).sending = (s.line.port q).sending := by
  refine ⟨rfl, fun q => ?_⟩
  cases q <;> exact ⟨rfl, rfl, rfl, rfl, rfl⟩

theorem exec_bypassOff (hmode : s.port.mode = .bypass) (hbox : s.port.mailbox = .posted .bypassOff)
    (htravel : s.travel.state = .parked ∨ s.travel.state = .faulted) : exec .bypassOff s
    = .next (((s.onPort (fun p => { p with mode := .run })).reopenLine.recompute.issueStatus).done []).finish := by
  refine (exec_row hbox).trans (congrArg (fun x : State => Host.Outcome.next x.finish) ?_)
  show s.whenMode [.bypass] _ = _
  rw [State.whenMode_allowed (by rw [hmode]; decide)]
  refine congrArg (fun x : State => x.issueStatus.done []) ?_
  unfold State.travelEvent State.rangeEvent
  rw [State.travelAct_rests (s := (s.onPort (fun p => { p with mode := .run })).reopenLine.recompute)
    (fun h => by rcases htravel with k | k <;> exact nomatch k.symm.trans h)
    (fun h => by rcases htravel with k | k <;> exact nomatch k.symm.trans h)]
  rfl

end Sys2Proof.Machine

open Sys2Proof Sys2Proof.Machine

/-- Settles O13. -/
theorem bypassLeavesAndRejoinsTheLine : Obligations.BypassLeavesAndRejoinsTheLine := by
  refine ⟨fun s hq hmode hbox => ⟨exec_bypassOn_refused hq hmode hbox, fun hfree => ?_⟩, fun s d hq ht hc hown hqueue => ?_,
    fun s hq hmode hbox htravel => ?_⟩
  · obtain ⟨hown, hports⟩ := s.leaving_issued
    rw [exec_bypassOn hmode hbox hfree]
    cases ht : s.line.spacingTimer with
    | some d =>
      rw [if_pos (show (some d).isSome = true from rfl), State.finish_done_quiet (s := s.leaving) hq]
      exact ⟨_, rfl, fun b hb => by cases b <;> first | rfl | simp at hb, rfl, rfl, rfl, rfl, rfl, rfl, rfl, rfl, rfl,
        fun _ => ⟨rfl, rfl, rfl⟩, nofun, nofun⟩
    | none =>
      obtain ⟨hpending, hdue, hstopped⟩ := State.issueLastStatus_stopped hown (fun q => (hports q).1)
      rw [if_neg (by nofun), State.finish_done_quiet (s := s.leaving.issueLastStatus.recompute) hdue]
      refine ⟨_, rfl, ?_, ?_, ?_, (hstopped .up).1, (hstopped .down).1, (hstopped .up).2.1 rfl, (hstopped .down).2.1 rfl,
        (hstopped .up).2.2 rfl, (hstopped .down).2.2 rfl, hpending, nofun, fun _ hopen => ?_, fun _ hup hdown => ?_⟩
      · have h := s.leaving.onlyIn_issueLastStatus
        intro b hb
        cases b <;> first | rfl | simp at hb
      · rfl
      · rfl
      · exact State.lastStatusIssued_of hown (fun q => (hports q).1) hopen rfl (fun q => (hports q).2.2.2) rfl rfl rfl
      · have h := State.issueLastStatus_closes hown (fun q => (hports q).1) hup hdown
        exact ⟨congrArg (fun x : State => x.line.relayOpen) h, congrArg (fun x : State => x.line.up.state) h,
          congrArg (fun x : State => x.line.down.state) h, congrArg (fun x : State => x.line.statusTimer) h⟩
  · obtain ⟨v, hv⟩ : ∃ v : State, v = { s with count := max s.count d, line := { s.line with spacingTimer := none } } := ⟨_, rfl⟩
    have hports : ∀ q, v.line.port q = s.line.port q := by
      intro q
      rw [hv]
      cases q <;> rfl
    have howned : v.line.own = [] := by rw [hv]; exact hown
    have hempty : ∀ q, (v.line.port q).queue = [] := fun q => by rw [hports]; exact hqueue q
    obtain ⟨-, hdue, -⟩ := State.issueLastStatus_stopped howned hempty
    rw [exec_spacingTimer_last ht hc, ← hv, State.finish_of_quiet (s := v.issueLastStatus.recompute) hdue]
    refine ⟨_, rfl, ?_, by rw [hv]; rfl, by rw [hv]; rfl, fun hopen => ?_, fun hup hdown => ?_⟩
    · rw [hv]
      intro b hb
      cases b <;> first | rfl | simp at hb
    · exact State.lastStatusIssued_of howned hempty (by rw [hv]; exact hopen) (by rw [hv]; rfl)
        (fun q => by rw [hports]; exact ⟨rfl, rfl⟩) (by rw [hv]) rfl rfl
    · have h := State.issueLastStatus_closes howned hempty (by rw [hv]; exact hup) (by rw [hv]; exact hdown)
      exact ⟨congrArg (fun x : State => x.line.own) h, congrArg (fun x : State => x.line.relayOpen) h,
        congrArg (fun x : State => x.line.closing) h, congrArg (fun x : State => x.line.up.state) h,
        congrArg (fun x : State => x.line.down.state) h, congrArg (fun x : State => x.line.statusTimer) h⟩
  · obtain ⟨v, hv⟩ : ∃ v : State, v = (s.onPort (fun p => { p with mode := .run })).reopenLine.recompute := ⟨_, rfl⟩
    rw [exec_bypassOff hmode hbox htravel, ← hv, State.finish_done_quiet (s := v.issueStatus) rfl]
    obtain ⟨hstateUp, -, -, -, herrorsUp, -, hrestoreUp, hholdUp⟩ :=
      v.line.issue_ports .status (frameBytes 0x01 v.station 0 (v.report .run).payload) .up
    obtain ⟨hstateDown, -, -, -, herrorsDown, -, hrestoreDown, hholdDown⟩ :=
      v.line.issue_ports .status (frameBytes 0x01 v.station 0 (v.report .run).payload) .down
    obtain ⟨-, -, -, -, hclosing, hrelay, -⟩ := v.line.issue_timers .status (frameBytes 0x01 v.station 0 (v.report .run).payload)
    refine ⟨_, rfl, ?_, by rw [hv]; rfl, by rw [hv]; rfl, hrelay.trans (by rw [hv]; rfl), hclosing.trans (by rw [hv]; rfl),
      hstateUp.trans (by rw [hv]; rfl), hstateDown.trans (by rw [hv]; rfl), hrestoreUp.trans (by rw [hv]; rfl),
      hrestoreDown.trans (by rw [hv]; rfl), hholdUp.trans (by rw [hv]; rfl), hholdDown.trans (by rw [hv]; rfl),
      herrorsUp.trans (by rw [hv]; rfl), herrorsDown.trans (by rw [hv]; rfl), by rw [hv]; rfl, by rw [hv]; rfl⟩
    rw [hv]
    intro b hb
    cases b <;> first | rfl | simp at hb

end

section
/-! START BLOCK (O11). -/

namespace Sys2Proof.Machine

variable {s t u : State} {f : StartFields}

/-! ## The field checks of START BLOCK (R178) -/

theorem thresholdChecks_pass (i : Nat) (x : Thresholds) : (∀ c ∈ thresholdChecks i x, c.1 = true) ↔ x.inRange := by
  simp [thresholdChecks, fieldIn, Thresholds.inRange]
  omega

theorem StartFields.checks_pass : (∀ c ∈ f.checks, c.1 = true) ↔ f.inRange := by
  have happ : ∀ (a b : List Check), (∀ c ∈ a ++ b, c.1 = true) ↔ (∀ c ∈ a, c.1 = true) ∧ ∀ c ∈ b, c.1 = true :=
    fun a b => List.forall_mem_append
  unfold StartFields.checks
  rw [happ, happ, happ, thresholdChecks_pass, thresholdChecks_pass]
  simp [fieldIn, fieldOk, triggerOk, StartFields.inRange, and_assoc, or_assoc]

theorem StartFields.checks_badField : ∀ c ∈ f.checks, c.2.1 = .badField := by
  simp [StartFields.checks, thresholdChecks, fieldIn, fieldOk]

/-- Checks of one reason refuse by it. -/
theorem firstFailure_reason {l : List Check} {r : Reason} (hall : ∀ c ∈ l, c.2.1 = r) (h : ¬∀ c ∈ l, c.1 = true) :
    ∃ index, firstFailure l = some (r, index) := by
  induction l with
  | nil => simp at h
  | cons c rest ih =>
    obtain ⟨ok, q, index⟩ := c
    cases ok with
    | false => exact ⟨index, congrArg (fun x => some (x, index)) (hall _ List.mem_cons_self)⟩
    | true => exact ih (fun d hd => hall d (List.mem_cons_of_mem _ hd)) (by simpa using h)

/-! ## The part that START BLOCK leaves (R62, R178) -/

/-- The part configured by a start block, before its first STATUS. -/
def State.begun (s : State) (f : StartFields) : State := (s.startBlocks f.block).openLineUnit.recompute

theorem exec_startBlock (hmode : s.port.mode = .config) (hbox : s.port.mailbox = .posted (.startBlock f)) (hf : f.inRange) :
    exec .startBlock s = .next ((s.begun f).issueStatus.withMailbox (doneReply [])) := by
  refine (exec_row hbox).trans (congrArg Host.Outcome.next ?_)
  have hrun : s.takes (.startBlock f) = (s.begun f).issueStatus.done [] := by
    show s.whenMode [.config] _ = _
    rw [State.whenMode_allowed (by rw [hmode]; decide), firstFailure_eq_none.2 (StartFields.checks_pass.2 hf)]
    rfl
  rw [hrun]
  exact State.finish_done_quiet (s := (s.begun f).issueStatus) rfl []

theorem exec_startBlock_refused (hq : s.quiet) (hmode : s.port.mode = .config) (hbox : s.port.mailbox = .posted (.startBlock f))
    (hf : ¬f.inRange) : ∃ index, exec .startBlock s = .next (s.withMailbox (refusedReply .badField index)) := by
  obtain ⟨index, hfail⟩ := firstFailure_reason StartFields.checks_badField (fun h => hf (StartFields.checks_pass.1 h))
  refine ⟨index, (exec_row hbox).trans (congrArg Host.Outcome.next ?_)⟩
  refine Eq.trans (congrArg State.finish ?_) (State.finish_reply hq (.refused .badField index) [[]])
  show s.whenMode [.config] _ = _
  rw [State.whenMode_allowed (by rw [hmode]; decide), hfail]
  rfl

/-- The issue of a STATUS leaves the edges as they were computed. -/
theorem State.edges_issued (s : State) (side : Side) :
    (s.issueStatus).computeEdge side (s.issueStatus).rangeWindow = s.computeEdge side s.rangeWindow :=
  State.computeEdge_congr (s := s) (t := s.issueStatus) rfl rfl rfl (fun q => State.issueStatusAs_chainEnd .run q) side s.rangeWindow

end Sys2Proof.Machine

open Sys2Proof Sys2Proof.Machine

/-- Settles O11. -/
theorem startBlockConfiguresThePart : Obligations.StartBlockConfiguresThePart := by
  refine fun s f hq hmode hbox => ⟨fun hf => ?_, exec_startBlock_refused hq hmode hbox⟩
  obtain ⟨u, hu⟩ : ∃ u : State, u = s.begun f := ⟨_, rfl⟩
  have hup : (u.line.port .up).state = .up ∧ (u.line.port .up).chainEnd = (f.chainEndUp == 1)
      ∧ (u.line.port .up).silenceTimer = if f.chainEndUp == 1 then none else some (s.count + 600) := by
    rw [hu]; exact ⟨rfl, rfl, rfl⟩
  have hdown : (u.line.port .down).state = .up ∧ (u.line.port .down).chainEnd = (f.chainEndDown == 1)
      ∧ (u.line.port .down).silenceTimer = if f.chainEndDown == 1 then none else some (s.count + 600) := by
    rw [hu]; exact ⟨rfl, rfl, rfl⟩
  obtain ⟨bytes, hbytes⟩ : ∃ b : List Byte, b = frameBytes 0x01 u.station 0 (u.report .run).payload := ⟨_, rfl⟩
  obtain ⟨hstateUp, hendUp, hsilenceUp, -⟩ := u.line.issue_ports .status bytes .up
  obtain ⟨hstateDown, hendDown, hsilenceDown, -⟩ := u.line.issue_ports .status bytes .down
  obtain ⟨hown, -, -, -, -, hrelay, -⟩ := u.line.issue_timers .status bytes
  have htravel : u.travel = { s.travel with
      encoderTimer := some (s.count + 100), edgeUp := u.computeEdge .up u.rangeWindow
      edgeDown := u.computeEdge .down u.rangeWindow } := by
    obtain ⟨h1, h2⟩ := (s.startBlocks f.block).openLineUnit.recompute_edges
    rw [hu]
    show (s.startBlocks f.block).openLineUnit.recompute.travel = { s.travel with
      encoderTimer := some (s.count + 100)
      edgeUp := (s.startBlocks f.block).openLineUnit.recompute.computeEdge .up (s.startBlocks f.block).openLineUnit.recompute.rangeWindow
      edgeDown := (s.startBlocks f.block).openLineUnit.recompute.computeEdge .down
        (s.startBlocks f.block).openLineUnit.recompute.rangeWindow }
    rw [← h1, ← h2]
    rfl
  subst hbytes
  refine ⟨u.issueStatus.withMailbox (doneReply []), by rw [exec_startBlock hmode hbox hf, hu], ?_, ?_, ?_, ?_, ?_, ?_, ?_, ?_, hrelay.trans (by rw [hu]; rfl),
    hstateUp.trans hup.1, hstateDown.trans hdown.1, hendUp.trans hup.2.1, hendDown.trans hdown.2.1,
    hsilenceUp.trans (by simpa using hup.2.2), hsilenceDown.trans (by simpa using hdown.2.2),
    by rw [hu]; rfl, by rw [hu]; rfl, rfl, fun hopen => ?_⟩
  · rw [hu]
    intro b hb
    cases b <;> first | rfl | simp at hb
  · rw [hu]; rfl
  · rw [hu]; rfl
  · rw [hu]; rfl
  · rw [hu]; rfl
  · show u.travel = { s.travel with
      encoderTimer := some (s.count + 100), edgeUp := u.issueStatus.computeEdge .up u.issueStatus.rangeWindow
      edgeDown := u.issueStatus.computeEdge .down u.issueStatus.rangeWindow }
    rw [u.edges_issued, u.edges_issued]
    exact htravel
  · rw [hu]; rfl
  · rw [hu]; rfl
  · obtain ⟨bytes, hbytes⟩ : ∃ b : List Byte, b = frameBytes 0x01 u.station 0 (u.report .run).payload := ⟨_, rfl⟩
    refine ⟨⟨.status, u.line.serial, bytes, u.line.up.chainEnd, u.line.down.chainEnd⟩, ?_, rfl, hup.2.1, hdown.2.1, ?_⟩
    · rw [← hbytes] at hown
      show _ ∈ (u.line.issue .status (frameBytes 0x01 u.station 0 (u.report .run).payload)).own
      rw [← hbytes, hown, show (OwnKind.status == OwnKind.brk .up) = false from rfl,
        show (OwnKind.status == OwnKind.brk .down) = false from rfl, Bool.or_false, Bool.or_false]
      refine mem_enterOwn _ _ ?_
      show (u.line.up.chainEnd && u.line.down.chainEnd) = false
      rw [show u.line.up.chainEnd = _ from hup.2.1, show u.line.down.chainEnd = _ from hdown.2.1]
      rcases hopen with h | h <;> simp [h]
    · rw [hbytes, hu]
      rfl

end

section
/-! RESTART (O12). -/

namespace Sys2Proof.Machine

variable {s t u : State}

/-! ## Notices that enter an empty queue -/

/-- The port with these notices alone in its queue, the age timer started for them (R181, R183). -/
def LocalPort.holding (p : LocalPort) (now : Nat) (bodies : List NoticeBody) : LocalPort :=
  { p with
    notices := bodies.map (fun b => ⟨b, now % 2 ^ 32, 0⟩)
    ageTimer := if ({ p with notices := bodies.map (fun b => ⟨b, now % 2 ^ 32, 0⟩) } : LocalPort).attentionEntries = 0 then none
      else some (now + 500) }

theorem LocalPort.attentionEntries_le (p : LocalPort) (l : List Notice) (n : Notice)
    (h : ({ p with notices := l ++ [n] } : LocalPort).attentionEntries = 0) : ({ p with notices := l } : LocalPort).attentionEntries = 0 := by
  simp only [LocalPort.attentionEntries, List.filter_append, List.length_append, Nat.add_eq_zero_iff] at h ⊢
  exact h.1

/-- A notice of class 1 or 2 and of a new kind and subject joins a queue that is not full. -/
theorem LocalPort.holding_enter (p : LocalPort) (now : Nat) (bodies : List NoticeBody) (b : NoticeBody) (hlen : bodies.length < 32)
    (hnew : ∀ a ∈ bodies, a.sameKey b = false) (hc : b.cls ≤ 2) (hage : p.ageCause = false) :
    (p.holding now bodies).enter now b now = p.holding now (bodies ++ [b]) := by
  rw [LocalPort.enter_joins (by simpa [LocalPort.holding] using hlen) (by
    intro m hm
    obtain ⟨a, ha, rfl⟩ := List.mem_map.1 hm
    exact hnew a ha) (.inl hc)]
  have hle := p.attentionEntries_le (bodies.map (fun b => ⟨b, now % 2 ^ 32, 0⟩)) ⟨b, now % 2 ^ 32, 0⟩
  unfold LocalPort.holding
  rw [List.map_append]
  generalize bodies.map (fun b => (⟨b, now % 2 ^ 32, 0⟩ : Notice)) = l at hle ⊢
  obtain ⟨n, hn⟩ : ∃ n : Nat, n = ({ p with notices := l ++ [⟨b, now % 2 ^ 32, 0⟩] } : LocalPort).attentionEntries := ⟨_, rfl⟩
  obtain ⟨k, hk⟩ : ∃ k : Nat, k = ({ p with notices := l } : LocalPort).attentionEntries := ⟨_, rfl⟩
  show LocalPort.followAge { p with
    notices := l ++ [⟨b, now % 2 ^ 32, 0⟩]
    ageTimer := if ({ p with notices := l } : LocalPort).attentionEntries = 0 then none else some (now + 500) }
    ({ p with notices := l } : LocalPort).attentionEntries now = { p with
    notices := l ++ [⟨b, now % 2 ^ 32, 0⟩]
    ageTimer := if ({ p with notices := l ++ [⟨b, now % 2 ^ 32, 0⟩] } : LocalPort).attentionEntries = 0 then none else some (now + 500) }
  rw [← hk, ← hn]
  rw [← hk, ← hn] at hle
  unfold LocalPort.followAge
  rw [show LocalPort.attentionEntries { p with
    notices := l ++ [⟨b, now % 2 ^ 32, 0⟩], ageTimer := if k = 0 then none else some (now + 500) } = n from hn.symm]
  by_cases h : n = 0
  · rw [if_pos h, if_pos h, if_pos (hle h), ← hage]
  · rw [if_neg h, if_neg h]
    split
    · rfl
    · rfl

/-- Notices of classes 1 and 2, no two of one kind and subject, enter an empty queue in their order. -/
theorem LocalPort.raiseAll_empty (p : LocalPort) (now : Nat) (bodies : List NoticeBody) (hsel : p.select = none)
    (hcls : ∀ b ∈ bodies, b.cls ≤ 2) (hkeys : bodies.Pairwise (fun a b => a.sameKey b = false)) (hlen : bodies.length ≤ 32)
    (hempty : p.notices = []) (hage : p.ageTimer = none) (hcause : p.ageCause = false) :
    p.raiseAll now bodies = p.holding now bodies := by
  induction bodies using List.reverseRecOn with
  | nil =>
    show p = { p with notices := [], ageTimer := none }
    obtain ⟨⟩ := p
    cases hempty
    cases hage
    rfl
  | append_singleton l b ih =>
    have hl : l.length < 32 := by simpa using hlen
    obtain ⟨hpair, -, hnew⟩ := List.pairwise_append.1 hkeys
    rw [LocalPort.raiseAll_append, ih (fun a ha => hcls a (List.mem_append_left _ ha)) hpair hl.le]
    show (p.holding now l).raise now b = _
    rw [LocalPort.raise_of_unselected (p.holding now l) now b hsel]
    exact p.holding_enter now l b hl (fun a ha => hnew a ha b (.head _)) (hcls b (by simp)) hcause

/-! ## What the restart leaves -/

/-- The part after a restart, before its STATUS. -/
def State.restarted (s : State) : State :=
  let bills := { s.bills.closeLine s.count .restart none none with spill := s.bills.spill + s.belt.content }
  { s with
    port := (s.port.restart).raiseAll s.count s.restartNotices
    scale := { s.scale with zeroRun := none, stillTimer := none }
    belt := s.belt.emptied
    bills := bills
    pour := (s.restartGate.pour).restart
    fill := (({ s with bills := bills } : State).restartFill).fill
    berths := ⟨s.berths.a.restart, s.berths.b.restart⟩
    peers := []
    travel := s.restartTravel.travel
    dust := ⟨{ s.dust.spout with timer := s.timer Config.dustMs }, { s.dust.gallery with timer := s.timer Config.dustMs }, []⟩ }

theorem State.restartLineClosed_eq (s : State) : s.restartLineClosed = { s with
    bills := s.bills.closeLine s.count .restart none none
    port := s.port.raiseAll s.count (lineNotice s.bills.openLine .restart none none s.pour.allowance) } := by
  unfold State.restartLineClosed State.notifyLineClosed lineNotice
  cases s.bills.openLine <;> rfl

theorem State.restartSpill_eq (s : State) : s.restartSpill = { s with
    bills := { s.bills with spill := s.bills.spill + s.belt.content }
    port := s.port.raiseAll s.count (if 0 < s.belt.content then
      [.spill .restart (s.belt.content / 1000) ((s.bills.spill + s.belt.content) / 1000)] else []) } := by
  unfold State.restartSpill
  by_cases h : 0 < s.belt.content
  · rw [if_pos h, if_pos h]
    rfl
  · rw [if_neg h, if_neg h, Nat.eq_zero_of_not_pos h]
    rfl

theorem LocalPort.raiseAll_append_four (p : LocalPort) (now : Nat) (a b c d : List NoticeBody) :
    p.raiseAll now (((a ++ b) ++ c) ++ d) = (((p.raiseAll now a).raiseAll now b).raiseAll now c).raiseAll now d := by
  rw [LocalPort.raiseAll_append, LocalPort.raiseAll_append, LocalPort.raiseAll_append]

theorem restartNotice_toList (c : Channel) (r : DustChannel) : (restartNotice c r).toList
    = match (generalizing := false) r.state with
      | .trip | .held => [NoticeBody.dustTrip c r.state r.last r.sampleHold]
      | .failed => [NoticeBody.dustFailed c .failed r.cause r.latchKept]
      | .clear | .watch | .alarm => [] := by
  obtain ⟨state⟩ := r
  cases state <;> rfl

theorem State.restartNotices_eq (s : State) : s.restartNotices = ((lineNotice s.bills.openLine .restart none none s.pour.allowance
      ++ (if 0 < s.belt.content then
        [.spill .restart (s.belt.content / 1000) ((s.bills.spill + s.belt.content) / 1000)] else []))
      ++ (restartNotice .spout s.dust.spout).toList) ++ (restartNotice .gallery s.dust.gallery).toList := by
  rw [restartNotice_toList, restartNotice_toList, List.append_assoc (_ ++ _)]
  unfold State.restartNotices lineNotice
  refine congrArg₂ (· ++ ·) (by cases s.bills.openLine <;> rfl) ?_
  show _ ++ (_ ++ []) = _
  rw [List.append_nil]
  rfl

/-- A notice of class 1 or 2 whose subject begins so. -/
def NoticeBody.Ranked (x : List Byte) (b : NoticeBody) : Prop := b.cls ≤ 2 ∧ b.subject.take 2 = x

theorem NoticeBody.Ranked.apart {x y : List Byte} {a b : NoticeBody} (ha : a.Ranked x) (hb : b.Ranked y) (h : x ≠ y) :
    a.sameKey b = false := by
  unfold NoticeBody.sameKey
  rw [Bool.and_eq_false_iff]
  exact .inr (by simpa using fun he => h ((ha.2.symm.trans (congrArg (List.take 2) he)).trans hb.2))

theorem restartNotice_ranked (c : Channel) (r : DustChannel) : ∀ b ∈ (restartNotice c r).toList, b.Ranked [4, channelCode c] := by
  intro b hb
  unfold restartNotice at hb
  cases hs : r.state <;> rw [hs] at hb <;> simp at hb <;> subst hb <;> exact ⟨by simp [NoticeBody.cls, dustTripOf, dustFailedOf], rfl⟩

theorem lineNotice_ranked (line : Option BillLine) (allowance : Option Nat) :
    ∀ b ∈ lineNotice line .restart none none allowance, ∃ x : Slot, b.Ranked [3, x.code] := by
  intro b hb
  cases line with
  | none => cases hb
  | some l =>
    obtain rfl := List.mem_singleton.1 hb
    exact ⟨l.slot, by simp [NoticeBody.cls], rfl⟩

theorem spillNotice_ranked (n a b : Nat) : ∀ x ∈ (if 0 < n then [NoticeBody.spill .restart a b] else []),
    x.Ranked [9, SpillCause.restart.code] := by
  intro x hx
  split at hx
  · obtain rfl := List.mem_singleton.1 hx
    exact ⟨by simp [NoticeBody.cls], rfl⟩
  · cases hx

theorem pairwise_of_length {α : Type} {R : α → α → Prop} {l : List α} (h : l.length ≤ 1) : l.Pairwise R := by
  match l, h with
  | [], _ => exact .nil
  | [a], _ => exact List.pairwise_singleton ..

theorem lineNotice_length (line : Option BillLine) (cause : ClosureCause) (allowance : Option Nat) :
    (lineNotice line cause none none allowance).length ≤ 1 := by
  cases line <;> simp [lineNotice]

theorem State.restartNotices_facts (s : State) : (∀ b ∈ s.restartNotices, b.cls ≤ 2)
    ∧ s.restartNotices.Pairwise (fun a b => a.sameKey b = false) ∧ s.restartNotices.length ≤ 32 := by
  have hline := lineNotice_ranked s.bills.openLine s.pour.allowance
  have hspill := spillNotice_ranked s.belt.content (s.belt.content / 1000) ((s.bills.spill + s.belt.content) / 1000)
  have hspout := restartNotice_ranked .spout s.dust.spout
  have hgallery := restartNotice_ranked .gallery s.dust.gallery
  have hlineLen := lineNotice_length s.bills.openLine .restart s.pour.allowance
  have hspillLen : (if 0 < s.belt.content then
    [NoticeBody.spill .restart (s.belt.content / 1000) ((s.bills.spill + s.belt.content) / 1000)] else []).length ≤ 1 := by
    split <;> simp
  have hdustLen : ∀ c r, (restartNotice c r).toList.length ≤ 1 := fun c r => by cases restartNotice c r <;> simp
  rw [s.restartNotices_eq]
  refine ⟨?_, ?_, ?_⟩
  · intro b hb
    simp only [List.mem_append] at hb
    rcases hb with ((hb | hb) | hb) | hb
    · exact (hline b hb).elim fun _ h => h.1
    · exact (hspill b hb).1
    · exact (hspout b hb).1
    · exact (hgallery b hb).1
  · refine List.pairwise_append.2 ⟨List.pairwise_append.2 ⟨List.pairwise_append.2 ⟨pairwise_of_length hlineLen,
      pairwise_of_length hspillLen, fun a ha b hb => ?_⟩, pairwise_of_length (hdustLen _ _), fun a ha b hb => ?_⟩,
      pairwise_of_length (hdustLen _ _), fun a ha b hb => ?_⟩
    · obtain ⟨x, hx⟩ := hline a ha
      exact hx.apart (hspill b hb) (by cases x <;> decide)
    · rcases List.mem_append.1 ha with ha | ha
      · obtain ⟨x, hx⟩ := hline a ha
        exact hx.apart (hspout b hb) (by cases x <;> decide)
      · exact (hspill a ha).apart (hspout b hb) (by decide)
    · rcases List.mem_append.1 ha with ha | ha
      · rcases List.mem_append.1 ha with ha | ha
        · obtain ⟨x, hx⟩ := hline a ha
          exact hx.apart (hgallery b hb) (by cases x <;> decide)
        · exact (hspill a ha).apart (hgallery b hb) (by decide)
      · exact (hspout a ha).apart (hgallery b hb) (by decide)
  · simp only [List.length_append]
    have := hdustLen .spout s.dust.spout
    have := hdustLen .gallery s.dust.gallery
    omega

/-- The part once its line is closed and its belt emptied (R42, R144). -/
def State.restartPoured (s : State) : State :=
  { s with
    port := (s.port.restart.raiseAll s.count (lineNotice s.bills.openLine .restart none none s.pour.allowance)).raiseAll s.count
      (if 0 < s.belt.content then
        [.spill .restart (s.belt.content / 1000) ((s.bills.spill + s.belt.content) / 1000)] else [])
    scale := { s.scale with zeroRun := none, stillTimer := none }
    belt := s.belt.emptied
    bills := { s.bills.closeLine s.count .restart none none with spill := s.bills.spill + s.belt.content }
    pour := (s.restartGate.pour).restart }

theorem State.restartPoured_eq (s : State) :
    ((((s.onPort LocalPort.restart).onScale (fun c => { c with zeroRun := none, stillTimer := none })).restartGate.restartLineClosed.restartSpill).onBelt
      Belt.emptied).onPour Pour.restart = s.restartPoured := by
  rw [State.restartLineClosed_eq, State.restartSpill_eq]
  rfl

theorem State.restart_eq (s : State) : s.restart = s.restarted.restartLine.recompute.issueStatus := by
  have hdust : ((((s.restartPoured.restartFill.onBerths fun b => ⟨b.a.restart, b.b.restart⟩).onPeers fun _ => []).restartTravel).restartDust)
      = s.restarted := by
    unfold State.restartDust
    rw [State.notifyOpt_eq, State.notifyOpt_eq]
    unfold State.restarted
    rw [s.restartNotices_eq, LocalPort.raiseAll_append_four]
    rfl
  show (((((((((s.onPort LocalPort.restart).onScale
    (fun c => { c with zeroRun := none, stillTimer := none })).restartGate.restartLineClosed.restartSpill).onBelt
    Belt.emptied).onPour Pour.restart).restartFill.onBerths fun b => ⟨b.a.restart, b.b.restart⟩).onPeers
    fun _ => []).restartTravel).restartDust).restartLine.recompute.issueStatus = _
  rw [s.restartPoured_eq, hdust]

/-! ## The fetch of the RESTARTED reply -/

/-- The part as the fetch of the RESTARTED reply finds it: the page sent, the mailbox emptied (R176). -/
def State.replyFetched (s : State) (late : Bool) : State :=
  s.onPort (fun p => { p with
    mailbox := .empty, spiOut := [0x00, 0x02, 0x00, 0x00] ++ uField 1 1 ++ uField 1 1 ++ flag late ++ uField 2 0 })

theorem restarted_page (late : Bool) : (Reply.mk .restarted [[]] 0 late).page
    = [0x02, 0x00, 0x00] ++ uField 1 1 ++ uField 1 1 ++ flag late ++ uField 2 0 := by
  unfold Reply.page
  exact List.append_nil _

theorem exec_restart_fetched {late : Bool} (hsel : s.port.select = none)
    (hbox : s.port.mailbox = .replied ⟨.restarted, [[]], 0, late⟩) :
    exec (.fetchReply .whole) s = .next (s.replyFetched late).restart := by
  have hrun : s.transact .fetchReply .whole = (s.replyFetched late).restart := by
    have hans : s.port.answer .fetchReply = [0x00, 0x02, 0x00, 0x00] ++ uField 1 1 ++ uField 1 1 ++ flag late ++ uField 2 0 := by
      simp only [LocalPort.answer, LocalPort.statusOf, hbox, restarted_page, List.cons_append]
    have hok : (Select.mk .fetchReply (s.port.statusOf .fetchReply) (s.port.returned .fetchReply) []).ok = true := by
      simp only [Select.ok, LocalPort.statusOf, hbox]
      rfl
    rw [State.transact_whole _ hsel]
    unfold State.effect
    rw [if_pos hok]
    have hrestarts : s.port.mailbox.restarts = true := by rw [hbox]; rfl
    have hfetched : s.port.mailbox.fetched = .empty := by rw [hbox]; rfl
    simp only [State.onPort, hans, hrestarts, hfetched, if_true]
    rfl
  show Host.Outcome.next (s.transact .fetchReply .whole).finish = _
  rw [hrun, State.restart_eq, State.finish_of_quiet rfl]

theorem rebuiltRows_eq (b : Option Bill) (h : Nat) (rows : List Row) : rebuiltRows b h rows
    = (List.range rows.length).map (fun i => ⟨match (generalizing := false) b with
        | some bill => bill.delivered (h + i)
        | none => 0, [], []⟩) := by
  induction rows generalizing h with
  | nil => rfl
  | cons r rest ih =>
    show _ :: rebuiltRows b (h + 1) rest = _
    rw [ih, List.length_cons, List.range_succ_eq_map, List.map_cons, List.map_map]
    refine congrArg₂ List.cons rfl (List.map_congr_left fun i _ => ?_)
    show _ = Row.mk _ [] []
    rw [Nat.succ_eq_one_add, ← Nat.add_assoc]

/-- The line once the restart has emptied it, and the STATUS that it then issues (R65). -/
theorem State.restartLine_issued (s : State) (bytes : List Byte) :
    (s.restartLine.line.issue .status bytes).own = (if s.line.up.chainEnd ∧ s.line.down.chainEnd then []
        else [⟨.status, s.line.serial, bytes, s.line.up.chainEnd, s.line.down.chainEnd⟩])
      ∧ (s.restartLine.line.issue .status bytes).relayOpen = true ∧ (s.restartLine.line.issue .status bytes).closing = .none
      ∧ ∀ q, (s.restartLine.line.issue .status bytes).port q = { s.line.port q with
          state := .up, restoreCount := 0, repeatHold := 0, passOver := 0, queue := [], breakTimer := none
          silenceTimer := if (s.line.port q).chainEnd then none else some (s.count + 600)
          sending := if (s.line.port q).sending.isSome ∨ (s.line.port q).chainEnd then (s.line.port q).sending
            else some ⟨bytes, some s.line.serial⟩ } := by
  have hport : ∀ q, s.restartLine.line.port q = { s.line.port q with
      state := .up, restoreCount := 0, repeatHold := 0, passOver := 0, queue := [], breakTimer := none
      silenceTimer := if (s.line.port q).chainEnd then none else some (s.count + 600) } := by
    intro q
    cases q <;> rfl
  obtain ⟨hown, hsends⟩ := QuayLine.issue_alone (l := s.restartLine.line) rfl (fun q => by rw [hport]) bytes
  obtain ⟨-, -, -, -, hclosing, hrelay, -⟩ := s.restartLine.line.issue_timers .status bytes
  refine ⟨hown, hrelay, hclosing, fun q => ?_⟩
  obtain ⟨n, hn, hq⟩ := hsends q
  rw [hport] at hn hq
  rw [hq, hn rfl]
  rfl

/-- The part after a restart: its blocks, but for the edges and the line. -/
theorem State.restart_travel (s : State) : s.restart.travel = { s.travel with
    state := .parked, cause := none, target := none, source := none, direction := none, step := .zero, recovery := none
    sampleSince := false, stopMark := none, encoderTimer := some (s.count + 100), releaseTimer := none
    brakeFailTimer := none, settleTimer := none
    edgeUp := s.restart.computeEdge .up none, edgeDown := s.restart.computeEdge .down none } := by
  rw [s.restart_eq]
  obtain ⟨hup, hdown⟩ := s.restarted.restartLine.recompute_edges
  have hedge : ∀ side, s.restarted.restartLine.recompute.issueStatus.computeEdge side none
      = s.restarted.restartLine.recompute.computeEdge side s.restarted.restartLine.recompute.rangeWindow :=
    fun side => State.edges_issued s.restarted.restartLine.recompute side
  rw [hedge, hedge, ← hup, ← hdown]
  rfl

/-- The pour and its gate after a restart (R144). -/
theorem State.restartGate_pour (s : State) : (s.restartGate.pour).restart = { s.pour with
    state := .idle, phase := none, causes := CauseSet.empty, passSuspended := false, failures := 0
    runoutCause := none, runoutShifts := 0, beltOn := false, watch := .off, gateCommand := .closed
    positioningTimer := none, beltStartTimer := none, beltRetryTimer := none
    gate := match s.pour.gate with
      | .closed => .closed
      | .fault => .fault
      | .opening | .opened | .closing => .closing
    gateTimer := match s.pour.gate with
      | .closed | .fault => none
      | .opening | .opened | .closing => some (s.count + s.block.gateLimit * 1000) } := by
  show ({ s.pour with
    state := .idle, phase := none, causes := CauseSet.empty, passSuspended := false, failures := 0
    runoutCause := none, runoutShifts := 0, beltOn := false, watch := .off, gateCommand := .closed
    positioningTimer := none, beltStartTimer := none, beltRetryTimer := none
    gate := if s.pour.gate = .closed ∨ s.pour.gate = .fault then s.pour.gate else .closing
    gateTimer := if s.pour.gate = .closed ∨ s.pour.gate = .fault then none else s.gateTimer } : Pour) = _
  generalize s.pour.gate = g
  cases g <;> rfl

theorem State.restart_port (hsel : s.port.select = none) : s.restart.port = s.port.restart.holding s.count s.restartNotices := by
  obtain ⟨hcls, hkeys, hlen⟩ := s.restartNotices_facts
  rw [s.restart_eq]
  exact LocalPort.raiseAll_empty _ _ _ hsel hcls hkeys hlen rfl rfl rfl

theorem State.restart_view (s : State) : (∀ x, s.view x = none → s.restart.view x = none)
    ∧ ∀ x ses rows, s.session x = some ses → s.view x = some rows → s.restart.view x = some ((List.range rows.length).map (fun i =>
        ⟨match (generalizing := false) s.restart.bills.bill ses.bill with
          | some b => ((b.lines.filter (fun l => l.hold == i + 1)).map BillLine.mass).sum
          | none => 0, [], []⟩)) := by
  have hview : ∀ x, s.restart.view x = (s.view x).map (rebuiltRows (({ s with bills := s.restart.bills } : State).billOf x) 1) := by
    intro x
    rw [s.restart_eq]
    cases x <;> rfl
  refine ⟨fun x hx => by rw [hview, hx]; rfl, fun x ses rows hses hrows => ?_⟩
  have hbill : ({ s with bills := s.restart.bills } : State).billOf x = s.restart.bills.bill ses.bill := by
    unfold State.billOf
    rw [show ({ s with bills := s.restart.bills } : State).session x = s.session x from rfl, hses]
  rw [hview, hrows, Option.map_some, hbill, rebuiltRows_eq]
  refine congrArg some (List.map_congr_left fun i _ => ?_)
  rw [Nat.add_comm 1 i]
  rfl

end Sys2Proof.Machine

open Sys2Proof Sys2Proof.Machine

/-- Settles O12. -/
theorem restartEndsOperationsAndKeepsTheRest : Obligations.RestartEndsOperationsAndKeepsTheRest := by
  refine ⟨⟨fun s hq hmode hbox => ?_, fun s late hq hsel hmode hbox => ?_⟩, fun s t late hq hsel hbox hrun => ?_⟩
  · refine (exec_row hbox).trans (congrArg Host.Outcome.next (Eq.trans ?_ (State.finish_reply hq .restarted [[]])))
    refine congrArg State.finish ?_
    show s.whenMode inRunBypass _ = _
    exact State.whenMode_allowed (PartMode.mem_runBypass hmode) _
  · obtain ⟨v, hv⟩ : ∃ v : State, v = s.replyFetched late := ⟨_, rfl⟩
    have hunsel : v.port.select = none := by rw [hv]; exact hsel
    obtain ⟨hown, hrelay, hclosing, hports⟩ := v.restarted.restartLine_issued
      (frameBytes 0x01 v.restarted.restartLine.recompute.station 0 (v.restarted.restartLine.recompute.report .run).payload)
    rw [exec_restart_fetched hsel hbox, ← hv]
    have hport := State.restart_port hunsel
    obtain ⟨hviewNone, hviewSome⟩ := v.restart_view
    have htravel := v.restart_travel
    have hline : v.restart.line = _ := congrArg State.line v.restart_eq
    have hbills : v.restart.bills = { s.bills.closeLine s.count .restart none none with spill := s.bills.spill + s.belt.content } := by
      rw [v.restart_eq, hv]
      rfl
    refine ⟨_, rfl, ?_, ?_, ?_, ?_, ?_, ?_, ?_, ?_, hbills, ?_, ?_, ?_, ?_, ?_, ?_, ?_, ?_, ?_, ?_, ?_, ?_⟩
    · rw [v.restart_eq, hv]; rfl
    · rw [v.restart_eq, hv]; rfl
    · rw [v.restart_eq, hv]; rfl
    · rw [v.restart_eq, hv]; rfl
    · rw [hport, hv]
      rfl
    · intro x
      rw [v.restart_eq, hv]
      cases x <;> exact ⟨rfl, rfl⟩
    · rw [v.restart_eq, hv]; rfl
    · rw [v.restart_eq, hv]; rfl
    · rw [hbills]
      exact Bills.openLines_closeLine ..
    · rw [hbills]
      exact Bills.closeLine_billed ..
    · rw [hbills]
      rfl
    · rw [v.restart_eq, hv]; rfl
    · rw [htravel, hv]
      rfl
    · rw [v.restart_eq, hv]; rfl
    · rw [v.restart_eq, hv]; rfl
    · intro x hx
      exact hviewNone x (by rw [hv]; exact hx)
    · intro x ses rows hses hrows
      refine (hviewSome x ses rows (by rw [hv]; exact hses) (by rw [hv]; exact hrows)).trans (congrArg some (List.map_congr_left fun i _ => ?_))
      rfl
    · rw [v.restart_eq, hv]
      exact State.restartGate_pour (s.replyFetched late)
    · rw [v.restart_eq, hv]
      exact ⟨rfl, fun c => by cases c <;> rfl⟩
    · refine ⟨s.line.serial, frameBytes 0x01 s.station 0 (v.restart.report .run).payload, rfl, ?_, ?_, ?_, ?_, ?_, ?_, fun q => ?_⟩
      all_goals rw [v.restart_eq]
      · exact hown.trans (by rw [hv]; rfl)
      · exact hrelay
      · exact hclosing
      · rfl
      · rw [hv]; rfl
      · rw [hv]; rfl
      · have h : v.restarted.restartLine.recompute.issueStatus.line.port q = _ := Eq.trans (by cases q <;> rfl) (hports q)
        rw [h, hv]
        cases q <;> rfl
  · rw [exec_restart_fetched hsel hbox] at hrun
    obtain rfl := Host.Outcome.next.inj hrun
    rw [State.restart_port (s := s.replyFetched late) hsel]
    show (s.restartNotices.map _).map _ = _
    rw [List.map_map]
    exact List.map_id _

end

section
/-! SUPPORT. The status changes of R52: every operation of a command that changes what a STATUS reports of it (the travel state, the pour
state, the own claim's phase, the class of SPOUT, whether a session is open) marks that a STATUS is due. One lemma for each operation. -/

namespace Sys2Proof.Machine

variable {s t u : State}

/-- What R52 calls a status change is a change of these. -/
def State.reported (s : State) : TravelState × PourState × Option ClaimPhase × DustClass × Bool × Bool :=
  (s.travel.state, s.pour.state, s.fill.claim.map OwnClaim.phase, s.dust.spout.state, (s.session .a).isSome, (s.session .b).isSome)

/-- From `s` to `t` every status change has been marked. -/
structure State.Told (s t : State) : Prop where
  due : s.line.statusDue = true → t.line.statusDue = true
  told : t.line.statusDue = true ∨ t.reported = s.reported

theorem State.Told.refl (s : State) : s.Told s := ⟨id, .inr rfl⟩

/-- An update of anything that is not reported. -/
theorem State.Told.keepTo (h : s.Told t) (hd : u.line.statusDue = t.line.statusDue) (hr : u.reported = t.reported) : s.Told u :=
  ⟨fun k => hd.trans (h.due k), h.told.imp hd.trans hr.trans⟩

theorem State.Told.onBills (h : s.Told t) (f : Bills → Bills) : s.Told (t.onBills f) := h.keepTo rfl rfl

theorem State.Told.onScale (h : s.Told t) (f : Scale → Scale) : s.Told (t.onScale f) := h.keepTo rfl rfl

theorem State.Told.onPour (h : s.Told t) (f : Pour → Pour) (hf : (f t.pour).state = t.pour.state) :
    s.Told (t.onPour f) := h.keepTo rfl (congrArg (fun y => (_, y, _, _, _, _)) hf)

/-- A marked change, whatever it is. -/
theorem State.Told.mark : s.Told t.markStatus := ⟨fun _ => rfl, .inl rfl⟩

theorem State.Told.ite {p : Prop} [Decidable p] (h : s.Told t) (k : s.Told u) : s.Told (if p then t else u) := by
  split
  · exact h
  · exact k

theorem State.Told.notify (h : s.Told t) (body : NoticeBody) : s.Told (t.notify body) :=
  h.keepTo rfl rfl

theorem State.Told.onBerth (h : s.Told t) (x : Slot) (f : Berth → Berth)
    (hf : (f (t.berth x)).session.isSome = (t.berth x).session.isSome) : s.Told (t.onBerth x f) := by
  refine h.keepTo rfl ?_
  cases x
  · show (_, _, _, _, (f t.berths.a).session.isSome, _) = _
    rw [show (f t.berths.a).session.isSome = t.berths.a.session.isSome from hf]
    rfl
  · show (_, _, _, _, _, (f t.berths.b).session.isSome) = _
    rw [show (f t.berths.b).session.isSome = t.berths.b.session.isSome from hf]
    rfl

theorem State.Told.onSession (h : s.Told t) (x : Slot) (f : Session → Session) : s.Told (t.onSession x f) :=
  h.onBerth x _ Option.isSome_map

theorem State.Told.onHold (h : s.Told t) (x : Slot) (n : Nat) (f : Hold → Hold) : s.Told (t.onHold x n f) := by
  unfold State.onHold
  split
  · exact h
  · exact h.onSession x _

/-! ## The Travel Controller -/

theorem State.Told.recompute (h : s.Told t) : s.Told t.recompute := h.keepTo rfl rfl

theorem State.Told.enterReleasing (h : s.Told t) : s.Told t.enterReleasing := .mark

theorem State.Told.enterSettling (h : s.Told t) (mark : StopMark) : s.Told (t.enterSettling mark) :=
  .mark

theorem State.Told.park (h : s.Told t) : s.Told t.park := by
  unfold State.park
  split
  · rename_i hs
    exact h.keepTo rfl (congrArg (fun x => (x, _, _, _, _, _)) hs.symm)
  · exact .mark

theorem State.Told.enterHeld (h : s.Told t) : s.Told t.enterHeld := by
  unfold State.enterHeld
  split
  · exact State.Told.mark.notify _
  · exact .mark

theorem State.Told.arrive (h : s.Told t) : s.Told t.arrive.1 := by
  unfold State.arrive
  split
  · exact h.park.notify _
  · exact h.park

theorem State.Told.movingAct (h : s.Told t) : s.Told t.movingAct := by
  unfold State.movingAct
  split
  · repeat' split
    · exact h.enterSettling _
    · exact h.enterSettling _
    · exact h.keepTo rfl rfl
  · exact h

theorem State.Told.heldAct (h : s.Told t) : s.Told t.heldAct.1 := by
  unfold State.heldAct
  split
  · repeat' split
    · exact h.arrive
    · exact h.enterReleasing
    · exact h
    · exact h.enterReleasing
  · exact h

theorem State.Told.travelAct (h : s.Told t) : s.Told t.travelAct.1 := by
  unfold State.travelAct
  split
  · exact h.movingAct
  · exact h.heldAct
  · exact h

theorem State.Told.rangeEvent (h : s.Told t) : s.Told t.rangeEvent.1 := h.recompute.travelAct

theorem State.Told.enterMoving (h : s.Told t) : s.Told t.enterMoving := by
  unfold State.enterMoving
  split
  · split
    · exact h.enterSettling _
    · exact .mark
  · exact h

theorem State.Told.parkedAct (h : s.Told t) : s.Told t.parkedAct.1 := by
  unfold State.parkedAct
  split
  · repeat' split
    · exact h.arrive
    · exact h.enterHeld
    · exact h.enterReleasing
  · exact h

theorem State.Told.redirect (h : s.Told t) : s.Told t.redirect := by
  unfold State.redirect
  split
  · split
    · exact h.enterSettling _
    · exact h.movingAct
  · exact h

theorem State.Told.placeOrder (h : s.Told t) (target : Int) (source : OrderSource) :
    s.Told (t.placeOrder target source).1 := by
  have k : s.Told (t.onTravel (fun r => { r with target := some target, source := some source })) := h.keepTo rfl rfl
  unfold State.placeOrder
  split
  · exact h
  · dsimp only
    split
    · exact k.parkedAct
    · exact k.redirect
    · exact k.heldAct
    · exact k

theorem State.Told.stopTravel (h : s.Told t) : s.Told t.stopTravel := by
  unfold State.stopTravel
  split
  · exact h
  · exact h
  · exact (h.keepTo (by rfl) (by rfl)).enterSettling _
  · exact (h.keepTo (by rfl) (by rfl)).enterSettling _
  · exact h.keepTo rfl rfl
  · exact h.park

theorem State.Told.enterFaulted (h : s.Told t) (cause : TravelFault) : s.Told (t.enterFaulted cause) := by
  unfold State.enterFaulted
  split
  · exact (h.keepTo (by rfl) (by rfl)).notify _
  · exact State.Told.mark.notify _

theorem State.Told.settled (h : s.Told t) : s.Told t.settled.1 := by
  unfold State.settled
  split
  · repeat' split
    · exact h.arrive
    · exact h.enterReleasing
    · exact h.enterHeld
    · exact h.enterReleasing
  · exact h.park

/-! ## The Pour Sequencer -/

theorem State.Told.setPour (h : s.Told t) (x : PourState) : s.Told (t.setPour x) := by
  unfold State.setPour
  split
  · rename_i hs
    exact h.keepTo rfl (congrArg (fun y => (_, y, _, _, _, _)) hs.symm)
  · exact .mark

theorem State.Told.setGate (h : s.Told t) (c : GateCommand) : s.Told (t.setGate c) :=
  h.onPour _ (t.setGate_state c)

theorem State.Told.setBelt (h : s.Told t) (on : Bool) : s.Told (t.setBelt on) :=
  h.onPour _ (by cases on <;> simp <;> split <;> (try split) <;> rfl)

theorem State.Told.beltByCauses (h : s.Told t) : s.Told t.beltByCauses := h.setBelt _

theorem State.Told.setCauses (h : s.Told t) (c : CauseSet) : s.Told (t.setCauses c) := by
  unfold State.setCauses
  split
  · exact h
  · dsimp only
    repeat' split
    · exact (h.keepTo (by rfl) (by rfl)).notify _
    · exact h.keepTo rfl rfl
    · exact h.keepTo rfl rfl

theorem State.Told.lineClosedToTravel (h : s.Told t) : s.Told t.lineClosedToTravel :=
  h.rangeEvent

theorem State.Told.endClaim (h : s.Told t) : s.Told t.endClaim := by
  unfold State.endClaim
  split
  · exact h
  · exact .mark

theorem State.Told.notifyLineClosed (h : s.Told t) (line : Option BillLine) (cause : ClosureCause)
    (overshoot : Option Int) (residue : Option Nat) : s.Told (t.notifyLineClosed line cause overshoot residue) := by
  unfold State.notifyLineClosed
  split
  · exact h.notify _
  · exact h

theorem State.Told.withdrawPass (h : s.Told t) : s.Told t.withdrawPass := by
  unfold State.withdrawPass
  exact ((((((((((h.setGate _).setBelt _).onPour _ (by rfl)).setCauses _).onBills _).onPour _ (by rfl)).setPour _).lineClosedToTravel).endClaim).notifyLineClosed _ _ _ _)

theorem State.Told.adapt (h : s.Told t) (cause : RunoutCause) (o : Option Int) : s.Told (t.adapt cause o) := by
  unfold State.adapt
  repeat' split
  · exact h
  · exact h.keepTo rfl rfl
  · exact h

theorem State.Told.endRunout (h : s.Told t) (cause : RunoutCause) : s.Told (t.endRunout cause) := by
  unfold State.endRunout
  exact (((((((h.keepTo (by rfl) (by rfl)).setBelt _).keepTo (by rfl) (by rfl)).setPour
    _).lineClosedToTravel).adapt _ _).endClaim).notifyLineClosed _ _ _ _

theorem State.Told.runoutTest (h : s.Told t) : s.Told t.runoutTest := by
  unfold State.runoutTest
  repeat' split
  · exact h.endRunout _
  · exact h
  · exact h

theorem State.Told.enterRunout (h : s.Told t) (cause : RunoutCause) : s.Told (t.enterRunout cause) :=
  ((((h.setGate _).keepTo (by rfl) (by rfl)).setPour _).beltByCauses).runoutTest

theorem State.Told.reAim (h : s.Told t) (source : OrderSource) : s.Told (t.reAim source) := by
  unfold State.reAim
  split
  · exact h
  · dsimp only
    split
    · exact (h.keepTo (by rfl) (by rfl)).placeOrder _ _
    · exact h.keepTo rfl rfl

theorem State.Told.arrivalOpen (h : s.Told t) (source : OrderSource) : s.Told (t.arrivalOpen source) := by
  unfold State.arrivalOpen
  split
  · exact h
  · exact h.reAim _

theorem State.Told.placeReturn (h : s.Told t) : s.Told t.placeReturn := by
  unfold State.placeReturn
  split
  · split
    · rename_i p _
      have k : s.Told ((t.onPour (fun q => { q with reAimed := false })).placeOrder p .returning).1 :=
        (h.keepTo (by rfl) (by rfl)).placeOrder _ _
      split
      · rename_i e; rw [e] at k; exact k.arrivalOpen _
      · rename_i e; rw [e] at k; exact k
    · exact h
  · exact h

theorem State.Told.enterSuspended (h : s.Told t) : s.Told t.enterSuspended :=
  ((((h.setGate _).onPour _ (by rfl)).setPour _).beltByCauses).onBills _

theorem State.Told.reactAdd (h : s.Told t) : s.Told t.reactAdd := by
  unfold State.reactAdd
  split
  · exact h.enterSuspended
  · exact h.enterSuspended
  · exact h.enterSuspended
  · exact h.beltByCauses
  · exact h.beltByCauses
  · exact h

theorem State.Told.addCause (h : s.Told t) (c : SuspendCause) : s.Told (t.addCause c) := by
  unfold State.addCause
  split
  · dsimp only
    split
    · exact ((h.setCauses _).reactAdd).placeReturn
    · exact (h.setCauses _).reactAdd
  · exact h

theorem State.Told.failCause (h : s.Told t) (c : SuspendCause) : s.Told (t.failCause c) := by
  unfold State.failCause
  split
  · exact .ite ((h.setCauses _).keepTo (by rfl) (by rfl)).withdrawPass ((h.setCauses _).keepTo (by rfl) (by rfl)).reactAdd
  · exact h

theorem State.Told.retestThrottle (h : s.Told t) : s.Told t.retestThrottle := by
  unfold State.retestThrottle
  repeat' split
  · exact (h.setGate _).setPour _
  · exact h
  · exact h
  · exact (h.setGate _).setPour _
  · exact h.setGate _
  · exact h

theorem State.Told.gateWait (h : s.Told t) : s.Told t.gateWait := by
  unfold State.gateWait
  repeat' split
  · exact h.enterRunout _
  · exact h.failCause _
  · exact (h.keepTo (by rfl) (by rfl)).setGate _

theorem State.Told.beltWait (h : s.Told t) : s.Told t.beltWait := by
  unfold State.beltWait
  dsimp only
  split
  · exact ((h.keepTo (by rfl) (by rfl)).setBelt _).gateWait
  · exact (h.keepTo (by rfl) (by rfl)).setBelt _

theorem State.Told.reEnterStarting (h : s.Told t) : s.Told t.reEnterStarting := by
  unfold State.reEnterStarting
  dsimp only
  split
  · exact ((h.keepTo (by rfl) (by rfl)).setPour _).beltWait
  · exact ((h.keepTo (by rfl) (by rfl)).setPour _).addCause _

theorem State.Told.removeCause (h : s.Told t) (c : SuspendCause) : s.Told (t.removeCause c) := by
  have after : ∀ u : State, s.Told u → s.Told (match u.pour.state with
      | .suspended => if u.pour.causes.isEmpty then u.reEnterStarting else u.beltByCauses
      | .runout => u.beltByCauses
      | _ => u) := by
    intro u k
    split
    · exact .ite k.reEnterStarting k.beltByCauses
    · exact k.beltByCauses
    · exact k
  unfold State.removeCause
  split
  · exact after _ ((h.setCauses _).keepTo (by rfl) (by rfl))
  · exact h

theorem State.Told.syncCause (h : s.Told t) (c : SuspendCause) (held : Bool) : s.Told (t.syncCause c held) := by
  unfold State.syncCause
  split
  · exact h.addCause _
  · exact h.removeCause _

theorem State.Told.enterStarting (h : s.Told t) : s.Told t.enterStarting := by
  unfold State.enterStarting
  split
  · exact h
  · dsimp only
    exact .ite (((h.keepTo (by rfl) (by rfl)).setPour _).recompute.setCauses _).beltWait (((h.keepTo (by rfl) (by rfl)).setPour _).recompute.setCauses _).enterSuspended

theorem State.Told.arrivalPositioning (h : s.Told t) (source : OrderSource) :
    s.Told (t.arrivalPositioning source) := by
  unfold State.arrivalPositioning
  split
  · exact h.enterStarting
  · exact h.reAim _

theorem State.Told.tellArrival {r : State × Option OrderSource} (h : s.Told r.1) : s.Told (State.tellArrival r) := by
  unfold State.tellArrival
  repeat' split
  · exact h
  · exact h.arrivalPositioning _
  · exact h.arrivalOpen _
  · exact h
  · exact h

theorem State.Told.travelEvent (h : s.Told t) : s.Told t.travelEvent :=
  State.Told.tellArrival (h.rangeEvent)

theorem State.Told.positioningCases (h : s.Told t) : s.Told t.positioningCases := by
  unfold State.positioningCases
  dsimp only
  split
  · exact h.keepTo rfl rfl
  · split
    · exact (h.keepTo (by rfl) (by rfl)).enterStarting
    · split
      · rename_i p _
        have k : s.Told ((t.onPour (fun q => { q with reAimed := false })).placeOrder p .position).1 :=
          (h.keepTo (by rfl) (by rfl)).placeOrder _ _
        split
        · rename_i e; rw [e] at k; exact k.arrivalPositioning _
        · rename_i e; rw [e] at k; exact k
      · exact h.keepTo rfl rfl

theorem State.Told.enterPositioning (h : s.Told t) : s.Told t.enterPositioning :=
  ((h.keepTo (by rfl) (by rfl)).setPour _).positioningCases

theorem State.Told.withdrawClaim (h : s.Told t) (cause : WithdrawCause) : s.Told (t.withdrawClaim cause) := by
  unfold State.withdrawClaim
  split
  · exact h
  · dsimp only
    split
    · exact ((((h.keepTo (by rfl) (by rfl)).stopTravel).endClaim).notify _).setPour _
    · exact (((h.keepTo (by rfl) (by rfl)).endClaim).notify _).setPour _

theorem State.Told.loseClaim (h : s.Told t) (reason : Reason) : s.Told (t.loseClaim reason) := by
  unfold State.loseClaim
  split
  · exact h
  · exact (State.Told.mark.notify _).setPour _

theorem State.Told.mapTest (h : s.Told t) : s.Told t.mapTest := by
  unfold State.mapTest
  split
  · exact h.syncCause _ _
  · exact h

theorem State.Told.syncDustOwn (h : s.Told t) : s.Told t.syncDustOwn := h.syncCause _ _

theorem State.Told.syncDustPeer (h : s.Told t) : s.Told t.syncDustPeer := (h.syncCause _ _).retestThrottle

theorem State.Told.faultTravel (h : s.Told t) (cause : TravelFault) : s.Told (t.faultTravel cause) :=
  (h.enterFaulted cause).addCause _

theorem State.Told.stopPour (h : s.Told t) : s.Told t.stopPour := by
  unfold State.stopPour
  split
  · exact h
  · exact h
  · exact h.loseClaim _
  · exact h.withdrawClaim _
  all_goals exact h.enterRunout _

theorem State.Told.yieldPour (h : s.Told t) : s.Told t.yieldPour := by
  unfold State.yieldPour
  split
  · exact h.withdrawClaim _
  · exact h.enterRunout _
  · exact h.enterRunout _
  · exact h.enterRunout _
  · exact h.enterRunout _
  · exact h

theorem State.Told.closeDecision (h : s.Told t) : s.Told t.closeDecision := by
  unfold State.closeDecision
  repeat' split
  · exact h.enterRunout _
  · exact h
  · exact h.enterRunout _
  · exact h
  · exact h

theorem State.Told.lateConflictTest (h : s.Told t) : s.Told t.lateConflictTest := by
  unfold State.lateConflictTest
  repeat' split
  · exact h
  · exact h
  · rename_i c hc
    have flagged : s.Told (t.onFill (fun f => { f with claim := f.claim.map (fun k => { k with yielded := true }) })) :=
      h.keepTo rfl (by
        unfold State.reported
        show (_, _, (t.fill.claim.map _).map _, _, _, _) = _
        rw [Option.map_map]
        rfl)
    exact .ite (flagged.notify _).yieldPour h

/-! ## The Belt Scale -/

theorem State.Told.failZeroRun (h : s.Told t) (reason : ZeroFailure) (raw : Option Nat) :
    s.Told (t.failZeroRun reason raw) := by
  unfold State.failZeroRun
  split
  · exact (h.keepTo (by rfl) (by rfl)).notify _
  · exact h

theorem State.Told.zeroSample (h : s.Told t) (raw : Nat) : s.Told (t.zeroSample raw) := by
  unfold State.zeroSample
  split
  · exact h
  · exact .ite ((h.keepTo (by rfl) (by rfl)).failZeroRun _ _) (h.keepTo rfl rfl)

theorem State.Told.episodeAct (h : s.Told t) (raw : Nat) (high : Bool) : s.Told (t.episodeAct raw high) :=
  .ite ((h.keepTo (by rfl) (by rfl)).notify _) (h.keepTo rfl rfl)

theorem State.Told.setLoadStatus (h : s.Told t) (status : LoadStatus) : s.Told (t.setLoadStatus status) := by
  unfold State.setLoadStatus
  exact (State.Told.ite ((h.keepTo (by rfl) (by rfl)).notify _) ((h.keepTo (by rfl) (by rfl)))).syncCause _ _

theorem State.Told.takeLoad (h : s.Told t) (raw : Nat) : s.Told (t.takeLoad raw) := by
  unfold State.takeLoad
  exact ((((h.onScale _).episodeAct _ _).onScale _).zeroSample _).setLoadStatus _

/-! ## The Line Unit -/

theorem State.Told.issue (h : s.Told t) (kind : OwnKind) (bytes : List Byte) :
    s.Told (t.onLine (fun l => l.issue kind bytes)) :=
  h.keepTo (t.line.issue_timers kind bytes).2.2.2.2.2.2 rfl

/-- An update of the ports that leaves the line's own fields. -/
theorem State.Told.onPort (h : s.Told t) (p : Side) (f : PortRec → PortRec) : s.Told (t.onLine (fun l => l.onPort p f)) :=
  h.keepTo (by cases p <;> rfl) rfl

theorem State.Told.takenOnly (h : s.Told t) {l : QuayLine} (k : t.line.TakenOnly l) : s.Told { t with line := l } :=
  h.keepTo (congrArg QuayLine.statusDue k.rest :) rfl

theorem State.Told.tableOnly (h : s.Told t) (k : t.TableOnly u) : s.Told u := by
  refine h.keepTo (by rw [k.state]) ?_
  unfold State.reported
  rw [k.claim.1, k.channels.1, k.sessions, k.sessions, k.state]

theorem State.Told.issueClaim (h : s.Told t) (c : OwnClaim) : s.Told (t.issueClaim c) := .ite (h.issue _ _) h

theorem State.Told.issueDust (h : s.Told t) : s.Told t.issueDust := .ite (h.issue _ _) h

theorem State.Told.issueBreak (h : s.Told t) (lost : Side) : s.Told (t.issueBreak lost) := .ite (h.issue _ _) h

/-! ## The Dust Monitor -/

theorem State.Told.notifyOpt (h : s.Told t) (b : Option NoticeBody) : s.Told (t.notifyOpt b) := by
  cases b with
  | none => exact h
  | some b => exact h.notify b

theorem State.Told.applyChannel (h : s.Told t) (c : Channel) (r : DustChannel) : s.Told (t.applyChannel c r) := by
  unfold State.applyChannel
  cases c with
  | spout =>
    by_cases hs : t.dust.spout.state = r.state
    · rw [if_pos (show (t.dust.channel .spout).state = r.state from hs)]
      exact h.keepTo rfl (congrArg (fun x => (_, _, _, x, _, _)) hs.symm)
    · rw [if_neg (show ¬(t.dust.channel .spout).state = r.state from hs)]
      show s.Told (State.spoutToLine _ _ _)
      exact .ite .mark .mark
  | gallery =>
    have k : s.Told (t.onDust (fun d => d.setChannel .gallery r)) := h.keepTo rfl rfl
    have poured := (((k.notifyOpt (leaveNotice .gallery (t.dust.channel .gallery).state r)).notifyOpt
      (enterNotice .gallery r)).syncDustOwn).retestThrottle
    have aborted : s.Told (State.dustAbort _ r.state) := .ite (poured.failZeroRun .dust none) poured
    exact .ite k aborted

/-! ## The Peer Table -/

theorem State.Told.afterPeers (h : s.Told t) (before : State) (occasion : Bool) : s.Told (t.afterPeers before occasion) := by
  have decided := State.Told.ite (p := (occasion || t.freshnesses != before.freshnesses) = true)
    (h.tableOnly (((State.TableOnly.refl t).decideMismatch .a).decideMismatch .b)) h
  unfold State.afterPeers
  exact (State.Told.ite decided.travelEvent.lateConflictTest decided.travelEvent).syncDustPeer

theorem State.Told.hear (h : s.Told t) (p : Side) (f : Frame) : s.Told (t.hear p f) := by
  have r := State.TableOnly.refl t
  unfold State.hear
  split
  · exact (h.tableOnly (((r.putChanged _).handOn _ _).useBreak _ _ _)).afterPeers _ _
  · refine .ite h (.ite ?_ ?_)
    · exact (h.tableOnly (((r.putEntry _ _).handOn _ _).useBreak _ _ _)).afterPeers _ _
    · exact (h.tableOnly ((r.notify _).putChanged _)).afterPeers _ _

theorem State.Told.staleSide (h : s.Told t) (p : Side) : s.Told (t.staleSide p) :=
  (h.tableOnly ((State.TableOnly.refl t).fold _ (fun _ _ k => k.goStale _) _)).afterPeers _ _

theorem State.Told.staleExpiry (h : s.Told t) (e : PeerEntry) : s.Told (t.staleExpiry e) :=
  (h.tableOnly (((State.TableOnly.refl t).onPeers _).goStale _)).afterPeers _ _

/-! ## The frames and the ports -/

theorem State.Told.restore (h : s.Told t) (p : Side) : s.Told (t.restore p) := by
  unfold State.restore
  have opened : s.Told (t.onLine (fun l => ({ l with own := l.own.filter (fun e => e.kind != .brk p) } : QuayLine).onPort p
      (fun r => ({ r with state := .up, restoreCount := 0, repeatHold := Config.restoreFrames, breakTimer := none } :
        PortRec).startSilence (t.timer Config.silenceMs)))) := h.keepTo (by cases p <;> rfl) rfl
  exact ((opened.takenOnly (QuayLine.settlePassOver_takenOnly _)).notify _).travelEvent

theorem State.Told.countRestore (h : s.Told t) (p : Side) (hop : Nat) : s.Told (t.countRestore p hop) :=
  .ite (.ite (.ite (h.onPort p _) (h.restore p)) (h.onPort p _)) h

theorem State.Told.offer (h : s.Told t) (out : Side) (bytes : List Byte) : s.Told (t.offer out bytes) := by
  have taken := (h.onPort out (fun r => r.offer bytes)).takenOnly (QuayLine.takeBoth_takenOnly _)
  exact .ite taken (taken.notify _)

theorem State.Told.dropInvalid (h : s.Told t) (p : Side) : s.Told (t.dropInvalid p) :=
  .ite ((h.onPort p _).notify _) (h.onPort p _)

theorem State.Told.takeFrame (h : s.Told t) (p : Side) (bytes : List Byte) (f : Frame) : s.Told (t.takeFrame p bytes f) := by
  have counted := (h.onPort p (fun r => r.hear (t.timer Config.silenceMs))).countRestore p f.hop
  unfold State.takeFrame
  exact (State.Told.ite (counted.offer _ _) counted).hear _ _

theorem State.Told.frameArrives (h : s.Told t) (p : Side) (bytes : List Byte) : s.Told (t.frameArrives p bytes) := by
  unfold State.frameArrives
  refine .ite ?_ h
  split
  · exact h.dropInvalid p
  · exact .ite ((h.onPort p _).notify _) (h.takeFrame _ _ _)

theorem QuayLine.closeRelay_due (l : QuayLine) : l.closeRelay.statusDue = l.statusDue := by
  unfold QuayLine.closeRelay
  repeat' split
  all_goals rfl

theorem State.Told.frameSent (h : s.Told t) (p : Side) : s.Told (t.frameSent p) := by
  unfold State.frameSent
  split
  · exact h
  · rename_i sd _
    have sent : s.Told (t.onLine (fun l => ((l.sent p sd).takeBoth).closeRelay)) :=
      h.keepTo ((QuayLine.closeRelay_due _).trans (congrArg QuayLine.statusDue (t.line.sent_rest p sd) :)) rfl
    exact .ite sent sent.recompute

theorem State.Told.losePort (h : s.Told t) (p : Side) : s.Told (t.losePort p) := by
  unfold State.losePort
  exact ((((h.onPort p _).notify _).staleSide p).issueBreak p).onPort p _

/-! ## The requests -/

theorem State.Told.reply (h : s.Told t) (o : ReplyOutcome) (pages : List (List Byte)) : s.Told (t.reply o pages) :=
  h.keepTo rfl rfl

theorem State.Told.openSession (f : SessionFields) (n : Nat) : s.Told (t.openSession f n) := .mark

theorem State.Told.closeSession (x : Slot) (ses : Session) : s.Told (t.closeSession x ses) := .mark

theorem State.Told.shiftVessel (h : s.Told t) (x : Slot) (bow : Nat) : s.Told (t.shiftVessel x bow) := by
  have k := h.onSession x (fun ses => { ses with bowMark := bow })
  have shifted : s.Told (State.shiftPour _) :=
    .ite (.ite k.travelEvent.mapTest.placeReturn k.travelEvent.mapTest) (.ite k.positioningCases k)
  exact .ite shifted k.mapTest

theorem State.Told.enterClaim (c : OwnClaim) : s.Told (t.enterClaim c) := State.Told.mark.setPour _

theorem State.Told.clearFault : s.Told t.clearFault := by
  have k := State.Told.mark (s := s) (t := t.onTravel Travel.cleared) |>.recompute
  exact .ite k.positioningCases (k.placeReturn.removeCause _)

theorem State.Told.decideClaim (h : s.Told t) : s.Told t.decideClaim := by
  unfold State.decideClaim
  split
  · exact h.keepTo rfl rfl
  · split
    · exact h.loseClaim _
    · exact (State.Told.mark.notify _).enterPositioning

/-! ## Samples, inputs and timers -/

theorem State.Told.judgeSample (h : s.Told t) (x : Int) : s.Told (t.judgeSample x) :=
  .ite (.ite h (h.faultTravel _)) (.ite (h.keepTo rfl rfl) (.ite (h.faultTravel _) (h.keepTo (by rfl) (by rfl)).travelEvent.mapTest))

theorem State.Told.brakeInput (h : s.Told t) (active : Bool) : s.Told (t.brakeInput active) := by
  unfold State.brakeInput
  split
  · exact .ite (h.faultTravel _) h
  · exact .ite (h.faultTravel _) h
  · exact .ite h (h.faultTravel _)
  · exact .ite h.enterMoving h
  · exact h
  · exact h

theorem State.Told.gateOpened (h : s.Told t) : s.Told t.gateOpened := .ite (((h.keepTo (by rfl) (by rfl)).keepTo rfl rfl).setPour _) (h.keepTo rfl rfl)

theorem State.Told.gateShut (h : s.Told t) : s.Told t.gateShut := ((h.keepTo (by rfl) (by rfl)).removeCause _).runoutTest

theorem State.Told.gateExpiry (h : s.Told t) : s.Told t.gateExpiry := by
  unfold State.gateExpiry
  split
  · exact (((h.keepTo (by rfl) (by rfl)).notify _).failCause _).runoutTest
  · exact (((h.keepTo (by rfl) (by rfl)).notify _).addCause _).runoutTest
  all_goals exact h.keepTo rfl rfl

theorem State.Told.beltFails (h : s.Told t) : s.Told t.beltFails := (h.keepTo (by rfl) (by rfl)).failCause _

theorem State.Told.beltInput (h : s.Told t) (active : Bool) : s.Told (t.beltInput active) := by
  unfold State.beltInput
  split
  · exact .ite (.ite (h.keepTo (by rfl) (by rfl)).gateWait ((h.keepTo (by rfl) (by rfl)))) h
  · exact .ite h h.beltFails
  · exact h

theorem State.Told.settleExpiry (h : s.Told t) : s.Told t.settleExpiry :=
  .ite (.ite ((h.keepTo (by rfl) (by rfl)).faultTravel _) (State.Told.tellArrival (h.keepTo (by rfl) (by rfl)).settled)) (h.keepTo rfl rfl)

theorem State.Told.encoderExpiry (h : s.Told t) : s.Told t.encoderExpiry :=
  .ite ((h.keepTo (by rfl) (by rfl)).keepTo rfl rfl) ((h.keepTo (by rfl) (by rfl)).faultTravel _)
end Sys2Proof.Machine

end

section
/-! STATUS and its timers (O55). -/

namespace Sys2Proof.Machine

variable {s t u : State} {c : Instr}

/-! ## A belt pulse and a transaction -/

theorem State.Told.spill (h : s.Told t) (cause : SpillCause) (mass : Nat) : s.Told (t.spill cause mass) := (h.onBills _).notify _

theorem State.Told.deliver (h : s.Told t) (x : Slot) (n : Nat) (c : Cell) : s.Told (t.deliver x n c) := by
  have rowed : s.Told ((t.onBills (fun b => b.addMass c.mass c.marked)).onFill (fun f =>
      f.onRow x n (fun r => { r with delivered := r.delivered + c.mass }))) := by
    refine (h.onBills (fun b => b.addMass c.mass c.marked)).keepTo rfl (congrArg (fun y => (_, _, Option.map OwnClaim.phase y, _, _, _)) ?_)
    show (t.fill.onRow x n _).claim = t.fill.claim
    unfold Fill.onRow
    split
    · rfl
    · cases x <;> rfl
  exact rowed.onHold x n _

theorem State.Told.attribute (h : s.Told t) (c : Cell) : s.Told (t.attribute c) := by
  unfold State.attribute
  repeat' split
  · exact h
  · exact h.deliver _ _ _
  · exact h.spill _ _
  · exact h.spill _ _

theorem State.Told.addPulse (h : s.Told t) : s.Told t.addPulse := by
  unfold State.addPulse
  repeat' split
  · exact h
  · exact h
  · exact h.keepTo rfl rfl

theorem State.Told.advancePhase (h : s.Told t) : s.Told t.advancePhase := by
  unfold State.advancePhase
  split
  · exact h.keepTo rfl rfl
  · have shifted : s.Told (t.onBelt Belt.shift) := h.keepTo rfl rfl
    dsimp only
    split
    · unfold State.countShift
      exact .ite ((shifted.attribute _).onPour _ (by rfl)) (shifted.attribute _)
    · exact shifted

theorem State.Told.endZeroRun (h : s.Told t) (z : ZeroRun) : s.Told (t.endZeroRun z) := by
  unfold State.endZeroRun
  repeat' split
  · exact h.failZeroRun _ _
  · exact h.failZeroRun _ _
  · exact (h.onScale _).notify _

theorem State.Told.zeroPulse (h : s.Told t) : s.Told t.zeroPulse := by
  unfold State.zeroPulse
  split
  · exact h
  · exact .ite ((h.onScale _).endZeroRun _) (h.onScale _)

theorem State.Told.pulse (h : s.Told t) : s.Told t.pulse := h.addPulse.advancePhase.zeroPulse.closeDecision.runoutTest

/-! ## Every command -/

/-- What an effect of a command makes of its status changes (R52): they are marked, or a STATUS of the state has been issued; or there
are none, or the part has left RUN. -/
def State.Reports (s u : State) : Prop :=
  s.Told u ∨ (u.quiet ∧ (u.statusIssuedOrPending ∨ u.reported = s.reported)) ∨ u.port.mode ≠ .run

/-- The STATUS that an issue leaves in the own-frame queue of a line that is not shut off at both ends (R55). -/
theorem QuayLine.mem_issue_status {l : QuayLine} (hopen : l.up.chainEnd = false ∨ l.down.chainEnd = false) (bytes : List Byte) :
    l.statusEntry bytes ∈ (l.issue .status bytes).own := by
  have hentry : (⟨.status, l.serial, bytes, l.up.chainEnd || OwnKind.status == .brk .up,
      l.down.chainEnd || OwnKind.status == .brk .down⟩ : OwnEntry) = l.statusEntry bytes := by
    rw [show (OwnKind.status == OwnKind.brk .up) = false from rfl, show (OwnKind.status == OwnKind.brk .down) = false from rfl,
      Bool.or_false, Bool.or_false]
    rfl
  rw [(l.issue_timers .status bytes).1, hentry]
  refine mem_enterOwn _ _ ?_
  show (l.up.chainEnd && l.down.chainEnd) = false
  rcases hopen with h | h <;> simp [h]

theorem State.issueStatus_issued (s : State) : s.issueStatus.statusIssuedOrPending := by
  refine .inr ⟨rfl, rfl, fun hopen => ⟨_, QuayLine.mem_issue_status ?_ _, rfl, rfl⟩⟩
  have hup : s.issueStatus.line.up.chainEnd = s.line.up.chainEnd := State.issueStatusAs_chainEnd .run .up
  have hdown : s.issueStatus.line.down.chainEnd = s.line.down.chainEnd := State.issueStatusAs_chainEnd .run .down
  rwa [hup, hdown] at hopen

theorem State.issueStatus_reports (v : State) (o : ReplyOutcome) (pages : List (List Byte)) :
    s.Reports v.issueStatus ∧ s.Reports (v.issueStatus.reply o pages) :=
  ⟨.inr (.inl ⟨rfl, .inl v.issueStatus_issued⟩), .inr (.inl ⟨rfl, .inl v.issueStatus_issued⟩)⟩

theorem State.Acts.reports (h : s.Acts c u) : s.Reports u := by
  have r : s.Told s := .refl s
  have at' : ∀ d, s.Told (s.upTo d) := fun d => r.keepTo rfl rfl
  have transacted : ∀ tr phase, s.Reports (s.transact tr phase) := by
    intro tr phase
    rcases State.transact_cases (s := s) tr phase with h | ⟨-, v, -, he⟩
    · rw [h.alone]
      exact .inl (r.keepTo rfl rfl)
    · rw [he, v.restart_eq]
      exact (State.issueStatus_reports _ .done []).1
  cases h with
  | nothing => exact .inl r
  | refused => exact .inl (r.reply _ _)
  | post phase record => exact transacted _ _
  | withdraw phase => exact transacted _ _
  | fetchReply phase => exact transacted _ _
  | fetchNotice phase => exact transacted _ _
  | portState => exact .inl (r.keepTo rfl rfl)
  | unknownTransaction => exact .inl (r.keepTo rfl rfl)
  | startBlock f hm hf => exact (State.issueStatus_reports _ .done [[]]).2
  | restart => exact .inl (r.reply _ _)
  | setMasks => exact .inl (r.keepTo rfl rfl)
  | bypassOn hf =>
    refine .inr (.inr ?_)
    unfold State.bypassLine
    show (if s.line.spacingTimer.isSome then _ else _ : State).port.mode ≠ .run
    split <;> exact nofun
  | bypassOff => exact (State.issueStatus_reports _ .done [[]]).2
  | openSession f n hf hn => exact .inl ((State.Told.openSession f n).mapTest.reply _ _)
  | holdEntry => exact .inl ((r.onHold _ _ _).mapTest.reply _ _)
  | setHatch => exact .inl ((r.onHold _ _ _).mapTest.reply _ _)
  | permit => exact .inl ((r.onHold _ _ _).mapTest.reply _ _)
  | shiftVessel => exact .inl ((r.shiftVessel _ _).reply _ _)
  | setDraftLimit => exact .inl ((((r.onSession _ _).notify _).mapTest).reply _ _)
  | closeSession => exact .inl ((State.Told.closeSession _ _).mapTest.reply _ _)
  | move => exact .inl ((State.Told.tellArrival (r.placeOrder _ _)).reply _ _)
  | stopTravel => exact .inl (r.stopTravel.stopPour.reply _ _)
  | faultClear => exact .inl (State.Told.clearFault.reply _ _)
  | pour => exact .inl ((State.Told.enterClaim _).reply _ _)
  | endPour => exact .inl (r.stopPour.reply _ _)
  | zeroScale => exact .inl ((r.onScale _).reply _ _)
  | dustAcknowledge => exact .inl ((r.applyChannel _ _).reply _ _)
  | discardBill n b hb => exact .inl ((r.onBills _).reply _ _)
  | read => exact .inl (r.reply _ _)
  | readHolds => exact .inl ((r.onSession _ _).reply _ _)
  | loadSample => exact .inl (r.takeLoad _)
  | beltPulse hc => exact .inl r.pulse
  | positionSample => exact .inl ((r.keepTo (u := s.onTravel _) (by rfl) (by rfl)).judgeSample _)
  | dustSample => exact .inl (r.applyChannel _ _)
  | brakeLevel => exact .inl (r.keepTo rfl rfl)
  | brakeReleasedChange active => exact .inl ((r.keepTo (u := { s with inputs := { s.inputs with brakeReleased := active } }) (by rfl) (by rfl)).brakeInput _)
  | gateOpenLimit => exact .inl r.gateOpened
  | gateClosedLimit => exact .inl r.gateShut
  | beltLevel => exact .inl (r.keepTo rfl rfl)
  | beltRunningChange active => exact .inl ((r.keepTo (u := { s with inputs := { s.inputs with beltRunning := active } }) (by rfl) (by rfl)).beltInput _)
  | frame => exact .inl (r.frameArrives _ _)
  | notValidFrame => exact .inl (r.dropInvalid _)
  | frameSent => exact .inl (r.frameSent _)
  | loadStale d => exact .inl (.ite (((at' d).onScale _).setLoadStatus _) ((at' d).onScale _))
  | loadFault d => exact .inl (.ite (((at' d).onScale _).setLoadStatus _) ((at' d).onScale _))
  | still d => exact .inl (((at' d).onScale _).failZeroRun _ _)
  | silence p d => exact .inl ((at' d).losePort p)
  | brk p d => exact .inl (((at' d).issueBreak p).onPort p _)
  | status d =>
    unfold State.statusExpiry
    split
    · exact (State.issueStatus_reports _ .done []).1
    · exact .inl (r.keepTo rfl rfl)
  | spacing d =>
    unfold State.spacingExpiry
    dsimp only
    split
    · exact .inr (.inl ⟨(QuayLine.closeRelay_due _).trans rfl, .inr rfl⟩)
    · split
      · exact (State.issueStatus_reports _ .done []).1
      · exact .inl (r.keepTo rfl rfl)
  | peerStale n e d => exact .inl ((at' d).staleExpiry e)
  | encoder d => exact .inl (at' d).encoderExpiry
  | release d =>
    have k : s.Told ((s.upTo d).onTravel (fun v => { v with releaseTimer := none })) := r.keepTo rfl rfl
    exact .inl (.ite k.enterMoving k)
  | brakeFail d =>
    have k : s.Told ((s.upTo d).onTravel (fun v => { v with brakeFailTimer := none })) := r.keepTo rfl rfl
    exact .inl (.ite (k.faultTravel _) k)
  | settle d => exact .inl (at' d).settleExpiry
  | claimWindow d => exact .inl (at' d).decideClaim
  | positioning d => exact .inl (.ite ((at' d).withdrawClaim _) ((at' d).onPour _ (by rfl)))
  | beltStart d => exact .inl (.ite (at' d).beltFails ((at' d).onPour _ (by rfl)))
  | beltRetry d => exact .inl (((at' d).onPour _ (by rfl)).removeCause _)
  | gate d => exact .inl (at' d).gateExpiry
  | dustSilent channel d => exact .inl ((at' d).applyChannel _ _)
  | age d => exact .inl (r.keepTo rfl rfl)

/-- A STATUS issued on a line that is not shut off at both ends (R52, R55). -/
theorem State.issueStatus_facts (s : State) (hopen : s.line.up.chainEnd = false ∨ s.line.down.chainEnd = false) :
    s.onlyIn s.issueStatus [.line] ∧ s.issueStatus.line.statusTimer = some (s.count + 200)
      ∧ s.issueStatus.line.spacingTimer = some (s.count + 50) ∧ s.issueStatus.line.changePending = false
      ∧ ∃ e ∈ s.issueStatus.line.own, e.kind = .status ∧ e.upSent = s.line.up.chainEnd ∧ e.downSent = s.line.down.chainEnd
        ∧ e.bytes = frameBytes 0x01 s.station 0 (s.report .run).payload :=
  ⟨fun b hb => by cases b <;> first | rfl | simp at hb, rfl, rfl, rfl, _, QuayLine.mem_issue_status hopen _, rfl, rfl, rfl, rfl⟩

theorem exec_spacingTimer {d : Nat} (ht : s.line.spacingTimer = some d) :
    exec .spacingTimerExpiry s = .next (s.upTo d).spacingExpiry.finish := by
  have run : exec .spacingTimerExpiry s = .next (s.expire s.line.spacingTimer State.spacingExpiry).finish := rfl
  rw [run, ht]
  rfl

/-! ## The end of a command -/

theorem State.statusChanged_reported (h : s.statusChanged t) : t.reported ≠ s.reported := by
  intro he
  simp only [State.reported, Prod.mk.injEq] at he
  obtain ⟨htravel, hpour, hclaim, hspout, ha, hb⟩ := he
  rcases h with h | h | h | h | ⟨x, h⟩
  · exact h htravel
  · exact h hpour
  · exact h hclaim
  · exact h hspout
  · cases x
    · exact h ha
    · exact h hb

theorem State.finish_reported (s : State) : s.finish.reported = s.reported := by
  unfold State.finish
  repeat' split
  all_goals rfl

/-- A marked change, in RUN, is in the STATUS issued at the end of its command, or change-pending is set for it (R52). -/
theorem State.finish_issued (hd : s.line.statusDue = true) (hm : s.port.mode = .run) : s.finish.statusIssuedOrPending := by
  unfold State.finish
  rw [if_pos hd, if_pos (show s.inRun = true by unfold State.inRun; rw [hm]; rfl)]
  split
  · exact .inl rfl
  · exact s.issueStatus_issued

theorem State.Reports.finish (h : s.Reports u) (hm : u.finish.port.mode = .run) (hc : s.statusChanged u.finish) :
    u.finish.statusIssuedOrPending := by
  have hmode : u.port.mode = .run := by rw [← hm, State.finish_port]
  have hne : u.reported ≠ s.reported := by
    rw [← u.finish_reported]
    exact State.statusChanged_reported hc
  rcases h with h | ⟨hq, h | h⟩ | h
  · exact State.finish_issued (h.told.resolve_right hne) hmode
  · rwa [State.finish_of_quiet hq]
  · exact absurd h hne
  · exact absurd hmode h

end Sys2Proof.Machine

open Sys2Proof Sys2Proof.Machine

/-- Settles O55. -/
theorem statusFollowsItsTimers : Obligations.StatusFollowsItsTimers := by
  refine ⟨fun s c d hq hm hclosing hopen hc => ?_, fun s d hq hclosing ht hp => ?_, fun c s t hq hm hmt hrun hchange => ?_,
    fun s d hm ht => ?_, fun s hm ht hopen => ?_⟩
  · have hmode : ∀ v : State, v.port.mode = .run → v.inRun = true := fun v h => by unfold State.inRun; rw [h]; rfl
    obtain ⟨v, hexec, honly, hcount, hends, hreport⟩ : ∃ v : State, exec c s = .next v.issueStatus ∧ s.onlyIn v [.count, .line]
        ∧ v.count = max s.count d ∧ (∀ q, (v.line.port q).chainEnd = (s.line.port q).chainEnd)
        ∧ frameBytes 0x01 v.station 0 (v.report .run).payload = frameBytes 0x01 s.station 0 (s.report .run).payload := by
      rcases hc with ⟨rfl, ht⟩ | ⟨rfl, ht, hp⟩
      · refine ⟨s.upTo d, ?_, (s.onlyIn_upTo d).mono (by decide), rfl, fun _ => rfl, rfl⟩
        have hrun : exec .statusTimerExpiry s = .next (s.expire s.line.statusTimer State.statusExpiry).finish := rfl
        rw [hrun, ht]
        show Host.Outcome.next (State.statusExpiry (s.upTo d)).finish = _
        rw [State.statusExpiry, if_pos (hmode (s.upTo d) hm), State.finish_of_quiet rfl]
      · refine ⟨(s.upTo d).onLine (fun l => { l with spacingTimer := none }), ?_, ?_, rfl, fun q => by cases q <;> rfl, rfl⟩
        · rw [exec_spacingTimer ht, State.spacingExpiry, if_neg (by rw [show (s.upTo d).line.closing = .none from hclosing]; nofun),
            if_pos (by rw [show (s.upTo d).line.changePending = true from hp, hmode (s.upTo d) hm]; rfl), State.finish_of_quiet rfl]
        · intro b hb
          cases b <;> first | rfl | simp at hb
    obtain ⟨hissued, hstatus, hspacing, hpending, e, he, hkind, hup, hdown, hbytes⟩ := v.issueStatus_facts (by
      rw [show v.line.up.chainEnd = s.line.up.chainEnd from hends .up, show v.line.down.chainEnd = s.line.down.chainEnd from hends .down]
      exact hopen)
    refine ⟨_, hexec, honly.trans (hissued.mono (by decide)), hcount, hstatus, hspacing, hpending, e, he, hkind, hup.trans (hends .up),
      hdown.trans (hends .down), hbytes.trans hreport⟩
  · rw [exec_spacingTimer ht, State.spacingExpiry, if_neg (by rw [show (s.upTo d).line.closing = .none from hclosing]; nofun),
      if_neg (by rw [show (s.upTo d).line.changePending = false from hp]; nofun)]
    exact congrArg Host.Outcome.next (State.finish_of_quiet hq)
  · by_cases hreset : c = .powerOnReset
    · subst hreset
      obtain rfl := Host.Outcome.next.inj hrun
      exact nomatch hmt
    · obtain ⟨u, v, hv, hacts, hend⟩ := exec_completes (s := s) hreset
      obtain rfl := Host.Outcome.next.inj (hv.symm.trans hrun)
      rcases hend with rfl | ⟨-, rfl⟩
      · exact hacts.reports.finish hmt hchange
      · exact absurd rfl (State.statusChanged_reported hchange)
  · unfold State.finish
    rw [if_pos (show s.markStatus.line.statusDue = true from rfl), if_pos (show s.markStatus.inRun = true by
      unfold State.inRun; rw [show s.markStatus.port.mode = .run from hm]; rfl), if_pos (show s.markStatus.line.spacingTimer.isSome = true by
      rw [show s.markStatus.line.spacingTimer = some d from ht]; rfl)]
    rfl
  · refine ⟨_, rfl, ?_⟩
    unfold State.finish
    rw [if_pos (show s.markStatus.line.statusDue = true from rfl), if_pos (show s.markStatus.inRun = true by
      unfold State.inRun; rw [show s.markStatus.port.mode = .run from hm]; rfl), if_neg (show ¬s.markStatus.line.spacingTimer.isSome = true by
      rw [show s.markStatus.line.spacingTimer = none from ht]; nofun)]
    obtain ⟨hissued, hstatus, hspacing, hpending, hfound⟩ := s.markStatus.issueStatus_facts hopen
    exact ⟨State.onlyIn.trans (fun b hb => by cases b <;> first | rfl | simp at hb) hissued, rfl, hpending, hstatus, hspacing, hfound⟩

end

section
/-! SUPPORT. What the travel and the pour do to the Local Port: they raise notices, and do nothing else to it. One lemma for each
operation. -/

namespace Sys2Proof.Machine

variable {s t u : State}

/-- From `s` to `t`, at one count, the Local Port has changed by raised notices alone. -/
structure State.Raised (s t : State) : Prop where
  count : t.count = s.count
  port : ∃ bodies, t.port = s.port.raiseAll s.count bodies

theorem State.Raised.refl (s : State) : s.Raised s := ⟨rfl, [], rfl⟩

theorem State.Raised.onLine (h : s.Raised t) (f : QuayLine → QuayLine) : s.Raised (t.onLine f) := ⟨h.count, h.port⟩

theorem State.Raised.onTravel (h : s.Raised t) (f : Travel → Travel) : s.Raised (t.onTravel f) := ⟨h.count, h.port⟩

theorem State.Raised.onPour (h : s.Raised t) (f : Pour → Pour) : s.Raised (t.onPour f) := ⟨h.count, h.port⟩

theorem State.Raised.onBerths (h : s.Raised t) (f : Berths → Berths) : s.Raised (t.onBerths f) := ⟨h.count, h.port⟩

theorem State.Raised.onBills (h : s.Raised t) (f : Bills → Bills) : s.Raised (t.onBills f) := ⟨h.count, h.port⟩

theorem State.Raised.onFill (h : s.Raised t) (f : Fill → Fill) : s.Raised (t.onFill f) := ⟨h.count, h.port⟩

theorem State.Raised.onDust (h : s.Raised t) (f : Dust → Dust) : s.Raised (t.onDust f) := ⟨h.count, h.port⟩

theorem State.Raised.onPeers (h : s.Raised t) (f : List PeerEntry → List PeerEntry) : s.Raised (t.onPeers f) := ⟨h.count, h.port⟩

theorem State.Raised.ite {p : Prop} [Decidable p] (h : s.Raised t) (k : s.Raised u) : s.Raised (if p then t else u) := by
  split
  · exact h
  · exact k

theorem State.Raised.notify (h : s.Raised t) (body : NoticeBody) : s.Raised (t.notify body) :=
  ⟨h.count, h.port.elim fun bodies hb => ⟨bodies ++ [body], by
    rw [LocalPort.raiseAll_append, ← hb, ← h.count]
    rfl⟩⟩

theorem State.Raised.markStatus (h : s.Raised t) : s.Raised t.markStatus := h.onLine _

theorem State.Raised.onBerth (h : s.Raised t) (x : Slot) (f : Berth → Berth) : s.Raised (t.onBerth x f) := h.onBerths _

theorem State.Raised.onSession (h : s.Raised t) (x : Slot) (f : Session → Session) : s.Raised (t.onSession x f) := h.onBerth x _

theorem State.Raised.onHold (h : s.Raised t) (x : Slot) (n : Nat) (f : Hold → Hold) : s.Raised (t.onHold x n f) := by
  unfold State.onHold
  split
  · exact h
  · exact h.onSession x _

theorem State.Raised.dropClaim (h : s.Raised t) (x : Slot) : s.Raised (t.onFill (fun f =>
    { f.onView x (removeClaims t.station) with claim := none, claimTimer := none })) :=
  h.onFill _

/-! ## The Travel Controller -/

theorem State.Raised.recompute (h : s.Raised t) : s.Raised t.recompute := h.onTravel _

theorem State.Raised.enterReleasing (h : s.Raised t) : s.Raised t.enterReleasing := (h.onTravel _).markStatus

theorem State.Raised.enterSettling (h : s.Raised t) (mark : StopMark) : s.Raised (t.enterSettling mark) :=
  (h.onTravel _).markStatus

theorem State.Raised.park (h : s.Raised t) : s.Raised t.park := by
  unfold State.park
  split
  · exact h.onTravel _
  · exact (h.onTravel _).markStatus

theorem State.Raised.enterHeld (h : s.Raised t) : s.Raised t.enterHeld := by
  unfold State.enterHeld
  split
  · exact ((h.onTravel _).markStatus).notify _
  · exact (h.onTravel _).markStatus

theorem State.Raised.arrive (h : s.Raised t) : s.Raised t.arrive.1 := by
  unfold State.arrive
  split
  · exact h.park.notify _
  · exact h.park

theorem State.Raised.movingAct (h : s.Raised t) : s.Raised t.movingAct := by
  unfold State.movingAct
  split
  · repeat' split
    · exact h.enterSettling _
    · exact h.enterSettling _
    · exact h.onTravel _
  · exact h

theorem State.Raised.heldAct (h : s.Raised t) : s.Raised t.heldAct.1 := by
  unfold State.heldAct
  split
  · repeat' split
    · exact h.arrive
    · exact h.enterReleasing
    · exact h
    · exact h.enterReleasing
  · exact h

theorem State.Raised.travelAct (h : s.Raised t) : s.Raised t.travelAct.1 := by
  unfold State.travelAct
  split
  · exact h.movingAct
  · exact h.heldAct
  · exact h

theorem State.Raised.rangeEvent (h : s.Raised t) : s.Raised t.rangeEvent.1 := h.recompute.travelAct

theorem State.Raised.enterMoving (h : s.Raised t) : s.Raised t.enterMoving := by
  unfold State.enterMoving
  split
  · split
    · exact h.enterSettling _
    · exact (h.onTravel _).markStatus
  · exact h

theorem State.Raised.parkedAct (h : s.Raised t) : s.Raised t.parkedAct.1 := by
  unfold State.parkedAct
  split
  · repeat' split
    · exact h.arrive
    · exact h.enterHeld
    · exact h.enterReleasing
  · exact h

theorem State.Raised.redirect (h : s.Raised t) : s.Raised t.redirect := by
  unfold State.redirect
  split
  · split
    · exact h.enterSettling _
    · exact h.movingAct
  · exact h

theorem State.Raised.placeOrder (h : s.Raised t) (target : Int) (source : OrderSource) :
    s.Raised (t.placeOrder target source).1 := by
  have k : s.Raised (t.onTravel (fun r => { r with target := some target, source := some source })) := h.onTravel _
  unfold State.placeOrder
  split
  · exact h
  · dsimp only
    split
    · exact k.parkedAct
    · exact k.redirect
    · exact k.heldAct
    · exact k

theorem State.Raised.stopTravel (h : s.Raised t) : s.Raised t.stopTravel := by
  unfold State.stopTravel
  split
  · exact h
  · exact h
  · exact (h.onTravel _).enterSettling _
  · exact (h.onTravel _).enterSettling _
  · exact h.onTravel _
  · exact h.park

theorem State.Raised.enterFaulted (h : s.Raised t) (cause : TravelFault) : s.Raised (t.enterFaulted cause) := by
  unfold State.enterFaulted
  split
  · exact (h.onTravel _).notify _
  · exact ((h.onTravel _).markStatus).notify _

theorem State.Raised.settled (h : s.Raised t) : s.Raised t.settled.1 := by
  unfold State.settled
  split
  · repeat' split
    · exact h.arrive
    · exact h.enterReleasing
    · exact h.enterHeld
    · exact h.enterReleasing
  · exact h.park

/-! ## The Pour Sequencer -/

theorem State.Raised.setPour (h : s.Raised t) (x : PourState) : s.Raised (t.setPour x) := by
  unfold State.setPour
  split
  · exact h.onPour _
  · exact (h.onPour _).markStatus

theorem State.Raised.setGate (h : s.Raised t) (c : GateCommand) : s.Raised (t.setGate c) := h.onPour _

theorem State.Raised.setBelt (h : s.Raised t) (on : Bool) : s.Raised (t.setBelt on) := h.onPour _

theorem State.Raised.beltByCauses (h : s.Raised t) : s.Raised t.beltByCauses := h.setBelt _

theorem State.Raised.setCauses (h : s.Raised t) (c : CauseSet) : s.Raised (t.setCauses c) := by
  unfold State.setCauses
  split
  · exact h
  · dsimp only
    repeat' split
    · exact (h.onPour _).notify _
    · exact h.onPour _
    · exact h.onPour _

theorem State.Raised.lineClosedToTravel (h : s.Raised t) : s.Raised t.lineClosedToTravel :=
  h.rangeEvent

theorem State.Raised.endClaim (h : s.Raised t) : s.Raised t.endClaim := by
  unfold State.endClaim
  split
  · exact h
  · exact ((h.dropClaim _).onHold _ _ _).markStatus

theorem State.Raised.notifyLineClosed (h : s.Raised t) (line : Option BillLine) (cause : ClosureCause)
    (overshoot : Option Int) (residue : Option Nat) : s.Raised (t.notifyLineClosed line cause overshoot residue) := by
  unfold State.notifyLineClosed
  split
  · exact h.notify _
  · exact h

theorem State.Raised.withdrawPass (h : s.Raised t) : s.Raised t.withdrawPass := by
  unfold State.withdrawPass
  exact ((((((((((h.setGate _).setBelt _).onPour _).setCauses _).onBills _).onPour
    _).setPour _).lineClosedToTravel).endClaim).notifyLineClosed _ _ _ _)

theorem State.Raised.adapt (h : s.Raised t) (cause : RunoutCause) (o : Option Int) : s.Raised (t.adapt cause o) := by
  unfold State.adapt
  repeat' split
  · exact h
  · exact h.onPour _
  · exact h

theorem State.Raised.endRunout (h : s.Raised t) (cause : RunoutCause) : s.Raised (t.endRunout cause) := by
  unfold State.endRunout
  exact (((((((h.onBills _).setBelt _).onPour _).setPour
    _).lineClosedToTravel).adapt _ _).endClaim).notifyLineClosed _ _ _ _

theorem State.Raised.runoutTest (h : s.Raised t) : s.Raised t.runoutTest := by
  unfold State.runoutTest
  repeat' split
  · exact h.endRunout _
  · exact h
  · exact h

theorem State.Raised.enterRunout (h : s.Raised t) (cause : RunoutCause) : s.Raised (t.enterRunout cause) :=
  ((((h.setGate _).onPour _).setPour _).beltByCauses).runoutTest

theorem State.Raised.reAim (h : s.Raised t) (source : OrderSource) : s.Raised (t.reAim source) := by
  unfold State.reAim
  split
  · exact h
  · dsimp only
    split
    · exact (h.onPour _).placeOrder _ _
    · exact h.onPour _

theorem State.Raised.arrivalOpen (h : s.Raised t) (source : OrderSource) : s.Raised (t.arrivalOpen source) := by
  unfold State.arrivalOpen
  split
  · exact h
  · exact h.reAim _

theorem State.Raised.placeReturn (h : s.Raised t) : s.Raised t.placeReturn := by
  unfold State.placeReturn
  split
  · split
    · rename_i p _
      have k : s.Raised ((t.onPour (fun q => { q with reAimed := false })).placeOrder p .returning).1 :=
        (h.onPour _).placeOrder _ _
      split
      · rename_i e; rw [e] at k; exact k.arrivalOpen _
      · rename_i e; rw [e] at k; exact k
    · exact h
  · exact h

theorem State.Raised.enterSuspended (h : s.Raised t) : s.Raised t.enterSuspended :=
  ((((h.setGate _).onPour _).setPour _).beltByCauses).onBills _

theorem State.Raised.reactAdd (h : s.Raised t) : s.Raised t.reactAdd := by
  unfold State.reactAdd
  split
  · exact h.enterSuspended
  · exact h.enterSuspended
  · exact h.enterSuspended
  · exact h.beltByCauses
  · exact h.beltByCauses
  · exact h

theorem State.Raised.addCause (h : s.Raised t) (c : SuspendCause) : s.Raised (t.addCause c) := by
  unfold State.addCause
  split
  · dsimp only
    split
    · exact ((h.setCauses _).reactAdd).placeReturn
    · exact (h.setCauses _).reactAdd
  · exact h

theorem State.Raised.failCause (h : s.Raised t) (c : SuspendCause) : s.Raised (t.failCause c) := by
  unfold State.failCause
  split
  · exact .ite ((h.setCauses _).onPour _).withdrawPass ((h.setCauses _).onPour _).reactAdd
  · exact h

theorem State.Raised.retestThrottle (h : s.Raised t) : s.Raised t.retestThrottle := by
  unfold State.retestThrottle
  repeat' split
  · exact (h.setGate _).setPour _
  · exact h
  · exact h
  · exact (h.setGate _).setPour _
  · exact h.setGate _
  · exact h

theorem State.Raised.gateWait (h : s.Raised t) : s.Raised t.gateWait := by
  unfold State.gateWait
  repeat' split
  · exact h.enterRunout _
  · exact h.failCause _
  · exact (h.onPour _).setGate _

theorem State.Raised.beltWait (h : s.Raised t) : s.Raised t.beltWait := by
  unfold State.beltWait
  dsimp only
  split
  · exact ((h.onPour _).setBelt _).gateWait
  · exact (h.onPour _).setBelt _

theorem State.Raised.reEnterStarting (h : s.Raised t) : s.Raised t.reEnterStarting := by
  unfold State.reEnterStarting
  dsimp only
  split
  · exact ((h.onPour _).setPour _).beltWait
  · exact ((h.onPour _).setPour _).addCause _

theorem State.Raised.removeCause (h : s.Raised t) (c : SuspendCause) : s.Raised (t.removeCause c) := by
  have after : ∀ u : State, s.Raised u → s.Raised (match u.pour.state with
      | .suspended => if u.pour.causes.isEmpty then u.reEnterStarting else u.beltByCauses
      | .runout => u.beltByCauses
      | _ => u) := by
    intro u k
    split
    · exact .ite k.reEnterStarting k.beltByCauses
    · exact k.beltByCauses
    · exact k
  unfold State.removeCause
  split
  · exact after _ ((h.setCauses _).onPour _)
  · exact h

theorem State.Raised.syncCause (h : s.Raised t) (c : SuspendCause) (held : Bool) : s.Raised (t.syncCause c held) := by
  unfold State.syncCause
  split
  · exact h.addCause _
  · exact h.removeCause _

theorem State.Raised.enterStarting (h : s.Raised t) : s.Raised t.enterStarting := by
  unfold State.enterStarting
  split
  · exact h
  · dsimp only
    have k := fun n c => ((((h.onBills (fun b => b.takeLine n c t.count)).onPour (fun p => { p with
        positioningTimer := none, failures := 0, passSuspended := false, phase := some .beltWait
        causes := CauseSet.empty })).setPour .starting).recompute)
    exact .ite ((k _ _).setCauses _).beltWait ((k _ _).setCauses _).enterSuspended

theorem State.Raised.arrivalPositioning (h : s.Raised t) (source : OrderSource) :
    s.Raised (t.arrivalPositioning source) := by
  unfold State.arrivalPositioning
  split
  · exact h.enterStarting
  · exact h.reAim _

theorem State.Raised.tellArrival {r : State × Option OrderSource} (h : s.Raised r.1) : s.Raised (State.tellArrival r) := by
  unfold State.tellArrival
  repeat' split
  · exact h
  · exact h.arrivalPositioning _
  · exact h.arrivalOpen _
  · exact h
  · exact h

theorem State.Raised.travelEvent (h : s.Raised t) : s.Raised t.travelEvent :=
  State.Raised.tellArrival (h.rangeEvent)

theorem State.Raised.positioningCases (h : s.Raised t) : s.Raised t.positioningCases := by
  unfold State.positioningCases
  dsimp only
  split
  · exact h.onPour _
  · split
    · exact (h.onPour _).enterStarting
    · split
      · rename_i p _
        have k : s.Raised ((t.onPour (fun q => { q with reAimed := false })).placeOrder p .position).1 :=
          (h.onPour _).placeOrder _ _
        split
        · rename_i e; rw [e] at k; exact k.arrivalPositioning _
        · rename_i e; rw [e] at k; exact k
      · exact h.onPour _

theorem State.Raised.enterPositioning (h : s.Raised t) : s.Raised t.enterPositioning :=
  ((h.onPour _).setPour _).positioningCases

theorem State.Raised.withdrawClaim (h : s.Raised t) (cause : WithdrawCause) : s.Raised (t.withdrawClaim cause) := by
  unfold State.withdrawClaim
  split
  · exact h
  · dsimp only
    split
    · exact ((((h.onPour _).stopTravel).endClaim).notify _).setPour _
    · exact (((h.onPour _).endClaim).notify _).setPour _

theorem State.Raised.loseClaim (h : s.Raised t) (reason : Reason) : s.Raised (t.loseClaim reason) := by
  unfold State.loseClaim
  split
  · exact h
  · exact (((h.dropClaim _).markStatus).notify _).setPour _

theorem State.Raised.mapTest (h : s.Raised t) : s.Raised t.mapTest := by
  unfold State.mapTest
  split
  · exact h.syncCause _ _
  · exact h

theorem State.Raised.syncDustOwn (h : s.Raised t) : s.Raised t.syncDustOwn := h.syncCause _ _

theorem State.Raised.syncDustPeer (h : s.Raised t) : s.Raised t.syncDustPeer := (h.syncCause _ _).retestThrottle

theorem State.Raised.faultTravel (h : s.Raised t) (cause : TravelFault) : s.Raised (t.faultTravel cause) :=
  (h.enterFaulted cause).addCause _

theorem State.Raised.stopPour (h : s.Raised t) : s.Raised t.stopPour := by
  unfold State.stopPour
  split
  · exact h
  · exact h
  · exact h.loseClaim _
  · exact h.withdrawClaim _
  all_goals exact h.enterRunout _

theorem State.Raised.yieldPour (h : s.Raised t) : s.Raised t.yieldPour := by
  unfold State.yieldPour
  split
  · exact h.withdrawClaim _
  · exact h.enterRunout _
  · exact h.enterRunout _
  · exact h.enterRunout _
  · exact h.enterRunout _
  · exact h

theorem State.Raised.closeDecision (h : s.Raised t) : s.Raised t.closeDecision := by
  unfold State.closeDecision
  repeat' split
  · exact h.enterRunout _
  · exact h
  · exact h.enterRunout _
  · exact h
  · exact h

theorem State.Raised.lateConflictTest (h : s.Raised t) : s.Raised t.lateConflictTest := by
  unfold State.lateConflictTest
  repeat' split
  · exact h
  · exact h
  · exact .ite ((h.onFill _).notify _).yieldPour h

/-! ## The Peer Table -/

theorem State.Raised.putChanged (h : s.Raised t) (e : PeerEntry) : s.Raised (t.putChanged e) := ((h.onPeers _).notify _).onDust _

theorem State.Raised.goStale (h : s.Raised t) (e : PeerEntry) : s.Raised (t.goStale e) := .ite (h.putChanged _) h

theorem State.Raised.fold (h : s.Raised t) (f : State → PeerEntry → State) (hf : ∀ u e, s.Raised u → s.Raised (f u e))
    (l : List PeerEntry) : s.Raised (l.foldl f t) := by
  induction l generalizing t with
  | nil => exact h
  | cons e rest ih => exact ih (hf _ e h)

theorem State.Raised.decideMismatch (h : s.Raised t) (x : Slot) : s.Raised (t.decideMismatch x) := by
  unfold State.decideMismatch
  split
  · exact .ite h ((h.onBerth x _).notify _)
  · exact .ite ((h.onBerth x _).notify _) h

theorem State.Raised.afterPeers (h : s.Raised t) (before : State) (occasion : Bool) : s.Raised (t.afterPeers before occasion) := by
  have decided := State.Raised.ite (p := (occasion || t.freshnesses != before.freshnesses) = true)
    ((h.decideMismatch .a).decideMismatch .b) h
  unfold State.afterPeers
  exact (State.Raised.ite decided.travelEvent.lateConflictTest decided.travelEvent).syncDustPeer

theorem State.Raised.staleSide (h : s.Raised t) (p : Side) : s.Raised (t.staleSide p) :=
  (h.fold _ (fun _ _ k => k.goStale _) _).afterPeers _ _

end Sys2Proof.Machine

end

section
/-! SUPPORT. The Peer Table: which entry an operation leaves under a number, and what a change of the table reaches where no pass is under
way. -/

namespace Sys2Proof.Machine

variable {s t u : State}

/-! ## The entries -/

/-- An entry set stands under its number, and every other number keeps its entry. -/
theorem find_setEntry (e : PeerEntry) (l : List PeerEntry) (n : Nat) : (setEntry e l).find? (fun f => f.station == n)
    = if e.station = n then some e else l.find? (fun f => f.station == n) := by
  induction l with
  | nil => by_cases h : e.station = n <;> simp [setEntry, h]
  | cons f rest ih =>
    unfold setEntry
    split
    · rename_i hlt
      rw [List.find?_cons, List.find?_cons, ih]
      by_cases hf : f.station = n
      · have hne : e.station ≠ n := by omega
        simp [hf, hne]
      · have hb : (f.station == n) = false := by simpa using hf
        simp only [hb]
    · split
      · rename_i heq
        by_cases h : e.station = n
        · simp [h]
        · have hf : f.station ≠ n := by omega
          simp [h, hf]
      · by_cases h : e.station = n <;> simp [h]

theorem State.entry_setEntry (s : State) (e : PeerEntry) (n : Nat) :
    (s.onPeers (setEntry e)).entry n = if e.station = n then some e else s.entry n := find_setEntry e s.peers n

@[simp] theorem State.entry_putChanged (s : State) (e : PeerEntry) (n : Nat) :
    (s.putChanged e).entry n = if e.station = n then some e else s.entry n := find_setEntry e s.peers n

@[simp] theorem State.entry_putEntry (s : State) (before : Freshness) (e : PeerEntry) (n : Nat) :
    (s.putEntry before e).entry n = if e.station = n then some e else s.entry n := by
  unfold State.putEntry
  split
  · exact s.entry_setEntry e n
  · exact s.entry_putChanged e n

/-- Entries put in one after another, no two of one number. -/
theorem State.entry_fold (g : PeerEntry → PeerEntry) (hg : ∀ e, (g e).station = e.station) (l : List PeerEntry)
    (hl : l.Pairwise (fun e f => e.station ≠ f.station)) (t : State) (n : Nat) :
    (l.foldl (fun t e => t.putChanged (g e)) t).entry n
      = ((l.find? (fun e => e.station == n)).map g).or (t.entry n) := by
  induction l generalizing t with
  | nil => rfl
  | cons e rest ih =>
    obtain ⟨he, hrest⟩ := List.pairwise_cons.1 hl
    rw [List.foldl_cons, ih hrest, State.entry_putChanged, hg, List.find?_cons]
    by_cases h : e.station = n
    · have hnone : rest.find? (fun f => f.station == n) = none := by
        rw [List.find?_eq_none]
        intro f hf
        have := he f hf
        simp
        omega
      simp [h, hnone]
    · have hb : (e.station == n) = false := by simpa using h
      rw [if_neg h]
      simp only [hb]

theorem find_filter {l : List PeerEntry} (hl : l.Pairwise (fun e f => e.station ≠ f.station)) (P : PeerEntry → Bool) (n : Nat) :
    (l.filter P).find? (fun e => e.station == n) = (l.find? (fun e => e.station == n)).filter P := by
  induction l with
  | nil => rfl
  | cons e rest ih =>
    obtain ⟨he, hrest⟩ := List.pairwise_cons.1 hl
    rw [List.find?_cons]
    by_cases h : e.station = n
    · have hnone : (rest.filter P).find? (fun f => f.station == n) = none := by
        rw [List.find?_eq_none]
        intro f hf
        have := he f (List.mem_filter.1 hf).1
        simp
        omega
      by_cases hP : P e = true
      · simp [h, hP, Option.filter]
      · simp [h, hP, hnone, Option.filter]
    · have hb : (e.station == n) = false := by simpa using h
      simp only [hb]
      rw [← ih hrest]
      by_cases hP : P e = true
      · rw [List.filter_cons_of_pos hP, List.find?_cons_of_neg (by simpa using h)]
      · rw [List.filter_cons_of_neg hP]

theorem State.peersOrdered.apart (h : s.peersOrdered) : s.peers.Pairwise (fun e f => e.station ≠ f.station) :=
  h.imp fun hlt => by omega

/-- The entries that an event puts in afresh: those of the table that `P` picks, each as `g` leaves it. -/
theorem State.entry_foldFilter (h : s.peersOrdered) (P : PeerEntry → Bool) (g : PeerEntry → PeerEntry)
    (hg : ∀ e, (g e).station = e.station) (n : Nat) :
    ((s.peers.filter P).foldl (fun t e => t.putChanged (g e)) s).entry n = (s.entry n).map (fun e => if P e then g e else e) := by
  rw [State.entry_fold g hg _ (h.apart.filter _), find_filter h.apart]
  show Option.or (Option.map g ((s.entry n).filter P)) (s.entry n) = _
  cases s.entry n with
  | none => rfl
  | some e => by_cases hP : P e = true <;> simp [hP, Option.filter]

/-- A number's entry is in the table, under that number. -/
theorem State.entry_some {n : Nat} {e : PeerEntry} (h : s.entry n = some e) : e.station = n ∧ e ∈ s.peers :=
  ⟨by simpa using List.find?_some h, List.mem_of_find?_eq_some h⟩

/-- An entry of an ordered table is the one under its number. -/
theorem State.entry_of_mem (h : s.peersOrdered) {e : PeerEntry} (he : e ∈ s.peers) : s.entry e.station = some e := by
  unfold State.entry
  unfold State.peersOrdered at h
  generalize s.peers = l at h he
  induction l with
  | nil => cases he
  | cons f rest ih =>
    obtain ⟨hf, hrest⟩ := List.pairwise_cons.1 h
    rcases List.mem_cons.1 he with rfl | he
    · simp
    · have := hf e he
      rw [List.find?_cons_of_neg (by simp; omega)]
      exact ih hrest he

/-- An entry set in an ordered table in place of one that shows the same leaves what the table shows. -/
theorem setEntry_map {β : Type} (g : PeerEntry → β) (e : PeerEntry) {l : List PeerEntry} (hl : l.Pairwise (fun a b => a.station < b.station))
    {old : PeerEntry} (hold : l.find? (fun f => f.station == e.station) = some old) (hg : g e = g old) : (setEntry e l).map g = l.map g := by
  induction l with
  | nil => cases hold
  | cons f rest ih =>
    obtain ⟨hf, hrest⟩ := List.pairwise_cons.1 hl
    rw [List.find?_cons] at hold
    unfold setEntry
    by_cases h : f.station = e.station
    · simp only [h, beq_self_eq_true, Option.some.injEq] at hold
      rw [if_neg (by omega), if_pos h, List.map_cons, List.map_cons, hg, hold]
    · have hne : (f.station == e.station) = false := by simpa using h
      simp only [hne] at hold
      have hlt : f.station < e.station := by
        have hm := hf old (List.mem_of_find?_eq_some hold)
        have : old.station = e.station := by simpa using List.find?_some hold
        omega
      rw [if_pos hlt, List.map_cons, List.map_cons, ih hrest hold]

/-! ## What the operations of the table leave -/

@[simp] theorem State.decideMismatch_peers (s : State) (x : Slot) : (s.decideMismatch x).peers = s.peers := by
  unfold State.decideMismatch
  repeat' split
  all_goals rfl

@[simp] theorem State.entry_handOn (s : State) (e : PeerEntry) (c : Content) (n : Nat) : (s.handOn e c).entry n = s.entry n := rfl

/-- The marks decided afresh where the event is an occasion for it (R78). -/
def State.remarked (s before : State) (occasion : Bool) : State :=
  if occasion || s.freshnesses != before.freshnesses then (s.decideMismatch .a).decideMismatch .b else s

theorem State.remarked_peers (s before : State) (occasion : Bool) : (s.remarked before occasion).peers = s.peers := by
  unfold State.remarked
  split <;> simp

theorem State.remarked_tableOnly (s before : State) (occasion : Bool) : s.TableOnly (s.remarked before occasion) := by
  unfold State.remarked
  split
  · exact ((State.TableOnly.refl s).decideMismatch .a).decideMismatch .b
  · exact .refl s

theorem State.remarked_same {before : State} (h : s.freshnesses = before.freshnesses) : s.remarked before false = s := by
  unfold State.remarked
  simp [h]

theorem State.afterPeers_eq (s before : State) (occasion : Bool) : s.afterPeers before occasion
    = (if s.conflictKey != before.conflictKey then (s.remarked before occasion).travelEvent.lateConflictTest
      else (s.remarked before occasion).travelEvent).syncDustPeer := rfl

/-- What follows from a change of the table leaves the table. -/
theorem State.afterPeers_peers (s before : State) (occasion : Bool) : (s.afterPeers before occasion).peers = s.peers := by
  have moved := (State.PourKept.refl (s.remarked before occasion)).travelEvent
  rw [s.afterPeers_eq]
  exact (State.PourKept.ite moved.lateConflictTest moved).syncDustPeer.peers.trans (s.remarked_peers before occasion)

theorem State.entry_afterPeers (s before : State) (occasion : Bool) (n : Nat) : (s.afterPeers before occasion).entry n = s.entry n := by
  unfold State.entry
  rw [s.afterPeers_peers]

theorem State.finish_entry (s : State) (n : Nat) : s.finish.entry n = s.entry n := by
  unfold State.entry
  rw [s.finish_peers]

/-! ## Where no pass is under way -/

theorem State.noPass.lineOpen (h : s.noPass) : s.lineOpen = false := by
  unfold State.lineOpen
  rcases h.1 with h | h <;> rw [h] <;> rfl

theorem State.noPass.congr (h : s.noPass) (hp : t.pour = s.pour) (hf : t.fill.claim = s.fill.claim) : t.noPass :=
  ⟨by rw [hp]; exact h.1, by rw [hf]; exact h.2⟩

theorem State.noPass.tellArrival {r : State × Option OrderSource} (h : r.1.noPass) : State.tellArrival r = r.1 := by
  have hne : r.1.pour.state ≠ .positioning := by
    rcases h.1 with h | h <;> rw [h] <;> nofun
  unfold State.tellArrival
  split
  · rw [if_neg hne, h.lineOpen]
    exact ite_self _
  · rfl

theorem State.noPass.travelEvent (h : s.noPass) : s.travelEvent = s.rangeEvent.1 := by
  obtain ⟨v, bodies, due, hv, -, -⟩ := s.rangeEvent_form
  exact State.noPass.tellArrival (by rw [hv]; exact h)

theorem State.noPass.lateConflictTest (h : s.noPass) : s.lateConflictTest = s := by
  unfold State.lateConflictTest State.activeClaim
  cases hc : s.fill.claim with
  | none => simp
  | some c => simp [h.2 c hc]

theorem State.noPass.syncDustPeer (h : s.noPass) : s.syncDustPeer = s := by
  unfold State.syncDustPeer State.syncCause
  rw [State.addCause_idle (.inl h.lineOpen), State.removeCause_idle (.inl h.lineOpen), ite_self]
  unfold State.retestThrottle
  rcases h.1 with h | h <;> rw [h]

theorem State.noPass.remarked (h : s.noPass) (before : State) (occasion : Bool) : (s.remarked before occasion).noPass :=
  h.congr (by rw [(s.remarked_tableOnly before occasion).state]) (s.remarked_tableOnly before occasion).claim.1

/-- A change of the table reaches travel alone. -/
theorem State.noPass.afterPeers (h : s.noPass) (before : State) (occasion : Bool) :
    s.afterPeers before occasion = (s.remarked before occasion).rangeEvent.1 := by
  have hm := h.remarked before occasion
  have hr : (s.remarked before occasion).rangeEvent.1.noPass := by
    obtain ⟨v, bodies, due, hv, -, -⟩ := (s.remarked before occasion).rangeEvent_form
    rw [hv]
    exact hm
  rw [s.afterPeers_eq, hm.travelEvent, hr.lateConflictTest, ite_self, hr.syncDustPeer]

end Sys2Proof.Machine

end

section
/-! SUPPORT. What travel does when the permitted range is computed afresh (R87, R90, R93). -/

namespace Sys2Proof.Machine

variable {s t u w : State} {l : QuayLine}

theorem State.park_travel (s : State) : s.park.travel = s.travel.parked := by
  rw [State.park_eq]
  rfl

theorem State.arrive_travel (s : State) : s.arrive.1.travel = s.travel.parked := by
  unfold State.arrive
  split <;> exact s.park_travel

section Order

variable {pos target : Int} {r : Range} (hp : s.travel.position = some pos) (hr : s.travel.range = some r)
  (ht : s.travel.target = some target)

include hp hr ht

theorem State.heldAct_travel : s.heldAct.1.travel
    = if ¬fartherThan s.block.tolerance pos target then s.travel.parked
      else if stopPointOf r.lower r.upper pos target = target
          ∨ fartherThan s.block.creep pos (stopPointOf r.lower r.upper pos target) then s.released
      else s.travel := by
  unfold State.heldAct
  rw [hp, hr, ht]
  simp only [within_iff, Range.stopPoint_eq]
  by_cases h : fartherThan s.block.tolerance pos target
  · rw [if_neg (not_not_intro h), if_neg (not_not_intro h)]
    by_cases h1 : stopPointOf r.lower r.upper pos target = target
    · rw [if_pos h1, if_pos (.inl h1), State.enterReleasing_eq]
      rfl
    · by_cases h2 : fartherThan s.block.creep pos (stopPointOf r.lower r.upper pos target)
      · rw [if_neg h1, if_neg (not_not_intro h2), if_pos (.inr h2), State.enterReleasing_eq]
        rfl
      · rw [if_neg h1, if_pos h2, if_neg (by rintro (h | h) <;> contradiction)]
  · rw [if_pos h, if_pos h]
    exact s.arrive_travel

/-- A HELD loader short of its target tells nothing of a new range. -/
theorem State.heldAct_short (h : fartherThan s.block.tolerance pos target) : ∃ due, s.heldAct.1
    = s.traveled (if stopPointOf r.lower r.upper pos target = target
          ∨ fartherThan s.block.creep pos (stopPointOf r.lower r.upper pos target) then s.released else s.travel) [] due := by
  unfold State.heldAct
  rw [hp, hr, ht]
  simp only [within_iff, Range.stopPoint_eq]
  rw [if_neg (not_not_intro h)]
  by_cases h1 : stopPointOf r.lower r.upper pos target = target
  · rw [if_pos h1, if_pos (.inl h1)]
    exact ⟨true, State.enterReleasing_eq⟩
  · by_cases h2 : fartherThan s.block.creep pos (stopPointOf r.lower r.upper pos target)
    · rw [if_neg h1, if_neg (not_not_intro h2), if_pos (.inr h2)]
      exact ⟨true, State.enterReleasing_eq⟩
    · rw [if_neg h1, if_pos h2, if_neg (by rintro (h | h) <;> contradiction)]
      exact ⟨s.line.statusDue, rfl⟩

end Order

/-! ## The edges and the position -/

/-- Travel records of the same edges and position. -/
def Travel.SameRange (v w : Travel) : Prop := w.edgeUp = v.edgeUp ∧ w.edgeDown = v.edgeDown ∧ w.position = v.position

theorem State.travelAct_sameRange (s : State) : s.travel.SameRange s.travelAct.1.travel := by
  have released : s.travel.SameRange s.enterReleasing.travel := by
    rw [State.enterReleasing_eq]
    exact ⟨rfl, rfl, rfl⟩
  unfold State.travelAct
  split
  · unfold State.movingAct
    repeat' split
    all_goals exact ⟨rfl, rfl, rfl⟩
  · unfold State.heldAct
    repeat' split
    · rw [s.arrive_travel]
      exact ⟨rfl, rfl, rfl⟩
    · exact released
    · exact ⟨rfl, rfl, rfl⟩
    · exact released
    · exact ⟨rfl, rfl, rfl⟩
  · exact ⟨rfl, rfl, rfl⟩

/-! ## The new range and travel's act on it -/

/-- The facts that the range rests on: those of `w`, found again in `t`. -/
structure State.SameGround (w t : State) : Prop where
  count : t.count = w.count
  cfg : t.cfg = w.cfg
  peers : t.peers = w.peers
  window : t.rangeWindow = w.rangeWindow
  ends : ∀ side, (t.line.port side).chainEnd = (w.line.port side).chainEnd

/-- What the range computed afresh makes of the travel that `s` had (R87). -/
theorem State.rangeActed_of (htravel : w.travel = s.travel) (hcfg : w.cfg = s.cfg) (hopen : w.lineOpen = s.lineOpen)
    (hground : w.SameGround t) (ht : t.travel = w.rangeEvent.1.travel) : s.rangeActed t := by
  obtain ⟨hup, hdown, hposition⟩ := w.recompute.travelAct_sameRange
  have hpos : t.travel.position = w.travel.position := by rw [ht]; exact hposition
  have hedge : ∀ side win, t.computeEdge side win = w.computeEdge side win :=
    fun side win => State.computeEdge_congr hground.cfg hpos hground.peers hground.ends side win
  have hblock : w.block = s.block := by unfold State.block; rw [hcfg]
  have hranged : ({ s.travel with edgeUp := t.travel.edgeUp, edgeDown := t.travel.edgeDown } : Travel) = w.recompute.travel := by
    rw [ht, show w.rangeEvent.1.travel.edgeUp = _ from hup, show w.rangeEvent.1.travel.edgeDown = _ from hdown, ← htravel]
    rfl
  refine ⟨?_, ?_, fun ranged hr => ?_⟩
  · rw [hedge, hground.window, ht]
    exact hup
  · rw [hedge, hground.window, ht]
    exact hdown
  · rw [hranged] at hr
    have hact : t.travel = w.recompute.travelAct.1.travel := ht
    have hstate : w.recompute.travel.state = s.travel.state := by
      show w.travel.state = _
      rw [htravel]
    have hsame : w.recompute.travel.range = t.travel.range := by
      unfold Travel.range
      rw [hact, hup, hdown]
    have hkept : ∀ {α : Type} (g : Travel → α), (∀ v e f, g { v with edgeUp := e, edgeDown := f } = g v) →
        g w.recompute.travel = g s.travel := by
      intro α g hg
      rw [← htravel]
      exact hg _ _ _
    cases hs : s.travel.state with
    | parked | releasing | settling | faulted =>
      rw [hact, hr, State.travelAct_rests (by rw [hstate, hs]; nofun) (by rw [hstate, hs]; nofun)]
    | moving =>
      intro pos target dir r hp htg hd hrange stopped hstopped
      have hmove : t.travel = w.recompute.movingAct.travel := by
        rw [hact]
        unfold State.travelAct
        rw [hstate, hs]
      have hspeed : w.recompute.speedStep dir (stopPointOf r.lower r.upper pos target - pos).natAbs
          = if s.travel.source = some .returning ∨ s.lineOpen = true ∨ (t.nearest dir).any (fun e => e.freshness != .fresh) then .creep
            else profileOf s.block.slowDown s.block.creep ((stopPointOf r.lower r.upper pos target - pos).natAbs : Int) := by
        rw [State.speedStep_eq, hkept Travel.source (fun _ _ _ => rfl), show w.recompute.lineOpen = s.lineOpen from hopen,
          show w.recompute.block = s.block from hblock]
        unfold State.nearest
        rw [hground.peers]
        rfl
      have heq := State.movingAct_eq (s := w.recompute) (r := r) ((hkept Travel.position (fun _ _ _ => rfl)).trans hp)
        (hsame.trans hrange) ((hkept Travel.target (fun _ _ _ => rfl)).trans htg) ((hkept Travel.direction (fun _ _ _ => rfl)).trans hd)
      rw [show w.recompute.block = s.block from hblock, hspeed] at heq
      have hstop : ∀ mark, (w.recompute.traveled (w.recompute.stopped mark) [] true).travel = stopped mark := by
        intro mark
        rw [hstopped, hr, hground.count]
        rfl
      rw [hmove, heq]
      split
      · exact hstop .target
      · split
        · exact hstop .edge
        · rw [hr]
          rfl
    | held =>
      intro pos target r hp htg hrange
      have hheld : t.travel = w.recompute.heldAct.1.travel := by
        rw [hact]
        unfold State.travelAct
        rw [hstate, hs]
      have heq := State.heldAct_travel (s := w.recompute) (r := r) ((hkept Travel.position (fun _ _ _ => rfl)).trans hp)
        (hsame.trans hrange) ((hkept Travel.target (fun _ _ _ => rfl)).trans htg)
      rw [show w.recompute.block = s.block from hblock] at heq
      rw [hheld, heq, hr]
      split
      · rfl
      · split
        · unfold State.released
          rw [show w.recompute.block = s.block from hblock, show w.recompute.count = t.count from hground.count.symm]
        · rfl

/-! ## Where travel has nothing to tell -/

theorem State.rangeEvent_rests (h1 : s.travel.state ≠ .moving) (h2 : s.travel.state ≠ .held) : s.rangeEvent.1 = s.recompute :=
  congrArg Prod.fst (State.travelAct_rests (s := s.recompute) h1 h2)

/-- A new range raises no notice for a loader that is not HELD at its target (R93), and leaves it so. -/
theorem State.heldShort.rangeEvent (h : s.heldShort) :
    ∃ v due, s.rangeEvent.1 = s.traveled v [] due ∧ (s.traveled v [] due).heldShort := by
  have rest : ∀ v due, v.state ≠ .held → (s.traveled v [] due).heldShort := fun v due hv hs => absurd hs hv
  cases hs : s.travel.state with
  | held =>
    have hact : s.rangeEvent.1 = s.recompute.heldAct.1 := by
      unfold State.rangeEvent State.travelAct
      rw [show s.recompute.travel.state = .held from hs]
    have stays : (s.traveled s.recompute.travel [] s.line.statusDue).heldShort := fun _ => h hs
    cases hp : s.recompute.travel.position with
    | none =>
      refine ⟨s.recompute.travel, s.line.statusDue, ?_, stays⟩
      rw [hact]
      unfold State.heldAct
      rw [hp]
      rfl
    | some pos =>
      cases ht : s.recompute.travel.target with
      | none =>
        refine ⟨s.recompute.travel, s.line.statusDue, ?_, stays⟩
        rw [hact]
        unfold State.heldAct
        rw [hp, ht]
        cases s.recompute.travel.range <;> rfl
      | some target =>
        cases hr : s.recompute.travel.range with
        | none =>
          refine ⟨s.recompute.travel, s.line.statusDue, ?_, stays⟩
          rw [hact]
          unfold State.heldAct
          rw [hp, hr]
          rfl
        | some r =>
          obtain ⟨due, hdue⟩ := State.heldAct_short (s := s.recompute) hp hr ht (h hs pos target hp ht)
          refine ⟨_, due, hact.trans hdue, ?_⟩
          split
          · exact rest _ _ nofun
          · exact fun _ => h hs
  | moving =>
    obtain ⟨v, due, hv, -⟩ := s.recompute.movingAct_form
    have hact : s.rangeEvent.1 = s.recompute.movingAct := by
      unfold State.rangeEvent State.travelAct
      rw [show s.recompute.travel.state = .moving from hs]
    refine ⟨v, due, hact.trans hv, rest _ _ fun hheld => ?_⟩
    have hstate : s.recompute.movingAct.travel.state ≠ .held := by
      unfold State.movingAct
      repeat' split
      · nofun
      · nofun
      · show s.travel.state ≠ .held
        rw [hs]
        nofun
      · show s.travel.state ≠ .held
        rw [hs]
        nofun
    exact hstate ((congrArg (fun u : State => u.travel.state) hv).trans hheld)
  | parked | releasing | settling | faulted =>
    refine ⟨s.recompute.travel, s.line.statusDue, State.rangeEvent_rests (by rw [hs]; nofun) (by rw [hs]; nofun), rest _ _ ?_⟩
    show s.travel.state ≠ .held
    rw [hs]
    nofun

theorem State.onlyIn_rangeEvent (s : State) : s.onlyIn s.rangeEvent.1 [.travel, .port, .line] := by
  obtain ⟨v, bodies, due, hv, -, -⟩ := s.rangeEvent_form
  rw [hv]
  exact State.onlyIn_traveled s v bodies due

/-! ## What a change of the table leaves -/

theorem State.onlyIn_putChanged (s : State) (e : PeerEntry) : s.onlyIn (s.putChanged e) [.peers, .port, .dust] := by
  intro b hb
  cases b <;> first | rfl | simp at hb

theorem State.onlyIn_fold {l : List Block} (f : State → PeerEntry → State) (hf : ∀ (t : State) (e : PeerEntry), t.onlyIn (f t e) l) (es : List PeerEntry) (s : State) :
    s.onlyIn (es.foldl f s) l := by
  induction es generalizing s with
  | nil => exact fun b _ => by cases b <;> rfl
  | cons e rest ih => exact (hf s e).trans (ih _)

theorem State.onlyIn_refl (s : State) (l : List Block) : s.onlyIn s l := fun b _ => by cases b <;> rfl

theorem State.onlyIn_decideMismatch (s : State) (x : Slot) : s.onlyIn (s.decideMismatch x) [.port, .berths] := by
  unfold State.decideMismatch
  repeat' split
  · exact s.onlyIn_refl _
  · intro b hb
    cases b <;> first | rfl | simp at hb
  · intro b hb
    cases b <;> first | rfl | simp at hb
  · exact s.onlyIn_refl _

theorem State.onlyIn_remarked (s before : State) (occasion : Bool) : s.onlyIn (s.remarked before occasion) [.port, .berths] := by
  unfold State.remarked
  split
  · exact (s.onlyIn_decideMismatch .a).trans (State.onlyIn_decideMismatch _ .b)
  · exact s.onlyIn_refl _

/-- What follows from a change of the table, the marks apart. -/
theorem State.afterPeers_kept (s before : State) (occasion : Bool) :
    (s.remarked before occasion).PourKept (s.afterPeers before occasion) := by
  have moved := (State.PourKept.refl (s.remarked before occasion)).travelEvent
  rw [s.afterPeers_eq]
  exact (State.PourKept.ite moved.lateConflictTest moved).syncDustPeer

/-! ## A notice that has been raised -/

/-- The notice is queued, or the queue has overflowed. -/
def LocalPort.Tells (p : LocalPort) (b : NoticeBody) : Prop := (∃ n ∈ p.notices, n.body = b) ∨ p.overflow = true

theorem LocalPort.Tells.followAge {p : LocalPort} {b : NoticeBody} (h : p.Tells b) (before now : Nat) : (p.followAge before now).Tells b := by
  obtain ⟨hn, ho, -, -⟩ := p.followAge_queue before now
  unfold LocalPort.Tells
  rw [hn, ho]
  exact h

theorem LocalPort.enter_tells_own (p : LocalPort) (now : Nat) (b : NoticeBody) (time : Nat) (hm : p.masked b.cls = false) :
    (p.enter now b time).Tells b := by
  unfold LocalPort.enter
  rw [hm, Bool.and_false, if_neg Bool.false_ne_true]
  split
  · rename_i hany
    obtain ⟨m, hmem, hkey⟩ := List.any_eq_true.1 hany
    exact .inl ⟨_, List.mem_map.2 ⟨m, hmem, if_pos hkey⟩, rfl⟩
  · split
    · have joined : ({ p with notices := p.notices ++ [⟨b, time % 2 ^ 32, 0⟩] } : LocalPort).Tells b :=
        .inl ⟨_, List.mem_append_right _ (.head _), rfl⟩
      exact joined.followAge _ _
    · split
      · refine LocalPort.Tells.followAge (p := { p with
          notices := dropNewest (lowestClass p.notices) p.notices ++ [⟨b, time % 2 ^ 32, 0⟩], overflow := true }) (.inr rfl) _ _
      · exact .inr rfl

/-- A notice whose key no other body bears is not lost to a later one, but that the queue overflows. -/
theorem LocalPort.Tells.enter {p : LocalPort} {b : NoticeBody} (h : p.Tells b) (hb : ∀ c : NoticeBody, b.sameKey c = true → c = b)
    (now : Nat) (c : NoticeBody) (time : Nat) : (p.enter now c time).Tells b := by
  unfold LocalPort.enter
  split
  · exact h
  · split
    · refine h.imp_left fun ⟨n, hn, hbody⟩ => ?_
      by_cases hk : n.body.sameKey c = true
      · exact ⟨_, List.mem_map.2 ⟨n, hn, if_pos hk⟩, hb c (hbody ▸ hk)⟩
      · exact ⟨_, List.mem_map.2 ⟨n, hn, if_neg hk⟩, hbody⟩
    · split
      · have joined : ({ p with notices := p.notices ++ [⟨c, time % 2 ^ 32, 0⟩] } : LocalPort).Tells b :=
          h.imp_left fun ⟨n, hn, hbody⟩ => ⟨n, List.mem_append_left _ hn, hbody⟩
        exact joined.followAge _ _
      · split
        · exact LocalPort.Tells.followAge (p := { p with
            notices := dropNewest (lowestClass p.notices) p.notices ++ [⟨c, time % 2 ^ 32, 0⟩], overflow := true }) (.inr rfl) _ _
        · exact .inr rfl

theorem LocalPort.Tells.raiseAll {p : LocalPort} {b : NoticeBody} (h : p.Tells b) (hb : ∀ c : NoticeBody, b.sameKey c = true → c = b)
    (hsel : p.select = none) (now : Nat) (bodies : List NoticeBody) : (p.raiseAll now bodies).Tells b := by
  induction bodies generalizing p with
  | nil => exact h
  | cons c rest ih =>
    have hstill : (p.raise now c).select = none := by
      have hsome := (p.raise_kept now c).selected
      rw [hsel] at hsome
      exact Option.isNone_iff_eq_none.1 (Option.isSome_eq_false_iff.1 hsome)
    refine ih (p := p.raise now c) ?_ hstill
    rw [LocalPort.raise_of_unselected p now c hsel]
    exact h.enter hb now c now

/-! ## The own frames and the ports at an issue -/

theorem QuayLine.take_queue {q : Side} (h : (l.port q).queue = []) (p : Side) : ((l.take p).port q).queue = [] := by
  by_cases hpq : p = q
  · subst hpq
    obtain ⟨n, -, hn⟩ := QuayLine.port_take_empty h
    rw [hn]
    exact h
  · have hother : q = otherSide p := by cases p <;> cases q <;> first | rfl | exact absurd rfl hpq
    rw [hother, l.port_take_other p, ← hother]
    exact h

/-- A port whose pass-through queue is empty has it so after an issue. -/
theorem QuayLine.issue_queue {q : Side} (h : (l.port q).queue = []) (kind : OwnKind) (bytes : List Byte) :
    ((l.issue kind bytes).port q).queue = [] := by
  unfold QuayLine.issue QuayLine.takeBoth
  refine QuayLine.take_queue (QuayLine.take_queue ?_ .up) .down
  obtain ⟨n, -, hn⟩ := QuayLine.port_settle_form (l := { l with
    serial := l.serial + 1
    own := enterOwn ⟨kind, l.serial, bytes, l.up.chainEnd || kind == .brk .up, l.down.chainEnd || kind == .brk .down⟩ l.own }) q
  rw [hn]
  cases q <;> exact h

/-- The fields of a port that no issue changes. -/
def PortRec.Standing (r q : PortRec) : Prop :=
  q.state = r.state ∧ q.chainEnd = r.chainEnd ∧ q.silenceTimer = r.silenceTimer ∧ q.breakTimer = r.breakTimer ∧ q.errors = r.errors
    ∧ q.overflows = r.overflows ∧ q.restoreCount = r.restoreCount ∧ q.repeatHold = r.repeatHold ∧ (r.queue = [] → q.queue = [])

theorem PortRec.Standing.refl (r : PortRec) : r.Standing r := ⟨rfl, rfl, rfl, rfl, rfl, rfl, rfl, rfl, id⟩

theorem PortRec.Standing.trans {r q w : PortRec} (h : r.Standing q) (k : q.Standing w) : r.Standing w := by
  obtain ⟨h1, h2, h3, h4, h5, h6, h7, h8, h9⟩ := h
  obtain ⟨k1, k2, k3, k4, k5, k6, k7, k8, k9⟩ := k
  exact ⟨k1.trans h1, k2.trans h2, k3.trans h3, k4.trans h4, k5.trans h5, k6.trans h6, k7.trans h7, k8.trans h8, fun h => k9 (h9 h)⟩

theorem QuayLine.issue_standing (l : QuayLine) (kind : OwnKind) (bytes : List Byte) (q : Side) :
    (l.port q).Standing ((l.issue kind bytes).port q) := by
  obtain ⟨h1, h2, h3, h4, h5, h6, h7, h8⟩ := l.issue_ports kind bytes q
  exact ⟨h1, h2, h3, h4, h5, h6, h7, h8, fun h => QuayLine.issue_queue h kind bytes⟩

/-- The end of a command, for the ports. -/
theorem State.finish_standing (s : State) (q : Side) : (s.line.port q).Standing (s.finish.line.port q) := by
  have marked : ∀ b c : Bool, (s.line.port q).Standing (QuayLine.port { s.line with statusDue := b, changePending := c } q) := by
    intro b c
    cases q <;> exact .refl _
  unfold State.finish
  split
  · split
    · split
      · exact marked false true
      · have h := s.line.issue_standing .status (frameBytes 0x01 s.station 0 (s.report .run).payload) q
        cases q <;> exact h
    · exact marked false _
  · exact .refl _

/-- The end of a command, for an own frame that is not a STATUS. -/
theorem State.mem_own_finish {e : OwnEntry} (h : e ∈ s.line.own) (hk : e.kind ≠ .status) : e ∈ s.finish.line.own := by
  unfold State.finish
  split
  · split
    · split
      · exact h
      · show e ∈ (s.line.issue .status _).own
        rw [(s.line.issue_timers .status _).1]
        exact mem_enterOwn_other h hk
    · exact h
  · exact h

end Sys2Proof.Machine

end

section
/-! Port loss, the break timer, the restore of a port and the stale timers (sections 3.6 and 4.3): O54. -/

namespace Sys2Proof.Machine

variable {s t u w : State}

/-! ## A change of the table, with no pass under way -/

theorem State.noPass.rangeWindow (h : s.noPass) : s.rangeWindow = none := by
  unfold State.rangeWindow
  rw [h.lineOpen]
  rfl

/-- With no pass under way, a change of the table ends in the range computed afresh, and travel's act on it. -/
theorem State.noPass.tableActed (h : s.noPass) (hw : s.onlyIn w [.count, .port, .line, .peers, .dust, .berths, .fill])
    (hclaim : w.fill.claim = s.fill.claim) {before : State} {occasion : Bool} (ht : (w.afterPeers before occasion).onlyIn t [.line])
    (hends : ∀ q, (t.line.port q).chainEnd = (w.line.port q).chainEnd) : s.rangeActed t := by
  have hpour : w.pour = s.pour := hw .pour (by decide)
  have hwp : w.noPass := h.congr hpour hclaim
  have hmarked := w.remarked_tableOnly before occasion
  have hmp : (w.remarked before occasion).noPass := hwp.remarked before occasion
  obtain ⟨v, bodies, due, hv, -, -⟩ := (w.remarked before occasion).rangeEvent_form
  have hact : (w.afterPeers before occasion) = (w.remarked before occasion).traveled v bodies due :=
    (hwp.afterPeers before occasion).trans hv
  rw [hact] at ht
  have hcount : t.count = (w.remarked before occasion).count := ht .count (by decide)
  have hcfg : t.cfg = (w.remarked before occasion).cfg := ht .cfg (by decide)
  have hpeers : t.peers = (w.remarked before occasion).peers := ht .peers (by decide)
  have htp : t.noPass := hmp.congr (ht .pour (by decide)) (congrArg Fill.claim (ht .fill (by decide) : t.fill = _))
  have hstate := hmarked.state
  refine State.rangeActed_of (w := w.remarked before occasion) ?_ ?_ (hmp.lineOpen.trans h.lineOpen.symm)
    ⟨hcount, hcfg, hpeers, htp.rangeWindow.trans hmp.rangeWindow.symm, fun q => ?_⟩ ?_
  · rw [hstate]
    exact hw .travel (by decide)
  · rw [hstate]
    exact hw .cfg (by decide)
  · rw [hends q, hstate]
  · rw [hv]
    exact ht .travel (by decide)

/-- The blocks that a change of the table with no pass under way may change. -/
theorem State.noPass.onlyIn_afterPeers (h : s.noPass) {l : List Block} (hl : ∀ b ∈ [Block.port, .berths, .travel, .line], b ∈ l)
    (before : State) (occasion : Bool) : s.onlyIn (s.afterPeers before occasion) l := by
  rw [h.afterPeers before occasion]
  exact ((s.onlyIn_remarked before occasion).mono (fun b hb => hl b (by simp at hb ⊢; tauto))).trans
    ((State.onlyIn_rangeEvent _).mono (fun b hb => hl b (by simp at hb ⊢; tauto)))

/-! ## Port loss (R58, R71) -/

/-- A port gone LOST, with its notice. -/
def State.lost (s : State) (p : Side) : State :=
  (s.onLine (fun l => l.onPort p (fun r => { r with
    state := .lost, silenceTimer := none, restoreCount := 0, repeatHold := 0, queue := [] }))).notify (.portLost p)

/-- The FRESH entries of a side gone STALE. -/
def State.staled (s : State) (p : Side) : State := (s.peers.filter (fun e => e.side == p)).foldl State.goStale s

theorem State.staled_eq (s : State) (p : Side) : s.staled p
    = (s.peers.filter (fun e => decide (e.freshness = .fresh) && (e.side == p))).foldl
        (fun t e => t.putChanged { e with freshness := .stale }) s := by
  rw [← List.filter_filter, List.foldl_filter]
  unfold State.staled State.goStale
  simp only [decide_eq_true_eq]

theorem State.staled_same {p : Side} (h : ∀ e ∈ s.peers, e.side = p → e.freshness ≠ .fresh) : s.staled p = s := by
  rw [s.staled_eq, List.filter_eq_nil_iff.2 fun e he => by
    intro hb
    simp only [Bool.and_eq_true, decide_eq_true_eq, beq_iff_eq] at hb
    exact h e he hb.2 hb.1]
  rfl

theorem State.entry_staled (h : s.peersOrdered) (p : Side) (n : Nat) :
    (s.staled p).entry n = (s.entry n).map (fun e => if e.side = p ∧ e.freshness = .fresh then { e with freshness := .stale } else e) := by
  rw [s.staled_eq, State.entry_foldFilter h _ (fun e => { e with freshness := .stale }) (fun _ => rfl)]
  refine congrArg (fun f => (s.entry n).map f) (funext fun e => ?_)
  simp only [Bool.and_eq_true, decide_eq_true_eq, beq_iff_eq, and_comm]

theorem State.onlyIn_staled (s : State) (p : Side) : s.onlyIn (s.staled p) [.peers, .port, .dust] := by
  rw [s.staled_eq]
  exact State.onlyIn_fold _ (fun t e => t.onlyIn_putChanged _) _ s

theorem State.staled_tableOnly (s : State) (p : Side) : s.TableOnly (s.staled p) :=
  (State.TableOnly.refl s).fold _ (fun _ _ k => k.goStale _) _

theorem State.staleSide_eq (s : State) (p : Side) : s.staleSide p = (s.staled p).afterPeers s false := rfl

theorem State.losePort_eq (s : State) (p : Side) : s.losePort p
    = (((s.lost p).staleSide p).issueBreak p).onLine (fun l => l.onPort p (fun r => { r with breakTimer := s.timer Config.breakMs })) := rfl

theorem State.staleSide_line (s : State) (p : Side) : s.LineKept (s.staleSide p) :=
  (s.staled_tableOnly p).line.trans (State.afterPeers_line _ _ _)

theorem State.issueBreak_run {p : Side} (h : s.inRun = true) :
    s.issueBreak p = s.onLine (fun l => l.issue (.brk p) (frameBytes 0x04 s.station 0 [sideCode p])) := if_pos h

/-- The BREAK issued for a lost port, in the own-frame queue. -/
theorem QuayLine.issue_break {l : QuayLine} {p : Side} (h : (l.port (otherSide p)).chainEnd = false) (bytes : List Byte) :
    ∃ e ∈ (l.issue (.brk p) bytes).own, e.kind = .brk p ∧ e.bytes = bytes ∧ e.sent p = true ∧ e.sent (otherSide p) = false := by
  rw [(l.issue_timers (.brk p) bytes).1]
  cases p with
  | up =>
    have hd : l.down.chainEnd = false := h
    exact ⟨_, mem_enterOwn _ _ (by simp [hd]), rfl, rfl, by simp [OwnEntry.sent], by simp [OwnEntry.sent, otherSide, hd]⟩
  | down =>
    have hd : l.up.chainEnd = false := h
    exact ⟨_, mem_enterOwn _ _ (by simp [hd]), rfl, rfl, by simp [OwnEntry.sent], by simp [OwnEntry.sent, otherSide, hd]⟩

/-- A port standing as another, but for the break timer. -/
def PortRec.Lost (r : PortRec) (broken : Timer) : Prop :=
  r.state = .lost ∧ r.silenceTimer = none ∧ r.restoreCount = 0 ∧ r.repeatHold = 0 ∧ r.queue = [] ∧ r.breakTimer = broken

theorem PortRec.Standing.lost {r q : PortRec} {d : Timer} (h : r.Standing q) (k : r.Lost d) : q.Lost d := by
  obtain ⟨h1, h2, h3, h4, h5, h6, h7, h8, h9⟩ := h
  obtain ⟨k1, k2, k3, k4, k5, k6⟩ := k
  exact ⟨h1.trans k1, h3.trans k2, h7.trans k3, h8.trans k4, h9 k5, h4.trans k6⟩

theorem QuayLine.standing_mark (l : QuayLine) (due : Bool) (q : Side) : (l.port q).Standing (QuayLine.port { l with statusDue := due } q) := by
  cases q <;> exact .refl _

/-- The ports after a port loss, but for the state of the lost one. -/
theorem State.losePort_standing (hrun : s.inRun = true) (p : Side) : ∃ l : QuayLine,
    (s.losePort p).line = l.onPort p (fun r => { r with breakTimer := s.timer Config.breakMs })
      ∧ (∀ q, ((s.lost p).line.port q).Standing (l.port q))
      ∧ ((s.line.port (otherSide p)).chainEnd = false → ∃ e ∈ l.own, e.kind = .brk p
          ∧ e.bytes = frameBytes 0x04 s.station 0 [sideCode p] ∧ e.sent p = true ∧ e.sent (otherSide p) = false) := by
  have hkept := (s.lost p).staleSide_line p
  have hraised := (State.Raised.refl (s.lost p)).staleSide p
  have hstation : ((s.lost p).staleSide p).station = s.station := by
    have hc : ((s.lost p).staleSide p).cfg = s.cfg :=
      ((State.afterPeers_kept _ _ _).cfg.trans (State.onlyIn_remarked _ _ _ .cfg (by decide))).trans
        (State.onlyIn_staled _ p .cfg (by decide))
    unfold State.station State.block
    rw [hc]
  have hr : ((s.lost p).staleSide p).inRun = true := by
    obtain ⟨bodies, hb⟩ := hraised.port
    have hm := (LocalPort.raiseAll_kept (s.lost p).port (s.lost p).count bodies).mode.trans (s.port.raise_kept s.count (.portLost p)).mode
    unfold State.inRun at hrun ⊢
    rw [hb, hm]
    exact hrun
  obtain ⟨u, hu⟩ : ∃ u : State, u = (s.lost p).staleSide p := ⟨_, rfl⟩
  have hline : (s.losePort p).line
      = (u.line.issue (.brk p) (frameBytes 0x04 u.station 0 [sideCode p])).onPort p (fun r => { r with breakTimer := s.timer Config.breakMs }) := by
    rw [s.losePort_eq, ← hu, State.issueBreak_run (hu ▸ hr)]
    rfl
  rw [hu] at hline
  refine ⟨_, hline, fun q => ?_, fun hend => ?_⟩
  · have marked : ((s.lost p).line.port q).Standing (((s.lost p).staleSide p).line.port q) := by
      rw [hkept]
      exact QuayLine.standing_mark _ _ q
    exact marked.trans (QuayLine.issue_standing _ _ _ q)
  · rw [hstation]
    refine QuayLine.issue_break ?_ _
    rw [hkept]
    have hlost : (s.lost p).line.port (otherSide p) = s.line.port (otherSide p) := s.line.port_onPort_other p _
    have := (QuayLine.standing_mark (s.lost p).line ((s.lost p).staleSide p).line.statusDue (otherSide p)).2.1
    rw [this, hlost]
    exact hend

theorem State.losePort_chainEnd (hrun : s.inRun = true) (p q : Side) :
    ((s.losePort p).finish.line.port q).chainEnd = ((s.lost p).line.port q).chainEnd := by
  obtain ⟨l, hl, hst, -⟩ := State.losePort_standing hrun p
  rw [((s.losePort p).finish_standing q).2.1, hl]
  by_cases hq : q = p
  · subst hq
    rw [QuayLine.port_onPort_same]
    exact (hst q).2.1
  · obtain rfl : q = otherSide p := by cases p <;> cases q <;> first | rfl | exact absurd rfl hq
    rw [QuayLine.port_onPort_other]
    exact (hst _).2.1

/-- The lost port. -/
theorem State.losePort_lost (hrun : s.inRun = true) (p : Side) : ((s.losePort p).finish.line.port p).Lost (s.timer Config.breakMs) := by
  obtain ⟨l, hl, hst, -⟩ := State.losePort_standing hrun p
  refine ((s.losePort p).finish_standing p).lost ?_
  rw [hl, QuayLine.port_onPort_same]
  have hlost : (s.lost p).line.port p = { s.line.port p with
      state := .lost, silenceTimer := none, restoreCount := 0, repeatHold := 0, queue := [] } := QuayLine.port_onPort_same _ _ _
  have k := hst p
  rw [hlost] at k
  obtain ⟨k1, -, k3, -, -, -, k7, k8, k9⟩ := k
  exact ⟨k1, k3, k7, k8, k9 rfl, rfl⟩

theorem State.onlyIn_lost (s : State) (p : Side) : s.onlyIn (s.lost p) [.port, .line] := by
  intro b hb
  cases b <;> first | rfl | simp at hb

/-- A port loss but for the line: the table's change and what follows. -/
theorem State.onlyIn_losePort (s : State) (p : Side) : ((s.lost p).staleSide p).onlyIn (s.losePort p).finish [.line] := by
  have issued : ((s.lost p).staleSide p).onlyIn (((s.lost p).staleSide p).issueBreak p) [.line] := by
    unfold State.issueBreak
    split
    · exact State.onlyIn_onLine _ _
    · exact State.onlyIn_refl _ _
  exact (issued.trans (State.onlyIn_onLine _ _)).trans (State.onlyIn_finish _)

theorem State.noPass.losePort (h : s.noPass) (hrun : s.inRun = true) (p : Side) :
    s.onlyIn (s.losePort p).finish [.port, .line, .peers, .travel, .dust, .berths] ∧ s.rangeActed (s.losePort p).finish := by
  have hw : s.onlyIn ((s.lost p).staled p) [.port, .line, .peers, .dust] :=
    ((s.onlyIn_lost p).mono (by decide)).trans ((State.onlyIn_staled _ p).mono (by decide))
  have hp : ((s.lost p).staled p).noPass :=
    h.congr (hw .pour (by decide)) (congrArg Fill.claim (hw .fill (by decide) : ((s.lost p).staled p).fill = _))
  refine ⟨((hw.mono (by decide)).trans ((hp.onlyIn_afterPeers (by decide) _ _))).trans
    ((s.onlyIn_losePort p).mono (by decide)), h.tableActed (hw.mono (by decide))
      (congrArg Fill.claim (hw .fill (by decide) : ((s.lost p).staled p).fill = _)) (s.onlyIn_losePort p) fun q => ?_⟩
  rw [State.losePort_chainEnd hrun, (State.staled_tableOnly (s.lost p) p).line]
  exact (QuayLine.standing_mark _ _ q).2.1.symm

theorem State.losePort_entry (h : s.peersOrdered) (p : Side) (n : Nat) : (s.losePort p).finish.entry n
    = (s.entry n).map (fun e => if e.side = p ∧ e.freshness = .fresh then { e with freshness := .stale } else e) := by
  have hline : (s.losePort p).finish.peers = ((s.lost p).staleSide p).peers := s.onlyIn_losePort p .peers (by decide)
  have hl : (s.lost p).peersOrdered := h
  unfold State.entry at *
  rw [hline]
  have := State.entry_staled hl p n
  rw [← State.entry_afterPeers _ (s.lost p) false] at this
  exact this

/-- A loss that finds no FRESH entry of its side, and a loader that is not HELD at its target, raises the notice of the loss alone. -/
theorem State.losePort_port (hp : s.noPass) (hh : s.heldShort) {p : Side} (hf : ∀ e ∈ s.peers, e.side = p → e.freshness ≠ .fresh) :
    (s.losePort p).finish.port = s.port.raise s.count (.portLost p) := by
  have hport : (s.losePort p).finish.port = ((s.lost p).staleSide p).port := s.onlyIn_losePort p .port (by decide)
  have hpl : (s.lost p).noPass := hp
  have hhl : (s.lost p).heldShort := hh
  obtain ⟨v, due, hv, -⟩ := hhl.rangeEvent
  rw [hport, State.staleSide_eq, State.staled_same (s := s.lost p) hf, hpl.afterPeers, State.remarked_same rfl, hv]
  rfl

/-- No other notice bears the key of a port's loss. -/
theorem NoticeBody.portLost_alone {p : Side} {c : NoticeBody} (h : (NoticeBody.portLost p).sameKey c = true) : c = .portLost p := by
  unfold NoticeBody.sameKey at h
  rw [Bool.and_eq_true, beq_iff_eq, beq_iff_eq] at h
  obtain ⟨hkind, hsubject⟩ := h
  cases c with
  | portLost q => cases p <;> cases q <;> first | rfl | simp [NoticeBody.subject, sideCode] at hsubject
  | _ => simp [NoticeBody.kind] at hkind

theorem State.losePort_tells (hsel : s.port.select = none) {p : Side} (hm : s.port.masked 3 = false) :
    (s.losePort p).finish.port.Tells (.portLost p) := by
  have hport : (s.losePort p).finish.port = ((s.lost p).staleSide p).port := s.onlyIn_losePort p .port (by decide)
  obtain ⟨bodies, hb⟩ := ((State.Raised.refl (s.lost p)).staleSide p).port
  rw [hport, hb]
  have hlost : (s.lost p).port = s.port.enter s.count (.portLost p) s.count := s.port.raise_of_unselected _ _ hsel
  have hstill : (s.lost p).port.select = none := by
    have hsome := (s.port.raise_kept s.count (.portLost p)).selected
    rw [hsel] at hsome
    exact Option.isNone_iff_eq_none.1 (Option.isSome_eq_false_iff.1 hsome)
  refine LocalPort.Tells.raiseAll ?_ ?_ hstill _ _
  · rw [hlost]
    exact s.port.enter_tells_own _ _ _ hm
  · exact fun c => NoticeBody.portLost_alone

theorem exec_silenceTimer {p : Side} {d : Nat} (h : (s.line.port p).silenceTimer = some d) :
    exec (.silenceTimerExpiry p) s = .next ((s.upTo d).losePort p).finish := by
  have run : exec (.silenceTimerExpiry p) s = .next (s.expire (s.line.port p).silenceTimer (fun t => t.losePort p)).finish := rfl
  rw [run, h]
  rfl

end Sys2Proof.Machine

end

section
/-! Port loss, the break timer, the restore of a port and the stale timers, continued: O54. -/

namespace Sys2Proof.Machine

variable {s t u w x : State}

/-! ## A silent port, and the break timer (R58, R60) -/

theorem State.silence_facts {p : Side} {d : Nat} (hrun : s.port.mode = .run) (hord : s.peersOrdered)
    (htimer : (s.line.port p).silenceTimer = some d) (hend : (s.line.port (otherSide p)).chainEnd = false) :
    ∃ t, exec (.silenceTimerExpiry p) s = .next t ∧ t.count = max s.count d
      ∧ (s.noPass → s.onlyIn t [.count, .port, .line, .peers, .travel, .dust, .berths] ∧ s.rangeActed t)
      ∧ ((t.line.port p).state = .lost ∧ (t.line.port p).silenceTimer = none ∧ (t.line.port p).restoreCount = 0
        ∧ (t.line.port p).repeatHold = 0 ∧ (t.line.port p).queue = [] ∧ (t.line.port p).breakTimer = some (t.count + 200))
      ∧ (∃ e ∈ t.line.own, e.kind = .brk p ∧ e.bytes = frameBytes 0x04 s.station 0 [sideCode p]
          ∧ e.sent p = true ∧ e.sent (otherSide p) = false)
      ∧ (s.noPass → s.heldShort → (∀ e ∈ s.peers, e.side = p → e.freshness ≠ .fresh) → t.port = s.port.raise t.count (.portLost p))
      ∧ (s.port.select = none → s.port.masked 3 = false → (∃ n ∈ t.port.notices, n.body = .portLost p) ∨ t.port.overflow = true)
      ∧ (∀ n e, s.entry n = some e → t.entry n = some (if e.side = p ∧ e.freshness = .fresh then { e with freshness := .stale } else e)) := by
  have hr : (s.upTo d).inRun = true := beq_iff_eq.2 hrun
  have hcount : ((s.upTo d).losePort p).finish.count = (s.upTo d).count := by
    have hline : ((s.upTo d).losePort p).finish.count = (((s.upTo d).lost p).staleSide p).count :=
      (s.upTo d).onlyIn_losePort p .count (by decide)
    rw [hline]
    exact ((State.Raised.refl ((s.upTo d).lost p)).staleSide p).count
  refine ⟨_, exec_silenceTimer htimer, hcount, fun hp => ?_, ?_, ?_, fun hp hh hf => ?_, fun hsel hm => ?_, fun n e he => ?_⟩
  · have hup : (s.upTo d).noPass := hp
    obtain ⟨honly, hact⟩ := hup.losePort hr p
    exact ⟨((s.onlyIn_upTo d).mono (by decide)).trans (honly.mono (by decide)), hact⟩
  · obtain ⟨h1, h2, h3, h4, h5, h6⟩ := State.losePort_lost hr p
    exact ⟨h1, h2, h3, h4, h5, by rw [h6, hcount]; rfl⟩
  · obtain ⟨l, hl, -, hbrk⟩ := State.losePort_standing hr p
    obtain ⟨e, hmem, hkind, hrest⟩ := hbrk hend
    have hown : e ∈ ((s.upTo d).losePort p).line.own := by
      rw [hl]
      cases p <;> exact hmem
    exact ⟨e, State.mem_own_finish hown (by rw [hkind]; nofun), hkind, hrest⟩
  · rw [hcount]
    exact State.losePort_port (s := s.upTo d) hp hh hf
  · exact State.losePort_tells (s := s.upTo d) hsel hm
  · rw [State.losePort_entry (s := s.upTo d) hord, show (s.upTo d).entry n = some e from he]
    rfl

theorem exec_breakTimer {p : Side} {d : Nat} (h : (s.line.port p).breakTimer = some d) :
    exec (.breakTimerExpiry p) s = .next ((s.upTo d).reissueBreak p).finish := by
  have run : exec (.breakTimerExpiry p) s = .next (s.expire (s.line.port p).breakTimer (fun t => t.reissueBreak p)).finish := rfl
  rw [run, h]
  rfl

theorem State.reissueBreak_run {p : Side} (h : s.inRun = true) : s.reissueBreak p = s.onLine (fun l =>
    (l.issue (.brk p) (frameBytes 0x04 s.station 0 [sideCode p])).onPort p (fun r => { r with breakTimer := s.timer Config.breakMs })) := by
  unfold State.reissueBreak
  rw [State.issueBreak_run h]
  rfl

theorem State.break_facts {p : Side} {d : Nat} (hq : s.quiet) (hrun : s.port.mode = .run)
    (htimer : (s.line.port p).breakTimer = some d) (hend : (s.line.port (otherSide p)).chainEnd = false) :
    ∃ t, exec (.breakTimerExpiry p) s = .next t ∧ s.onlyIn t [.count, .line] ∧ t.count = max s.count d
      ∧ (t.line.port p).breakTimer = some (t.count + 200) ∧ (t.line.port p).state = (s.line.port p).state
      ∧ ∃ e ∈ t.line.own, e.kind = .brk p ∧ e.bytes = frameBytes 0x04 s.station 0 [sideCode p]
          ∧ e.sent p = true ∧ e.sent (otherSide p) = false := by
  have hr : (s.upTo d).inRun = true := beq_iff_eq.2 hrun
  have hquiet : ((s.upTo d).reissueBreak p).line.statusDue = false := by
    rw [State.reissueBreak_run hr]
    have hdue := (s.line.issue_timers (.brk p) (frameBytes 0x04 (s.upTo d).station 0 [sideCode p])).2.2.2.2.2.2
    cases p <;> exact hdue.trans hq
  refine ⟨_, exec_breakTimer htimer, ?_⟩
  rw [State.finish_of_quiet hquiet, State.reissueBreak_run hr]
  obtain ⟨e, hmem, hrest⟩ := QuayLine.issue_break hend (frameBytes 0x04 s.station 0 [sideCode p])
  refine ⟨((s.onlyIn_upTo d).mono (by decide)).trans ((State.onlyIn_onLine _ _).mono (by decide)), rfl, ?_, ?_, e, ?_, hrest⟩
  · exact congrArg PortRec.breakTimer (QuayLine.port_onPort_same _ _ _)
  · exact (congrArg PortRec.state (QuayLine.port_onPort_same _ _ _)).trans (s.line.issue_standing _ _ p).1
  · cases p <;> exact hmem

/-! ## A DUST frame of a peer that is FRESH, with no pass under way -/

/-- Where travel is neither MOVING nor HELD it neither changes its state nor calls for a STATUS. -/
def State.Rested (s : State) (v : Travel) (due : Bool) : Prop :=
  s.travel.state ≠ .moving → s.travel.state ≠ .held → v.state = s.travel.state ∧ due = s.line.statusDue

theorem State.heldShort.rangeEvent_rested (h : s.heldShort) :
    ∃ v due, s.rangeEvent.1 = s.traveled v [] due ∧ (s.traveled v [] due).heldShort ∧ s.Rested v due := by
  by_cases hr : s.travel.state ≠ .moving ∧ s.travel.state ≠ .held
  · exact ⟨s.recompute.travel, s.line.statusDue, State.rangeEvent_rests hr.1 hr.2, fun hs => absurd hs hr.2, fun _ _ => ⟨rfl, rfl⟩⟩
  · obtain ⟨v, due, hv, hs⟩ := h.rangeEvent
    exact ⟨v, due, hv, hs, fun h1 h2 => absurd ⟨h1, h2⟩ hr⟩

/-- The table and the peers' dust written anew. -/
def State.tabled (s : State) (peers : List PeerEntry) (records : List PeerDust) : State :=
  { s with peers := peers, dust := { s.dust with peers := records } }

theorem State.hear_dust {p : Side} {f : Frame} {k : DustClass} {h : Option (Slot × Nat)} {e : PeerEntry} (hp : x.noPass) (hh : x.heldShort)
    (hord : x.peersOrdered) (hc : f.content = .dust k h) (he : x.entry f.origin = some e) (hside : e.side = p)
    (hfresh : e.freshness = .fresh) (hknown : positionKnown e.report = true) :
    ∃ v due, x.hear p f = (x.tabled (setEntry (x.recorded e f) x.peers) (setPeerDust ⟨e.station, k, h, .fresh⟩ x.dust.peers)).traveled v [] due
      ∧ x.Rested v due := by
  have hstays : (x.recorded e f).freshness = .fresh := by
    unfold State.recorded
    rw [hc]
    exact if_pos hknown
  obtain ⟨w, hw⟩ : ∃ w, w = x.tabled (setEntry (x.recorded e f) x.peers) (setPeerDust ⟨e.station, k, h, .fresh⟩ x.dust.peers) := ⟨_, rfl⟩
  have hheard : x.hear p f = w.afterPeers x false := by
    unfold State.hear
    rw [he]
    dsimp only
    rw [if_neg (by rw [hfresh]; nofun), if_pos hside, State.putEntry, if_pos (hstays.trans hfresh.symm), hc, hw]
    unfold State.handOn
    rw [hstays]
    rfl
  have hpeers : w.peers = setEntry (x.recorded e f) x.peers := by rw [hw]; rfl
  have hfr : w.freshnesses = x.freshnesses := by
    unfold State.freshnesses
    rw [hpeers]
    have hst : (x.recorded e f).station = f.origin := (State.entry_some he).1
    refine setEntry_map _ _ hord (old := e) ?_ ?_
    · rw [hst]
      exact he
    · exact Prod.ext rfl (hstays.trans hfresh.symm)
  have hwp : w.noPass := by rw [hw]; exact hp
  have hwh : w.heldShort := by rw [hw]; exact hh
  obtain ⟨v, due, hv, -, hrest⟩ := hwh.rangeEvent_rested
  refine ⟨v, due, ?_, ?_⟩
  · rw [hheard, hwp.afterPeers, State.remarked_same hfr, hv, hw]
  · rw [hw] at hrest
    exact hrest

/-! ## The restore count (R59) -/

theorem QuayLine.onPort_same (l : QuayLine) (p : Side) {f : PortRec → PortRec} (h : f (l.port p) = l.port p) : l.onPort p f = l := by
  cases p
  · exact congrArg (fun r => { l with up := r }) h
  · exact congrArg (fun r => { l with down := r }) h

/-- A frame taken on a LOST port is not repeated. -/
theorem State.takeFrame_lost {p : Side} (h : (s.line.port p).state = .lost) (bytes : List Byte) (f : Frame) :
    s.takeFrame p bytes f = (s.countRestore p f.hop).hear p f := by
  have hheard : s.onLine (fun l => l.onPort p (fun r => r.hear (s.timer Config.silenceMs))) = s := by
    have hid := QuayLine.onPort_same s.line p (f := fun r => r.hear (s.timer Config.silenceMs)) (if_neg (by rw [h]; nofun))
    exact congrArg (fun l => { s with line := l }) hid
  have hno : s.line.repeats p f.hop = false := by
    refine Bool.eq_false_iff.2 fun hr => ?_
    have hup := (QuayLine.repeats_iff p f.hop |>.1 hr).2.1
    exact absurd (h.symm.trans hup) (by decide)
  unfold State.takeFrame
  dsimp only
  rw [hheard, hno]
  rfl

theorem State.countRestore_direct {p : Side} (h : (s.line.port p).state = .lost) (hc : (s.line.port p).restoreCount < 2) :
    s.countRestore p 0 = s.onLine (fun l => l.onPort p (fun r => { r with restoreCount := r.restoreCount + 1 })) := by
  unfold State.countRestore
  rw [if_pos h, if_pos rfl, if_pos (by show _ < 3; omega)]

theorem State.countRestore_repeated {p : Side} {hop : Nat} (h : (s.line.port p).state = .lost) (hc : hop ≠ 0) :
    s.countRestore p hop = s.onLine (fun l => l.onPort p (fun r => { r with restoreCount := 0 })) := by
  unfold State.countRestore
  rw [if_pos h, if_neg hc]

theorem State.countRestore_third {p : Side} (h : (s.line.port p).state = .lost) (hc : (s.line.port p).restoreCount = 2) :
    s.countRestore p 0 = s.restore p := by
  unfold State.countRestore
  rw [if_pos h, if_pos rfl, if_neg (by rw [hc]; nofun)]

theorem State.restoredLine_port {p : Side} (hend : (s.line.port p).chainEnd = false) : ∃ n, (s.restoredLine p).port p
    = { s.line.port p with state := .up, restoreCount := 0, repeatHold := 3, breakTimer := none, silenceTimer := some (s.count + 600)
                           passOver := n } := by
  obtain ⟨n, -, hn⟩ := QuayLine.port_settle_form (l := ({ s.line with own := s.line.own.filter (fun e => e.kind != .brk p) } : QuayLine).onPort p
    (fun r => ({ r with state := .up, restoreCount := 0, repeatHold := Config.restoreFrames, breakTimer := none } :
      PortRec).startSilence (s.timer Config.silenceMs))) p
  refine ⟨n, ?_⟩
  unfold State.restoredLine
  rw [hn, QuayLine.port_onPort_same]
  have hport : QuayLine.port { s.line with own := s.line.own.filter (fun e => e.kind != .brk p) } p = s.line.port p := by cases p <;> rfl
  unfold PortRec.startSilence
  rw [hport, if_neg (by rw [hend]; nofun)]
  rfl

theorem State.restoredLine_own {p : Side} {o : OwnEntry} (h : o ∈ (s.restoredLine p).own) : o.kind ≠ .brk p := by
  unfold State.restoredLine at h
  rw [QuayLine.settle_own] at h
  have hmem : o ∈ s.line.own.filter (fun e => e.kind != .brk p) := by
    cases p <;> exact h
  simpa using (List.mem_filter.1 hmem).2

theorem mem_enterOwn_iff_or {e q : OwnEntry} {queue : List OwnEntry} (h : q ∈ enterOwn e queue) : q = e ∨ q ∈ queue := by
  unfold enterOwn at h
  split at h
  · exact .inr h
  · split at h
    · obtain ⟨r, hr, hq⟩ := List.mem_map.1 h
      split at hq
      · exact .inl hq.symm
      · exact .inr (hq ▸ hr)
    · split at h
      · simp only [List.mem_append, List.mem_singleton, List.mem_filter] at h
        tauto
      · simp only [List.mem_append, List.mem_singleton] at h
        tauto

theorem State.kind_finish {o : OwnEntry} (h : o ∈ s.finish.line.own) : o.kind = .status ∨ o ∈ s.line.own := by
  unfold State.finish at h
  split at h
  · split at h
    · split at h
      · exact .inr h
      · have hi : o ∈ (s.line.issue .status (frameBytes 0x01 s.station 0 (s.report .run).payload)).own := h
        rw [(s.line.issue_timers .status _).1] at hi
        exact (mem_enterOwn_iff_or hi).imp_left fun he => congrArg OwnEntry.kind he
    · exact .inr h
  · exact .inr h

theorem PortRec.Standing.eq {r q : PortRec} (h : r.Standing q) :
    q = { r with passOver := q.passOver, sending := q.sending, queue := q.queue } := by
  obtain ⟨h1, h2, h3, h4, h5, h6, h7, h8, -⟩ := h
  cases q
  cases r
  simp_all

theorem QuayLine.settle_due (l : QuayLine) : l.settlePassOver.statusDue = l.statusDue := by
  rw [l.settlePassOver_takenOnly.rest]

theorem State.restoredLine_due (s : State) (p : Side) : (s.restoredLine p).statusDue = s.line.statusDue := by
  unfold State.restoredLine
  rw [QuayLine.settle_due]
  cases p <;> rfl

/-- A port restored, with its notice. -/
def State.restored (s : State) (p : Side) : State := ({ s with line := s.restoredLine p } : State).notify (.portRestored p)

/-- The third frame in a row, where it is a DUST of a peer that is FRESH and no pass is under way: the part but for the end of the
command. -/
theorem State.restore_dust {p : Side} {f : Frame} {k : DustClass} {h : Option (Slot × Nat)} {e : PeerEntry} (hp : s.noPass) (hh : s.heldShort)
    (hord : s.peersOrdered) (hc : f.content = .dust k h) (he : s.entry f.origin = some e) (hside : e.side = p)
    (hfresh : e.freshness = .fresh) (hknown : positionKnown e.report = true) :
    ∃ v due peers records, (s.restore p).hear p f = ((s.restored p).tabled peers records).traveled v [] due
      ∧ (s.travel.state ≠ .moving → s.travel.state ≠ .held → due = s.line.statusDue) := by
  have hyp : (s.restored p).noPass := hp
  have hyh : (s.restored p).heldShort := hh
  obtain ⟨v, due, hv, hshort, hrest⟩ := hyh.rangeEvent_rested
  have hx : s.restore p = (s.restored p).traveled v [] due := by
    rw [s.restore_eq]
    exact (hyp.travelEvent).trans hv
  obtain ⟨v', due', hv', hrest'⟩ := State.hear_dust (x := (s.restored p).traveled v [] due) hp hshort hord hc he hside hfresh hknown
  refine ⟨v', due', setEntry (((s.restored p).traveled v [] due).recorded e f) s.peers, setPeerDust ⟨e.station, k, h, .fresh⟩ s.dust.peers,
    by rw [hx, hv']; rfl, fun h1 h2 => ?_⟩
  obtain ⟨hs, hd⟩ := hrest h1 h2
  have hd' : due' = due := (hrest' (fun hm => h1 (hs ▸ hm)) (fun hm => h2 (hs ▸ hm))).2
  rw [hd', hd]
  exact s.restoredLine_due p

theorem State.restore_facts {p : Side} {f : Frame} {k : DustClass} {h : Option (Slot × Nat)} {e : PeerEntry} (hq : s.quiet) (hp : s.noPass)
    (hh : s.heldShort) (hord : s.peersOrdered) (hend : (s.line.port p).chainEnd = false) (hc : f.content = .dust k h)
    (he : s.entry f.origin = some e) (hside : e.side = p) (hfresh : e.freshness = .fresh) (hknown : positionKnown e.report = true) :
    ∃ t, ((s.restore p).hear p f).finish = t ∧ s.onlyIn t [.port, .line, .peers, .travel, .dust]
      ∧ t.line.port p = { s.line.port p with
          state := .up, restoreCount := 0, repeatHold := 3, breakTimer := none, silenceTimer := some (s.count + 600)
          passOver := (t.line.port p).passOver, sending := (t.line.port p).sending, queue := (t.line.port p).queue }
      ∧ ((s.travel.state ≠ .moving ∧ s.travel.state ≠ .held) ∨ (s.line.port p).sending.isSome →
        (t.line.port p).sending = (s.line.port p).sending ∧ (t.line.port p).queue = (s.line.port p).queue)
      ∧ (∀ o ∈ t.line.own, o.kind ≠ .brk p) ∧ t.port = s.port.raise s.count (.portRestored p) := by
  obtain ⟨v, due, peers, records, hheard, hrest⟩ := State.restore_dust hp hh hord hc he hside hfresh hknown
  obtain ⟨u, hu⟩ : ∃ u, u = ((s.restored p).tabled peers records).traveled v [] due := ⟨_, rfl⟩
  obtain ⟨n, hn⟩ := State.restoredLine_port hend
  have hline : u.line = { s.restoredLine p with statusDue := due } := by rw [hu]; rfl
  have hport : u.line.port p = { s.line.port p with
      state := .up, restoreCount := 0, repeatHold := 3, breakTimer := none, silenceTimer := some (s.count + 600), passOver := n } := by
    rw [hline, ← hn]
    cases p <;> rfl
  refine ⟨u.finish, by rw [hheard, hu], ?_, ?_, fun hsteady => ?_, fun o ho => ?_, ?_⟩
  · refine State.onlyIn.trans (t := u) ?_ ((State.onlyIn_finish u).mono (by decide))
    rw [hu]
    intro b hb
    cases b <;> first | rfl | simp at hb
  · have hst := (u.finish_standing p).eq
    rw [hport] at hst
    exact hst
  · rcases hsteady with ⟨h1, h2⟩ | hsend
    · have hdue : u.line.statusDue = false := by
        rw [hline]
        exact (hrest h1 h2).trans hq
      rw [State.finish_of_quiet hdue, hport]
      exact ⟨rfl, rfl⟩
    · obtain ⟨hqueue, -, hsending⟩ := State.finish_steady (s := u) (p := p) (by rw [hport]; exact hsend)
      rw [hqueue, hsending, hport]
      exact ⟨rfl, rfl⟩
  · rcases State.kind_finish ho with hk | ho
    · rw [hk]
      nofun
    · rw [hline] at ho
      exact State.restoredLine_own ho
  · rw [State.finish_port, hu]
    rfl

/-- A DUST frame on a line with one port's restore count changed, the port being LOST. -/
theorem State.counted_dust {p : Side} {n : Nat} {f : Frame} {k : DustClass} {h : Option (Slot × Nat)} {e : PeerEntry} (hp : s.noPass)
    (hh : s.heldShort) (hord : s.peersOrdered) (hc : f.content = .dust k h)
    (he : s.entry f.origin = some e) (hside : e.side = p) (hfresh : e.freshness = .fresh) (hknown : positionKnown e.report = true) {t : State}
    (ht : t = ((s.onLine (fun l => l.onPort p (fun r => { r with restoreCount := n }))).hear p f).finish) :
    (t.line.port p).state = (s.line.port p).state ∧ (t.line.port p).restoreCount = n ∧ t.port = s.port := by
  obtain ⟨v, due, hv, -⟩ := State.hear_dust (x := s.onLine (fun l => l.onPort p (fun r => { r with restoreCount := n }))) hp hh hord hc he
    hside hfresh hknown
  rw [hv] at ht
  obtain ⟨w, hw⟩ : ∃ w, w = ((s.onLine (fun l => l.onPort p (fun r => { r with restoreCount := n }))).tabled
    (setEntry ((s.onLine (fun l => l.onPort p (fun r => { r with restoreCount := n }))).recorded e f) s.peers)
    (setPeerDust ⟨e.station, k, h, .fresh⟩ s.dust.peers)).traveled v [] due := ⟨_, rfl⟩
  have hport : w.line.port p = { s.line.port p with restoreCount := n } := by
    rw [hw]
    cases p <;> rfl
  have htw : t = w.finish := by rw [ht, hw]; rfl
  obtain ⟨hstate, -, -, -, -, -, hcount, -, -⟩ := w.finish_standing p
  rw [htw, hstate, hcount, hport, State.finish_port, hw]
  exact ⟨rfl, rfl, rfl⟩

/-! ## The stale timer (R71) -/

/-- An entry whose stale timer has expired. -/
def PeerEntry.expired (e : PeerEntry) : PeerEntry :=
  { e with staleTimer := none, freshness := if e.freshness = .fresh then .stale else e.freshness }

/-- The table with the entry that has expired. -/
def State.expired (s : State) (e : PeerEntry) : State := (s.onPeers (setEntry { e with staleTimer := none })).goStale { e with staleTimer := none }

theorem State.staleExpiry_eq (s : State) (e : PeerEntry) : s.staleExpiry e = (s.expired e).afterPeers s false := rfl

theorem State.expired_fresh {e : PeerEntry} (h : e.freshness = .fresh) :
    s.expired e = (s.onPeers (setEntry { e with staleTimer := none })).putChanged e.expired := by
  unfold State.expired State.goStale PeerEntry.expired
  rw [if_pos h, if_pos h]

theorem State.expired_other {e : PeerEntry} (h : e.freshness ≠ .fresh) : s.expired e = s.onPeers (setEntry e.expired) := by
  unfold State.expired State.goStale PeerEntry.expired
  rw [if_neg h, if_neg h]

theorem State.entry_expired (s : State) (e : PeerEntry) (n : Nat) :
    (s.expired e).entry n = if e.station = n then some e.expired else s.entry n := by
  by_cases h : e.freshness = .fresh
  · rw [State.expired_fresh h, State.entry_putChanged]
    rw [show (s.onPeers (setEntry { e with staleTimer := none })).entry n = _ from State.entry_setEntry s _ n]
    show (if e.station = n then some e.expired else if e.station = n then _ else s.entry n) = _
    split <;> rfl
  · rw [State.expired_other h]
    exact State.entry_setEntry s _ n

theorem State.onlyIn_expired (s : State) (e : PeerEntry) : s.onlyIn (s.expired e) [.peers, .port, .dust] := by
  by_cases h : e.freshness = .fresh
  · rw [State.expired_fresh h]
    refine State.onlyIn.trans (t := s.onPeers (setEntry { e with staleTimer := none })) ?_ (State.onlyIn_putChanged _ _)
    intro b hb
    cases b <;> first | rfl | simp at hb
  · rw [State.expired_other h]
    intro b hb
    cases b <;> first | rfl | simp at hb

theorem State.expired_tableOnly (s : State) (e : PeerEntry) : s.TableOnly (s.expired e) := ((State.TableOnly.refl s).onPeers _).goStale _

theorem exec_peerStaleTimer {n d : Nat} {e : PeerEntry} (he : s.entry n = some e) (ht : e.staleTimer = some d) :
    exec (.peerStaleTimerExpiry n) s = .next ((s.upTo d).staleExpiry e).finish := by
  have run : exec (.peerStaleTimerExpiry n) s = (match s.entry n with
    | some e => .next (s.expire e.staleTimer (fun t => t.staleExpiry e)).finish
    | none => .next s.finish) := rfl
  rw [run, he]
  dsimp only
  rw [ht]
  rfl

theorem State.stale_freshnesses {e : PeerEntry} (hord : s.peersOrdered) (he : s.entry e.station = some e) (h : e.freshness ≠ .fresh) :
    (s.expired e).freshnesses = s.freshnesses := by
  rw [State.expired_other h]
  exact setEntry_map (fun e => (e.station, e.freshness)) e.expired hord (old := e) he (Prod.ext rfl (if_neg h))

/-- What follows of an expiry that changes no freshness: travel's act alone. -/
theorem State.stale_unchanged {e : PeerEntry} (hp : s.noPass) (hh : s.heldShort) (hord : s.peersOrdered) (he : s.entry e.station = some e)
    (h : e.freshness ≠ .fresh) : ∃ v due, s.staleExpiry e = (s.onPeers (setEntry e.expired)).traveled v [] due := by
  have hkept := State.stale_freshnesses hord he h
  rw [State.expired_other h] at hkept
  have hwp : (s.onPeers (setEntry e.expired)).noPass := hp
  have hwh : (s.onPeers (setEntry e.expired)).heldShort := hh
  obtain ⟨v, due, hv, -⟩ := hwh.rangeEvent
  refine ⟨v, due, ?_⟩
  rw [s.staleExpiry_eq, State.expired_other h, hwp.afterPeers, State.remarked_same hkept, hv]

theorem State.staleExpiry_line (s : State) (e : PeerEntry) : s.LineKept (s.staleExpiry e) :=
  (s.expired_tableOnly e).line.trans (State.afterPeers_line _ _ _)

theorem State.noPass.staleExpiry (h : s.noPass) (e : PeerEntry) :
    s.onlyIn (s.staleExpiry e).finish [.port, .line, .peers, .travel, .dust, .berths] ∧ s.rangeActed (s.staleExpiry e).finish := by
  have hw := s.onlyIn_expired e
  have hfill : (s.expired e).fill = s.fill := hw .fill (by decide)
  have hp : (s.expired e).noPass := h.congr (hw .pour (by decide)) (congrArg Fill.claim hfill)
  refine ⟨((hw.mono (by decide)).trans (hp.onlyIn_afterPeers (by decide) _ _)).trans ((State.onlyIn_finish _).mono (by decide)),
    h.tableActed (hw.mono (by decide)) (congrArg Fill.claim hfill) (State.onlyIn_finish _) fun q => ?_⟩
  have hkept : State.LineKept (s.expired e) (s.staleExpiry e) := State.afterPeers_line _ _ _
  rw [((s.staleExpiry e).finish_standing q).2.1, hkept]
  exact (QuayLine.standing_mark _ _ q).2.1

/-- A stale timer finds travel at rest: the line stays. -/
theorem State.staleExpiry_rests {e : PeerEntry} (hq : s.quiet) (h : s.noPass) (h1 : s.travel.state ≠ .moving) (h2 : s.travel.state ≠ .held) :
    (s.staleExpiry e).finish.line = s.line := by
  have hw := s.onlyIn_expired e
  have hfill : (s.expired e).fill = s.fill := hw .fill (by decide)
  have hp : (s.expired e).noPass := h.congr (hw .pour (by decide)) (congrArg Fill.claim hfill)
  have hm := (s.expired e).onlyIn_remarked s false
  have hboth : s.onlyIn ((s.expired e).remarked s false) [.peers, .port, .dust, .berths] := (hw.mono (by decide)).trans (hm.mono (by decide))
  have htravel : ((s.expired e).remarked s false).travel = s.travel := hboth .travel (by decide)
  have hline : ((s.expired e).remarked s false).line = s.line := hboth .line (by decide)
  have hrest : (s.staleExpiry e).line = s.line := by
    rw [s.staleExpiry_eq, hp.afterPeers, State.rangeEvent_rests (by rw [htravel]; exact h1) (by rw [htravel]; exact h2)]
    exact hline
  rw [State.finish_of_quiet (by rw [hrest]; exact hq), hrest]

theorem State.staleExpiry_dust (s : State) (e : PeerEntry) : (s.staleExpiry e).finish.dust = (s.expired e).dust := by
  rw [State.finish_dust, s.staleExpiry_eq, (State.afterPeers_kept _ _ _).dust]
  exact (State.onlyIn_remarked _ _ _ .dust (by decide))

theorem State.expired_dust {e : PeerEntry} (h : e.freshness = .fresh) {q : PeerDust} (hq : q ∈ (s.expired e).dust.peers)
    (hs : q.station = e.station) : q.freshness = .stale := by
  rw [State.expired_fresh h] at hq
  have hmem : q ∈ setPeerDustFreshness e.station e.expired.freshness s.dust.peers := hq
  unfold setPeerDustFreshness at hmem
  obtain ⟨r, -, hr⟩ := List.mem_map.1 hmem
  split at hr
  · rw [← hr]
    exact if_pos h
  · rename_i hne
    exact absurd (hr ▸ hs) hne

theorem State.stale_facts {n d : Nat} {e : PeerEntry} (hq : s.quiet) (hord : s.peersOrdered) (he : s.entry n = some e)
    (ht : e.staleTimer = some d) :
    ∃ t, exec (.peerStaleTimerExpiry n) s = .next t ∧ t.count = max s.count d
      ∧ (s.noPass → s.onlyIn t [.count, .port, .line, .peers, .travel, .dust, .berths] ∧ s.rangeActed t)
      ∧ (s.noPass → s.travel.state ≠ .moving → s.travel.state ≠ .held → t.line = s.line)
      ∧ t.port.mode = s.port.mode ∧ t.port.mailbox = s.port.mailbox
      ∧ t.entry n = some { e with staleTimer := none, freshness := if e.freshness = .fresh then .stale else e.freshness }
      ∧ (∀ m, m ≠ n → t.entry m = s.entry m)
      ∧ (s.noPass → s.heldShort → e.freshness ≠ .fresh → t.port = s.port ∧ t.berths = s.berths ∧ t.dust = s.dust)
      ∧ (e.freshness = .fresh → ∀ q ∈ t.dust.peers, q.station = n → q.freshness = .stale) := by
  obtain ⟨hst, -⟩ := State.entry_some he
  have hent : ∀ m, ((s.upTo d).staleExpiry e).finish.entry m = if e.station = m then some e.expired else s.entry m := fun m => by
    rw [State.finish_entry, State.staleExpiry_eq, State.entry_afterPeers]
    exact State.entry_expired _ e m
  have hraised : (s.upTo d).Raised ((s.upTo d).staleExpiry e) :=
    (((State.Raised.refl (s.upTo d)).onPeers _).goStale _).afterPeers _ _
  obtain ⟨bodies, hbodies⟩ := hraised.port
  have hkept := LocalPort.raiseAll_kept s.port (s.upTo d).count bodies
  refine ⟨_, exec_peerStaleTimer he ht, ?_, fun hp => ?_, fun hp h1 h2 => ?_, ?_, ?_, ?_, fun m hm => ?_, fun hp hh hf => ?_, fun hf q hmem hs => ?_⟩
  · rw [State.finish_count]
    exact hraised.count
  · have hup : (s.upTo d).noPass := hp
    obtain ⟨honly, hact⟩ := hup.staleExpiry e
    exact ⟨((s.onlyIn_upTo d).mono (by decide)).trans (honly.mono (by decide)), hact⟩
  · exact State.staleExpiry_rests (s := s.upTo d) hq hp h1 h2
  · rw [State.finish_port, hbodies]
    exact hkept.mode
  · rw [State.finish_port, hbodies]
    exact hkept.mailbox
  · rw [hent, if_pos hst]
    rfl
  · rw [hent, if_neg (fun hn => hm (hn.symm.trans hst))]
  · obtain ⟨v, due, hv⟩ := State.stale_unchanged (s := s.upTo d) hp hh hord (by rw [hst]; exact he) hf
    rw [hv, State.finish_port, State.finish_berths, State.finish_dust]
    exact ⟨rfl, rfl, rfl⟩
  · rw [State.staleExpiry_dust] at hmem
    exact State.expired_dust hf hmem (hs.trans hst.symm)

end Sys2Proof.Machine

open Sys2Proof Sys2Proof.Machine

/-- Settles O54. A loss and a stale timer are a change of the Peer Table and what follows from it; a restore is the port's record
written anew and two acts of travel. -/
theorem silentPortIsLostAndItsPeersGoStale : Obligations.SilentPortIsLostAndItsPeersGoStale := by
  unfold Obligations.SilentPortIsLostAndItsPeersGoStale
  refine ⟨⟨fun s p d _ hrun hord htimer hend => State.silence_facts hrun hord htimer hend,
    fun s p d hq hrun htimer hend => State.break_facts hq hrun htimer hend,
    fun s c p bytes f k h e hq hframe hrun hread hother hp hh hord hlost hend hc he hside hfresh hknown => ?_⟩,
    fun s n d e hq hord he ht => State.stale_facts hq hord he ht⟩
  have run : exec c s = .next ((s.countRestore p f.hop).hear p f).finish := by
    rw [exec_frame_taken hframe hrun hread hother, State.takeFrame_lost hlost]
  refine ⟨fun hhop hcount => ?_, _, run, fun hhop hcount => ?_, fun hhop => ?_⟩
  · obtain ⟨t, ht, hfacts⟩ := State.restore_facts hq hp hh hord hend hc he hside hfresh hknown
    rw [run, hhop, State.countRestore_third hlost hcount, ht]
    exact ⟨t, rfl, hfacts⟩
  · rw [hhop, State.countRestore_direct hlost hcount]
    have hn : s.onLine (fun l => l.onPort p (fun r => { r with restoreCount := r.restoreCount + 1 }))
        = s.onLine (fun l => l.onPort p (fun r => { r with restoreCount := (s.line.port p).restoreCount + 1 })) := by
      cases p <;> rfl
    obtain ⟨hstate, hnumber, hport⟩ := State.counted_dust (n := (s.line.port p).restoreCount + 1) hp hh hord hc he hside hfresh hknown rfl
    rw [hn]
    exact ⟨hstate.trans hlost, hnumber, hport⟩
  · rw [State.countRestore_repeated hlost hhop]
    obtain ⟨hstate, hnumber, hport⟩ := State.counted_dust (n := 0) hp hh hord hc he hside hfresh hknown rfl
    exact ⟨hstate.trans hlost, hnumber, hport⟩

end

section
/-! Frames at the Peer Table (sections 3.2, 3.3, 4.3 and 4.4): O49. -/

namespace Sys2Proof.Machine

variable {s t u w x : State}

/-! ## The arrival of a frame, before the table -/

/-- A frame taken, but for the table: the silence timer, the restore count and the repeat (R49). -/
def State.arrived (s : State) (p : Side) (bytes : List Byte) (f : Frame) : State :=
  let counted := (s.onLine (fun l => l.onPort p (fun r => r.hear (s.timer Config.silenceMs)))).countRestore p f.hop
  if s.line.repeats p f.hop then counted.offer (otherSide p) (repeatedCopy bytes) else counted

theorem State.takeFrame_eq (s : State) (p : Side) (bytes : List Byte) (f : Frame) : s.takeFrame p bytes f = (s.arrived p bytes f).hear p f := rfl

theorem PortRec.hear_chainEnd (r : PortRec) (d : Timer) : (r.hear d).chainEnd = r.chainEnd := by
  unfold PortRec.hear
  split <;> rfl

theorem QuayLine.onPort_chainEnd (l : QuayLine) (p : Side) {f : PortRec → PortRec} (h : ∀ r, (f r).chainEnd = r.chainEnd) (q : Side) :
    ((l.onPort p f).port q).chainEnd = (l.port q).chainEnd := by
  cases p <;> cases q <;> first | rfl | exact h _

theorem QuayLine.takeBoth_chainEnd (l : QuayLine) (q : Side) : (l.takeBoth.port q).chainEnd = (l.port q).chainEnd := by
  obtain ⟨⟨f, r, n, hu⟩, ⟨f', r', n', hd⟩, -⟩ := QuayLine.takeBoth_takenOnly l
  cases q
  · rw [show l.takeBoth.port .up = l.takeBoth.up from rfl, hu]
    rfl
  · rw [show l.takeBoth.port .down = l.takeBoth.down from rfl, hd]
    rfl

/-- The line and the Local Port written anew. -/
def State.wired (s : State) (l : QuayLine) (q : LocalPort) : State := { s with line := l, port := q }

/-- A line of the same chain ends and the same mark of a status change. -/
def QuayLine.Alike (l m : QuayLine) : Prop := (∀ q, (m.port q).chainEnd = (l.port q).chainEnd) ∧ m.statusDue = l.statusDue

theorem QuayLine.Alike.onPort (l : QuayLine) (p : Side) {f : PortRec → PortRec} (h : ∀ r, (f r).chainEnd = r.chainEnd) : l.Alike (l.onPort p f) :=
  ⟨l.onPort_chainEnd p h, by cases p <;> rfl⟩

theorem QuayLine.Alike.takeBoth {l m : QuayLine} (h : l.Alike m) : l.Alike m.takeBoth :=
  ⟨fun q => (m.takeBoth_chainEnd q).trans (h.1 q), by rw [m.takeBoth_takenOnly.rest]; exact h.2⟩

theorem QuayLine.Alike.trans {l m n : QuayLine} (h : l.Alike m) (k : m.Alike n) : l.Alike n :=
  ⟨fun q => (k.1 q).trans (h.1 q), k.2.trans h.2⟩

theorem PortRec.offer_chainEnd (r : PortRec) (bytes : List Byte) : (r.offer bytes).chainEnd = r.chainEnd := by
  unfold PortRec.offer
  split <;> rfl

/-- A frame that arrives on a port that is not LOST changes the line alone, but for the notice of a repeat that is dropped. -/
theorem State.arrived_open {p : Side} (h : (s.line.port p).state ≠ .lost) (bytes : List Byte) (f : Frame) :
    ∃ l q, s.arrived p bytes f = s.wired l q ∧ s.port.Kept q ∧ s.line.Alike l
      ∧ ((s.line.port (otherSide p)).queue.length < 4 → q = s.port) := by
  obtain ⟨u, hu⟩ : ∃ u, u = s.onLine (fun l => l.onPort p (fun r => r.hear (s.timer Config.silenceMs))) := ⟨_, rfl⟩
  have hline : s.line.Alike u.line := by
    rw [hu]
    exact QuayLine.Alike.onPort _ _ (fun r => r.hear_chainEnd _)
  have hother : u.line.port (otherSide p) = s.line.port (otherSide p) := by
    rw [hu]
    exact s.line.port_onPort_other p _
  have hstate : (u.line.port p).state ≠ .lost := by
    have hp : u.line.port p = (s.line.port p).hear (s.timer Config.silenceMs) := by
      rw [hu]
      exact s.line.port_onPort_same p _
    rw [hp]
    unfold PortRec.hear PortRec.startSilence
    split <;> exact h
  have hcount : u.countRestore p f.hop = u := if_neg hstate
  have hwired : ∀ l, u.onLine (fun _ => l) = s.wired l s.port := fun l => by rw [hu]; rfl
  unfold State.arrived
  dsimp only
  rw [← hu, hcount]
  split
  · unfold State.offer
    dsimp only
    have offered : s.line.Alike ((u.line.onPort (otherSide p) (fun r => r.offer (repeatedCopy bytes))).takeBoth) :=
      (hline.trans (QuayLine.Alike.onPort _ _ (fun r => r.offer_chainEnd _))).takeBoth
    split
    · exact ⟨_, s.port, hwired _, .refl _, offered, fun _ => rfl⟩
    · rename_i hfull
      obtain ⟨m, hm⟩ : ∃ m, m = (u.line.onPort (otherSide p) (fun r => r.offer (repeatedCopy bytes))).takeBoth := ⟨_, rfl⟩
      refine ⟨m, s.port.raise s.count (.repeatOverflow (otherSide p) (m.port (otherSide p)).overflows), ?_, s.port.raise_kept _ _,
        hm ▸ offered, fun hroom => ?_⟩
      · rw [hm, hu]
        rfl
      exact absurd (hother ▸ hroom) hfull
  · exact ⟨u.line, s.port, hwired u.line, .refl _, hline, fun _ => rfl⟩

theorem State.arrived_lost {p : Side} (h : (s.line.port p).state = .lost) (bytes : List Byte) (f : Frame) :
    s.arrived p bytes f = s.countRestore p f.hop := by
  have hheard : s.onLine (fun l => l.onPort p (fun r => r.hear (s.timer Config.silenceMs))) = s := by
    have hid := QuayLine.onPort_same s.line p (f := fun r => r.hear (s.timer Config.silenceMs)) (if_neg (by rw [h]; nofun))
    exact congrArg (fun l => { s with line := l }) hid
  have hno : s.line.repeats p f.hop = false := by
    refine Bool.eq_false_iff.2 fun hr => ?_
    have hup := (QuayLine.repeats_iff p f.hop |>.1 hr).2.1
    exact absurd (h.symm.trans hup) (by decide)
  unfold State.arrived
  dsimp only
  rw [hheard, hno]
  rfl

theorem State.restoredLine_alike (s : State) (p : Side) : s.line.Alike (s.restoredLine p) := by
  refine ⟨fun q => ?_, s.restoredLine_due p⟩
  obtain ⟨n, -, hn⟩ := QuayLine.port_settle_form (l := ({ s.line with own := s.line.own.filter (fun e => e.kind != .brk p) } : QuayLine).onPort p
    (fun r => ({ r with state := .up, restoreCount := 0, repeatHold := Config.restoreFrames, breakTimer := none } :
      PortRec).startSilence (s.timer Config.silenceMs))) q
  unfold State.restoredLine
  rw [hn]
  have hsame : (QuayLine.port { s.line with own := s.line.own.filter (fun e => e.kind != .brk p) } q) = s.line.port q := by cases q <;> rfl
  rw [← hsame]
  cases p <;> cases q <;> rfl

/-- A frame that arrives changes the line, the queue of notices, and, where it restores a port, what travel's act on the range reaches. -/
theorem State.arrived_form (s : State) (p : Side) (bytes : List Byte) (f : Frame) :
    ∃ l q, s.port.Kept q ∧ s.line.Alike l ∧ (s.wired l q).PourKept (s.arrived p bytes f)
      ∧ (s.noPass → s.onlyIn (s.arrived p bytes f) [.port, .line, .travel]) := by
  have still : ∀ l q, s.arrived p bytes f = s.wired l q → s.onlyIn (s.arrived p bytes f) [.port, .line, .travel] := by
    intro l q he
    rw [he]
    intro b hb
    cases b <;> first | rfl | simp at hb
  by_cases h : (s.line.port p).state = .lost
  · have halike : ∀ n, s.line.Alike (s.line.onPort p (fun r => { r with restoreCount := n })) :=
      fun n => QuayLine.Alike.onPort _ _ (fun _ => rfl)
    have counted : ∀ n, s.arrived p bytes f = s.wired (s.line.onPort p (fun r => { r with restoreCount := n })) s.port →
        ∃ l q, s.port.Kept q ∧ s.line.Alike l ∧ (s.wired l q).PourKept (s.arrived p bytes f)
          ∧ (s.noPass → s.onlyIn (s.arrived p bytes f) [.port, .line, .travel]) :=
      fun n he => ⟨_, _, .refl _, halike n, by rw [he]; exact .refl _, fun _ => still _ _ he⟩
    have harr := State.arrived_lost h bytes f
    by_cases hhop : f.hop = 0
    · by_cases hc : (s.line.port p).restoreCount + 1 < Config.restoreFrames
      · refine counted ((s.line.port p).restoreCount + 1) ?_
        rw [harr]
        unfold State.countRestore
        rw [if_pos h, if_pos hhop, if_pos hc]
        cases p <;> rfl
      · have hres : s.arrived p bytes f = s.restore p := by
          rw [harr]
          unfold State.countRestore
          rw [if_pos h, if_pos hhop, if_neg hc]
        rw [hres, s.restore_eq]
        refine ⟨s.restoredLine p, s.port.raise s.count (.portRestored p), s.port.raise_kept _ _, s.restoredLine_alike p,
          (State.PourKept.refl _).travelEvent, fun hp => ?_⟩
        have hy : (({ s with line := s.restoredLine p } : State).notify (.portRestored p)).noPass := hp
        rw [hy.travelEvent]
        refine State.onlyIn.trans (t := ({ s with line := s.restoredLine p } : State).notify (.portRestored p)) ?_
          ((State.onlyIn_rangeEvent _).mono (by decide))
        intro b hb
        cases b <;> first | rfl | simp at hb
    · exact counted 0 (harr.trans (State.countRestore_repeated h hhop))
  · obtain ⟨l, q, he, hq, hl, -⟩ := State.arrived_open h bytes f
    exact ⟨l, q, hq, hl, by rw [he]; exact .refl _, fun _ => still _ _ he⟩

theorem State.arrived_peers (s : State) (p : Side) (bytes : List Byte) (f : Frame) : (s.arrived p bytes f).peers = s.peers := by
  obtain ⟨l, q, -, -, hk, -⟩ := s.arrived_form p bytes f
  exact hk.peers

theorem State.arrived_count (s : State) (p : Side) (bytes : List Byte) (f : Frame) : (s.arrived p bytes f).count = s.count := by
  obtain ⟨l, q, -, -, hk, -⟩ := s.arrived_form p bytes f
  exact hk.count

/-! ## A frame recorded (R68 to R70, R72) -/

/-- The entry that a frame leaves: a new one, or the old one with the frame recorded. -/
def State.toRecord (x : State) (p : Side) (f : Frame) : PeerEntry :=
  match x.entry f.origin with
  | some e => x.recorded e f
  | none => x.newEntry p f

/-- The table with an entry of a frame, what the frame hands on, and the marks of a BREAK. -/
def State.heardAs (x : State) (p : Side) (f : Frame) (before : Option Freshness) (r : PeerEntry) : State :=
  ((if before = some r.freshness then x.onPeers (setEntry r) else x.putChanged r).handOn r f.content).useBreak p r.distance f.content

/-- A frame is recorded where the table has no entry of its origin, or one of its side that is not in CONFLICT. -/
def State.records (x : State) (p : Side) (f : Frame) : Prop := ∀ e, x.entry f.origin = some e → e.freshness ≠ .conflict ∧ e.side = p

theorem State.records.hear {p : Side} {f : Frame} (h : x.records p f) :
    x.hear p f = (x.heardAs p f ((x.entry f.origin).map PeerEntry.freshness) (x.toRecord p f)).afterPeers x f.content.tagged := by
  unfold State.hear State.toRecord State.heardAs State.putEntry
  cases he : x.entry f.origin with
  | none => rfl
  | some e =>
    obtain ⟨h1, h2⟩ := h e he
    dsimp only
    rw [if_neg h1, if_pos h2]
    refine congrArg (fun v : State => ((v.handOn (x.recorded e f) f.content).useBreak p _ f.content).afterPeers x f.content.tagged) ?_
    rw [Option.map_some]
    by_cases hs : (x.recorded e f).freshness = e.freshness
    · rw [if_pos hs, if_pos (congrArg some hs.symm)]
    · rw [if_neg hs, if_neg (fun h => hs (Option.some.inj h).symm)]

/-- The entry recorded. -/
structure PeerEntry.Records (r : PeerEntry) (x : State) (p : Side) (f : Frame) : Prop where
  station : r.station = f.origin
  side : r.side = p
  distance : r.distance = f.hop + 1
  lastTime : r.lastTime = x.count
  staleTimer : r.staleTimer = some (x.count + 600)
  report : r.report = reportAfter f.content ((x.entry f.origin).bind PeerEntry.report)
  freshness : r.freshness = heardFreshness r.report
  claimTag : r.claimTag = claimTagAfter f.content ((x.entry f.origin).bind PeerEntry.claimTag)

theorem State.records.toRecord {p : Side} {f : Frame} (h : x.records p f) : (x.toRecord p f).Records x p f := by
  unfold State.toRecord
  cases he : x.entry f.origin with
  | none => exact ⟨rfl, rfl, rfl, rfl, rfl, by rw [he]; rfl, rfl, by rw [he]; rfl⟩
  | some e =>
    exact ⟨(State.entry_some he).1, (h e he).2, rfl, rfl, rfl, by rw [he]; rfl, rfl, by rw [he]; rfl⟩

/-- A BREAK whose lost side is the arrival side. -/
def Content.cuts (p : Side) : Content → Bool
  | .brk (some side) => side == p
  | _ => false

theorem State.useBreak_eq (s : State) (p : Side) (d : Nat) (c : Content) : s.useBreak p d c = if c.cuts p then s.markCut p d else s := by
  cases c with
  | brk side =>
    cases side with
    | none => rfl
    | some side => cases side <;> cases p <;> rfl
  | status r => rfl
  | claim k => rfl
  | dust k h => rfl

theorem State.heardAs_tableOnly (x : State) (p : Side) (f : Frame) (before : Option Freshness) (r : PeerEntry) :
    x.TableOnly (x.heardAs p f before r) := by
  unfold State.heardAs
  split
  · exact (((State.TableOnly.refl x).onPeers _).handOn _ _).useBreak _ _ _
  · exact (((State.TableOnly.refl x).putChanged _).handOn _ _).useBreak _ _ _

theorem State.onlyIn_handOn (s : State) (e : PeerEntry) (c : Content) : s.onlyIn (s.handOn e c) [.fill, .dust] := by
  intro b hb
  cases b <;> first | rfl | simp at hb

theorem State.onlyIn_useBreak (s : State) (p : Side) (d : Nat) (c : Content) : s.onlyIn (s.useBreak p d c) [.peers, .port, .dust] := by
  rw [s.useBreak_eq]
  split
  · exact State.onlyIn_fold _ (fun t e => t.onlyIn_putChanged _) _ s
  · exact State.onlyIn_refl _ _

theorem State.onlyIn_put (x : State) (before : Option Freshness) (r : PeerEntry) :
    x.onlyIn (if before = some r.freshness then x.onPeers (setEntry r) else x.putChanged r) [.peers, .port, .dust] := by
  split
  · intro b hb
    cases b <;> first | rfl | simp at hb
  · exact State.onlyIn_putChanged _ _

theorem State.onlyIn_heardAs (x : State) (p : Side) (f : Frame) (before : Option Freshness) (r : PeerEntry) :
    x.onlyIn (x.heardAs p f before r) [.peers, .port, .dust, .fill] :=
  (((x.onlyIn_put before r).mono (by decide)).trans ((State.onlyIn_handOn _ _ _).mono (by decide))).trans
    ((State.onlyIn_useBreak _ _ _ _).mono (by decide))

theorem State.heardAs_fill (x : State) (p : Side) (f : Frame) (before : Option Freshness) (r : PeerEntry) :
    (x.heardAs p f before r).fill = x.fill.handed r.station f.content := by
  have hput : (if before = some r.freshness then x.onPeers (setEntry r) else x.putChanged r).fill = x.fill := x.onlyIn_put before r .fill (by decide)
  have hcut : (x.heardAs p f before r).fill = ((if before = some r.freshness then x.onPeers (setEntry r) else x.putChanged r).handOn r f.content).fill :=
    State.onlyIn_useBreak _ _ _ _ .fill (by decide)
  rw [hcut, ← hput]
  rfl

theorem State.put_peers (x : State) (before : Option Freshness) (r : PeerEntry) :
    (if before = some r.freshness then x.onPeers (setEntry r) else x.putChanged r).peers = setEntry r x.peers := by
  split <;> rfl

/-- The entries after a frame: that of its origin, and the others but for those that a BREAK cuts off (R72). -/
theorem State.entry_heardAs (hord : x.peersOrdered) (p : Side) (f : Frame) (before : Option Freshness) (r : PeerEntry) (n : Nat) :
    (x.heardAs p f before r).entry n = if r.station = n then some r
      else (x.entry n).map (fun e => if f.content.cuts p ∧ e.beyond p r.distance then { e with freshness := .cut } else e) := by
  obtain ⟨v, hv⟩ : ∃ v, v = (if before = some r.freshness then x.onPeers (setEntry r) else x.putChanged r).handOn r f.content := ⟨_, rfl⟩
  have hpeers : v.peers = setEntry r x.peers := by rw [hv]; exact x.put_peers before r
  have hvord : v.peersOrdered := by
    unfold State.peersOrdered
    rw [hpeers]
    exact (setEntry_ordered r x.peers hord).1
  have hentry : ∀ m, v.entry m = if r.station = m then some r else x.entry m := fun m => by
    unfold State.entry
    rw [hpeers]
    exact find_setEntry r x.peers m
  have hself : r.beyond p r.distance = false := by
    unfold PeerEntry.beyond
    simp
  have heq : x.heardAs p f before r = v.useBreak p r.distance f.content := by rw [hv]; rfl
  rw [heq, v.useBreak_eq]
  by_cases hc : f.content.cuts p = true
  · rw [if_pos hc]
    unfold State.markCut
    rw [State.entry_foldFilter hvord _ (fun e => { e with freshness := .cut }) (fun _ => rfl), hentry]
    split
    · simp [hself]
    · simp [hc]
  · rw [if_neg hc, hentry]
    simp [hc]

/-! ## An entry that the frame does not record (R73) -/

theorem State.hear_conflict {p : Side} {f : Frame} {e : PeerEntry} (he : x.entry f.origin = some e) (h : e.freshness = .conflict) :
    x.hear p f = x := by
  unfold State.hear
  rw [he]
  exact if_pos h

/-- The table with an entry gone to CONFLICT. -/
def State.clashed (x : State) (p : Side) (e : PeerEntry) : State :=
  (x.notify (.dupStation e.station p)).putChanged { e with freshness := .conflict, staleTimer := none }

theorem State.hear_clash {p : Side} {f : Frame} {e : PeerEntry} (he : x.entry f.origin = some e) (h : e.freshness ≠ .conflict)
    (hside : e.side ≠ p) : x.hear p f = (x.clashed p e).afterPeers x false := by
  unfold State.hear
  rw [he]
  dsimp only
  rw [if_neg h, if_neg hside]
  rfl

theorem State.onlyIn_clashed (x : State) (p : Side) (e : PeerEntry) : x.onlyIn (x.clashed p e) [.peers, .port, .dust] := by
  intro b hb
  cases b <;> first | rfl | simp at hb

/-- A frame that finds no entry in CONFLICT is a change of the table and what follows from it. -/
theorem State.hear_form {p : Side} {f : Frame} (h : ∀ e, x.entry f.origin = some e → e.freshness ≠ .conflict) :
    ∃ w occasion, x.hear p f = w.afterPeers x occasion ∧ x.onlyIn w [.peers, .port, .dust, .fill] ∧ x.TableOnly w := by
  by_cases hrec : x.records p f
  · exact ⟨_, _, hrec.hear, x.onlyIn_heardAs p f _ _, x.heardAs_tableOnly p f _ _⟩
  · obtain ⟨e, he, hside⟩ : ∃ e, x.entry f.origin = some e ∧ e.side ≠ p := by
      unfold State.records at hrec
      push Not at hrec
      obtain ⟨e, he, hne⟩ := hrec
      exact ⟨e, he, hne (h e he)⟩
    exact ⟨_, _, State.hear_clash he (h e he) hside, (x.onlyIn_clashed p e).mono (by decide),
      ((State.TableOnly.refl x).notify _).putChanged _⟩

theorem State.noPass.hear (h : x.noPass) (p : Side) (f : Frame) :
    x.onlyIn (x.hear p f).finish [.port, .line, .peers, .travel, .fill, .dust, .berths] := by
  by_cases hc : ∃ e, x.entry f.origin = some e ∧ e.freshness = .conflict
  · obtain ⟨e, he, hc⟩ := hc
    rw [State.hear_conflict he hc]
    exact (State.onlyIn_finish x).mono (by decide)
  · obtain ⟨w, occasion, hw, honly, htable⟩ := State.hear_form (x := x) (p := p) (f := f) fun e he hf => hc ⟨e, he, hf⟩
    have hwp : w.noPass := h.congr (honly .pour (by decide)) htable.claim.1
    rw [hw]
    exact ((honly.mono (by decide)).trans (hwp.onlyIn_afterPeers (by decide) _ _)).trans ((State.onlyIn_finish _).mono (by decide))

/-- The ends of the chain stay. -/
theorem State.chainEnd_afterPeers (w before : State) (occasion : Bool) (q : Side) :
    ((w.afterPeers before occasion).finish.line.port q).chainEnd = (w.line.port q).chainEnd := by
  have hkept : w.LineKept (w.afterPeers before occasion) := State.afterPeers_line _ _ _
  rw [((w.afterPeers before occasion).finish_standing q).2.1, hkept]
  exact (QuayLine.standing_mark _ _ q).2.1

theorem State.noPass.frameActed {p : Side} {bytes : List Byte} {f : Frame} (h : s.noPass) (hup : (s.line.port p).state = .up)
    (hne : ∀ e, s.entry f.origin = some e → e.freshness ≠ .conflict) : s.rangeActed ((s.arrived p bytes f).hear p f).finish := by
  obtain ⟨l, q, harr, -, hl, -⟩ := State.arrived_open (s := s) (p := p) (by rw [hup]; nofun) bytes f
  obtain ⟨a, ha⟩ : ∃ a, a = s.arrived p bytes f := ⟨_, rfl⟩
  have hentry : ∀ n, a.entry n = s.entry n := fun n => by
    unfold State.entry
    rw [ha, s.arrived_peers]
  rw [← ha]
  rw [← ha] at harr
  have hline : s.onlyIn a [.port, .line] := by
    rw [harr]
    intro b hb
    cases b <;> first | rfl | simp at hb
  obtain ⟨w, occasion, hw, honly, htable⟩ := State.hear_form (x := a) (p := p) (f := f) fun e he => hne e ((hentry _).symm.trans he)
  rw [hw]
  refine h.tableActed ((hline.mono (by decide)).trans (honly.mono (by decide))) ?_ (State.onlyIn_finish _)
    fun q => State.chainEnd_afterPeers w a occasion q
  rw [htable.claim.1, harr]
  rfl

/-! ## A frame taken, in whole -/

theorem exec_frame_heard {c : Instr} {p : Side} {bytes : List Byte} {f : Frame} (h : frameOf c = some (p, bytes))
    (hm : s.port.mode = .run) (hr : readFrame bytes = some f) (ho : f.origin ≠ s.station) :
    exec c s = .next ((s.arrived p bytes f).hear p f).finish := exec_frame_taken h hm hr ho

theorem State.arrived_entry (s : State) (p : Side) (bytes : List Byte) (f : Frame) (n : Nat) : (s.arrived p bytes f).entry n = s.entry n := by
  unfold State.entry
  rw [s.arrived_peers]

/-- A frame that is recorded: the entry of its origin. -/
theorem State.heard_entry {p : Side} {bytes : List Byte} {f : Frame} (hord : s.peersOrdered) (h : s.records p f) :
    ∃ r, r.Records s p f ∧ ∀ n, ((s.arrived p bytes f).hear p f).finish.entry n = if f.origin = n then some r
      else (s.entry n).map (fun e => if f.content.cuts p ∧ e.beyond p (f.hop + 1) then { e with freshness := .cut } else e) := by
  obtain ⟨a, ha⟩ : ∃ a, a = s.arrived p bytes f := ⟨_, rfl⟩
  have hentry : ∀ n, a.entry n = s.entry n := fun n => ha ▸ s.arrived_entry p bytes f n
  have hcount : a.count = s.count := ha ▸ s.arrived_count p bytes f
  have hrec : a.records p f := fun e he => h e ((hentry _).symm.trans he)
  have hr := hrec.toRecord
  have haord : a.peersOrdered := by
    unfold State.peersOrdered
    rw [ha, s.arrived_peers]
    exact hord
  refine ⟨a.toRecord p f, ⟨hr.station, hr.side, hr.distance, hr.lastTime.trans hcount, ?_, ?_, hr.freshness, ?_⟩, fun n => ?_⟩
  · rw [hr.staleTimer, hcount]
  · rw [hr.report, hentry]
  · rw [hr.claimTag, hentry]
  · rw [← ha, State.finish_entry, hrec.hear, State.entry_afterPeers, State.entry_heardAs haord, hr.station, hr.distance, hentry]

theorem State.heard_clash {p : Side} {bytes : List Byte} {f : Frame} {e : PeerEntry} (he : s.entry f.origin = some e)
    (h : e.freshness ≠ .conflict) (hside : e.side ≠ p) (n : Nat) :
    ((s.arrived p bytes f).hear p f).finish.entry n
      = if f.origin = n then some { e with freshness := .conflict, staleTimer := none } else s.entry n := by
  rw [State.finish_entry, State.hear_clash ((s.arrived_entry p bytes f _).trans he) h hside, State.entry_afterPeers]
  unfold State.clashed
  rw [State.entry_putChanged, show ({ e with freshness := .conflict, staleTimer := none } : PeerEntry).station = f.origin from
    (State.entry_some he).1]
  exact congrArg (fun v => if f.origin = n then _ else v) (s.arrived_entry p bytes f n)

end Sys2Proof.Machine

end

section
/-! Frames at the Peer Table, continued: O49. -/

namespace Sys2Proof.Machine

variable {s t u w x : State}

/-! ## Frames that are taken -/

theorem State.heard_facts {c : Instr} {p : Side} {bytes : List Byte} {f : Frame} (hframe : frameOf c = some (p, bytes))
    (hm : s.port.mode = .run) (hread : readFrame bytes = some f) (hother : f.origin ≠ s.station) (hord : s.peersOrdered) :
    ∃ t, exec c s = .next t ∧ (s.noPass → s.onlyIn t [.port, .line, .peers, .travel, .fill, .dust, .berths])
      ∧ (s.noPass → (s.line.port p).state = .up → (∀ e, s.entry f.origin = some e → e.freshness ≠ .conflict) → s.rangeActed t)
      ∧ (∀ e, s.entry f.origin = some e → e.freshness = .conflict → (s.line.port p).state = .up → s.agree t .travel)
      ∧ (s.entry f.origin = none → ∃ e, t.entry f.origin = some e ∧ e.station = f.origin ∧ e.side = p
          ∧ e.distance = f.hop + 1 ∧ e.lastTime = s.count ∧ e.staleTimer = some (s.count + 600)
          ∧ (∀ r, e.report = some r ↔ f.content = .status r)
          ∧ e.freshness = if positionKnown e.report then .fresh else .stale)
      ∧ (∀ e, s.entry f.origin = some e → e.freshness = .conflict → t.peers = s.peers)
      ∧ (∀ e, s.entry f.origin = some e → e.freshness ≠ .conflict → e.side ≠ p →
          t.entry f.origin = some { e with freshness := .conflict, staleTimer := none })
      ∧ (∀ e, s.entry f.origin = some e → e.freshness ≠ .conflict → e.side = p →
          ∃ u, t.entry f.origin = some u ∧ u.station = f.origin ∧ u.side = p ∧ u.distance = f.hop + 1
            ∧ u.lastTime = s.count ∧ u.staleTimer = some (s.count + 600)
            ∧ (∀ r, f.content = .status r → u.report = some r)
            ∧ ((∀ r, f.content ≠ .status r) → u.report = e.report)
            ∧ u.freshness = if positionKnown u.report then .fresh else .stale)
      ∧ (∀ n, n ≠ f.origin → (∀ side, f.content ≠ .brk side) → t.entry n = s.entry n)
      ∧ (∀ n e, f.content = .brk (some p) → n ≠ f.origin → s.entry n = some e →
          (∀ o, s.entry f.origin = some o → o.freshness ≠ .conflict ∧ o.side = p) →
          t.entry n = some (if e.side = p ∧ f.hop + 1 < e.distance ∧ (e.freshness = .fresh ∨ e.freshness = .stale)
            then { e with freshness := .cut } else e)) := by
  obtain ⟨l, q, -, -, -, honly⟩ := s.arrived_form p bytes f
  have conflictSame : ∀ e, s.entry f.origin = some e → e.freshness = .conflict →
      ((s.arrived p bytes f).hear p f) = s.arrived p bytes f :=
    fun e he hc => State.hear_conflict ((s.arrived_entry p bytes f _).trans he) hc
  refine ⟨_, exec_frame_heard hframe hm hread hother, fun hp => ?_, fun hp hup hne => hp.frameActed hup hne, fun e he hc hup => ?_,
    fun hnone => ?_, fun e he hc => ?_, fun e he hc hside => ?_, fun e he hc hside => ?_, fun n hn hbrk => ?_,
    fun n e hbrk hn he hrec => ?_⟩
  · have hap : (s.arrived p bytes f).noPass :=
      hp.congr (honly hp .pour (by decide)) (congrArg Fill.claim (honly hp .fill (by decide) : (s.arrived p bytes f).fill = _))
    exact ((honly hp).mono (by decide)).trans (hap.hear p f)
  · obtain ⟨l, q, harr, -⟩ := State.arrived_open (s := s) (p := p) (by rw [hup]; nofun) bytes f
    rw [conflictSame e he hc, harr]
    exact State.onlyIn_finish (s.wired l q) .travel (by decide)
  · obtain ⟨r, hr, hentry⟩ := State.heard_entry (bytes := bytes) hord (p := p) (f := f) fun e he => absurd (hnone.symm.trans he) nofun
    refine ⟨r, (hentry _).trans (if_pos rfl), hr.station, hr.side, hr.distance, hr.lastTime, hr.staleTimer, fun m => ?_, hr.freshness⟩
    rw [hr.report, hnone]
    cases f.content <;> simp [reportAfter]
  · rw [conflictSame e he hc, State.finish_peers, s.arrived_peers]
  · exact (State.heard_clash he hc hside _).trans (if_pos rfl)
  · obtain ⟨r, hr, hentry⟩ := State.heard_entry (bytes := bytes) hord (p := p) (f := f)
      fun o ho => by obtain rfl := Option.some.inj (he.symm.trans ho); exact ⟨hc, hside⟩
    refine ⟨r, (hentry _).trans (if_pos rfl), hr.station, hr.side, hr.distance, hr.lastTime, hr.staleTimer, fun m hstatus => ?_,
      fun hno => ?_, hr.freshness⟩
    · rw [hr.report, hstatus]
      rfl
    · rw [hr.report, he]
      cases hcontent : f.content with
      | status m => exact absurd hcontent (hno m)
      | claim _ | dust _ _ | brk _ => rfl
  · by_cases hrec : s.records p f
    · obtain ⟨r, -, hentry⟩ := State.heard_entry (bytes := bytes) hord hrec
      have hcuts : f.content.cuts p = false := by
        cases hcontent : f.content with
        | brk side => exact absurd hcontent (hbrk side)
        | status _ | claim _ | dust _ _ => rfl
      rw [hentry, if_neg (Ne.symm hn), hcuts]
      simp
    · obtain ⟨o, ho, hno⟩ : ∃ o, s.entry f.origin = some o ∧ ¬(o.freshness ≠ .conflict ∧ o.side = p) := by
        unfold State.records at hrec
        push Not at hrec
        obtain ⟨o, ho, h⟩ := hrec
        exact ⟨o, ho, fun hb => h hb.1 hb.2⟩
      by_cases hc : o.freshness = .conflict
      · rw [conflictSame o ho hc, State.finish_entry, s.arrived_entry]
      · rw [State.heard_clash ho hc (fun hside => hno ⟨hc, hside⟩), if_neg (Ne.symm hn)]
  · obtain ⟨r, -, hentry⟩ := State.heard_entry (bytes := bytes) hord (p := p) (f := f) hrec
    have hcuts : f.content.cuts p = true := by
      rw [hbrk]
      cases p <;> rfl
    have hbeyond : (e.beyond p (f.hop + 1) = true)
        = (e.side = p ∧ f.hop + 1 < e.distance ∧ (e.freshness = .fresh ∨ e.freshness = .stale)) := by
      simp [PeerEntry.beyond, and_assoc]
    rw [hentry, if_neg (Ne.symm hn), he, Option.map_some, hcuts]
    simp only [hbeyond, true_and]

/-! ## Frames that are not taken (R47, R48) -/

theorem exec_notValid_run {p : Side} (hm : s.port.mode = .run) : exec (.notValidFrame p) s = .next (s.dropInvalid p).finish := by
  have run : exec (.notValidFrame p) s = .next (if s.inRun then s.dropInvalid p else s).finish := rfl
  rw [run, if_pos (by simp [State.inRun, hm])]

/-- A command that writes the line and raises one notice, or none, and calls for no STATUS. -/
theorem State.finish_wired {l : QuayLine} (h : l.statusDue = false) (q : LocalPort) : (s.wired l q).finish = s.wired l q :=
  State.finish_of_quiet h

theorem State.onlyIn_wired (s : State) (l : QuayLine) (q : LocalPort) : s.onlyIn (s.wired l q) [.port, .line] := by
  intro b hb
  cases b <;> first | rfl | simp at hb

theorem QuayLine.onPort_due (l : QuayLine) (p : Side) (f : PortRec → PortRec) : (l.onPort p f).statusDue = l.statusDue := by
  cases p <;> rfl

theorem QuayLine.onPort_congr (l : QuayLine) (p : Side) {f g : PortRec → PortRec} (h : f (l.port p) = g (l.port p)) : l.onPort p f = l.onPort p g := by
  cases p
  · exact congrArg (fun r => { l with up := r }) h
  · exact congrArg (fun r => { l with down := r }) h

theorem State.dropInvalid_eq {p : Side} {n : Nat} (hn : n = min ((s.line.port p).errors + 1) 65535) : s.dropInvalid p
    = s.wired (s.line.onPort p (fun r => { r with errors := n, restoreCount := if r.state = .lost then 0 else r.restoreCount }))
        (if (s.line.port p).errors < 65535 ∧ n % 16 = 0 then s.port.raise s.count (.frameErrors p n) else s.port) := by
  have hline : s.line.onPort p (fun r => { r with
      errors := min (r.errors + 1) Config.countMax, restoreCount := if r.state = .lost then 0 else r.restoreCount })
      = s.line.onPort p (fun r => { r with errors := n, restoreCount := if r.state = .lost then 0 else r.restoreCount }) :=
    QuayLine.onPort_congr _ _ (by rw [hn]; rfl)
  have herrors : ((s.line.onPort p (fun r => { r with
      errors := n, restoreCount := if r.state = .lost then 0 else r.restoreCount })).port p).errors = n :=
    congrArg PortRec.errors (s.line.port_onPort_same p _)
  have hdrop : s.dropInvalid p = (let t := s.onLine (fun _ => s.line.onPort p (fun r => { r with
      errors := n, restoreCount := if r.state = .lost then 0 else r.restoreCount }));
    if (s.line.port p).errors < Config.countMax ∧ (t.line.port p).errors % 16 = 0 then
      t.notify (.frameErrors p (t.line.port p).errors) else t) := by
    rw [← hline]
    rfl
  rw [hdrop]
  dsimp only
  simp only [State.onLine_line, herrors]
  by_cases h : (s.line.port p).errors < 65535 ∧ n % 16 = 0
  · rw [if_pos h]
    exact if_pos h
  · rw [if_neg h]
    exact if_neg h

theorem State.dropOwn_eq (s : State) (p : Side) : s.dropOwn p = s.wired (s.line.onPort p (fun r => { r with
      silenceTimer := if r.state = .up then (if r.chainEnd then none else some (s.count + 600)) else r.silenceTimer
      restoreCount := if r.state = .lost then 0 else r.restoreCount })) (s.port.raise s.count (.dupStation s.station p)) := by
  have hline : s.line.onPort p (fun r => { (r.hear (s.timer Config.silenceMs)) with
        restoreCount := if r.state = .lost then 0 else r.restoreCount })
      = s.line.onPort p (fun r => { r with
        silenceTimer := if r.state = .up then (if r.chainEnd then none else some (s.count + 600)) else r.silenceTimer
        restoreCount := if r.state = .lost then 0 else r.restoreCount }) := by
    refine QuayLine.onPort_congr _ _ ?_
    dsimp only
    unfold PortRec.hear PortRec.startSilence
    by_cases h : (s.line.port p).state = .up
    · simp only [h, if_true]
      rfl
    · simp only [h, if_false]
  exact congrArg (fun l => (s.wired l s.port).notify (.dupStation s.station p)) hline

end Sys2Proof.Machine

open Sys2Proof Sys2Proof.Machine

/-- Settles O49. A frame that is taken is a change of the Peer Table and what follows from it; one that is not changes its port's record
and raises a notice. -/
theorem framesReachTheEntryOfTheirOrigin : Obligations.FramesReachTheEntryOfTheirOrigin := by
  unfold Obligations.FramesReachTheEntryOfTheirOrigin
  refine ⟨fun s c p bytes f _ hframe hm hread hother hord => State.heard_facts hframe hm hread hother hord,
    fun s p hq hm => ?_, fun s c p bytes hframe => ⟨fun hread => ?_, fun hq hm => ?_, fun f hq hm hread hown => ?_⟩⟩
  · refine ⟨_, _, exec_notValid_run hm, ?_, rfl, ?_⟩
    all_goals rw [State.dropInvalid_eq rfl, State.finish_wired ((QuayLine.onPort_due _ _ _).trans hq)]
    · exact s.onlyIn_wired _ _
    · exact ⟨rfl, rfl⟩
  · rw [exec_frame hframe]
    unfold State.frameArrives
    rw [hread]
    rfl
  · rw [exec_frame hframe]
    unfold State.frameArrives
    rw [if_neg (by simpa [State.inRun] using hm), State.finish_of_quiet hq]
  · have run : exec c s = .next (s.dropOwn p).finish := by
      rw [exec_frame hframe]
      unfold State.frameArrives
      rw [if_pos (by simp [State.inRun, hm]), hread]
      exact congrArg (fun v => Host.Outcome.next (State.finish v)) (if_pos hown)
    refine ⟨_, run, ?_⟩
    rw [State.dropOwn_eq, State.finish_wired ((QuayLine.onPort_due _ _ _).trans hq)]
    exact ⟨s.onlyIn_wired _ _, rfl, rfl⟩

end

section
/-! Peers at the hold table views and the MISMATCH marks (sections 4.5, 4.6, 6.1 and 6.5): O50. -/

namespace Sys2Proof.Machine

variable {s t u w x : State}

/-! ## One row of a view -/

/-- A row with a claim of a station put in place of the others of that station, where the row is the claim's. -/
def Row.placed (r : Row) (c : ClaimEntry) (here : Bool) : Row :=
  { r with claims := if here then insertClaim c (r.claims.filter (fun k => k.station != c.station))
                     else r.claims.filter (fun k => k.station != c.station) }

theorem mem_insertClaim {c k : ClaimEntry} {l : List ClaimEntry} : k ∈ insertClaim c l ↔ k = c ∨ k ∈ l := by
  induction l with
  | nil => simp [insertClaim]
  | cons d rest ih =>
    unfold insertClaim
    split
    · simp only [List.mem_cons, ih]
      tauto
    · simp

theorem Row.mem_placed (r : Row) (c k : ClaimEntry) (here : Bool) :
    k ∈ (r.placed c here).claims ↔ (k ∈ r.claims ∧ k.station ≠ c.station) ∨ (here = true ∧ k = c) := by
  cases here with
  | true =>
    show k ∈ insertClaim c _ ↔ _
    rw [mem_insertClaim]
    simp
    tauto
  | false =>
    show k ∈ r.claims.filter _ ↔ _
    simp

theorem placeClaim_get (h : Nat) (c : ClaimEntry) (rows : List Row) (i : Nat) :
    (placeClaim h c rows)[i]? = rows[i]?.map (fun r => r.placed c (h == i + 1)) := by
  unfold placeClaim
  split
  · rename_i h0
    subst h0
    rw [removeClaims, List.getElem?_map]
    rfl
  · rename_i h0
    rw [List.getElem?_modify, removeClaims, List.getElem?_map]
    by_cases hi : h - 1 = i
    · have hb : (h == i + 1) = true := by
        rw [beq_iff_eq]
        omega
      cases rows[i]? with
      | none => rfl
      | some r => simp [hi, hb, Row.placed]
    · have hb : (h == i + 1) = false := by
        rw [beq_eq_false_iff_ne]
        omega
      cases rows[i]? with
      | none => rfl
      | some r => simp [hi, hb, Row.placed]

theorem removeClaims_get (n : Nat) (rows : List Row) (i : Nat) (c : ClaimEntry) (hc : c.station = n) :
    (removeClaims n rows)[i]? = rows[i]?.map (fun r => r.placed c false) := by
  rw [removeClaims, List.getElem?_map]
  unfold Row.placed
  rw [hc]
  rfl

/-- The figure that a report makes of an old one (R103). -/
def Report.figure (r : Report) (x : Slot) (h : Nat) (f : PeerFigure) : PeerFigure :=
  { f with deliveredKg := if r.tag x = 0 then f.deliveredKg else r.tallyKg x h, onBeltKg := r.onBeltFor x h }

theorem Report.figure_station (r : Report) (x : Slot) (h : Nat) (f : PeerFigure) : (r.figure x h f).station = f.station := rfl

/-- A row with the figure of a station set. -/
def Row.figured (row : Row) (n : Nat) (x : Slot) (r : Report) (h : Nat) : Row :=
  { row with peers := setFigure n (r.figure x h) row.peers }

theorem takeFigures_get (n : Nat) (x : Slot) (r : Report) (rows : List Row) (h i : Nat) :
    (takeFigures n x r h rows)[i]? = rows[i]?.map (fun row => row.figured n x r (h + i)) := by
  induction rows generalizing h i with
  | nil => rfl
  | cons row rest ih =>
    cases i with
    | zero => rfl
    | succ i =>
      have step := ih (h + 1) i
      rw [show h + 1 + i = h + (i + 1) by omega] at step
      exact step

/-- The entry that a report makes of its claim. -/
def ReportClaim.entry (c : ReportClaim) (n : Nat) : ClaimEntry := ⟨n, c.pass, c.target, c.phase⟩

/-- A row as a STATUS leaves it. -/
def Row.reported (row : Row) (n : Nat) (x : Slot) (r : Report) (h : Nat) : Row :=
  match r.claimFor x with
  | some c => (row.figured n x r h).placed (c.entry n) (c.hold == h)
  | none => (row.figured n x r h).placed ⟨n, 0, 0, .pending⟩ false

theorem takeReport_get (n : Nat) (x : Slot) (r : Report) (rows : List Row) (i : Nat) :
    (takeReport n x r rows)[i]? = rows[i]?.map (fun row => row.reported n x r (i + 1)) := by
  unfold takeReport Row.reported
  cases r.claimFor x
  case some c =>
    rw [placeClaim_get, takeFigures_get, Option.map_map, show 1 + i = i + 1 by omega]
    rfl
  case none =>
    rw [removeClaims_get _ _ _ ⟨n, 0, 0, .pending⟩ rfl, takeFigures_get, Option.map_map, show 1 + i = i + 1 by omega]
    rfl

theorem find_setFigure {n : Nat} {g : PeerFigure → PeerFigure} (hg : ∀ f, (g f).station = f.station) (l : List PeerFigure) (m : Nat) (hm : m ≠ n) :
    (setFigure n g l).find? (fun f => f.station == m) = l.find? (fun f => f.station == m) := by
  have hother : ∀ f : PeerFigure, f.station = n → ((g f).station == m) = false := fun f hf => by
    rw [hg, hf, beq_eq_false_iff_ne]
    exact hm.symm
  induction l with
  | nil => simp [setFigure, hother ⟨n, 0, none⟩ rfl]
  | cons f rest ih =>
    unfold setFigure
    split
    · rw [List.find?_cons, List.find?_cons, ih]
    · split
      · rename_i he
        rw [List.find?_cons, List.find?_cons, hother f he, show (f.station == m) = false by
          rw [← hg]
          exact hother f he]
      · rw [List.find?_cons, hother ⟨n, 0, none⟩ rfl]

theorem find_setFigure_own {n : Nat} {g : PeerFigure → PeerFigure} (hg : ∀ f, (g f).station = f.station) (l : List PeerFigure)
    (hl : l.Pairwise (fun a b => a.station < b.station)) :
    (setFigure n g l).find? (fun f => f.station == n) = some (g ((l.find? (fun f => f.station == n)).getD ⟨n, 0, none⟩)) := by
  induction l with
  | nil => simp [setFigure, hg]
  | cons f rest ih =>
    obtain ⟨hf, hrest⟩ := List.pairwise_cons.1 hl
    unfold setFigure
    split
    · rename_i hlt
      have hne : (f.station == n) = false := by
        rw [beq_eq_false_iff_ne]
        omega
      rw [List.find?_cons, List.find?_cons, hne, ih hrest]
    · split
      · rename_i he
        have heq : (f.station == n) = true := beq_iff_eq.2 he
        rw [List.find?_cons, List.find?_cons, hg, heq]
        rfl
      · rename_i hlt hne
        have hnone : (f :: rest).find? (fun k => k.station == n) = none := by
          rw [List.find?_eq_none]
          intro k hk
          rw [beq_iff_eq]
          rcases List.mem_cons.1 hk with rfl | hk
          · exact hne
          · have := hf k hk
            omega
        rw [hnone, List.find?_cons, hg]
        simp

/-! ## The rows that a frame leaves -/

theorem Row.reported_delivered (row : Row) (n : Nat) (x : Slot) (r : Report) (h : Nat) : (row.reported n x r h).delivered = row.delivered := by
  unfold Row.reported
  split <;> rfl

theorem Row.reported_peers (row : Row) (n : Nat) (x : Slot) (r : Report) (h : Nat) :
    (row.reported n x r h).peers = (row.figured n x r h).peers := by
  unfold Row.reported
  split <;> rfl

theorem Report.claimFor_some {r : Report} {x : Slot} {c : ReportClaim} : r.claimFor x = some c ↔ r.claim = some c ∧ c.slot = x := by
  unfold Report.claimFor
  cases r.claim with
  | none => simp
  | some k =>
    dsimp only
    split
    · rename_i hk
      refine ⟨fun he => ?_, fun he => he.1⟩
      obtain rfl := Option.some.inj he
      exact ⟨rfl, hk⟩
    · rename_i hk
      refine ⟨nofun, fun he => ?_⟩
      obtain rfl := Option.some.inj he.1
      exact absurd he.2 hk

theorem Row.mem_reported (row : Row) (n : Nat) (x : Slot) (r : Report) (h : Nat) (k : ClaimEntry) : k ∈ (row.reported n x r h).claims ↔
    (k ∈ row.claims ∧ k.station ≠ n) ∨ ∃ rc, r.claim = some rc ∧ rc.slot = x ∧ rc.hold = h ∧ k = ⟨n, rc.pass, rc.target, rc.phase⟩ := by
  unfold Row.reported
  cases hc : r.claimFor x with
  | some c =>
    obtain ⟨h1, h2⟩ := Report.claimFor_some.1 hc
    dsimp only
    rw [Row.mem_placed]
    refine or_congr Iff.rfl ⟨fun ⟨hh, hk⟩ => ⟨c, h1, h2, beq_iff_eq.1 hh, hk⟩, fun ⟨rc, hr, _, hh, hk⟩ => ?_⟩
    obtain rfl := Option.some.inj (h1.symm.trans hr)
    exact ⟨beq_iff_eq.2 hh, hk⟩
  | none =>
    dsimp only
    rw [Row.mem_placed]
    refine or_congr Iff.rfl ⟨fun hh => absurd hh.1 Bool.false_ne_true, fun ⟨rc, hr, hx, _, _⟩ => ?_⟩
    exact absurd (hc.symm.trans (Report.claimFor_some.2 ⟨hr, hx⟩)) nofun

/-- Two states whose views agree, but for the own claims where a pass may have ended. -/
structure State.RowsKept (s t : State) (still : Prop) : Prop where
  length : ∀ x, (t.view x).map List.length = (s.view x).map List.length
  delivered : ∀ x h, (t.row x h).delivered = (s.row x h).delivered
  peers : ∀ x h, (t.row x h).peers = (s.row x h).peers
  claims : ∀ x h k, still ∨ k.station ≠ s.station → (k ∈ (t.row x h).claims ↔ k ∈ (s.row x h).claims)

theorem State.PourKept.rows (h : s.PourKept t) {still : Prop} (hb : still → t.fill = s.fill) : s.RowsKept t still where
  length x := by
    have e := congrArg (Option.map List.length) (h.views x)
    simpa [removeClaims, Function.comp_def] using e
  delivered x n := (congrArg Row.delivered (h.row x n) :)
  peers x n := (congrArg Row.peers (h.row x n) :)
  claims x n k hk := by
    rcases hk with hs | hk
    · rw [State.row_congr (hb hs)]
    · exact h.mem_claims x n k hk

/-- What a recorded frame makes of the views, in three steps: the arrival, the hand-off, and what follows of the new table. -/
theorem State.records.rows {p : Side} {bytes : List Byte} {f : Frame} (h : s.records p f) : ∃ a w : State, s.RowsKept a s.noPass
    ∧ w.fill = a.fill.handed f.origin f.content ∧ w.RowsKept ((s.arrived p bytes f).hear p f).finish s.noPass ∧ w.station = s.station
    ∧ (s.noPass → a.fill = s.fill ∧ ((s.arrived p bytes f).hear p f).finish.fill = w.fill) := by
  obtain ⟨l, q, -, -, hkept, honly⟩ := s.arrived_form p bytes f
  obtain ⟨a, ha⟩ : ∃ a, a = s.arrived p bytes f := ⟨_, rfl⟩
  rw [← ha] at hkept honly ⊢
  have hrec : a.records p f := fun e he => h e (by rw [ha, s.arrived_entry] at he; exact he)
  have hrecord := hrec.toRecord.station
  obtain ⟨w, hw⟩ : ∃ w, w = a.heardAs p f ((a.entry f.origin).map PeerEntry.freshness) (a.toRecord p f) := ⟨_, rfl⟩
  have hheard : a.hear p f = w.afterPeers a f.content.tagged := hw ▸ hrec.hear
  have hwa : a.onlyIn w [.peers, .port, .dust, .fill] := hw ▸ a.onlyIn_heardAs p f _ _
  have hclaim : w.fill.claim = a.fill.claim := (hw ▸ a.heardAs_tableOnly p f _ _ : a.TableOnly w).claim.1
  have hfill : w.fill = a.fill.handed f.origin f.content := by
    rw [hw, State.heardAs_fill, hrecord]
  have hafill : s.noPass → a.fill = s.fill := fun hp => honly hp .fill (by decide)
  have hmfill : (w.remarked a f.content.tagged).fill = w.fill := w.onlyIn_remarked a _ .fill (by decide)
  have hstation : w.station = s.station := by
    unfold State.station State.block
    rw [show w.cfg = a.cfg from hwa .cfg (by decide), show a.cfg = s.cfg from hkept.cfg]
  have hmstation : (w.remarked a f.content.tagged).station = w.station := by
    unfold State.station State.block
    rw [show (w.remarked a f.content.tagged).cfg = w.cfg from w.onlyIn_remarked a _ .cfg (by decide)]
  have htfill : s.noPass → (a.hear p f).finish.fill = w.fill := fun hp => by
    have hap : a.noPass := hp.congr (honly hp .pour (by decide)) (congrArg Fill.claim (hafill hp))
    have hwp : w.noPass := hap.congr (hwa .pour (by decide)) hclaim
    rw [State.finish_fill, hheard]
    exact hwp.onlyIn_afterPeers (l := [.port, .berths, .travel, .line]) (by decide) _ _ .fill (by decide)
  have start : (s.wired l q).RowsKept a s.noPass := hkept.rows hafill
  have after : (w.remarked a f.content.tagged).RowsKept (w.afterPeers a f.content.tagged) s.noPass :=
    (w.afterPeers_kept a f.content.tagged).rows fun hp => by
      have := htfill hp
      rw [State.finish_fill, hheard] at this
      rw [this, hmfill]
  refine ⟨a, w, ⟨start.length, start.delivered, start.peers, start.claims⟩, hfill, ?_, hstation, fun hp => ⟨hafill hp, htfill hp⟩⟩
  have hrow : ∀ x n, (w.remarked a f.content.tagged).row x n = w.row x n := State.row_congr hmfill
  have hview : ∀ x, (w.remarked a f.content.tagged).view x = w.view x := fun x => by cases x <;> simp only [State.view, hmfill]
  have hfinish : ∀ x n, (a.hear p f).finish.row x n = (w.afterPeers a f.content.tagged).row x n := fun x n => by
    rw [hheard]
    exact State.row_congr (State.finish_fill _) x n
  refine ⟨fun x => ?_, fun x n => ?_, fun x n => ?_, fun x n k hk => ?_⟩
  · rw [← hview, ← after.length, hheard]
    cases x <;> simp only [State.view, State.finish_fill]
  · rw [hfinish, after.delivered, hrow]
  · rw [hfinish, after.peers, hrow]
  · rw [hfinish, after.claims x n k (by rw [hmstation]; exact hk), hrow]

end Sys2Proof.Machine

end

section
/-! Peers at the hold table views and the MISMATCH marks, continued: O50. -/

namespace Sys2Proof.Machine

variable {s t u w x : State}

/-! ## The views -/

theorem State.view_status {a : State} {n : Nat} {r : Report} (h : w.fill = a.fill.handed n (.status r)) (x : Slot) :
    w.view x = (a.view x).map (takeReport n x r) := by
  cases x <;> simp only [State.view, h] <;> rfl

theorem State.view_claim {a : State} {n : Nat} {k : ReportClaim} {tag : Nat} (h : w.fill = a.fill.handed n (.claim (some (k, tag)))) :
    w.view k.slot = (a.view k.slot).map (placeClaim k.hold ⟨n, k.pass, k.target, .pending⟩) ∧ ∀ x, x ≠ k.slot → w.view x = a.view x := by
  have hfill : w.fill = a.fill.onView k.slot (placeClaim k.hold ⟨n, k.pass, k.target, .pending⟩) := h
  refine ⟨?_, fun x hx => ?_⟩
  · cases hk : k.slot <;> simp only [State.view, hfill, hk] <;> rfl
  · cases hk : k.slot <;> cases x <;> first | exact absurd hk.symm hx | (simp only [State.view, hfill, hk]; rfl)

/-- A row of a view is the entry at its place. -/
theorem State.row_of_get {x : Slot} {rows : List Row} {h : Nat} (hv : s.view x = some rows) (h1 : 1 ≤ h) {row : Row}
    (hr : rows[h - 1]? = some row) : s.row x h = row := by
  unfold State.row
  rw [hv]
  dsimp only
  rw [if_neg (by omega), List.getD_eq_getElem?_getD, hr]
  rfl

theorem State.row_map {a : State} {x : Slot} {rows new : List Row} {g : Nat → Row → Row} (hv : a.view x = some rows)
    (hw : w.view x = some new) (hget : ∀ i, new[i]? = rows[i]?.map (g (i + 1))) {h : Nat} (h1 : 1 ≤ h) (h2 : h ≤ rows.length) :
    w.row x h = g h (a.row x h) := by
  have hrow : rows[h - 1]? = some (rows[h - 1]'(by omega)) := List.getElem?_eq_getElem _
  have hnew := hget (h - 1)
  rw [hrow, show h - 1 + 1 = h by omega] at hnew
  rw [State.row_of_get hv h1 hrow, State.row_of_get hw h1 hnew]

theorem takeReport_length (n : Nat) (x : Slot) (r : Report) (rows : List Row) : (takeReport n x r rows).length = rows.length := by
  apply Nat.le_antisymm
  · by_contra hlt
    have hnone : (takeReport n x r rows)[rows.length]? = none := by
      rw [takeReport_get, List.getElem?_eq_none (Nat.le_refl _)]
      rfl
    rw [List.getElem?_eq_none_iff] at hnone
    omega
  · by_contra hlt
    have hnone : (takeReport n x r rows)[(takeReport n x r rows).length]? = none := List.getElem?_eq_none (Nat.le_refl _)
    rw [takeReport_get, Option.map_eq_none_iff, List.getElem?_eq_none_iff] at hnone
    omega

/-- The view of a state that keeps the rows. -/
theorem State.RowsKept.view {b : Prop} (h : s.RowsKept t b) {x : Slot} {rows : List Row} (hv : s.view x = some rows) :
    ∃ new, t.view x = some new ∧ new.length = rows.length := by
  have hl := h.length x
  rw [hv, Option.map_some] at hl
  cases ht : t.view x with
  | none =>
    rw [ht] at hl
    cases hl
  | some new =>
    rw [ht, Option.map_some] at hl
    exact ⟨new, rfl, Option.some.inj hl⟩

theorem State.status_rows {p : Side} {bytes : List Byte} {f : Frame} {x : Slot} {rows : List Row} {r : Report} (hrec : s.records p f)
    (hlists : s.listsOrdered) (hc : f.content = .status r) (hv : s.view x = some rows) {t : State}
    (ht : t = ((s.arrived p bytes f).hear p f).finish) :
    (∃ new, t.view x = some new ∧ new.length = rows.length)
      ∧ ∀ h, 1 ≤ h → h ≤ rows.length →
        (t.row x h).delivered = (s.row x h).delivered
        ∧ (∃ g, (t.row x h).peers.find? (fun g => g.station == f.origin) = some g
          ∧ g.deliveredKg = (if r.tag x = 0 then
              (((s.row x h).peers.find? (fun g => g.station == f.origin)).map PeerFigure.deliveredKg).getD 0
            else ((r.tallies.find? (fun k => k.slot == x && k.hold == h)).map Tally.kg).getD 0)
          ∧ (∀ k, r.claim = some k → k.slot = x → k.hold = h → k.phase = .active → g.onBeltKg = r.onBelt)
          ∧ ((∀ k, r.claim = some k → ¬(k.slot = x ∧ k.hold = h ∧ k.phase = .active)) → g.onBeltKg = none))
        ∧ (∀ n, n ≠ f.origin → (t.row x h).peers.find? (fun g => g.station == n) = (s.row x h).peers.find? (fun g => g.station == n))
        ∧ (∀ k, s.noPass ∨ k.station ≠ s.station → (k ∈ (t.row x h).claims ↔ (k ∈ (s.row x h).claims ∧ k.station ≠ f.origin)
            ∨ ∃ rc, r.claim = some rc ∧ rc.slot = x ∧ rc.hold = h ∧ k = ⟨f.origin, rc.pass, rc.target, rc.phase⟩)) := by
  subst ht
  obtain ⟨a, w, hsa, hfill, hwt, hst, -⟩ := hrec.rows (bytes := bytes)
  rw [hc] at hfill
  obtain ⟨rowsA, hva, hla⟩ := hsa.view hv
  have hvw : w.view x = some (takeReport f.origin x r rowsA) := by rw [State.view_status hfill, hva]; rfl
  obtain ⟨new, hvt, hlt⟩ := hwt.view hvw
  refine ⟨⟨new, hvt, by rw [hlt, takeReport_length, hla]⟩, fun h h1 h2 => ?_⟩
  have hrow : w.row x h = (a.row x h).reported f.origin x r h :=
    State.row_map (g := fun i row => row.reported f.origin x r i) hva hvw (fun i => takeReport_get _ _ _ _ i) h1 (by omega)
  have hord : (s.row x h).peers.Pairwise (fun f g => f.station < g.station) := by
    have hget : rows[h - 1]? = some (rows[h - 1]'(by omega)) := List.getElem?_eq_getElem _
    rw [State.row_of_get hv h1 hget]
    exact (hlists.1 x rows hv _ (List.getElem_mem _)).1
  have hpeers : (((s.arrived p bytes f).hear p f).finish.row x h).peers = setFigure f.origin (r.figure x h) (s.row x h).peers := by
    rw [hwt.peers, hrow, Row.reported_peers, Row.figured, hsa.peers]
  refine ⟨?_, ⟨_, by rw [hpeers]; exact find_setFigure_own (r.figure_station x h) _ hord, ?_, fun k hk hx hh hph => ?_, fun hno => ?_⟩, fun n hn => ?_,
    fun k hk => ?_⟩
  · rw [hwt.delivered, hrow, Row.reported_delivered, hsa.delivered]
  · show (if r.tag x = 0 then _ else r.tallyKg x h) = _
    split
    · cases (s.row x h).peers.find? (fun g => g.station == f.origin) <;> rfl
    · unfold Report.tallyKg
      cases r.tallies.find? (fun k => k.slot == x && k.hold == h) <;> rfl
  · show r.onBeltFor x h = _
    unfold Report.onBeltFor
    rw [Report.claimFor_some.2 ⟨hk, hx⟩]
    exact if_pos ⟨hph, hh⟩
  · show r.onBeltFor x h = _
    unfold Report.onBeltFor
    cases hcl : r.claimFor x with
    | none => rfl
    | some k =>
      obtain ⟨hk, hx⟩ := Report.claimFor_some.1 hcl
      exact if_neg fun hb => hno k hk ⟨hx, hb.2, hb.1⟩
  · rw [hpeers]
    exact find_setFigure (r.figure_station x h) _ n hn
  · rw [hwt.claims x h k (by rw [hst]; exact hk), hrow, Row.mem_reported, hsa.claims x h k hk]

theorem State.claim_rows {p : Side} {bytes : List Byte} {f : Frame} {rows : List Row} {k : ReportClaim} {tag : Nat} (hrec : s.records p f)
    (hc : f.content = .claim (some (k, tag))) (hv : s.view k.slot = some rows) {t : State}
    (ht : t = ((s.arrived p bytes f).hear p f).finish) {h : Nat} (h1 : 1 ≤ h) (h2 : h ≤ rows.length) :
    (t.row k.slot h).delivered = (s.row k.slot h).delivered ∧ (t.row k.slot h).peers = (s.row k.slot h).peers
      ∧ (∀ q, s.noPass ∨ q.station ≠ s.station → (q ∈ (t.row k.slot h).claims ↔ (q ∈ (s.row k.slot h).claims ∧ q.station ≠ f.origin)
          ∨ (k.hold = h ∧ q = ⟨f.origin, k.pass, k.target, .pending⟩))) := by
  subst ht
  obtain ⟨a, w, hsa, hfill, hwt, hst, -⟩ := hrec.rows (bytes := bytes)
  rw [hc] at hfill
  obtain ⟨rowsA, hva, hla⟩ := hsa.view hv
  have hvw : w.view k.slot = some (placeClaim k.hold ⟨f.origin, k.pass, k.target, .pending⟩ rowsA) := by
    rw [(State.view_claim hfill).1, hva]
    rfl
  have hrow : w.row k.slot h = (a.row k.slot h).placed ⟨f.origin, k.pass, k.target, .pending⟩ (k.hold == h) :=
    State.row_map (g := fun i row => row.placed ⟨f.origin, k.pass, k.target, .pending⟩ (k.hold == i)) hva hvw
      (fun i => placeClaim_get _ _ _ i) h1 (by omega)
  refine ⟨?_, ?_, fun q hq => ?_⟩
  · rw [hwt.delivered, hrow, show ((a.row k.slot h).placed _ _).delivered = (a.row k.slot h).delivered from rfl, hsa.delivered]
  · rw [hwt.peers, hrow, show ((a.row k.slot h).placed _ _).peers = (a.row k.slot h).peers from rfl, hsa.peers]
  · rw [hwt.claims k.slot h q (by rw [hst]; exact hq), hrow, Row.mem_placed, hsa.claims k.slot h q hq, beq_iff_eq]

/-- The views that a frame does not reach, with no pass under way. -/
theorem State.unreached_view {p : Side} {bytes : List Byte} {f : Frame} {x : Slot} (hrec : s.records p f) (hp : s.noPass)
    (h : ∀ a w : State, w.fill = a.fill.handed f.origin f.content → w.view x = a.view x) :
    ((s.arrived p bytes f).hear p f).finish.view x = s.view x := by
  obtain ⟨a, w, -, hfill, -, -, hsame⟩ := hrec.rows (bytes := bytes)
  obtain ⟨ha, ht⟩ := hsame hp
  have view : ∀ {u v : State}, u.fill = v.fill → u.view x = v.view x := fun he => by cases x <;> simp only [State.view, he]
  rw [view ht, h a w hfill, view ha]

/-! ## The MISMATCH marks (R78) -/

/-- An entry disagrees on a slot with an own session there (R78). -/
def PeerEntry.Disagrees (e : PeerEntry) (x : Slot) (planTag : Nat) : Prop :=
  e.freshness = .fresh ∧ ((∃ r, e.report = some r ∧ r.tag x ≠ 0 ∧ r.tag x ≠ planTag) ∨ ∃ tag, e.claimTag = some (x, tag) ∧ tag ≠ planTag)

theorem State.disagrees_iff {x : Slot} {ses : Session} (hs : s.session x = some ses) (e : PeerEntry) :
    (s.disagrees x e).isSome = true ↔ e.Disagrees x ses.planTag := by
  have htag : ∀ tag, s.tagDiffers x tag = (tag != ses.planTag) := fun tag => by
    unfold State.tagDiffers
    rw [hs]
  unfold State.disagrees PeerEntry.Disagrees
  by_cases hf : e.freshness = .fresh
  · rw [if_neg (not_not.2 hf)]
    simp only [htag, bne_iff_ne, hf, true_and]
    cases e.report with
    | none =>
      cases e.claimTag with
      | none => simp
      | some y =>
        obtain ⟨y, tag⟩ := y
        by_cases hy : y = x ∧ tag ≠ ses.planTag <;> simp_all
    | some r =>
      by_cases hr : r.tag x ≠ 0 ∧ r.tag x ≠ ses.planTag
      · simp [hr]
      · have hno : ¬∃ q, some r = some q ∧ q.tag x ≠ 0 ∧ q.tag x ≠ ses.planTag := fun ⟨q, hq, hd⟩ => hr (Option.some.inj hq ▸ hd)
        dsimp only
        rw [if_neg hr, or_iff_right hno]
        cases e.claimTag with
        | none => simp
        | some y =>
          obtain ⟨y, tag⟩ := y
          by_cases hy : y = x ∧ tag ≠ ses.planTag <;> simp_all
  · rw [if_pos hf]
    simp [hf]

theorem State.firstDisagreeing_isSome (s : State) (x : Slot) :
    (s.firstDisagreeing x).isSome = true ↔ ∃ e ∈ s.peers, (s.disagrees x e).isSome = true := by
  unfold State.firstDisagreeing
  rw [List.findSome?_isSome_iff]
  simp only [Option.isSome_map]

theorem State.decideMismatch_mark (s : State) (x y : Slot) :
    ((s.decideMismatch x).berth y).mismatch = if y = x then (s.firstDisagreeing x).isSome else (s.berth y).mismatch := by
  unfold State.decideMismatch
  cases hd : s.firstDisagreeing x with
  | some d =>
    dsimp only
    split
    · split
      · rename_i hm hy
        rw [hy, hm]
        rfl
      · rfl
    · cases x <;> cases y <;> rfl
  | none =>
    dsimp only
    split
    · cases x <;> cases y <;> rfl
    · rename_i hm
      split
      · rename_i hy
        rw [hy]
        exact Bool.eq_false_iff.2 hm
      · rfl

theorem State.firstDisagreeing_congr (hp : t.peers = s.peers) (x : Slot)
    (hs : (t.session x).map Session.planTag = (s.session x).map Session.planTag) : t.firstDisagreeing x = s.firstDisagreeing x := by
  have htag : ∀ tag, t.tagDiffers x tag = s.tagDiffers x tag := fun tag => by
    unfold State.tagDiffers
    cases ht : t.session x <;> cases hx : s.session x <;> simp_all
  unfold State.firstDisagreeing State.disagrees
  simp only [hp, htag]

theorem State.decideMismatch_session (s : State) (x y : Slot) : (s.decideMismatch x).session y = s.session y :=
  ((State.TableOnly.refl s).decideMismatch x).sessions y

/-- The marks decided afresh. -/
theorem State.remarked_mark (w before : State) (x : Slot) : ((w.remarked before true).berth x).mismatch = (w.firstDisagreeing x).isSome := by
  have hr : w.remarked before true = (w.decideMismatch .a).decideMismatch .b := if_pos rfl
  have hb : (w.decideMismatch .a).firstDisagreeing .b = w.firstDisagreeing .b :=
    State.firstDisagreeing_congr (w.decideMismatch_peers .a) .b (by rw [w.decideMismatch_session])
  rw [hr, State.decideMismatch_mark, hb]
  cases x
  · rw [if_neg (by decide), State.decideMismatch_mark, if_pos rfl]
  · rw [if_pos rfl]

theorem State.arrived_planTag (s : State) (p : Side) (bytes : List Byte) (f : Frame) (x : Slot) :
    ((s.arrived p bytes f).session x).map Session.planTag = (s.session x).map Session.planTag := by
  by_cases h : (s.line.port p).state = .lost
  · have hr := State.arrived_lost h bytes f
    rw [hr]
    unfold State.countRestore
    rw [if_pos h]
    split
    · split
      · rfl
      · rw [s.restore_eq]
        have hu := State.travelEvent_unpassed (t := ({ s with line := s.restoredLine p } : State).notify (.portRestored p)) (x := x)
        have hplan := congrArg (Option.map Session.planTag) hu
        unfold State.unpassed at hplan
        simp only [Option.map_map, Function.comp_def, Session.unpassed] at hplan
        exact hplan
    · rfl
  · obtain ⟨l, q, he, -⟩ := State.arrived_open h bytes f
    rw [he]
    rfl

/-- A frame that is an occasion for R78 decides the mark by the table that it leaves. -/
theorem State.heard_mark {p : Side} {bytes : List Byte} {f : Frame} {x : Slot} {ses : Session} (hrec : s.records p f)
    (hc : f.content.tagged = true) (hs : s.session x = some ses) {t : State} (ht : t = ((s.arrived p bytes f).hear p f).finish) :
    ((t.berth x).mismatch = true ↔ ∃ e ∈ t.peers, e.Disagrees x ses.planTag) ∧ (s.noPass → t.session x = some ses) := by
  obtain ⟨a, ha⟩ : ∃ a, a = s.arrived p bytes f := ⟨_, rfl⟩
  have hplan := s.arrived_planTag p bytes f x
  rw [← ha] at hplan ht
  have hreca : a.records p f := fun e he => hrec e (by rw [ha, s.arrived_entry] at he; exact he)
  obtain ⟨w, hw⟩ : ∃ w, w = a.heardAs p f ((a.entry f.origin).map PeerEntry.freshness) (a.toRecord p f) := ⟨_, rfl⟩
  have htable : a.TableOnly w := hw ▸ a.heardAs_tableOnly p f _ _
  have hheard : a.hear p f = w.afterPeers a true := by rw [hw, hreca.hear, hc]
  obtain ⟨sw, hsw, htag⟩ : ∃ sw, w.session x = some sw ∧ sw.planTag = ses.planTag := by
    rw [hs, ← htable.sessions x] at hplan
    cases hx : w.session x with
    | none =>
      rw [hx] at hplan
      cases hplan
    | some sw =>
      rw [hx] at hplan
      exact ⟨sw, rfl, Option.some.inj hplan⟩
  have hmark : (t.berth x).mismatch = (w.firstDisagreeing x).isSome := by
    have hb : t.berth x = (w.afterPeers a true).berth x := by
      rw [ht, hheard]
      cases x <;> simp only [State.berth, State.finish_berths]
    rw [hb, (w.afterPeers_kept a true).mismatch, w.remarked_mark]
  have hpeers : t.peers = w.peers := by rw [ht, State.finish_peers, hheard, State.afterPeers_peers]
  refine ⟨?_, fun hp => ?_⟩
  · rw [hmark, State.firstDisagreeing_isSome, hpeers]
    simp only [State.disagrees_iff hsw, htag]
  · obtain ⟨l, q, -, -, -, honly⟩ := s.arrived_form p bytes f
    rw [← ha] at honly
    have hasame : a.session x = s.session x := by
      have hb : a.berths = s.berths := honly hp .berths (by decide)
      unfold State.session State.berth
      rw [hb]
    have hafill : a.fill = s.fill := honly hp .fill (by decide)
    have hap : a.noPass := hp.congr (honly hp .pour (by decide)) (congrArg Fill.claim hafill)
    have hwa : a.onlyIn w [.peers, .port, .dust, .fill] := hw ▸ a.onlyIn_heardAs p f _ _
    have hwp : w.noPass := hap.congr (hwa .pour (by decide)) htable.claim.1
    obtain ⟨v, bodies, due, hv, -, -⟩ := (w.remarked a true).rangeEvent_form
    have hfin : t.session x = (w.afterPeers a true).session x := by
      unfold State.session State.berth
      rw [ht, hheard, State.finish_berths]
    have hrs : (w.remarked a true).session x = w.session x := (w.remarked_tableOnly a true).sessions x
    rw [hfin, hwp.afterPeers, hv, show ((w.remarked a true).traveled v bodies due).session x = (w.remarked a true).session x from rfl, hrs,
      htable.sessions x, hasame, hs]

end Sys2Proof.Machine

end

section
/-! Peers at the hold table views and the MISMATCH marks, continued: O50. -/

namespace Sys2Proof.Machine

variable {s t u w x : State}

/-! ## One peer that alone disagrees -/

theorem findSome_only {α β : Type} {l : List α} {g : α → Option β} {v : β} (hmem : ∃ a ∈ l, g a = some v)
    (hall : ∀ a ∈ l, g a = none ∨ g a = some v) : l.findSome? g = some v := by
  induction l with
  | nil => exact absurd hmem (by simp)
  | cons a rest ih =>
    rw [List.findSome?_cons]
    rcases hall a (.head _) with ha | ha
    · rw [ha]
      obtain ⟨b, hb, hv⟩ := hmem
      rcases List.mem_cons.1 hb with rfl | hb
      · exact absurd (ha.symm.trans hv) nofun
      · exact ih ⟨b, hb, hv⟩ fun c hc => hall c (.tail _ hc)
    · rw [ha]

/-- A frame on a port that is UP, where the repeat finds room, changes the line alone before it reaches the table. -/
theorem State.takesFrom.arrives {c : Instr} {p : Side} {f : Frame} {e : PeerEntry} (h : s.takesFrom c p f e) : ∃ bytes l,
    exec c s = .next ((s.wired l s.port).hear p f).finish ∧ s.arrived p bytes f = s.wired l s.port ∧ s.line.Alike l := by
  obtain ⟨bytes, hframe, hread, hm, hother, hup, hroom, -⟩ := h
  obtain ⟨l, q, harr, -, hl, hq⟩ := State.arrived_open (s := s) (p := p) (by rw [hup]; nofun) bytes f
  rw [hq hroom] at harr
  exact ⟨bytes, l, by rw [exec_frame_heard hframe hm hread hother, harr], harr, hl⟩

theorem State.takesFrom.records {c : Instr} {p : Side} {f : Frame} {e : PeerEntry} (h : s.takesFrom c p f e) : s.records p f := by
  obtain ⟨-, -, -, -, -, -, -, he, hside, hfresh⟩ := h
  intro o ho
  obtain rfl := Option.some.inj (he.symm.trans ho)
  exact ⟨by rw [hfresh]; nofun, hside⟩

/-- The one peer that disagrees is named. -/
theorem State.firstDisagreeing_only {x : Slot} {ses : Session} {r : PeerEntry} {rep : Report} (hs : w.session x = some ses) (hr : r ∈ w.peers)
    (hfresh : r.freshness = .fresh) (hreport : r.report = some rep) (h0 : rep.tag x ≠ 0) (hne : rep.tag x ≠ ses.planTag)
    (hothers : ∀ o ∈ w.peers, o = r ∨ o.freshness ≠ .fresh) : w.firstDisagreeing x = some (r.station, rep.tag x) := by
  have hd : w.disagrees x r = some (rep.tag x) := by
    unfold State.disagrees State.tagDiffers
    rw [if_neg (not_not.2 hfresh), hreport, hs]
    simp [h0, hne]
  refine findSome_only ⟨r, hr, by rw [hd]; rfl⟩ fun o ho => ?_
  rcases hothers o ho with rfl | hf
  · exact .inr (by rw [hd]; rfl)
  · refine .inl ?_
    unfold State.disagrees
    rw [if_pos hf]
    rfl

theorem State.firstDisagreeing_noSession {x : Slot} (hs : w.session x = none) : w.firstDisagreeing x = none := by
  by_contra hne
  obtain ⟨e, -, he⟩ := (w.firstDisagreeing_isSome x).1 (Option.isSome_iff_ne_none.2 hne)
  unfold State.disagrees State.tagDiffers at he
  rw [hs] at he
  cases hr : e.report <;> cases hc : e.claimTag <;> simp [hr, hc] at he

theorem State.decideMismatch_same {x : Slot} (h : (w.firstDisagreeing x).isSome = (w.berth x).mismatch) : w.decideMismatch x = w := by
  unfold State.decideMismatch
  cases hd : w.firstDisagreeing x with
  | some d =>
    rw [hd] at h
    exact if_pos h.symm
  | none =>
    rw [hd] at h
    exact if_neg (by rw [← h]; nofun)

/-- A slot's mark set, its peer named; the other slot has none. -/
theorem State.remarked_set {before : State} {x : Slot} {d : Nat × Nat} (hd : w.firstDisagreeing x = some d) (hm : (w.berth x).mismatch = false)
    (hother : w.berth x.other = ⟨false, none⟩) : w.remarked before true
      = (w.onBerth x (fun b => { b with mismatch := true })).notify (.planMismatch x (some d)) := by
  have hset : w.decideMismatch x = (w.onBerth x (fun b => { b with mismatch := true })).notify (.planMismatch x (some d)) := by
    unfold State.decideMismatch
    rw [hd]
    exact if_neg (by rw [hm]; nofun)
  have still : ∀ v : State, v.berth x.other = ⟨false, none⟩ → v.decideMismatch x.other = v := fun v hv => by
    refine State.decideMismatch_same ?_
    rw [State.firstDisagreeing_noSession (by unfold State.session; rw [hv]), hv]
    rfl
  have hr : w.remarked before true = (w.decideMismatch .a).decideMismatch .b := if_pos rfl
  rw [hr]
  cases x with
  | a =>
    rw [hset]
    exact still _ hother
  | b => rw [show w.decideMismatch .a = w from still w hother, hset]

theorem State.mismatch_named {c : Instr} {p : Side} {f : Frame} {e : PeerEntry} {r : Report} {x : Slot} {ses : Session} (hfrom : s.takesFrom c p f e)
    (hp : s.noPass) (hh : s.heldShort) (hord : s.peersOrdered) (hc : f.content = .status r) (hvalid : r.positionValid = true)
    (hs : s.session x = some ses) (h0 : r.tag x ≠ 0) (hne : r.tag x ≠ ses.planTag) (hm : (s.berth x).mismatch = false)
    (hother : s.berth x.other = ⟨false, none⟩) (hstale : ∀ o ∈ s.peers, o.station ≠ f.origin → o.freshness ≠ .fresh) :
    ∃ t, exec c s = .next t ∧ (t.berth x).mismatch = true ∧ t.port = s.port.raise s.count (.planMismatch x (some (f.origin, r.tag x))) := by
  obtain ⟨bytes, l, run, harr, hl⟩ := hfrom.arrives
  have hrec := hfrom.records
  obtain ⟨-, -, -, -, -, -, -, he, -, hfresh⟩ := hfrom
  obtain ⟨a, ha⟩ : ∃ a, a = s.wired l s.port := ⟨_, rfl⟩
  rw [← ha] at run
  have hea : ∀ n, a.entry n = s.entry n := fun n => by rw [ha]; rfl
  have hreca : a.records p f := fun o ho => hrec o ((hea _).symm.trans ho)
  have hr := hreca.toRecord
  obtain ⟨q, hq⟩ : ∃ q, q = a.toRecord p f := ⟨_, rfl⟩
  rw [← hq] at hr
  have hqreport : q.report = some r := by rw [hr.report, hc]; rfl
  have hqfresh : q.freshness = .fresh := by
    rw [hr.freshness, hqreport]
    exact if_pos hvalid
  obtain ⟨w, hw⟩ : ∃ w, w = (a.onPeers (setEntry q)).handOn q f.content := ⟨_, rfl⟩
  have hheard : a.hear p f = w.afterPeers a true := by
    rw [hreca.hear, ← hq, State.heardAs, hea, he, Option.map_some, hfresh, if_pos (congrArg some hqfresh.symm), hc, hw, hc]
    rfl
  have hwport : w.port = s.port := by rw [hw, ha]; rfl
  have hwcount : w.count = s.count := by rw [hw, ha]; rfl
  have hwberth : ∀ y, w.berth y = s.berth y := fun y => by rw [hw, ha]; rfl
  have hwp : w.noPass := hp.congr (by rw [hw, ha]; rfl) (by rw [hw, hc, ha]; rfl)
  have hwh : w.heldShort := by rw [hw, ha]; exact hh
  have hset := setEntry_ordered q a.peers (by rw [ha]; exact hord)
  have hpeers : w.peers = setEntry q a.peers := by rw [hw]; rfl
  have hqmem : q ∈ w.peers := by
    rw [hpeers]
    have hfind := find_setEntry q a.peers q.station
    rw [if_pos rfl] at hfind
    exact List.mem_of_find?_eq_some hfind
  have hothers : ∀ o ∈ w.peers, o = q ∨ o.freshness ≠ .fresh := fun o ho => by
    rw [hpeers] at ho
    refine (hset.2 o ho).imp_right fun ⟨hmem, hst⟩ => hstale o (by rw [ha] at hmem; exact hmem) (hr.station ▸ hst)
  have hfirst : w.firstDisagreeing x = some (f.origin, r.tag x) := by
    rw [← hr.station]
    exact State.firstDisagreeing_only (by unfold State.session; rw [hwberth]; exact hs) hqmem hqfresh hqreport h0 hne hothers
  have hmarked := State.remarked_set (before := a) hfirst (by rw [hwberth]; exact hm) (by rw [hwberth]; exact hother)
  have hmh : (w.remarked a true).heldShort := by rw [hmarked]; exact hwh
  obtain ⟨v, due, hv, -⟩ := hmh.rangeEvent
  refine ⟨_, run, ?_, ?_⟩
  · have hb : ∀ u : State, u.finish.berth x = u.berth x := fun u => by cases x <;> simp only [State.berth, State.finish_berths]
    rw [hb, hheard, hwp.afterPeers, hv, hmarked]
    cases x <;> rfl
  · rw [State.finish_port, hheard, hwp.afterPeers, hv, hmarked, ← hwport, ← hwcount]
    rfl

end Sys2Proof.Machine

open Sys2Proof Sys2Proof.Machine

/-- Settles O50. A recorded STATUS or CLAIM rewrites each row at its place; the marks are decided by the table it leaves. -/
theorem peersReachTheHoldTable : Obligations.PeersReachTheHoldTable := by
  unfold Obligations.PeersReachTheHoldTable
  refine ⟨fun s c p bytes f x _ hframe hm hread hother hord hlists hrec => ?_, fun s c p f e r x ses _ hfrom hp hh hord hc hvalid hs h0 hne hmark
    hno hstale => State.mismatch_named hfrom hp hh hord hc hvalid hs h0 hne hmark hno hstale⟩
  obtain ⟨t, run, honly, -⟩ := State.heard_facts hframe hm hread hother hord
  obtain rfl : t = ((s.arrived p bytes f).hear p f).finish :=
    (Host.Outcome.next.inj ((exec_frame_heard hframe hm hread hother).symm.trans run)).symm
  refine ⟨_, run, honly, fun rows r hc hv => State.status_rows hrec hlists hc hv rfl, fun k tag hc => ⟨fun hp hx => ?_, fun rows hx hv h h1 h2 => ?_⟩,
    fun hp hno hnoclaim => ?_, fun hocc ses hs => ?_⟩
  · exact State.unreached_view hrec hp fun a w hfill => (State.view_claim (hc ▸ hfill)).2 x hx
  · subst hx
    exact State.claim_rows hrec hc hv rfl h1 h2
  · refine State.unreached_view hrec hp fun a w hfill => ?_
    have hsame : w.fill = a.fill := by
      rw [hfill]
      cases hcontent : f.content with
      | status r => exact absurd hcontent (hno r)
      | claim k =>
        cases k with
        | none => rfl
        | some k => exact absurd hcontent (hnoclaim k)
      | dust _ _ | brk _ => rfl
    cases x <;> simp only [State.view, hsame]
  · have htagged : f.content.tagged = true := by
      rcases hocc with ⟨r, hc⟩ | ⟨k, hc⟩ <;> rw [hc] <;> rfl
    obtain ⟨hmark, hsame⟩ := State.heard_mark hrec htagged hs rfl
    exact ⟨hsame, hmark⟩

end

section
/-! The late-conflict test and peers' dust at the pour (sections 6.7, 7.5, 7.6, 7.9 and 8.9): O51. -/

namespace Sys2Proof.Machine

variable {s t u w x : State}

/-! ## The ranking of the ACTIVE claims (R120) -/

theorem idxOf_sorted {l : List Nat} (hl : l.Pairwise (fun a b => a < b)) {n : Nat} (hn : n ∈ l) :
    l.idxOf n = (l.filter (fun m => decide (m < n))).length := by
  induction l with
  | nil => exact absurd hn (by simp)
  | cons a rest ih =>
    obtain ⟨ha, hrest⟩ := List.pairwise_cons.1 hl
    by_cases he : a = n
    · subst he
      have hnone : rest.filter (fun m => decide (m < a)) = [] := List.filter_eq_nil_iff.2 fun m hm => by
        have := ha m hm
        simp only [decide_eq_true_eq]
        omega
      rw [List.idxOf_cons_self, List.filter_cons, if_neg (by simp), hnone]
      rfl
    · have hr : n ∈ rest := (List.mem_cons.1 hn).resolve_left (Ne.symm he)
      rw [List.idxOf_cons_ne _ he, ih hrest hr, List.filter_cons, if_pos (by simpa using ha n hr), List.length_cons]

theorem State.listsOrdered.claims (h : s.listsOrdered) (y : Slot) (n : Nat) :
    (s.row y n).claims.Pairwise (fun c d => c.station < d.station) := by
  unfold State.row
  cases hv : s.view y with
  | none => exact .nil
  | some rows =>
    dsimp only
    split
    · exact .nil
    · rw [List.getD_eq_getElem?_getD]
      cases hr : rows[n - 1]? with
      | none => exact .nil
      | some r => exact (h.1 y rows hv r (List.mem_of_getElem? hr)).2

theorem State.rankedClaims_ordered {y : Slot} {n : Nat} (h : (s.row y n).claims.Pairwise (fun c d => c.station < d.station)) :
    (s.rankedClaims y n).Pairwise (fun a b => a < b) := List.pairwise_map.2 (h.filter _)

/-- The state that the test yields the pass in: the mark and the notice. -/
def State.conflicted (s : State) (c : OwnClaim) (p : HoldPlan) : State :=
  (s.onFill (fun f => { f with claim := f.claim.map (fun k => { k with yielded := true }) })).notify
    (.lateConflict c.slot c.hold (s.rankedClaims c.slot c.hold) p.spoutLimit)

/-- The late-conflict test, for an own claim that is ACTIVE and ranked. -/
theorem State.lateConflictTest_eq {c : OwnClaim} {p : HoldPlan} (hc : s.fill.claim = some c) (ha : c.phase = .active)
    (hp : s.plan c.slot c.hold = some p) (hord : (s.row c.slot c.hold).claims.Pairwise (fun c d => c.station < d.station))
    (hown : s.station ∈ s.rankedClaims c.slot c.hold) : s.lateConflictTest
      = if c.yielded = false ∧ s.pour.state ≠ .runout
          ∧ p.spoutLimit ≤ ((s.rankedClaims c.slot c.hold).filter (fun n => decide (n < s.station))).length
        then (s.conflicted c p).yieldPour else s := by
  have hactive : s.activeClaim = some c := by
    unfold State.activeClaim
    rw [hc]
    exact if_pos ha
  have hidx := idxOf_sorted (State.rankedClaims_ordered hord) hown
  unfold State.lateConflictTest
  rw [hactive]
  dsimp only
  rw [hp]
  dsimp only
  rw [hidx]
  refine if_congr ?_ rfl rfl
  simp only [Bool.and_eq_true, Bool.not_eq_true', bne_iff_ne, ne_eq, List.contains_iff_mem, decide_eq_true_eq, hown, and_true, Nat.lt_succ_iff,
    and_assoc]

/-! ## The pass yielded -/

theorem Pour.belted_kept (p : Pour) (running : Bool) (timer : Timer) (on : Bool) :
    (p.belted running timer on).gateCommand = p.gateCommand ∧ (p.belted running timer on).causes = p.causes := by
  unfold Pour.belted
  repeat' split
  all_goals exact ⟨rfl, rfl⟩

/-- A pour whose gate is open, or moving, when RUNOUT is entered. -/
theorem State.yieldPour_runs (hs : s.pour.state = .starting ∨ s.pour.state = .pouring ∨ s.pour.state = .throttled ∨ s.pour.state = .suspended)
    (hg : s.pour.gate = .opening ∨ s.pour.gate = .opened ∨ s.pour.gate = .closing) : ∃ v,
    s.yieldPour = s.poured v [] s.bills true ∧ v.state = .runout ∧ v.runoutCause = some .yielded ∧ v.gateCommand = .closed
      ∧ v.gate = .closing ∧ v.causes = s.pour.causes := by
  have hne : s.pour.state ≠ .runout := by rcases hs with h | h | h | h <;> rw [h] <;> nofun
  have hyield : s.yieldPour = s.enterRunout .yielded := by
    unfold State.yieldPour
    rcases hs with h | h | h | h <;> rw [h]
  have hgoes : s.runoutGoesOn := by
    rcases hg with h | h | h
    · exact .inl h
    · exact .inr (.inl h)
    · exact .inr (.inr (.inl h))
  have hshut : (s.pour.shut s.gateTimer).gate = .closing := by
    unfold Pour.shut
    rcases hg with h | h | h <;> rw [h]
  obtain ⟨hstate, hcause, hgate, -⟩ := Pour.belted_fields
    ({ (s.pour.shut s.gateTimer) with phase := none, runoutCause := some .yielded, runoutShifts := 0, state := .runout } : Pour)
    s.inputs.beltRunning (s.timer Config.beltStartMs) (!s.pour.causes.stopsBelt)
  obtain ⟨hcommand, hcauses⟩ := Pour.belted_kept
    ({ (s.pour.shut s.gateTimer) with phase := none, runoutCause := some .yielded, runoutShifts := 0, state := .runout } : Pour)
    s.inputs.beltRunning (s.timer Config.beltStartMs) (!s.pour.causes.stopsBelt)
  exact ⟨_, hyield.trans (State.enterRunout_goesOn hne hgoes .yielded), hstate, hcause, hcommand, hgate.trans hshut, hcauses⟩

theorem State.lateConflict_facts {c : OwnClaim} {hp : HoldPlan} {ranked : List Nat} (hc : s.fill.claim = some c) (ha : c.phase = .active)
    (hplan : s.plan c.slot c.hold = some hp) (hlists : s.listsOrdered)
    (hranked : ranked = ((s.row c.slot c.hold).claims.filter (fun k => k.phase == .active
      && (k.station == s.station || s.peers.any (fun e => e.station == k.station && e.freshness == .fresh)))).map ClaimEntry.station)
    (hown : s.station ∈ ranked) :
    ((c.yielded = true ∨ s.pour.state = .runout ∨ (ranked.filter (fun n => n < s.station)).length < hp.spoutLimit) →
      s.lateConflictTest = s)
    ∧ (c.yielded = false → s.pour.state ≠ .runout → hp.spoutLimit ≤ (ranked.filter (fun n => n < s.station)).length →
      ∀ t port, t = s.lateConflictTest → port = s.port.raise s.count (.lateConflict c.slot c.hold ranked hp.spoutLimit) →
      (s.pour.state = .positioning → t.fill.claim = none ∧ t.pour = { s.pour with state := .idle, positioningTimer := none }
        ∧ t.port = port.raise s.count (.claimWithdrawn c.slot c.hold .yielded c.pass c.target))
      ∧ ((s.pour.state = .starting ∨ s.pour.state = .pouring ∨ s.pour.state = .throttled ∨ s.pour.state = .suspended) →
        (s.pour.gate = .opening ∨ s.pour.gate = .opened ∨ s.pour.gate = .closing) →
        t.fill.claim = some { c with yielded := true } ∧ t.port = port ∧ t.pour.state = .runout
          ∧ t.pour.runoutCause = some .yielded ∧ t.pour.gateCommand = .closed ∧ t.pour.gate = .closing
          ∧ t.pour.causes = s.pour.causes)) := by
  have hrank : ranked = s.rankedClaims c.slot c.hold := hranked
  subst hrank
  have htest := State.lateConflictTest_eq hc ha hplan (hlists.claims _ _) hown
  refine ⟨fun h => ?_, fun hy hr hlimit t port ht hport => ?_⟩
  · rw [htest, if_neg]
    rintro ⟨hy, hr, hlimit⟩
    rcases h with h | h | h
    · rw [hy] at h
      cases h
    · exact hr h
    · omega
  · rw [htest, if_pos ⟨hy, hr, hlimit⟩] at ht
    have hclaim : (s.conflicted c hp).fill.claim = some { c with yielded := true } := by
      show s.fill.claim.map _ = _
      rw [hc]
      rfl
    have hnoticed : (s.conflicted c hp).port = port := hport.symm
    refine ⟨fun hs => ?_, fun hs hg => ?_⟩
    · have hyield : (s.conflicted c hp).yieldPour = (s.conflicted c hp).withdrawClaim .yielded := by
        unfold State.yieldPour
        rw [show (s.conflicted c hp).pour.state = .positioning from hs]
      rw [hyield, State.withdrawClaim_eq hclaim (by rw [show (s.conflicted c hp).pour.state = .positioning from hs]; nofun)] at ht
      rw [ht, ← hnoticed]
      exact ⟨rfl, rfl, rfl⟩
    · obtain ⟨v, hv, hfields⟩ := State.yieldPour_runs (s := s.conflicted c hp) hs hg
      rw [hv] at ht
      rw [ht]
      exact ⟨hclaim, hnoticed, hfields⟩

end Sys2Proof.Machine

end

section
/-! The late-conflict test and peers' dust at the pour, continued: O51. -/

namespace Sys2Proof.Machine

variable {s t u w x : State}

/-! ## A frame of a peer that is FRESH and stays so -/

/-- The table with the entry of a frame put in the old one's place, and what the frame hands on. -/
def State.given (s : State) (l : QuayLine) (q : PeerEntry) (f : Frame) : State := ((s.wired l s.port).onPeers (setEntry q)).handOn q f.content

theorem State.takesFrom.heard {c : Instr} {p : Side} {f : Frame} {e : PeerEntry} (h : s.takesFrom c p f e)
    (hknown : positionKnown (reportAfter f.content e.report) = true) (hbrk : f.content.cuts p = false) :
    ∃ l q, q.Records s p f ∧ q.freshness = .fresh ∧ s.line.Alike l
      ∧ exec c s = .next ((s.given l q f).afterPeers (s.wired l s.port) f.content.tagged).finish := by
  obtain ⟨bytes, l, run, -, hl⟩ := h.arrives
  have hrec : (s.wired l s.port).records p f := h.records
  obtain ⟨-, -, -, -, -, -, -, he, -, hfresh⟩ := h
  obtain ⟨q, hq⟩ : ∃ q, q = (s.wired l s.port).toRecord p f := ⟨_, rfl⟩
  have hr : q.Records (s.wired l s.port) p f := hq ▸ hrec.toRecord
  have hreport : q.report = reportAfter f.content e.report := by
    rw [hr.report, show (s.wired l s.port).entry f.origin = some e from he]
    rfl
  have hqfresh : q.freshness = .fresh := by
    rw [hr.freshness, hreport]
    exact if_pos hknown
  refine ⟨l, q, ⟨hr.station, hr.side, hr.distance, hr.lastTime, hr.staleTimer, hr.report, hr.freshness, hr.claimTag⟩, hqfresh, hl, ?_⟩
  have hheard : (s.wired l s.port).hear p f = (s.given l q f).afterPeers (s.wired l s.port) f.content.tagged := by
    rw [hrec.hear, ← hq, State.heardAs, show (s.wired l s.port).entry f.origin = some e from he, Option.map_some, hfresh,
      if_pos (congrArg some hqfresh.symm), State.useBreak_eq, hbrk]
    rfl
  rw [run, hheard]

theorem State.given_peers (s : State) (l : QuayLine) (q : PeerEntry) (f : Frame) : (s.given l q f).peers = setEntry q s.peers := rfl

theorem mem_setEntry_self (q : PeerEntry) (l : List PeerEntry) : q ∈ setEntry q l := by
  have hfind := find_setEntry q l q.station
  rw [if_pos rfl] at hfind
  exact List.mem_of_find?_eq_some hfind

theorem State.travelEvent_rests (h1 : s.travel.state ≠ .moving) (h2 : s.travel.state ≠ .held) : s.travelEvent = s.recompute := by
  unfold State.travelEvent State.rangeEvent
  rw [State.travelAct_rests (s := s.recompute) h1 h2]
  rfl

/-! ## The causes of a pour in RUNOUT -/

theorem CauseSet.put_false_ne {c : SuspendCause} {q : CauseSet} (h : q.has c = true) : q ≠ q.put false c := by
  intro e
  rw [e] at h
  cases c <;> simp [CauseSet.has, CauseSet.put] at h

/-- What the causes of a pour in RUNOUT may change: the belt, and no more of the run-out. -/
def Pour.RunsOn (p v : Pour) : Prop :=
  v.state = p.state ∧ v.runoutCause = p.runoutCause ∧ v.gateCommand = p.gateCommand ∧ v.gate = p.gate

theorem Pour.belted_runsOn (p : Pour) (running : Bool) (timer : Timer) (on : Bool) : p.RunsOn (p.belted running timer on) :=
  ⟨(p.belted_fields running timer on).1, (p.belted_fields running timer on).2.1, (p.belted_kept running timer on).1,
    (p.belted_fields running timer on).2.2.1⟩

theorem State.addCause_runsOn {k : OwnClaim} (hs : s.pour.state = .runout) (hk : s.fill.claim = some k) : ∃ v bodies,
    s.addCause .dustPeer = s.poured v bodies s.bills s.line.statusDue ∧ s.pour.RunsOn v
      ∧ ∀ b ∈ bodies, ∃ cs, b = .pourSuspended k.slot k.hold cs := by
  cases hc : s.pour.causes.has .dustPeer with
  | true => exact ⟨s.pour, [], State.addCause_idle (.inr hc), ⟨rfl, rfl, rfl, rfl⟩, by simp⟩
  | false =>
    refine ⟨(s.pour.withCause .dustPeer).belted s.inputs.beltRunning (s.timer Config.beltStartMs)
        (!(s.pour.causes.put true .dustPeer).stopsBelt), [.pourSuspended k.slot k.hold (s.pour.causes.put true .dustPeer)], ?_, ?_,
      fun b hb => ⟨_, List.mem_singleton.1 hb⟩⟩
    · rw [State.addCause_of_clear hc (State.lineOpen_of hs rfl), if_neg (by decide), State.causes_join (.inr hs) hc hk]
    · exact (s.pour.withCause .dustPeer).belted_runsOn _ _ _

theorem State.removeCause_runsOn {k : OwnClaim} (hs : s.pour.state = .runout) (hk : s.fill.claim = some k) : ∃ v bodies,
    s.removeCause .dustPeer = s.poured v bodies s.bills s.line.statusDue ∧ s.pour.RunsOn v
      ∧ ∀ b ∈ bodies, ∃ cs, b = .pourSuspended k.slot k.hold cs := by
  cases hc : s.pour.causes.has .dustPeer with
  | false => exact ⟨s.pour, [], State.removeCause_idle (.inr hc), ⟨rfl, rfl, rfl, rfl⟩, by simp⟩
  | true =>
    obtain ⟨p, hp⟩ : ∃ p : Pour, p = { s.pour with
      causes := s.pour.causes.put false .dustPeer
      passSuspended := s.pour.passSuspended || !(s.pour.causes.put false .dustPeer).isEmpty } := ⟨_, rfl⟩
    have hset : s.setCauses (s.pour.causes.put false .dustPeer)
        = s.poured p [.pourSuspended k.slot k.hold (s.pour.causes.put false .dustPeer)] s.bills s.line.statusDue := by
      rw [State.setCauses_lineOpen (CauseSet.put_false_ne hc) hk (State.lineOpen_of hs rfl), hp]
      rfl
    have hps : p.state = .runout := by rw [hp]; exact hs
    refine ⟨p.belted s.inputs.beltRunning (s.timer Config.beltStartMs) (!p.causes.stopsBelt),
      [.pourSuspended k.slot k.hold (s.pour.causes.put false .dustPeer)], ?_, ?_, fun b hb => ⟨_, List.mem_singleton.1 hb⟩⟩
    · have ho : s.lineOpen = true := State.lineOpen_of hs rfl
      unfold State.removeCause
      rw [ho, hc]
      simp only [Bool.and_self, if_true]
      rw [hset, State.poured_onPour, if_neg (by decide)]
      simp only [State.poured_pour, hps]
      rw [← hps]
      rfl
    · obtain ⟨h1, h2, h3, h4⟩ := p.belted_runsOn s.inputs.beltRunning (s.timer Config.beltStartMs) (!p.causes.stopsBelt)
      rw [hp] at h1 h2 h3 h4 ⊢
      exact ⟨h1, h2, h3, h4⟩

/-- The peers' dust at a pour in RUNOUT. -/
theorem State.syncDustPeer_runsOn {k : OwnClaim} (hs : s.pour.state = .runout) (hk : s.fill.claim = some k) : ∃ v bodies,
    s.syncDustPeer = s.poured v bodies s.bills s.line.statusDue ∧ s.pour.RunsOn v
      ∧ ∀ b ∈ bodies, ∃ cs, b = .pourSuspended k.slot k.hold cs := by
  have synced : ∃ v bodies, s.syncCause .dustPeer (s.peerReports .trip) = s.poured v bodies s.bills s.line.statusDue ∧ s.pour.RunsOn v
      ∧ ∀ b ∈ bodies, ∃ cs, b = .pourSuspended k.slot k.hold cs := by
    unfold State.syncCause
    split
    · exact State.addCause_runsOn hs hk
    · exact State.removeCause_runsOn hs hk
  obtain ⟨v, bodies, hv, hruns, hb⟩ := synced
  refine ⟨v, bodies, ?_, hruns, hb⟩
  have hvs : v.state = .runout := hruns.1.trans hs
  unfold State.syncDustPeer
  rw [hv, State.retestThrottle_idle (by rw [State.poured_pour, hvs]; nofun) (by rw [State.poured_pour, hvs]; nofun)
    (by rw [State.poured_pour, hvs]; nofun)]

/-! ## A notice that others do not replace -/

theorem LocalPort.Tells.enter_other {p : LocalPort} {b : NoticeBody} (h : p.Tells b) {c : NoticeBody} (hb : b.sameKey c = false) (now : Nat)
    (time : Nat) : (p.enter now c time).Tells b := by
  unfold LocalPort.enter
  split
  · exact h
  · split
    · refine h.imp_left fun ⟨n, hn, hbody⟩ => ⟨_, List.mem_map.2 ⟨n, hn, if_neg ?_⟩, hbody⟩
      rw [hbody, hb]
      nofun
    · split
      · have joined : ({ p with notices := p.notices ++ [⟨c, time % 2 ^ 32, 0⟩] } : LocalPort).Tells b :=
          h.imp_left fun ⟨n, hn, hbody⟩ => ⟨n, List.mem_append_left _ hn, hbody⟩
        exact joined.followAge _ _
      · split
        · exact LocalPort.Tells.followAge (p := { p with
            notices := dropNewest (lowestClass p.notices) p.notices ++ [⟨c, time % 2 ^ 32, 0⟩], overflow := true }) (.inr rfl) _ _
        · exact .inr rfl

theorem LocalPort.raise_unselected {p : LocalPort} (hsel : p.select = none) (now : Nat) (c : NoticeBody) : (p.raise now c).select = none := by
  have hsome := (p.raise_kept now c).selected
  rw [hsel] at hsome
  exact Option.isNone_iff_eq_none.1 (Option.isSome_eq_false_iff.1 hsome)

theorem LocalPort.raiseAll_unselected {p : LocalPort} (hsel : p.select = none) (now : Nat) (bodies : List NoticeBody) :
    (p.raiseAll now bodies).select = none := by
  have hsome := (p.raiseAll_kept now bodies).selected
  rw [hsel] at hsome
  exact Option.isNone_iff_eq_none.1 (Option.isSome_eq_false_iff.1 hsome)

theorem LocalPort.Tells.raiseAll_others {p : LocalPort} {b : NoticeBody} (h : p.Tells b) (hsel : p.select = none) (now : Nat)
    (bodies : List NoticeBody) (hb : ∀ c ∈ bodies, b.sameKey c = false) : (p.raiseAll now bodies).Tells b := by
  induction bodies generalizing p with
  | nil => exact h
  | cons c rest ih =>
    refine ih (p := p.raise now c) ?_ (LocalPort.raise_unselected hsel now c) fun d hd => hb d (.tail _ hd)
    rw [LocalPort.raise_of_unselected p now c hsel]
    exact h.enter_other (hb c (.head _)) now now

end Sys2Proof.Machine

end

section
/-! The late-conflict test and peers' dust at the pour, continued: O51. -/

namespace Sys2Proof.Machine

variable {s t u w x : State}

/-! ## A STATUS that brings a claim of a lower number -/

theorem Row.placed_ordered {r : Row} (h : r.claims.Pairwise (fun c d => c.station < d.station)) (c : ClaimEntry) (here : Bool) :
    (r.placed c here).claims.Pairwise (fun c d => c.station < d.station) := by
  have hfilter := h.filter (fun k => k.station != c.station)
  cases here with
  | true => exact (insertClaim_ordered c _ hfilter fun d hd => bne_iff_ne.1 (List.mem_filter.1 hd).2).1
  | false => exact hfilter

theorem Row.reported_ordered {row : Row} (hrow : row.claims.Pairwise (fun c d => c.station < d.station)) (n : Nat) (y : Slot) (r : Report) (h : Nat) :
    (row.reported n y r h).claims.Pairwise (fun c d => c.station < d.station) := by
  unfold Row.reported
  split
  · exact Row.placed_ordered hrow _ _
  · exact Row.placed_ordered hrow _ _

theorem State.given_row {l : QuayLine} {q : PeerEntry} {p : Side} {f : Frame} {r : Report} {y : Slot} {rows : List Row} {h : Nat}
    (hq : q.Records s p f) (hc : f.content = .status r) (hv : s.view y = some rows) (h1 : 1 ≤ h) (h2 : h ≤ rows.length) :
    (s.given l q f).row y h = (s.row y h).reported f.origin y r h := by
  have hfill : (s.given l q f).fill = s.fill.handed f.origin (.status r) := by
    rw [← hq.station, ← hc]
    rfl
  have hw : (s.given l q f).view y = some (takeReport f.origin y r rows) := by
    rw [State.view_status hfill, hv]
    rfl
  exact State.row_map (g := fun i row => row.reported f.origin y r i) hv hw (fun i => takeReport_get _ _ _ _ i) h1 h2

/-- What follows of a new table where travel is at rest. -/
theorem State.afterPeers_rests {before : State} {occasion : Bool} (h1 : w.travel.state ≠ .moving) (h2 : w.travel.state ≠ .held) :
    w.afterPeers before occasion = (if w.conflictKey != before.conflictKey then (w.remarked before occasion).recompute.lateConflictTest
      else (w.remarked before occasion).recompute).syncDustPeer := by
  have htravel : (w.remarked before occasion).travel = w.travel := w.onlyIn_remarked before occasion .travel (by decide)
  rw [w.afterPeers_eq, State.travelEvent_rests (by rw [htravel]; exact h1) (by rw [htravel]; exact h2)]

theorem State.plan_of_session {y : Slot} (h : t.session y = s.session y) (n : Nat) : t.plan y n = s.plan y n := by
  unfold State.plan State.hold
  rw [h]

/-- The state in which a STATUS's test of late conflict is made, and its ranking. -/
theorem State.status_conflict {l : QuayLine} {q : PeerEntry} {p : Side} {f : Frame} {r : Report} {k : ReportClaim} {c : OwnClaim} {rows : List Row}
    (hq : q.Records s p f) (hqfresh : q.freshness = .fresh) (hc : f.content = .status r) (hlists : s.listsOrdered)
    (hv : s.view c.slot = some rows) (h1 : 1 ≤ c.hold) (h2 : c.hold ≤ rows.length)
    (hown : ⟨s.station, c.pass, c.target, .active⟩ ∈ (s.row c.slot c.hold).claims)
    (habsent : ∀ q ∈ (s.row c.slot c.hold).claims, q.station ≠ f.origin) (hclaim : s.fill.claim = some c)
    (hk : r.claim = some k) (hks : k.slot = c.slot) (hkh : k.hold = c.hold) (hka : k.phase = .active) (hlower : f.origin < s.station)
    {m : State} (hm : m = ((s.given l q f).remarked (s.wired l s.port) true).recompute) :
    (s.given l q f).conflictKey ≠ (s.wired l s.port).conflictKey
      ∧ (m.row c.slot c.hold).claims.Pairwise (fun c d => c.station < d.station) ∧ m.station ∈ m.rankedClaims c.slot c.hold
      ∧ 1 ≤ ((m.rankedClaims c.slot c.hold).filter (fun n => decide (n < m.station))).length := by
  have hrow := State.given_row (l := l) hq hc hv h1 h2
  have hfill : m.fill = (s.given l q f).fill := by
    rw [hm]
    exact (s.given l q f).onlyIn_remarked (s.wired l s.port) true .fill (by decide)
  have hpeers : m.peers = setEntry q s.peers := by
    rw [hm]
    exact (s.given l q f).remarked_peers (s.wired l s.port) true
  have hstation : m.station = s.station := by
    have hcfg : m.cfg = s.cfg := by
      rw [hm]
      exact (s.given l q f).onlyIn_remarked (s.wired l s.port) true .cfg (by decide)
    unfold State.station State.block
    rw [hcfg]
  have hmrow : m.row c.slot c.hold = (s.row c.slot c.hold).reported f.origin c.slot r c.hold := (State.row_congr hfill _ _).trans hrow
  have hfresh : m.fresh f.origin = true := by
    unfold State.fresh
    rw [hpeers, List.any_eq_true]
    exact ⟨q, mem_setEntry_self q s.peers, by simp [hq.station, hqfresh]⟩
  have hpeer : (⟨f.origin, k.pass, k.target, k.phase⟩ : ClaimEntry) ∈ (m.row c.slot c.hold).claims := by
    rw [hmrow, Row.mem_reported]
    exact .inr ⟨k, hk, hks, hkh, rfl⟩
  have hself : (⟨s.station, c.pass, c.target, .active⟩ : ClaimEntry) ∈ (m.row c.slot c.hold).claims := by
    rw [hmrow, Row.mem_reported]
    exact .inl ⟨hown, fun h => Nat.ne_of_gt hlower h⟩
  refine ⟨fun he => ?_, ?_, ?_, ?_⟩
  · have hclaimed : (s.given l q f).fill.claim = some c := by
      rw [show (s.given l q f).fill.claim = s.fill.claim from
        (((State.TableOnly.refl (s.wired l s.port)).onPeers (setEntry q)).handOn q f.content).claim.1]
      exact hclaim
    unfold State.conflictKey at he
    rw [hclaimed, show (s.wired l s.port).fill.claim = some c from hclaim] at he
    have hstations := congrArg (List.map (fun kb : ClaimEntry × Bool => kb.1)) he
    simp only [List.map_map, Function.comp_def, List.map_id'] at hstations
    have hin : (⟨f.origin, k.pass, k.target, k.phase⟩ : ClaimEntry) ∈ ((s.wired l s.port).row c.slot c.hold).claims := by
      rw [← hstations, ← State.row_congr hfill]
      exact hpeer
    exact habsent _ hin rfl
  · rw [hmrow]
    exact Row.reported_ordered (hlists.claims _ _) _ _ _ _
  · unfold State.rankedClaims
    rw [hstation]
    exact List.mem_map.2 ⟨_, List.mem_filter.2 ⟨hself, by simp⟩, rfl⟩
  · refine List.length_pos_iff.2 fun hnil => ?_
    have hmem : f.origin ∈ (m.rankedClaims c.slot c.hold).filter (fun n => decide (n < m.station)) := by
      refine List.mem_filter.2 ⟨List.mem_map.2 ⟨_, List.mem_filter.2 ⟨hpeer, ?_⟩, rfl⟩, by rw [hstation]; simpa using hlower⟩
      simp [hka, hfresh]
    rw [hnil] at hmem
    cases hmem

theorem State.status_yields {i : Instr} {p : Side} {f : Frame} {e : PeerEntry} {c : OwnClaim} {hp : HoldPlan} {rows : List Row} {r : Report}
    {k : ReportClaim} (hfrom : s.takesFrom i p f e) (hlists : s.listsOrdered)
    (h1 : s.travel.state ≠ .moving) (h2 : s.travel.state ≠ .held) (hclaim : s.fill.claim = some c) (hactive : c.phase = .active)
    (hyielded : c.yielded = false) (hplan : s.plan c.slot c.hold = some hp) (hlimit : hp.spoutLimit = 1)
    (hv : s.view c.slot = some rows) (hh1 : 1 ≤ c.hold) (hh2 : c.hold ≤ rows.length)
    (hown : ⟨s.station, c.pass, c.target, .active⟩ ∈ (s.row c.slot c.hold).claims)
    (habsent : ∀ q ∈ (s.row c.slot c.hold).claims, q.station ≠ f.origin) (hs : s.pour.state = .pouring ∨ s.pour.state = .throttled)
    (hgate : s.pour.gate = .opened) (hc : f.content = .status r) (hvalid : r.positionValid = true) (hk : r.claim = some k)
    (hks : k.slot = c.slot) (hkh : k.hold = c.hold) (hka : k.phase = .active) (hlower : f.origin < s.station) :
    ∃ t, exec i s = .next t ∧ t.fill.claim = some { c with yielded := true } ∧ t.pour.state = .runout
      ∧ t.pour.runoutCause = some .yielded ∧ t.pour.gateCommand = .closed ∧ t.pour.gate = .closing
      ∧ (s.port.select = none → (∃ ranked, ∃ n ∈ t.port.notices, n.body = .lateConflict c.slot c.hold ranked 1) ∨ t.port.overflow = true) := by
  obtain ⟨l, q, hq, hqfresh, hl, run⟩ := hfrom.heard (by rw [hc]; exact hvalid) (by rw [hc]; rfl)
  rw [hc] at run
  obtain ⟨m, hm⟩ : ∃ m, m = ((s.given l q f).remarked (s.wired l s.port) true).recompute := ⟨_, rfl⟩
  obtain ⟨hkey, hord, hranked, hcount⟩ := State.status_conflict (l := l) hq hqfresh hc hlists hv hh1 hh2 hown habsent hclaim hk hks hkh hka hlower hm
  have honly := (s.given l q f).onlyIn_remarked (s.wired l s.port) true
  have htable := (((State.TableOnly.refl (s.wired l s.port)).onPeers (setEntry q)).handOn q f.content)
  have hmclaim : m.fill.claim = some c := by
    rw [hm, ← hclaim]
    exact (congrArg Fill.claim (honly .fill (by decide) : _ = (s.given l q f).fill)).trans htable.claim.1
  have hmpour : m.pour = s.pour := by
    rw [hm]
    exact honly .pour (by decide)
  have hmplan : m.plan c.slot c.hold = some hp := by
    rw [← hplan]
    refine State.plan_of_session ?_ _
    rw [hm]
    exact ((s.given l q f).remarked_tableOnly (s.wired l s.port) true).sessions _ |>.trans (htable.sessions _)
  have htest : m.lateConflictTest = (m.conflicted c hp).yieldPour := by
    rw [State.lateConflictTest_eq hmclaim hactive hmplan hord hranked, if_pos]
    refine ⟨hyielded, ?_, by rw [hlimit]; exact hcount⟩
    rw [hmpour]
    rcases hs with h | h <;> rw [h] <;> nofun
  obtain ⟨v, hyield, hv1, hv2, hv3, hv4, -⟩ := State.yieldPour_runs (s := m.conflicted c hp)
    (by
      rw [show (m.conflicted c hp).pour = s.pour from hmpour]
      exact .inr (hs.imp_right .inl))
    (by
      rw [show (m.conflicted c hp).pour = s.pour from hmpour]
      exact .inr (.inl hgate))
  obtain ⟨n, hn⟩ : ∃ n, n = (m.conflicted c hp).poured v [] (m.conflicted c hp).bills true := ⟨_, rfl⟩
  have hnclaim : n.fill.claim = some { c with yielded := true } := by
    rw [hn]
    show m.fill.claim.map _ = _
    rw [hmclaim]
    rfl
  have hnpour : n.pour = v := by rw [hn]; rfl
  obtain ⟨v', bodies, hsync, ⟨hr1, hr2, hr3, hr4⟩, hbodies⟩ := State.syncDustPeer_runsOn (s := n) (by rw [hnpour]; exact hv1) hnclaim
  have hafter : (s.given l q f).afterPeers (s.wired l s.port) true = n.poured v' bodies n.bills n.line.statusDue := by
    rw [State.afterPeers_rests (w := s.given l q f) h1 h2, if_pos (bne_iff_ne.2 hkey), ← hm, htest, hyield, ← hn, hsync]
  rw [hnpour] at hr1 hr2 hr3 hr4
  refine ⟨_, run.trans (congrArg (fun u : State => Host.Outcome.next u.finish) hafter), ?_⟩
  rw [State.finish_fill, State.finish_pour, State.finish_port]
  refine ⟨hnclaim, hr1.trans hv1, hr2.trans hv2, hr3.trans hv3, hr4.trans hv4, fun hsel => ?_⟩
  have hmsel : m.port.select = none := by
    obtain ⟨ns, hns⟩ := (((State.Raised.refl (s.given l q f)).decideMismatch .a).decideMismatch .b).port
    have hmport : m.port = (s.given l q f).port.raiseAll (s.given l q f).count ns := by
      rw [hm, ← hns]
      rfl
    rw [hmport]
    exact LocalPort.raiseAll_unselected hsel _ _
  have hraise : n.port = m.port.enter m.count (.lateConflict c.slot c.hold (m.rankedClaims c.slot c.hold) hp.spoutLimit) m.count := by
    rw [hn, ← LocalPort.raise_of_unselected _ _ _ hmsel]
    rfl
  have htells : n.port.Tells (.lateConflict c.slot c.hold (m.rankedClaims c.slot c.hold) hp.spoutLimit) := by
    rw [hraise]
    exact m.port.enter_tells_own m.count _ m.count rfl
  have hnsel : n.port.select = none := by
    rw [hraise, ← LocalPort.raise_of_unselected _ _ _ hmsel]
    exact LocalPort.raise_unselected hmsel _ _
  have hlast := htells.raiseAll_others hnsel n.count bodies fun b hb => by
    obtain ⟨cs, rfl⟩ := hbodies b hb
    rfl
  rw [hlimit] at hlast
  exact hlast.imp_left fun ⟨x, hx, hbody⟩ => ⟨_, x, hx, hbody⟩

/-! ## A DUST frame for the claim's hold -/

theorem setPeerDust_mem (d : PeerDust) (l : List PeerDust) : d ∈ setPeerDust d l := by
  induction l with
  | nil => simp [setPeerDust]
  | cons e rest ih =>
    unfold setPeerDust
    repeat' split
    · exact .tail _ ih
    · exact .head _
    · exact .head _

/-- The records other than that of the station. -/
theorem mem_setPeerDust {d q : PeerDust} {l : List PeerDust} (hl : l.Pairwise (fun a b => a.station < b.station)) (h : q ∈ setPeerDust d l) :
    q = d ∨ (q ∈ l ∧ q.station ≠ d.station) := by
  induction l with
  | nil => exact .inl (by simpa [setPeerDust] using h)
  | cons e rest ih =>
    obtain ⟨he, hrest⟩ := List.pairwise_cons.1 hl
    have later : q ∈ rest → d.station ≤ e.station → q.station ≠ d.station := fun hq hle => by
      have := he q hq
      omega
    unfold setPeerDust at h
    split at h
    · rename_i hlt
      rcases List.mem_cons.1 h with rfl | h
      · exact .inr ⟨.head _, by omega⟩
      · exact (ih hrest h).imp_right fun hq => ⟨.tail _ hq.1, hq.2⟩
    · split at h
      · rename_i heq
        rcases List.mem_cons.1 h with rfl | h
        · exact .inl rfl
        · exact .inr ⟨.tail _ h, later h (by omega)⟩
      · rename_i hlt hne
        rcases List.mem_cons.1 h with rfl | h
        · exact .inl rfl
        · rcases List.mem_cons.1 h with rfl | h
          · exact .inr ⟨.head _, hne⟩
          · exact .inr ⟨.tail _ h, later h (by omega)⟩

theorem State.fresh_congr (h : t.freshnesses = s.freshnesses) (n : Nat) : t.fresh n = s.fresh n := by
  have hf : ∀ u : State, u.fresh n = u.freshnesses.any (fun e => e.1 == n && e.2 == .fresh) := fun u => by
    unfold State.fresh State.freshnesses
    rw [List.any_map]
    rfl
  rw [hf, hf, h]

theorem State.conflictKey_congr (h : t.freshnesses = s.freshnesses) (hf : t.fill = s.fill) : t.conflictKey = s.conflictKey := by
  unfold State.conflictKey
  rw [hf]
  cases s.fill.claim with
  | none => rfl
  | some c =>
    dsimp only
    rw [State.row_congr hf]
    simp only [State.fresh_congr h]

/-- The part before its peers' dust is looked at: the new record, the entry, and the range. -/
def State.dustGiven (s : State) (l : QuayLine) (q : PeerEntry) (f : Frame) (cls : DustClass) (h : Slot × Nat) : State :=
  { s with
    line := l, peers := setEntry q s.peers
    dust := { s.dust with peers := setPeerDust ⟨f.origin, cls, some h, .fresh⟩ s.dust.peers } }

theorem State.takesFrom.dusts {i : Instr} {p : Side} {f : Frame} {e : PeerEntry} {cls : DustClass} {h : Slot × Nat} (hfrom : s.takesFrom i p f e)
    (hknown : positionKnown e.report = true) (hord : s.peersOrdered) (h1 : s.travel.state ≠ .moving) (h2 : s.travel.state ≠ .held)
    (hc : f.content = .dust cls (some h)) : ∃ l q m, s.line.Alike l ∧ m = (s.dustGiven l q f cls h).recompute
      ∧ exec i s = .next m.syncDustPeer.finish := by
  obtain ⟨l, q, hq, hqfresh, hl, run⟩ := hfrom.heard (by rw [hc]; exact hknown) (by rw [hc]; rfl)
  rw [hc] at run
  have hgiven : s.given l q f = s.dustGiven l q f cls h := by
    unfold State.given State.handOn
    rw [hc, hqfresh, hq.station]
    rfl
  refine ⟨l, q, _, hl, rfl, ?_⟩
  obtain ⟨-, -, -, -, -, -, -, he, -, hfresh⟩ := hfrom
  have hfr : (s.given l q f).freshnesses = (s.wired l s.port).freshnesses := by
    refine setEntry_map (fun e => (e.station, e.freshness)) q hord (old := e) (by rw [hq.station]; exact he) ?_
    exact Prod.ext (hq.station.trans (State.entry_some he).1.symm) (hqfresh.trans hfresh.symm)
  have hkey : (s.given l q f).conflictKey = (s.wired l s.port).conflictKey := State.conflictKey_congr hfr (by rw [hgiven]; rfl)
  rw [run, show Content.tagged (.dust cls (some h)) = false from rfl, State.afterPeers_rests (w := s.given l q f) h1 h2, State.remarked_same hfr,
    if_neg (by rw [hkey]; simp), hgiven]

theorem State.dust_reaches {i : Instr} {p : Side} {f : Frame} {e : PeerEntry} {c : OwnClaim} {cls : DustClass} (hfrom : s.takesFrom i p f e)
    (hknown : positionKnown e.report = true) (hord : s.peersOrdered) (hlists : s.listsOrdered) (h1 : s.travel.state ≠ .moving)
    (h2 : s.travel.state ≠ .held) (hclaim : s.fill.claim = some c) (hactive : c.phase = .active)
    (hc : f.content = .dust cls (some (c.slot, c.hold))) :
    ∃ t, exec i s = .next t ∧ ⟨f.origin, cls, some (c.slot, c.hold), .fresh⟩ ∈ t.dust.peers
      ∧ t.dust.spout = s.dust.spout ∧ t.dust.gallery = s.dust.gallery
      ∧ (cls = .trip → (s.pour.state = .pouring ∨ s.pour.state = .throttled) → s.pour.gate = .opened →
          s.pour.causes = CauseSet.empty →
          s.onlyIn t [.port, .line, .peers, .travel, .dust, .pour, .bills] ∧ t.pour = s.stoppedBy .dustPeer
            ∧ t.bills = s.bills.countSuspension
            ∧ t.port = s.port.raise s.count (.pourSuspended c.slot c.hold { CauseSet.empty with dustPeer := true }))
      ∧ (cls = .alarm → (∀ q ∈ s.dust.peers, q.spout ≠ .trip) → s.pour.state = .pouring → s.pour.gate = .opened →
          s.pour.causes = CauseSet.empty →
          s.onlyIn t [.port, .line, .peers, .travel, .dust, .pour]
            ∧ t.pour = { s.pour with state := .throttled, gateCommand := .openReduced } ∧ t.port = s.port)
      ∧ (cls ≠ .trip → (∀ q ∈ s.dust.peers, q.station ≠ f.origin → q.freshness = .fresh → q.spout ≠ .trip) →
          s.pour.state = .suspended → s.pour.causes = { CauseSet.empty with dustPeer := true } → s.pour.beltOn = false →
          s.inputs.beltRunning = false → s.translate = .ok c.slot c.hold →
          s.onlyIn t [.port, .line, .peers, .travel, .dust, .pour] ∧ t.pour = s.resumed
            ∧ t.port = s.port.raise s.count (.pourSuspended c.slot c.hold CauseSet.empty)) := by
  obtain ⟨l, q, m, hl, hm, run⟩ := hfrom.dusts hknown hord h1 h2 hc
  have hdust : m.syncDustPeer.finish.dust = { s.dust with
      peers := setPeerDust ⟨f.origin, cls, some (c.slot, c.hold), .fresh⟩ s.dust.peers } := by
    rw [State.finish_dust, ((State.PourKept.refl m).syncDustPeer).dust, hm]
    rfl
  have hbase : s.onlyIn m [.line, .peers, .dust, .travel] := by
    rw [hm]
    intro b hb
    cases b <;> first | rfl | simp at hb
  have hmdust : m.dust.peers = setPeerDust ⟨f.origin, cls, some (c.slot, c.hold), .fresh⟩ s.dust.peers := by rw [hm]; rfl
  have hmclaim : m.fill.claim = some c := by rw [hm]; exact hclaim
  have hmactive : m.activeClaim = some c := by
    unfold State.activeClaim
    rw [hmclaim]
    exact if_pos hactive
  have hmpour : m.pour = s.pour := by rw [hm]; rfl
  have reports : ∀ x, cls = x → m.peerReports x = true := fun x hx => by
    unfold State.peerReports
    rw [hmactive]
    dsimp only
    rw [List.any_eq_true]
    exact ⟨_, hmdust ▸ setPeerDust_mem _ _, by simp [hx]⟩
  have silent : cls ≠ .trip → (∀ q ∈ s.dust.peers, q.station ≠ f.origin → q.freshness = .fresh → q.spout ≠ .trip) → m.peerReports .trip = false := by
    intro hne hothers
    refine State.peerReports_none fun r hr hf => ?_
    rw [hmdust] at hr
    rcases mem_setPeerDust hlists.2 hr with rfl | ⟨hr, hst⟩
    · exact hne
    · exact hothers r hr hst hf
  refine ⟨_, run, by rw [hdust]; exact setPeerDust_mem _ _, by rw [hdust], by rw [hdust], fun htrip hs hg hcauses => ?_, fun halarm hno hs hg hcauses => ?_,
    fun hne hothers hs hcauses hbelt hrun htr => ?_⟩
  · have hflow : m.pour.state.flowing = true := by
      rw [hmpour]
      rcases hs with h | h <;> rw [h] <;> rfl
    have hmcauses : m.pour.causes = CauseSet.empty := by rw [hmpour]; exact hcauses
    have hsync : m.syncDustPeer = m.poured (m.stoppedBy .dustPeer)
        [.pourSuspended c.slot c.hold { CauseSet.empty with dustPeer := true }] m.bills.countSuspension true := by
      unfold State.syncDustPeer State.syncCause
      rw [reports .trip htrip, if_pos rfl, State.addCause_suspends (by decide) hflow (by rw [hmcauses]; rfl) hmclaim,
        Pour.suspended_stoppedBy hmcauses (by rw [hmpour]; exact hg) rfl, hmcauses]
      exact State.retestThrottle_idle (by simp [State.stoppedBy]) (by simp [State.stoppedBy]) (by simp [State.stoppedBy])
    rw [hsync]
    refine ⟨((hbase.mono (by decide)).trans ((State.onlyIn_poured _ _ _ _ _).mono (by decide))).trans ((State.onlyIn_finish _).mono (by decide)), ?_, ?_, ?_⟩
    · rw [State.finish_pour, hm]
      rfl
    · rw [State.finish_bills, hm]
      rfl
    · rw [State.finish_port, hm]
      rfl
  · have hquiet : m.peerReports .trip = false := silent (by rw [halarm]; nofun) fun r hr _ _ => hno r hr
    have hmcauses : m.pour.causes = CauseSet.empty := by rw [hmpour]; exact hcauses
    have hthrottle : m.throttle = true := by
      unfold State.throttle
      rw [reports .alarm halarm, Bool.or_true]
    have hsync : m.syncDustPeer = m.poured { m.pour with state := .throttled, gateCommand := .openReduced } [] m.bills true := by
      unfold State.syncDustPeer State.syncCause
      rw [hquiet, if_neg Bool.false_ne_true, State.removeCause_idle (.inr (by rw [hmcauses]; rfl))]
      exact State.retestThrottle_slows (by rw [hmpour]; exact hs) hthrottle (by rw [hmpour]; exact hg)
    rw [hsync]
    refine ⟨((hbase.mono (by decide)).trans ((State.onlyIn_poured_pour _ _ _ _).mono (by decide))).trans ((State.onlyIn_finish _).mono (by decide)), ?_, ?_⟩
    · rw [State.finish_pour, ← hmpour]
      rfl
    · rw [State.finish_port, hm]
      rfl
  · have hquiet : m.peerReports .trip = false := silent hne hothers
    have hmtr : m.translate = .ok c.slot c.hold := by
      rw [← htr, hm]
      exact State.translate_congr rfl rfl rfl
    have hsync : m.syncDustPeer = m.poured m.resumed [.pourSuspended c.slot c.hold CauseSet.empty] m.bills true := by
      unfold State.syncDustPeer State.syncCause
      rw [hquiet, if_neg Bool.false_ne_true, State.removeCause_resumes (k := c) (by rw [hmpour]; exact hs) (by rw [hmpour]; exact hcauses) hmclaim hmtr
        (by rw [hmpour]; exact hbelt) (by rw [hm]; exact hrun), if_neg (by decide)]
      exact State.retestThrottle_idle (by simp [State.resumed]) (by simp [State.resumed]) (fun _ => by simp [State.resumed])
    rw [hsync]
    refine ⟨((hbase.mono (by decide)).trans ((State.onlyIn_poured_pour _ _ _ _).mono (by decide))).trans ((State.onlyIn_finish _).mono (by decide)), ?_, ?_⟩
    · rw [State.finish_pour, hm]
      rfl
    · rw [State.finish_port, hm]
      rfl

end Sys2Proof.Machine

open Sys2Proof Sys2Proof.Machine

/-- Settles O51. The test is its rank in the ordered claims; a STATUS or a DUST of a peer that stays FRESH reaches it, or the pour's causes,
through the new table. -/
theorem lateConflictAndPeerDustReachThePour : Obligations.LateConflictAndPeerDustReachThePour := by
  unfold Obligations.LateConflictAndPeerDustReachThePour
  refine ⟨fun s c hp ranked hc ha hplan hlists hranked hown => State.lateConflict_facts hc ha hplan hlists hranked hown,
    fun s i p f e c hp rows r k _ hfrom _ hlists h1 h2 hclaim hactive hyielded hplan hlimit hv hh1 hh2 hown habsent hs hg hc hvalid hk hks hkh hka
      hlower => State.status_yields hfrom hlists h1 h2 hclaim hactive hyielded hplan hlimit hv hh1 hh2 hown habsent hs hg hc hvalid hk hks hkh hka hlower,
    fun s i p f e c cls _ hfrom hknown hord hlists h1 h2 hclaim hactive hc =>
      State.dust_reaches hfrom hknown hord hlists h1 h2 hclaim hactive hc⟩

end

section
/-! POUR judged (sections 6.4 and 6.5): O38. -/

namespace Sys2Proof.Machine

variable {s t u w : State}

/-! ## A POUR that names its hold (R106 to R112) -/

theorem State.judgePour_holds {slot hold override : Nat} (hh : 1 ≤ hold) (ht : (s.pourTable slot hold override).holds) {x : Slot}
    (hx : Slot.ofCode? slot = some x) {n target : Nat} (hn : s.nextPass x hold = some (n, target)) :
    s.judgePour slot hold override = .ok (hold, ⟨n, if override = 0 then target else override⟩) := by
  have hsession : ∀ y, Slot.ofCode? slot = some y → s.session y ≠ none :=
    ht (∀ y, Slot.ofCode? slot = some y → s.session y ≠ none, .noSession, 0) (by simp [State.pourTable, State.askTable])
  obtain ⟨ses, hs⟩ := Option.ne_none_iff_exists'.1 (hsession x hx)
  have hnone := (s.pourTable_matches slot hold override x ses hx hs).holds_iff.1 ht
  rw [State.judgePour_named slot hold override x ses hx hs (by omega), hnone]
  simp [State.foundPass, State.proposed, hn]

theorem State.judgePour_refused {slot hold override : Nat} {reason : Reason} {index : Nat}
    (h : (s.askTable slot hold override).failsBy reason index) : s.judgePour slot hold override = .error (reason, index) := by
  unfold State.judgePour
  rw [((s.askTable_matches slot hold override).failsBy_iff reason index).1 h]

theorem State.judgePour_fails {slot hold override : Nat} {reason : Reason} {index : Nat} (hh : 1 ≤ hold)
    (h : (s.pourTable slot hold override).failsBy reason index) : s.judgePour slot hold override = .error (reason, index) := by
  have alone : s.pourTable slot hold override = s.askTable slot hold override → s.judgePour slot hold override = .error (reason, index) :=
    fun he => State.judgePour_refused (he ▸ h)
  cases hx : Slot.ofCode? slot with
  | none => exact alone (by unfold State.pourTable; rw [hx]; exact List.append_nil _)
  | some x =>
    cases hs : s.session x with
    | none => exact alone (by unfold State.pourTable; rw [hx]; simp only [hs]; exact List.append_nil _)
    | some ses =>
      have hfails := ((s.pourTable_matches slot hold override x ses hx hs).failsBy_iff reason index).1 h
      rw [State.judgePour_named slot hold override x ses hx hs (by omega), hfails]

/-- A POUR that names its hold is taken exactly where the rows of its table hold. -/
theorem State.judgePour_iff {slot hold n target : Nat} {x : Slot} (hx : Slot.ofCode? slot = some x) (hh : 1 ≤ hold) :
    s.judgePour slot hold 0 = .ok (hold, ⟨n, target⟩) ↔ (s.pourTable slot hold 0).holds ∧ s.nextPass x hold = some (n, target) := by
  constructor
  · intro hj
    have hpass : (s.pourTable slot hold 0).holds := by
      by_contra hno
      cases hs : s.session x with
      | none =>
        have hask : s.pourTable slot hold 0 = s.askTable slot hold 0 := by
          unfold State.pourTable
          rw [hx]
          simp only [hs]
          exact List.append_nil _
        have hne : firstFailure (s.pourChecks slot hold 0) ≠ none := fun he =>
          hno (hask ▸ (s.askTable_matches slot hold 0).holds_iff.2 he)
        obtain ⟨r, hr⟩ := Option.ne_none_iff_exists'.1 hne
        unfold State.judgePour at hj
        rw [hr] at hj
        cases hj
      | some ses =>
        have hm := s.pourTable_matches slot hold 0 x ses hx hs
        obtain ⟨r, hr⟩ := Option.ne_none_iff_exists'.1 fun he => hno (hm.holds_iff.2 he)
        rw [State.judgePour_named slot hold 0 x ses hx hs (by omega), hr] at hj
        cases hj
    refine ⟨hpass, ?_⟩
    cases hn : s.nextPass x hold with
    | none =>
      have hsession : ∀ y, Slot.ofCode? slot = some y → s.session y ≠ none :=
        hpass (∀ y, Slot.ofCode? slot = some y → s.session y ≠ none, .noSession, 0) (by simp [State.pourTable, State.askTable])
      obtain ⟨ses, hs⟩ := Option.ne_none_iff_exists'.1 (hsession x hx)
      have hrow : s.nextPass x hold ≠ none := hpass (s.nextPass x hold ≠ none, .holdComplete, 0) (by
        unfold State.pourTable
        rw [hx]
        simp only [hs]
        exact List.mem_append_right _ (.tail _ (.head _)))
      exact absurd hn hrow
    | some nk =>
      obtain ⟨n', k⟩ := nk
      have hj' := State.judgePour_holds hh hpass hx hn
      rw [hj] at hj'
      simp only [if_true, Except.ok.injEq, Prod.mk.injEq, Proposal.mk.injEq, true_and] at hj'
      rw [hj'.1, hj'.2]
  · rintro ⟨hpass, hn⟩
    exact State.judgePour_holds hh hpass hx hn

theorem Session.limits_none {ses : Session} {r : TrimDraft} : ses.limits r = none ↔ ses.limits r ≠ some .trim ∧ ses.limits r ≠ some .draft := by
  rcases Session.limits_cases ses r with h | h | h <;> simp [h]

/-- The rows of a named hold's table, without an override (E1 to E7). -/
theorem State.pourTable_holds {slot hold n target : Nat} {x : Slot} (hx : Slot.ofCode? slot = some x) (h9 : hold ≤ 9)
    (hn : s.nextPass x hold = some (n, target)) : (s.pourTable slot hold 0).holds ↔
      ∃ ses, s.session x = some ses ∧ (s.berth x).mismatch = false ∧ hold ≤ ses.holdCount
        ∧ (∃ d p, s.hold x hold = some d ∧ d.plan = some p ∧ p.targets ≠ [] ∧ d.hatchOpen = true
            ∧ (d.permission = .opened ∨ (d.permission = .restricted ∧ d.token = true)))
        ∧ (2 ≤ n → ∀ g, (g + 1 = hold ∨ g = hold + 1) → ∀ p t, s.plan x g = some p → p.targets[n - 2]? = some t →
            t * 1000 ≤ s.holdTotal x g)
        ∧ ses.limits (ses.trimDraft (fun i => if i = hold then max (s.predicted x i) target else s.predicted x i)) = none
        ∧ (s.travel.position ≠ none ∧ ∃ lo hi w pos, s.computeEdge .up none = some lo ∧ s.computeEdge .down none = some hi
            ∧ s.loaderWindow x hold = some w ∧ (lo.1 ≤ pos ∧ pos ≤ hi.1) ∧ w.1 ≤ pos ∧ pos ≤ w.2)
        ∧ (∀ p, s.plan x hold = some p → (s.peerClaims x hold .active).length < p.spoutLimit)
        ∧ s.fill.claim = none ∧ s.travel.state ≠ .faulted ∧ s.scale.zeroRun = none ∧ s.scale.status ≠ .fault
        ∧ (∀ c, (s.dust.channel c).state ≠ .trip ∧ (s.dust.channel c).state ≠ .held) ∧ 0 < s.bills.free := by
  have hask : (s.askTable slot hold 0).holds ↔ ∃ ses, s.session x = some ses ∧ (s.berth x).mismatch = false ∧ hold ≤ ses.holdCount := by
    simp only [CheckTable.holds, State.askTable, List.forall_mem_cons, hx, h9, Option.some.injEq, forall_eq', ne_eq,
      exists_eq', true_and, not_true_eq_false, false_imp_iff, List.not_mem_nil, imp_true_iff, and_true]
    constructor
    · rintro ⟨hs, hm, hc⟩
      obtain ⟨ses, hses⟩ := Option.ne_none_iff_exists'.1 hs
      exact ⟨ses, hses, hm, hc x ses rfl hses⟩
    · rintro ⟨ses, hses, hm, hc⟩
      refine ⟨by rw [hses]; nofun, hm, fun y k hy hk => ?_⟩
      subst hy
      obtain rfl := Option.some.inj (hses.symm.trans hk)
      exact hc
  have hrows : ∀ ses, s.session x = some ses → ((s.pourTable slot hold 0).holds ↔ (s.askTable slot hold 0).holds ∧ (s.passTable x ses hold 0).holds) := by
    intro ses hses
    unfold State.pourTable CheckTable.holds
    rw [hx]
    simp only [hses, List.forall_mem_append]
  have hpass : ∀ ses, (s.passTable x ses hold 0).holds ↔
      ((∃ d p, s.hold x hold = some d ∧ d.plan = some p ∧ p.targets ≠ [] ∧ d.hatchOpen = true
            ∧ (d.permission = .opened ∨ (d.permission = .restricted ∧ d.token = true)))
        ∧ (2 ≤ n → ∀ g, (g + 1 = hold ∨ g = hold + 1) → ∀ p t, s.plan x g = some p → p.targets[n - 2]? = some t →
            t * 1000 ≤ s.holdTotal x g)
        ∧ ses.limits (ses.trimDraft (fun i => if i = hold then max (s.predicted x i) target else s.predicted x i)) = none
        ∧ (s.travel.position ≠ none ∧ ∃ lo hi w pos, s.computeEdge .up none = some lo ∧ s.computeEdge .down none = some hi
            ∧ s.loaderWindow x hold = some w ∧ (lo.1 ≤ pos ∧ pos ≤ hi.1) ∧ w.1 ≤ pos ∧ pos ≤ w.2)
        ∧ (∀ p, s.plan x hold = some p → (s.peerClaims x hold .active).length < p.spoutLimit)
        ∧ s.fill.claim = none ∧ s.travel.state ≠ .faulted ∧ s.scale.zeroRun = none ∧ s.scale.status ≠ .fault
        ∧ (∀ c, (s.dust.channel c).state ≠ .trip ∧ (s.dust.channel c).state ≠ .held) ∧ 0 < s.bills.free) := by
    intro ses
    rw [Session.limits_none]
    simp only [CheckTable.holds, State.passTable, List.forall_mem_cons, hn, Option.some.injEq, Prod.mk.injEq, and_imp, ne_eq,
      reduceCtorEq, not_false_eq_true, true_and, not_true_eq_false, false_imp_iff, imp_true_iff, if_true, List.not_mem_nil, and_true]
    constructor
    · rintro ⟨h1, h2, h3, h4, h5, h6, h7⟩
      exact ⟨h1, h2 n target rfl rfl, ⟨h3 n target rfl rfl, h4 n target rfl rfl⟩, h5, h6, h7⟩
    · rintro ⟨h1, h2, ⟨h3, h4⟩, h5, h6, h7⟩
      refine ⟨h1, ?_, ?_, ?_, h5, h6, h7⟩
      · rintro _ _ rfl rfl
        exact h2
      · rintro _ _ rfl rfl
        exact h3
      · rintro _ _ rfl rfl
        exact h4
  constructor
  · intro h
    have ha : (s.askTable slot hold 0).holds := fun row hrow => h row (List.mem_append_left _ hrow)
    obtain ⟨ses, hses, hm, hc⟩ := hask.1 ha
    exact ⟨ses, hses, hm, hc, (hpass ses).1 ((hrows ses hses).1 h).2⟩
  · rintro ⟨ses, hses, hm, hc, hrest⟩
    exact (hrows ses hses).2 ⟨hask.2 ⟨ses, hses, hm, hc⟩, (hpass ses).2 hrest⟩

end Sys2Proof.Machine

end

section
/-! The ranking of holds for a POUR with ANY (section 6.4): O38. -/

namespace Sys2Proof.Machine

variable {s t u w : State}

/-! ## The order of the ranking (R113) -/

/-- A number, or infinity for none. -/
def rankValue : Option Nat → ℕ∞
  | some n => n
  | none => ⊤

theorem rankValue_lt {a b : Option Nat} : rankValue a < rankValue b ↔ aheadOf a b := by
  cases a <;> cases b <;> simp [rankValue, aheadOf]

theorem rankValue_inj {a b : Option Nat} : rankValue a = rankValue b ↔ a = b := by
  cases a <;> cases b <;> simp [rankValue]

theorem rankBefore_iff {a b : Option Nat} : rankBefore a b = true ↔ aheadOf a b := by
  cases a <;> cases b <;> simp [rankBefore, aheadOf]

/-- What a hold is ranked by: the next pass, the distance, the number. -/
def State.rankKey (s : State) (x : Slot) (h : Nat) : ℕ∞ ×ₗ ℕ∞ ×ₗ ℕ :=
  toLex (rankValue ((s.nextPass x h).map Prod.fst), toLex (rankValue (s.tipDistance x h), h))

theorem State.ranksAhead_iff (s : State) (x : Slot) (g h : Nat) : s.ranksAhead x g h ↔ s.rankKey x g < s.rankKey x h := by
  unfold State.ranksAhead State.rankKey
  simp only [Prod.Lex.toLex_lt_toLex, rankValue_lt, rankValue_inj]

theorem State.rankKey_inj {x : Slot} {g h : Nat} (he : s.rankKey x g = s.rankKey x h) : g = h := by
  unfold State.rankKey at he
  exact (Prod.mk.inj (toLex.injective (Prod.mk.inj (toLex.injective he)).2)).2

theorem State.windowDistance_eq (s : State) (x : Slot) (h : Nat) : s.windowDistance x h = s.tipDistance x h := by
  unfold State.windowDistance State.tipDistance
  cases s.window x h with
  | none => rfl
  | some w =>
    cases s.tip with
    | none => rfl
    | some tip =>
      dsimp only
      unfold clampTo
      refine congrArg some ?_
      repeat' split
      all_goals omega

theorem State.ranksBefore_iff {x : Slot} {g h : Nat} (hgh : h < g) : s.ranksBefore x g h = true ↔ s.rankKey x g < s.rankKey x h := by
  rw [← s.ranksAhead_iff]
  unfold State.ranksBefore State.ranksAhead
  simp only [s.windowDistance_eq]
  split
  · rename_i he
    rw [rankBefore_iff, he]
    have hirr : ¬aheadOf ((s.nextPass x h).map Prod.fst) ((s.nextPass x h).map Prod.fst) := by
      rw [← rankValue_lt]
      exact lt_irrefl _
    constructor
    · exact fun ha => .inr ⟨rfl, .inl ha⟩
    · rintro (ha | ⟨-, ha | ⟨-, hlt⟩⟩)
      · exact absurd ha hirr
      · exact ha
      · omega
  · rename_i hne
    rw [rankBefore_iff]
    constructor
    · exact .inl
    · rintro (ha | ⟨he, -⟩)
      · exact ha
      · exact absurd he hne

/-- A list of holds in the order of the ranking. -/
def State.Ranked (s : State) (x : Slot) (l : List Nat) : Prop := l.Pairwise (fun g h => s.rankKey x g < s.rankKey x h)

theorem State.mem_rankInsert (s : State) (x : Slot) (h g : Nat) (l : List Nat) : g ∈ s.rankInsert x h l ↔ g = h ∨ g ∈ l := by
  induction l with
  | nil => simp [State.rankInsert]
  | cons a rest ih =>
    unfold State.rankInsert
    split
    · simp only [List.mem_cons, ih]
      tauto
    · simp

theorem State.Ranked.insert {x : Slot} {l : List Nat} (hl : s.Ranked x l) {h : Nat} (hh : ∀ g ∈ l, h < g) : s.Ranked x (s.rankInsert x h l) := by
  induction l with
  | nil => exact List.pairwise_singleton _ _
  | cons a rest ih =>
    obtain ⟨ha, hrest⟩ := List.pairwise_cons.1 hl
    unfold State.rankInsert
    split
    · rename_i hb
      refine List.pairwise_cons.2 ⟨fun g hg => ?_, ih hrest fun g hg => hh g (.tail _ hg)⟩
      rcases (s.mem_rankInsert x h g rest).1 hg with rfl | hg
      · exact (State.ranksBefore_iff (hh a (.head _))).1 hb
      · exact ha g hg
    · rename_i hb
      have hlt : s.rankKey x h < s.rankKey x a := by
        have hne : s.rankKey x h ≠ s.rankKey x a := fun he => by
          have := State.rankKey_inj he
          have := hh a (.head _)
          omega
        refine lt_of_le_of_ne (not_lt.1 fun hlt => hb ((State.ranksBefore_iff (hh a (.head _))).2 hlt)) hne
      refine List.pairwise_cons.2 ⟨fun g hg => ?_, hl⟩
      rcases List.mem_cons.1 hg with rfl | hg
      · exact hlt
      · exact hlt.trans (ha g hg)

theorem State.mem_ranking (s : State) (x : Slot) (h count g : Nat) : g ∈ s.ranking x h count ↔ h ≤ g ∧ g < h + count := by
  induction count generalizing h with
  | zero =>
    simp [State.ranking]
  | succ n ih =>
    unfold State.ranking
    rw [s.mem_rankInsert, ih]
    omega

theorem State.ranking_ranked (s : State) (x : Slot) (h count : Nat) : s.Ranked x (s.ranking x h count) := by
  induction count generalizing h with
  | zero => exact .nil
  | succ n ih =>
    unfold State.ranking
    refine (ih (h + 1)).insert fun g hg => ?_
    have := ((s.mem_ranking x (h + 1) n g).1 hg).1
    omega

/-! ## The first hold of a ranking that passes -/

theorem State.firstEligible_mem {x : Slot} {ses : Session} {l : List Nat} {h : Nat} {p : Proposal}
    (hf : s.firstEligible x ses l = .ok (h, p)) : h ∈ l := by
  induction l with
  | nil => cases hf
  | cons a rest ih =>
    unfold State.firstEligible at hf
    cases he : s.eligible x ses a none with
    | ok q =>
      rw [he] at hf
      simp only [Except.ok.injEq, Prod.mk.injEq] at hf
      exact hf.1 ▸ .head _
    | error r =>
      rw [he] at hf
      cases hr : s.firstEligible x ses rest with
      | ok q =>
        rw [hr] at hf
        obtain rfl : q = (h, p) := Except.ok.inj hf
        exact .tail _ (ih hr)
      | error r' =>
        rw [hr] at hf
        cases hf

/-- Where no hold passes the reason is that of the hold ranked first. -/
theorem State.firstEligible_none {x : Slot} {ses : Session} {h : Nat} {rest : List Nat} {r : Reason × Nat}
    (hno : ∀ g ∈ h :: rest, ∀ q, s.eligible x ses g none ≠ .ok q) (hr : s.eligible x ses h none = .error r) :
    s.firstEligible x ses (h :: rest) = .error r := by
  unfold State.firstEligible
  rw [hr]
  dsimp only
  cases hf : s.firstEligible x ses rest with
  | error r' => rfl
  | ok q =>
    obtain ⟨g, p⟩ := q
    exfalso
    have hmem := State.firstEligible_mem hf
    induction rest with
    | nil => cases hf
    | cons a more ih =>
      unfold State.firstEligible at hf
      cases ha : s.eligible x ses a none with
      | ok q => exact hno a (.tail _ (.head _)) q ha
      | error r' =>
        rw [ha] at hf
        cases hm : s.firstEligible x ses more with
        | error r'' => rw [hm] at hf; cases hf
        | ok q =>
          rw [hm] at hf
          obtain rfl : q = (g, p) := Except.ok.inj hf
          refine ih (fun k hk => hno k ?_) hm (State.firstEligible_mem hm)
          rcases List.mem_cons.1 hk with rfl | hk
          · exact .head _
          · exact .tail _ (.tail _ hk)

theorem State.firstEligible_ok {x : Slot} {ses : Session} {l : List Nat} (hl : s.Ranked x l) {h : Nat} {p : Proposal} (hh : h ∈ l) :
    s.firstEligible x ses l = .ok (h, p) ↔ s.eligible x ses h none = .ok p
      ∧ ∀ g ∈ l, s.rankKey x g < s.rankKey x h → ∀ q, s.eligible x ses g none ≠ .ok q := by
  induction l with
  | nil => cases hh
  | cons a rest ih =>
    obtain ⟨ha, hrest⟩ := List.pairwise_cons.1 hl
    unfold State.firstEligible
    cases he : s.eligible x ses a none with
    | ok q =>
      dsimp only
      rcases List.mem_cons.1 hh with rfl | hmem
      · rw [he]
        simp only [Except.ok.injEq, Prod.mk.injEq, true_and]
        refine ⟨fun hq => ⟨hq, fun g hg hlt => ?_⟩, fun hb => hb.1⟩
        rcases List.mem_cons.1 hg with rfl | hg
        · exact absurd hlt (lt_irrefl _)
        · exact absurd (ha g hg) (lt_asymm hlt)
      · constructor
        · intro hq
          obtain rfl : a = h := by
            simp only [Except.ok.injEq, Prod.mk.injEq] at hq
            exact hq.1
          exact absurd (ha a hmem) (lt_irrefl _)
        · rintro ⟨-, hno⟩
          exact absurd he (hno a (.head _) (ha h hmem) q)
    | error r =>
      dsimp only
      rcases List.mem_cons.1 hh with rfl | hmem
      · rw [he]
        constructor
        · intro hq
          cases hf : s.firstEligible x ses rest with
          | error r' => rw [hf] at hq; cases hq
          | ok q =>
            rw [hf] at hq
            have hq' : q = (h, p) := Except.ok.inj hq
            subst hq'
            have hin : h ∈ rest := State.firstEligible_mem hf
            exact absurd (ha h hin) (lt_irrefl _)
        · exact fun hb => nomatch hb.1
      · have hstep : (match s.firstEligible x ses rest with
            | .ok q => (.ok q : Except (Reason × Nat) (Nat × Proposal))
            | .error _ => .error r) = .ok (h, p) ↔ s.firstEligible x ses rest = .ok (h, p) := by
          cases s.firstEligible x ses rest <;> simp
        refine Iff.trans hstep ((ih hrest hmem).trans (and_congr Iff.rfl ⟨fun hall g hg hlt q => ?_, fun hall g hg => hall g (.tail _ hg)⟩))
        rcases List.mem_cons.1 hg with rfl | hg
        · rw [he]
          nofun
        · exact hall g hg hlt q

/-! ## A POUR with ANY -/

theorem State.pourChecks_first {slot hold : Nat} {x : Slot} {ses : Session} (hx : Slot.ofCode? slot = some x) (hs : s.session x = some ses)
    (h9 : hold ≤ 9) (hc : hold ≤ ses.holdCount) :
    firstFailure (s.pourChecks slot hold 0) = if (s.berth x).mismatch then some (.planMismatch, 0) else none := by
  have hcount : s.holdCount x = ses.holdCount := by
    unfold State.holdCount
    rw [hs]
  unfold State.pourChecks State.e1 firstFailure
  rw [slotOf_of hx]
  cases (s.berth x).mismatch <;> simp [firstFailure, fieldOk, fieldIn, orElse, hx, hs, hcount, h9, hc]

theorem State.judgePour_any {slot : Nat} {x : Slot} {ses : Session} (hx : Slot.ofCode? slot = some x) (hs : s.session x = some ses) :
    s.judgePour slot 0 0 = if (s.berth x).mismatch then .error (.planMismatch, 0)
      else s.firstEligible x ses (s.ranking x 1 ses.holdCount) := by
  unfold State.judgePour
  rw [State.pourChecks_first hx hs (Nat.zero_le _) (Nat.zero_le _), slotOf_of hx, hs]
  cases (s.berth x).mismatch <;> rfl

theorem State.judgePour_one {slot h : Nat} {x : Slot} {ses : Session} (hx : Slot.ofCode? slot = some x) (hs : s.session x = some ses)
    (h9 : ses.holdCount ≤ 9) (h1 : 1 ≤ h) (h2 : h ≤ ses.holdCount) : s.judgePour slot h 0 = if (s.berth x).mismatch then .error (.planMismatch, 0)
      else (match (generalizing := false) s.eligible x ses h none with
        | .ok p => .ok (h, p)
        | .error r => .error r) := by
  unfold State.judgePour
  rw [State.pourChecks_first hx hs (by omega) h2, slotOf_of hx, hs]
  cases (s.berth x).mismatch
  · simp only [Bool.false_eq_true, if_false, if_true]
    refine Eq.trans (if_neg (by omega)) ?_
    cases s.eligible x ses h none <;> rfl
  · rfl

theorem State.any_facts {slot h : Nat} {x : Slot} {ses : Session} (hx : Slot.ofCode? slot = some x) (hs : s.session x = some ses)
    (h9 : ses.holdCount ≤ 9) (h1 : 1 ≤ h) (h2 : h ≤ ses.holdCount) :
    (∀ p, s.judgePour slot 0 0 = .ok (h, p) ↔ s.judgePour slot h 0 = .ok (h, p)
      ∧ ∀ g q, 1 ≤ g → g ≤ ses.holdCount → s.ranksAhead x g h → s.judgePour slot g 0 ≠ .ok (g, q))
    ∧ ((∀ g, 1 ≤ g → g ≤ ses.holdCount → g ≠ h → s.ranksAhead x h g) →
      (∀ g q, 1 ≤ g → g ≤ ses.holdCount → s.judgePour slot g 0 ≠ .ok (g, q)) →
      s.judgePour slot 0 0 = s.judgePour slot h 0) := by
  have hany := State.judgePour_any hx hs
  have hone : ∀ g, 1 ≤ g → g ≤ ses.holdCount → _ := fun g g1 g2 => State.judgePour_one hx hs h9 g1 g2
  have hmem : ∀ g, g ∈ s.ranking x 1 ses.holdCount ↔ 1 ≤ g ∧ g ≤ ses.holdCount := fun g => by
    rw [s.mem_ranking]
    omega
  cases hm : (s.berth x).mismatch with
  | true =>
    rw [hm, if_pos rfl] at hany
    rw [hany, hone h h1 h2, hm, if_pos rfl]
    exact ⟨fun p => ⟨nofun, fun hb => nomatch hb.1⟩, fun _ _ => rfl⟩
  | false =>
    rw [hm, if_neg Bool.false_ne_true] at hany
    have hok : ∀ g q, 1 ≤ g → g ≤ ses.holdCount → (s.judgePour slot g 0 = .ok (g, q) ↔ s.eligible x ses g none = .ok q) := by
      intro g q g1 g2
      rw [hone g g1 g2, hm, if_neg Bool.false_ne_true]
      cases s.eligible x ses g none <;> simp
    have hranked := s.ranking_ranked x 1 ses.holdCount
    refine ⟨fun p => ?_, fun hfirst hno => ?_⟩
    · rw [hany, State.firstEligible_ok hranked ((hmem h).2 ⟨h1, h2⟩), hok h p h1 h2]
      refine and_congr Iff.rfl ⟨fun hall g q g1 g2 hahead => ?_, fun hall g hg hlt q => ?_⟩
      · rw [Ne, hok g q g1 g2]
        exact hall g ((hmem g).2 ⟨g1, g2⟩) ((s.ranksAhead_iff x g h).1 hahead) q
      · obtain ⟨g1, g2⟩ := (hmem g).1 hg
        rw [Ne, ← hok g q g1 g2]
        exact hall g q g1 g2 ((s.ranksAhead_iff x g h).2 hlt)
    · have hin := (hmem h).2 ⟨h1, h2⟩
      have hbad : ∀ g ∈ s.ranking x 1 ses.holdCount, ∀ q, s.eligible x ses g none ≠ .ok q := fun g hg q => by
        obtain ⟨g1, g2⟩ := (hmem g).1 hg
        rw [Ne, ← hok g q g1 g2]
        exact hno g q g1 g2
      cases he : s.eligible x ses h none with
      | ok q => exact absurd he (hbad h hin q)
      | error r =>
        rw [hany, hone h h1 h2, hm, if_neg Bool.false_ne_true, he]
        cases hl : s.ranking x 1 ses.holdCount with
        | nil => rw [hl] at hin; cases hin
        | cons a rest =>
          rw [hl] at hin hbad hranked
          obtain rfl : a = h := by
            by_contra hne
            obtain ⟨a1, a2⟩ := (hmem a).1 (hl ▸ .head _)
            have hlt := (s.ranksAhead_iff x h a).1 (hfirst a a1 a2 hne)
            have hmemh : h ∈ rest := (List.mem_cons.1 hin).resolve_left (Ne.symm hne)
            exact lt_asymm hlt ((List.pairwise_cons.1 hranked).1 h hmemh)
          exact State.firstEligible_none hbad he

end Sys2Proof.Machine

end

section
/-! POUR taken (section 6.5): O38. -/

namespace Sys2Proof.Machine

variable {s t u w : State}

/-! ## The take of POUR -/

theorem exec_pour {slot hold override : Nat} (hm : s.port.mode = .run) (hbox : s.port.mailbox = .posted (.pour slot hold override)) :
    exec .pour s = .next (s.takePour slot hold override).finish := by
  have run : exec .pour s = .next (s.takes (.pour slot hold override)).finish := exec_row hbox
  rw [run]
  exact congrArg (fun v => Host.Outcome.next (State.finish v)) (State.whenMode_allowed (by rw [hm]; exact .head _) _)

theorem State.takePour_refused {slot hold override : Nat} {r : Reason × Nat} (h : s.judgePour slot hold override = .error r) :
    s.takePour slot hold override = s.refuse r := by
  unfold State.takePour
  rw [h]

/-- The own claim entered, its frame issued (R114). -/
def State.claimed (s : State) (c : OwnClaim) : State :=
  { s with
    fill := { s.fill.onView c.slot (placeClaim c.hold ⟨s.station, c.pass, c.target, .pending⟩) with
      claim := some c, claimTimer := some (s.count + 400) }
    line := { s.line.issue .claim (frameBytes 0x02 s.station 0
      (c.slot.code :: (uField 1 c.hold ++ uField 1 c.pass ++ kgField c.target ++ uField 2 (s.planTag c.slot)))) with statusDue := true }
    pour := { s.pour with state := .claiming } }

theorem State.enterClaim_eq {c : OwnClaim} (hr : s.inRun = true) (hs : s.pour.state = .idle) : s.enterClaim c = s.claimed c := by
  obtain ⟨v, hv⟩ : ∃ v, v = s.onFill (fun f => { f.onView c.slot (placeClaim c.hold ⟨s.station, c.pass, c.target, .pending⟩) with
    claim := some c, claimTimer := s.timer Config.claimMs }) := ⟨_, rfl⟩
  have hissue : v.issueClaim c = v.onLine (fun l => l.issue .claim (frameBytes 0x02 v.station 0
      (c.slot.code :: (uField 1 c.hold ++ uField 1 c.pass ++ kgField c.target ++ uField 2 (v.planTag c.slot))))) :=
    if_pos (by rw [hv]; exact hr)
  have henter : s.enterClaim c = ((v.issueClaim c).markStatus).setPour .claiming := by rw [hv]; rfl
  rw [henter, hissue, State.setPour_of_ne (by rw [hv]; show s.pour.state ≠ _; rw [hs]; nofun), hv]
  rfl

theorem State.onlyIn_claimed (s : State) (c : OwnClaim) : s.onlyIn (s.claimed c) [.line, .fill, .pour] := by
  intro b hb
  cases b <;> first | rfl | simp at hb

theorem State.claimed_view (s : State) (c : OwnClaim) : (s.claimed c).view c.slot
      = (s.view c.slot).map (placeClaim c.hold ⟨s.station, c.pass, c.target, .pending⟩)
    ∧ (s.claimed c).view c.slot.other = s.view c.slot.other := by
  unfold State.claimed
  cases c.slot <;> exact ⟨rfl, rfl⟩

/-- A row outside its view is empty. -/
theorem State.row_outside {x : Slot} {rows : List Row} {g : Nat} (hv : s.view x = some rows) (hg : g = 0 ∨ rows.length < g) : s.row x g = Row.empty := by
  unfold State.row
  rw [hv]
  dsimp only
  rcases hg with rfl | hg
  · exact if_pos rfl
  · rw [if_neg (by omega), List.getD_eq_getElem?_getD, List.getElem?_eq_none (by omega)]
    rfl

theorem State.claimed_row {c : OwnClaim} {rows : List Row} (hv : s.view c.slot = some rows) {g : Nat} (g1 : 1 ≤ g) (g2 : g ≤ rows.length) :
    (s.claimed c).row c.slot g = (s.row c.slot g).placed ⟨s.station, c.pass, c.target, .pending⟩ (c.hold == g) :=
  State.row_map (g := fun i row => row.placed ⟨s.station, c.pass, c.target, .pending⟩ (c.hold == i)) hv
    (by rw [(s.claimed_view c).1, hv]; rfl) (fun i => placeClaim_get _ _ _ i) g1 g2

theorem placeClaim_length (h : Nat) (c : ClaimEntry) (rows : List Row) : (placeClaim h c rows).length = rows.length := by
  unfold placeClaim removeClaims
  split <;> simp

/-- The own claim stands in its row and in no other of its slot. -/
theorem State.claimed_rows {c : OwnClaim} {rows : List Row} {row : Row} (hv : s.view c.slot = some rows) (hr : rows[c.hold - 1]? = some row)
    (h1 : 1 ≤ c.hold) : ⟨s.station, c.pass, c.target, .pending⟩ ∈ ((s.claimed c).row c.slot c.hold).claims
      ∧ ∀ g, g ≠ c.hold → ∀ k ∈ ((s.claimed c).row c.slot g).claims, k.station ≠ s.station := by
  have hlen : c.hold ≤ rows.length := by
    have := (List.getElem?_eq_some_iff.1 hr).1
    omega
  refine ⟨?_, fun g hg k hk => ?_⟩
  · rw [State.claimed_row hv h1 hlen, Row.mem_placed]
    exact .inr ⟨beq_self_eq_true _, rfl⟩
  · by_cases hin : 1 ≤ g ∧ g ≤ rows.length
    · rw [State.claimed_row hv hin.1 hin.2, Row.mem_placed] at hk
      rcases hk with hk | ⟨hh, -⟩
      · exact hk.2
      · exact absurd (beq_iff_eq.1 hh).symm hg
    · have hw : (s.claimed c).view c.slot = some (placeClaim c.hold ⟨s.station, c.pass, c.target, .pending⟩ rows) := by
        rw [(s.claimed_view c).1, hv]
        rfl
      rw [State.row_outside hw (by rw [placeClaim_length]; omega)] at hk
      cases hk

theorem State.pour_taken {slot hold override h : Nat} {p : Proposal} {x : Slot} {rows : List Row} {row : Row}
    (hm : s.port.mode = .run) (hs : s.pour.state = .idle) (hbox : s.port.mailbox = .posted (.pour slot hold override))
    (hj : s.judgePour slot hold override = .ok (h, p)) (hx : Slot.ofCode? slot = some x) (hv : s.view x = some rows)
    (hr : rows[h - 1]? = some row) (h1 : 1 ≤ h) (hend : s.line.up.chainEnd = false) :
    ∃ t, exec .pour s = .next t ∧ s.onlyIn t [.port, .line, .fill, .pour]
      ∧ t.port = { s.port with mailbox := doneReply (x.code :: (uField 1 h ++ uField 1 p.pass ++ kgField p.target)) }
      ∧ t.fill.claim = some ⟨x, h, p.pass, p.target, override != 0, .pending, false⟩
      ∧ t.fill.claimTimer = some (s.count + 400)
      ∧ ⟨s.station, p.pass, p.target, .pending⟩ ∈ (t.row x h).claims
      ∧ (∀ g, g ≠ h → ∀ c ∈ (t.row x g).claims, c.station ≠ s.station)
      ∧ t.view x.other = s.view x.other
      ∧ t.pour = { s.pour with state := .claiming }
      ∧ ∃ e ∈ t.line.own, e.kind = .claim ∧ e.upSent = false
          ∧ e.bytes = frameBytes 0x02 s.station 0
            (x.code :: (uField 1 h ++ uField 1 p.pass ++ kgField p.target ++ uField 2 (s.planTag x))) := by
  obtain ⟨c, hc⟩ : ∃ c : OwnClaim, c = ⟨x, h, p.pass, p.target, override != 0, .pending, false⟩ := ⟨_, rfl⟩
  have hclaim : p.claim (slotOf slot) h override = c := by rw [hc, slotOf_of hx]; rfl
  have htake : s.takePour slot hold override = (s.claimed c).done c.fields := by
    unfold State.takePour
    rw [hj]
    dsimp only
    rw [hclaim, State.enterClaim_eq (beq_iff_eq.2 hm) hs]
  obtain ⟨hdone, hport⟩ := (s.claimed c).finish_done c.fields
  obtain ⟨t, ht⟩ : ∃ t, t = ((s.claimed c).done c.fields).finish := ⟨_, rfl⟩
  have hown : c.slot = x ∧ c.hold = h ∧ c.pass = p.pass ∧ c.target = p.target := by
    rw [hc]
    exact ⟨rfl, rfl, rfl, rfl⟩
  obtain ⟨hslot, hhold, hpass, htarget⟩ := hown
  subst hslot hhold
  have hfill : t.fill = (s.claimed c).fill := ht ▸ hdone .fill (by decide)
  obtain ⟨hmem, hothers⟩ := State.claimed_rows hv hr h1
  have hrow : ∀ g, t.row c.slot g = (s.claimed c).row c.slot g := fun g => State.row_congr hfill _ _
  rw [hpass, htarget] at hmem
  refine ⟨t, by rw [exec_pour hm hbox, htake, ht], ?_, ?_, ?_, ?_, ?_, fun g hg k hk => ?_, ?_, ?_, ?_⟩
  · rw [ht]
    exact ((s.onlyIn_claimed c).mono (by decide)).trans (hdone.mono (by decide))
  · rw [ht, hport, OwnClaim.fields, hpass, htarget]
    rfl
  · rw [hfill, ← hc]
    rfl
  · rw [hfill]
    rfl
  · rw [hrow]
    exact hmem
  · rw [hrow] at hk
    exact hothers g hg k hk
  · rw [← (s.claimed_view c).2]
    cases c.slot.other <;> simp only [State.view, hfill]
  · rw [ht, hdone .pour (by decide)]
    rfl
  · rw [← hpass, ← htarget]
    obtain ⟨bytes, hbytes⟩ : ∃ bytes, bytes = frameBytes 0x02 s.station 0
      (c.slot.code :: (uField 1 c.hold ++ uField 1 c.pass ++ kgField c.target ++ uField 2 (s.planTag c.slot))) := ⟨_, rfl⟩
    obtain ⟨e, he⟩ : ∃ e : OwnEntry, e = ⟨.claim, s.line.serial, bytes, s.line.up.chainEnd || OwnKind.claim == .brk .up,
      s.line.down.chainEnd || OwnKind.claim == .brk .down⟩ := ⟨_, rfl⟩
    have hup : e.upSent = false := by
      rw [he, hend]
      rfl
    have hissued : e ∈ (s.claimed c).line.own := by
      show e ∈ (s.line.issue .claim _).own
      rw [(s.line.issue_timers .claim _).1, ← hbytes, ← he]
      exact mem_enterOwn e s.line.own (by rw [hup]; rfl)
    refine ⟨e, ?_, by rw [he], hup, by rw [he, hbytes]⟩
    rw [ht]
    exact State.mem_own_finish hissued (by rw [he]; nofun)

end Sys2Proof.Machine

open Sys2Proof Sys2Proof.Machine

/-- Settles O38. The rows of the table are the checks of a named hold; ANY is the first of an insertion-sorted list; a POUR that is good writes
its claim. -/
theorem pourIsJudgedAndEntersItsClaim : Obligations.PourIsJudgedAndEntersItsClaim := by
  unfold Obligations.PourIsJudgedAndEntersItsClaim
  refine ⟨fun s slot hold n target x hx h1 h9 => ?_, fun s slot h x ses hx hs h9 h1 h2 => State.any_facts hx hs h9 h1 h2,
    fun s slot hold override reason index hfails => ?_, fun s slot hold override n target x h1 ht hx hn => State.judgePour_holds h1 ht hx hn,
    fun s slot hold override h p x rows row _ hm hs hbox hj hx hv hr h1 hend => State.pour_taken hm hs hbox hj hx hv hr h1 hend⟩
  · rw [State.judgePour_iff hx h1]
    constructor
    · rintro ⟨ht, hn⟩
      obtain ⟨ses, hs, hmis, hc, h2, h3, h4, ⟨h5, lo, hi, w, pos, hlo, hhi, hw, hin, hwin⟩, h6, h7⟩ := (State.pourTable_holds hx h9 hn).1 ht
      exact ⟨ses, hs, hmis, hc, h2, hn, h3, h4, h5, ⟨lo, hi, w, pos, hlo, hhi, hw, by simpa [inside] using hin, by simpa [inside] using hwin⟩, h6, h7⟩
    · rintro ⟨ses, hs, hmis, hc, h2, hn, h3, h4, h5, ⟨lo, hi, w, pos, hlo, hhi, hw, hin, hwin⟩, h6, h7⟩
      exact ⟨(State.pourTable_holds hx h9 hn).2 ⟨ses, hs, hmis, hc, h2, h3, h4, ⟨h5, lo, hi, w, pos, hlo, hhi, hw, by simpa [inside] using hin,
        by simpa [inside] using hwin⟩, h6, h7⟩, hn⟩
  · have hj : s.judgePour slot hold override = .error (reason, index) := by
      rcases hfails with ⟨h1, hf⟩ | ⟨rfl, hf⟩
      · exact State.judgePour_fails h1 hf
      · exact State.judgePour_refused hf
    refine ⟨hj, fun hq hm hbox => ?_⟩
    rw [exec_pour hm hbox, State.takePour_refused hj, State.finish_refuse hq]

end

section
/-! Orders of the sequencer (sections 5.4 and 7.3): an order with a target out of the arrival tolerance, and the pour point. -/

namespace Sys2Proof.Machine

variable {s t u w : State}

/-! ## An order with a target farther than the arrival tolerance -/

/-- The notice of a new order that finds travel PARKED and leaves it HELD. -/
def heldNotice (old new : TravelState) (r : Range) (pos target : Int) : List NoticeBody :=
  if old = .parked ∧ new = .held then [.travelHeld (if target < pos then r.lowerTerm else r.upperTerm) pos target] else []

/-- An order leaves the position, the edges and the fault cause of travel as they are. -/
def Travel.Steered (v w : Travel) : Prop := w.position = v.position ∧ w.range = v.range ∧ w.cause = v.cause

/-- What an order makes of travel is said of its own and the block's fields alone. -/
theorem State.takesOrder_congr {pos target : Int} {source : OrderSource} {r : Range} (ht : s.travel = u.travel) (hcfg : s.cfg = u.cfg)
    (h : t.travel = w.travel) : s.takesOrder t pos target source r ↔ u.takesOrder w pos target source r := by
  unfold State.takesOrder State.block
  rw [ht, hcfg, h]

section Placed

variable {pos : Int} {r : Range} (target : Int) (source : OrderSource)

/-- An order replaced in MOVING, the target out of the tolerance. -/
theorem State.placeOrder_turns {dir : Side} (h : s.travel.state = .moving) (hp : s.travel.position = some pos)
    (hr : s.travel.range = some r) (hd : s.travel.direction = some dir) (hfar : fartherThan s.block.tolerance pos target) :
    ∃ v due, s.placeOrder target source = (s.traveled v [] due, none) ∧ s.travel.Steered v
      ∧ ∀ t : State, t.travel = v → s.takesOrder t pos target source r := by
  rw [State.placeOrder_moving target source h hp hr hd, if_neg (not_not.2 hfar)]
  have only : ∀ {e : Side}, s.travel.direction = some e → e = dir := fun he => by rw [hd] at he; exact (Option.some.inj he).symm
  by_cases hback : 0 < sense dir * (target - pos)
  · refine ⟨_, true, by rw [if_pos hback], by exact ⟨rfl, rfl, rfl⟩, fun t ht => ?_⟩
    unfold State.takesOrder
    rw [ht, h]
    refine ⟨rfl, rfl, rfl, fun e he => ?_⟩
    rw [only he, if_neg (by omega)]
    rfl
  · rw [if_neg hback]
    by_cases hedge : fartherThan s.block.tolerance pos (stopPointOf r.lower r.upper pos target)
    · refine ⟨_, s.line.statusDue, by rw [if_neg (not_not.2 hedge)], by exact ⟨rfl, rfl, rfl⟩, fun t ht => ?_⟩
      unfold State.takesOrder
      rw [ht, h]
      refine ⟨rfl, rfl, rfl, fun e he => ?_⟩
      rw [only he, if_pos (by omega), if_pos hedge]
      exact Prod.ext h rfl
    · refine ⟨_, true, by rw [if_pos hedge], by exact ⟨rfl, rfl, rfl⟩, fun t ht => ?_⟩
      unfold State.takesOrder
      rw [ht, h]
      refine ⟨rfl, rfl, rfl, fun e he => ?_⟩
      rw [only he, if_pos (by omega), if_neg hedge]
      rfl

/-- An order that finds travel not FAULTED is taken as each state takes one (R88, R91, R93, R95). -/
theorem State.placeOrder_takes (hf : s.travel.state ≠ .faulted) (hmove : s.travel.state = .moving → s.travel.direction.isSome)
    (hp : s.travel.position = some pos) (hr : s.travel.range = some r)
    (hfar : fartherThan s.block.tolerance pos target ∨ s.travel.state = .releasing ∨ s.travel.state = .settling) :
    ∃ v due, s.placeOrder target source = (s.traveled v (heldNotice s.travel.state v.state r pos target) due, none) ∧ s.travel.Steered v
      ∧ ∀ t : State, t.travel = v → s.takesOrder t pos target source r := by
  have far : s.travel.state ≠ .releasing → s.travel.state ≠ .settling → fartherThan s.block.tolerance pos target :=
    fun h1 h2 => hfar.resolve_right (not_or.2 ⟨h1, h2⟩)
  have silent : ∀ v : Travel, s.travel.state ≠ .parked ∨ v.state ≠ .held → heldNotice s.travel.state v.state r pos target = [] :=
    fun v h => if_neg (by rintro ⟨h1, h2⟩; exact h.elim (· h1) (· h2))
  cases hs : s.travel.state with
  | faulted => exact absurd hs hf
  | moving =>
    obtain ⟨dir, hd⟩ := Option.isSome_iff_exists.1 (hmove hs)
    obtain ⟨v, due, hplace, hsteer, htakes⟩ := s.placeOrder_turns target source hs hp hr hd (far (by rw [hs]; nofun) (by rw [hs]; nofun))
    refine ⟨v, due, ?_, hsteer, htakes⟩
    rw [hplace, ← hs, silent v (.inl (by rw [hs]; nofun))]
  | releasing =>
    refine ⟨s.travel.ordered target source, s.line.statusDue, ?_, by exact ⟨rfl, rfl, rfl⟩, fun t ht => ?_⟩
    · rw [State.placeOrder_waits target source (.inl hs), ← hs, silent _ (.inl (by rw [hs]; nofun))]
    · unfold State.takesOrder
      rw [ht, hs]
      exact ⟨rfl, rfl, rfl, hs⟩
  | settling =>
    refine ⟨s.travel.ordered target source, s.line.statusDue, ?_, by exact ⟨rfl, rfl, rfl⟩, fun t ht => ?_⟩
    · rw [State.placeOrder_waits target source (.inr hs), ← hs, silent _ (.inl (by rw [hs]; nofun))]
    · unfold State.takesOrder
      rw [ht, hs]
      exact ⟨rfl, rfl, rfl, hs⟩
  | parked =>
    rw [State.placeOrder_parked target source hs hp hr, if_neg (not_not.2 (far (by rw [hs]; nofun) (by rw [hs]; nofun)))]
    by_cases hedge : fartherThan s.block.tolerance pos (stopPointOf r.lower r.upper pos target)
    · refine ⟨(s.traveled (s.travel.ordered target source) [] s.line.statusDue).released, true,
        by rw [if_neg (not_not.2 hedge), ← hs, silent _ (.inr (by unfold State.released; simp))], by exact ⟨rfl, rfl, rfl⟩, fun t ht => ?_⟩
      unfold State.takesOrder
      rw [ht, hs]
      exact ⟨rfl, rfl, rfl, (if_pos hedge).symm⟩
    · refine ⟨_, true, if_pos hedge, by exact ⟨rfl, rfl, rfl⟩, fun t ht => ?_⟩
      unfold State.takesOrder
      rw [ht, hs]
      exact ⟨rfl, rfl, rfl, (if_neg hedge).symm⟩
  | held =>
    rw [State.placeOrder_held target source hs hp hr, if_neg (not_not.2 (far (by rw [hs]; nofun) (by rw [hs]; nofun)))]
    by_cases hgo : stopPointOf r.lower r.upper pos target = target
        ∨ fartherThan s.block.creep pos (stopPointOf r.lower r.upper pos target)
    · refine ⟨_, true, by rw [if_pos hgo, ← hs, silent _ (.inl (by rw [hs]; nofun))], by exact ⟨rfl, rfl, rfl⟩, fun t ht => ?_⟩
      unfold State.takesOrder
      rw [ht, hs]
      exact ⟨rfl, rfl, rfl, (if_pos hgo).symm⟩
    · refine ⟨s.travel.ordered target source, s.line.statusDue, by rw [if_neg hgo, ← hs, silent _ (.inl (by rw [hs]; nofun))], by exact ⟨rfl, rfl, rfl⟩, fun t ht => ?_⟩
      unfold State.takesOrder
      rw [ht, hs]
      exact ⟨rfl, rfl, rfl, hs.trans (if_neg hgo).symm⟩

end Placed

/-! ## The pour point (R17, R126) -/

theorem State.window_onHold {f : Hold → Hold} (hf : ∀ d, (f d).plan = d.plan) (x : Slot) (h g : Nat) :
    (s.onHold x h f).window x g = s.window x g := by
  by_cases h0 : h = 0
  · exact congrArg (fun v : State => v.window x g) (if_pos h0)
  · have hplan : (s.onHold x h f).plan x g = s.plan x g := by
      unfold State.plan
      rw [State.onHold_hold h0]
      by_cases hg : g = h
      · rw [if_pos hg]
        cases s.hold x g with
        | none => rfl
        | some d => exact hf d
      · rw [if_neg hg]
    have hses : (s.onHold x h f).session x = (s.session x).map (fun ses => { ses with holds := ses.holds.modify (h - 1) f }) := by
      unfold State.onHold
      rw [if_neg h0]
      exact State.onSession_session ..
    unfold State.window
    rw [hplan, hses]
    cases s.session x with
    | none => rfl
    | some ses =>
      cases s.plan x g with
      | none => rfl
      | some p => rfl

theorem State.window_congr (h : t.berths = s.berths) (x : Slot) (g : Nat) : t.window x g = s.window x g := by
  unfold State.window State.plan
  rw [State.hold_same h]
  unfold State.session State.berth
  rw [h]

theorem Hold.consume_plan (d : Hold) : d.consume.plan = d.plan := by
  unfold Hold.consume
  split <;> rfl

section Point

variable {c : OwnClaim} {win : Int × Int} {tip pos : Int} (hc : s.fill.claim = some c) (hwin : s.window c.slot c.hold = some win)

include hc hwin

theorem State.claimWindow_eq : s.claimWindow = some win := by
  unfold State.claimWindow
  rw [hc]
  exact hwin

theorem State.pourPoint_eq (htip : s.tip = some tip) : s.pourPoint = some (clampTo win tip - s.block.spoutOffset) := by
  unfold State.pourPoint
  rw [State.claimWindow_eq hc hwin, htip]

theorem State.tipInside_iff (htip : s.tip = some tip) : s.tipInside = true ↔ win.1 ≤ tip ∧ tip ≤ win.2 := by
  unfold State.tipInside
  rw [State.claimWindow_eq hc hwin, htip]
  simp [inside]

end Point

theorem clampTo_inside {i : Int × Int} {x : Int} (h : i.1 ≤ x ∧ x ≤ i.2) : clampTo i x = x := by
  unfold clampTo
  rw [if_neg (by omega), if_neg (by omega)]

theorem clampTo_outside {i : Int × Int} {x : Int} (h : x < i.1 ∨ i.2 < x) : clampTo i x = if x < i.1 then i.1 else i.2 := by
  unfold clampTo
  split
  · rfl
  · rw [if_pos (by omega)]

theorem State.tip_of (h : s.travel.position = some pos) : s.tip = some (pos + s.block.spoutOffset) := by
  unfold State.tip
  rw [h]
  rfl

theorem fartherThan_self (d : Nat) (x : Int) : ¬fartherThan d x x := by
  unfold fartherThan
  omega

/-! ## The three cases of POSITIONING (R126) -/

/-- The pour with no re-aimed order. -/
def State.aimed (s : State) : State := s.onPour (fun p => { p with reAimed := false })

theorem State.positioningCases_faulted (h : s.travel.state = .faulted) : s.positioningCases = s.aimed := if_pos h

theorem State.positioningCases_starts (h : s.travel.state = .parked) (hin : s.tipInside = true) :
    s.positioningCases = s.aimed.enterStarting := by
  unfold State.positioningCases
  dsimp only
  rw [if_neg (by rw [h]; nofun), if_pos (by rw [h, hin]; rfl)]
  rfl

/-- The order to the pour point, which does not end at once. -/
theorem State.positioningCases_places {p : Int} (hf : s.travel.state ≠ .faulted) (hparked : ¬(s.travel.state = .parked ∧ s.tipInside = true))
    (hpoint : s.pourPoint = some p) (hplace : s.aimed.placeOrder p .position = (u, none)) : s.positioningCases = u := by
  unfold State.positioningCases
  dsimp only
  rw [if_neg hf, if_neg (by simpa using hparked), hpoint]
  dsimp only
  rw [show s.onPour (fun q => { q with reAimed := false }) = s.aimed from rfl, hplace]

/-- The order to the pour point, out of the tolerance or taken by RELEASING or SETTLING. -/
theorem State.positioningCases_orders {c : OwnClaim} {win : Int × Int} {pos p : Int} {r : Range} (hc : s.fill.claim = some c)
    (hwin : s.window c.slot c.hold = some win) (hp : s.travel.position = some pos) (hr : s.travel.range = some r)
    (hpoint : p = clampTo win (pos + s.block.spoutOffset) - s.block.spoutOffset) (hf : s.travel.state ≠ .faulted)
    (hmove : s.travel.state = .moving → s.travel.direction.isSome)
    (hfar : fartherThan s.block.tolerance pos p ∨ s.travel.state = .releasing ∨ s.travel.state = .settling) :
    ∃ v due, s.positioningCases = s.aimed.traveled v (heldNotice s.travel.state v.state r pos p) due ∧ s.travel.Steered v
      ∧ ∀ t : State, t.travel = v → s.takesOrder t pos p .position r := by
  have hparked : ¬(s.travel.state = .parked ∧ s.tipInside = true) := by
    rintro ⟨h1, h2⟩
    rw [h1] at hfar
    have hin := (State.tipInside_iff hc hwin (State.tip_of hp)).1 h2
    rw [clampTo_inside hin] at hpoint
    obtain rfl : p = pos := by omega
    exact fartherThan_self _ _ (hfar.resolve_right (by simp))
  obtain ⟨v, due, hplace, hsteer, htakes⟩ := s.aimed.placeOrder_takes p .position hf hmove hp hr hfar
  refine ⟨v, due, ?_, hsteer, fun t ht => (State.takesOrder_congr rfl rfl rfl).1 (htakes t ht)⟩
  exact State.positioningCases_places hf hparked (hpoint ▸ State.pourPoint_eq hc hwin (State.tip_of hp)) hplace

end Sys2Proof.Machine

end

section
/-! The expiry of the claim window and of the positioning limit (sections 6.5 and 7.3): O39. -/

namespace Sys2Proof.Machine

variable {s t u w : State}

/-! ## The decision on a claim (R116, R117) -/

theorem exec_claimWindow {d : Nat} (h : s.fill.claimTimer = some d) :
    exec .claimWindowExpiry s = .next (s.upTo d).decideClaim.finish := by
  have run : exec .claimWindowExpiry s = .next (s.expire s.fill.claimTimer State.decideClaim).finish := rfl
  rw [run, h]
  rfl

theorem State.decideClaim_loses {c : OwnClaim} {reason : Reason} {index : Nat} (hc : s.fill.claim = some c)
    (h : (s.decisionTable c).failsBy reason index) : s.decideClaim = s.loseClaim reason := by
  unfold State.decideClaim
  rw [hc]
  dsimp only
  rw [(s.decisionTable_failsBy_iff c reason index).1 h]

theorem State.decideClaim_grants {c : OwnClaim} (hc : s.fill.claim = some c) (h : (s.decisionTable c).holds) :
    s.decideClaim = s.grantClaim c := by
  unfold State.decideClaim
  rw [hc]
  dsimp only
  rw [(s.decisionTable_holds_iff c).1 h]

/-- The claim ACTIVE, its token consumed, the pour in POSITIONING with its timer (R117, R126). -/
def State.granted (s : State) (c : OwnClaim) : State :=
  { s with
    berths := (s.onHold c.slot c.hold Hold.consume).berths
    fill := { s.fill.onRow c.slot c.hold (fun r => { r with
        claims := r.claims.map (fun k => if k.station = s.station then { k with phase := .active } else k) }) with
      claim := some { c with phase := .active }, claimTimer := none }
    port := s.port.raise s.count (.claimResult c.slot c.hold c.pass c.target none)
    line := { s.line with statusDue := true }
    pour := { s.pour with state := .positioning, positioningTimer := some (s.count + 120000) } }

theorem State.onHold_form (s : State) (x : Slot) (h : Nat) (f : Hold → Hold) : s.onHold x h f = { s with berths := (s.onHold x h f).berths } := by
  unfold State.onHold
  split <;> rfl

theorem State.grantClaim_eq {c : OwnClaim} (h : s.pour.state = .claiming) : s.grantClaim c = (s.granted c).positioningCases := by
  obtain ⟨v, hv⟩ : ∃ v, v = s.onFill (fun f => { f.onRow c.slot c.hold (fun r => { r with
      claims := r.claims.map (fun k => if k.station = s.station then { k with phase := .active } else k) }) with
    claim := some { c with phase := .active }, claimTimer := none }) := ⟨_, rfl⟩
  have hberths : v.onHold c.slot c.hold Hold.consume = { v with berths := (s.onHold c.slot c.hold Hold.consume).berths } := by
    rw [State.onHold_form, State.onHold_berths (s := s) (by rw [hv]; rfl)]
  have hgrant : s.grantClaim c = ((v.onHold c.slot c.hold Hold.consume).markStatus.notify
      (.claimResult c.slot c.hold c.pass c.target none)).enterPositioning := by rw [hv]; rfl
  rw [hgrant, hberths]
  unfold State.enterPositioning
  rw [State.setPour_of_ne (by rw [hv]; show s.pour.state ≠ _; rw [h]; nofun), hv]
  rfl

/-- A granted claim keeps the pour window of its hold. -/
theorem State.granted_window (s : State) (c : OwnClaim) (x : Slot) (g : Nat) (h : x = c.slot) : (s.granted c).window x g = s.window x g := by
  subst h
  exact (State.window_congr (s := s.onHold c.slot c.hold Hold.consume) (t := s.granted c) rfl c.slot g).trans
    (State.window_onHold Hold.consume_plan ..)

theorem State.granted_hold {c : OwnClaim} {hd : Hold} (h : s.hold c.slot c.hold = some hd) : (s.granted c).hold c.slot c.hold = some hd.consume := by
  rw [State.hold_same (s := s.onHold c.slot c.hold Hold.consume) (t := s.granted c) rfl, State.onHold_hold (State.hold_ne_zero h), if_pos rfl, h]
  rfl

theorem Hold.consume_eq (d : Hold) : d.consume
    = if d.permission = .restricted ∧ d.token = true then { d with token := false, tokenPass := true } else d := rfl

/-- The positioning limit withdraws the claim (R126). -/
theorem exec_positioningTimer {d : Nat} (h : s.pour.positioningTimer = some d) (hs : s.pour.state = .positioning) :
    exec .positioningTimerExpiry s = .next ((s.upTo d).withdrawClaim .positionTimeout).finish := by
  have run : exec .positioningTimerExpiry s = .next (s.expire s.pour.positioningTimer (fun t =>
      if t.pour.state = .positioning then t.withdrawClaim .positionTimeout
      else t.onPour (fun p => { p with positioningTimer := none }))).finish := rfl
  rw [run, h]
  exact congrArg (fun v => Host.Outcome.next (State.finish v)) (if_pos hs)

/-! ## A claim granted with an order to place -/

/-- The state a grant leaves where travel takes the order that it places, or none. -/
def State.sent (s : State) (c : OwnClaim) (v : Travel) (bodies : List NoticeBody) (due : Bool) : State :=
  (s.granted c).aimed.traveled v bodies due

theorem State.sent_facts (s : State) (c : OwnClaim) (v : Travel) (bodies : List NoticeBody) (due : Bool) :
    s.onlyIn (s.sent c v bodies due).finish [.port, .line, .fill, .pour, .berths, .travel]
      ∧ (s.sent c v bodies due).finish.fill = (s.granted c).fill
      ∧ (s.sent c v bodies due).finish.pour
        = { s.pour with state := .positioning, reAimed := false, positioningTimer := some (s.count + 120000) }
      ∧ (s.sent c v bodies due).finish.travel = v
      ∧ (s.sent c v bodies due).finish.berths = (s.granted c).berths
      ∧ (s.sent c v bodies due).finish.count = s.count
      ∧ (s.sent c v bodies due).finish.port
        = s.port.raiseAll s.count (.claimResult c.slot c.hold c.pass c.target none :: bodies) := by
  have hf := State.onlyIn_finish (s.sent c v bodies due)
  refine ⟨?_, hf .fill (by decide), hf .pour (by decide), hf .travel (by decide), hf .berths (by decide), hf .count (by decide),
    hf .port (by decide)⟩
  have hsent : s.onlyIn (s.sent c v bodies due) [.port, .line, .fill, .pour, .berths, .travel] := by
    intro b hb
    cases b <;> first | rfl | simp at hb
  exact hsent.trans (hf.mono (by decide))

section Granted

variable {d : Nat} {c : OwnClaim} {hd : Hold} (hs : s.pour.state = .claiming) (ht : s.fill.claimTimer = some d)
  (hc : s.fill.claim = some c) (hdec : (s.decisionTable c).holds) (hhold : s.hold c.slot c.hold = some hd)

include hs ht hc hdec

theorem exec_claimWindow_granted : exec .claimWindowExpiry s = .next ((s.upTo d).granted c).positioningCases.finish := by
  rw [exec_claimWindow ht, State.decideClaim_grants (s := s.upTo d) hc hdec, State.grantClaim_eq (s := s.upTo d) hs]

include hhold

/-- The facts of every grant that places an order or none. -/
theorem State.granted_out {v : Travel} {bodies : List NoticeBody} {due : Bool}
    (h : ((s.upTo d).granted c).positioningCases = (s.upTo d).sent c v bodies due) {consumed : Hold}
    (hcons : consumed = if hd.permission = .restricted ∧ hd.token = true then { hd with token := false, tokenPass := true } else hd) :
    ∃ t, exec .claimWindowExpiry s = .next t ∧ s.onlyIn t [.count, .port, .line, .fill, .pour, .berths, .travel]
      ∧ t.count = max s.count d
      ∧ t.fill.claim = some { c with phase := .active } ∧ t.fill.claimTimer = none ∧ t.hold c.slot c.hold = some consumed
      ∧ t.pour = { s.pour with state := .positioning, reAimed := false, positioningTimer := some (t.count + 120000) }
      ∧ t.travel = v
      ∧ t.port = s.port.raiseAll t.count (.claimResult c.slot c.hold c.pass c.target none :: bodies) := by
  obtain ⟨honly, hfill, hpour, htravel, hberths, hcount, hport⟩ := (s.upTo d).sent_facts c v bodies due
  refine ⟨_, by rw [exec_claimWindow_granted hs ht hc hdec, h], ((State.onlyIn_upTo s d).mono (by decide)).trans (honly.mono (by decide)),
    hcount, congrArg Fill.claim hfill, congrArg Fill.claimTimer hfill, ?_, ?_, htravel, ?_⟩
  · rw [State.hold_same hberths, State.granted_hold (s := s.upTo d) hhold, hcons, Hold.consume_eq]
  · rw [hpour, hcount]
    rfl
  · rw [hport, hcount]
    rfl

end Granted

/-- A claim granted with an order for travel to take (R117, R126). -/
theorem State.granted_orders {d : Nat} {c : OwnClaim} {win : Int × Int} {tip p pos : Int} {r : Range}
    (hwin : s.window c.slot c.hold = some win) (hp : s.travel.position = some pos) (hr : s.travel.range = some r)
    (htip : s.tip = some tip)
    (hpoint : p = (if tip < win.1 then win.1 else if win.2 < tip then win.2 else tip) - s.block.spoutOffset)
    (hf : s.travel.state ≠ .faulted) (hmove : s.travel.state = .moving → s.travel.direction.isSome)
    (hfar : fartherThan s.block.tolerance pos p ∨ s.travel.state = .releasing ∨ s.travel.state = .settling) :
    ∃ v due, ((s.upTo d).granted c).positioningCases = (s.upTo d).sent c v (heldNotice s.travel.state v.state r pos p) due
      ∧ ∀ t : State, t.travel = v → s.takesOrder t pos p .position r := by
  rw [State.tip_of hp] at htip
  obtain rfl := Option.some.inj htip
  obtain ⟨v, due, hcases, -, htakes⟩ := State.positioningCases_orders (s := (s.upTo d).granted c) (c := { c with phase := .active }) (win := win)
    (pos := pos) (p := p) (r := r) rfl ((State.granted_window (s.upTo d) c c.slot c.hold rfl).trans hwin) hp hr hpoint hf hmove hfar
  exact ⟨v, due, hcases, fun t h => (State.takesOrder_congr rfl rfl rfl).1 (htakes t h)⟩

end Sys2Proof.Machine

open Sys2Proof Sys2Proof.Machine

/-- Settles O39. The decision is the first of the eight checks that fails; a claim that is granted leaves the pour in POSITIONING, and
travel takes the order as its state takes one; the positioning limit withdraws the claim. -/
theorem claimWindowGrantsOrLosesTheClaim : Obligations.ClaimWindowGrantsOrLosesTheClaim := by
  unfold Obligations.ClaimWindowGrantsOrLosesTheClaim
  refine ⟨fun s d c reason index _ hs ht hc hfail => ?_, fun s d c hd _ hs ht hc hdec hhold consumed hcons => ⟨fun hf => ?_, ?_⟩, ?_⟩
  · have hlost : (s.upTo d).decideClaim = (s.upTo d).claimLost c (.claimResult c.slot c.hold c.pass c.target (some reason)) :=
      (State.decideClaim_loses (s := s.upTo d) hc hfail).trans
        (State.loseClaim_eq (by exact hc) (by show s.pour.state ≠ _; rw [hs]; nofun) reason)
    rw [exec_claimWindow ht, hlost]
    have honly := State.onlyIn_finish ((s.upTo d).claimLost c (.claimResult c.slot c.hold c.pass c.target (some reason)))
    have hcount : _ = max s.count d := honly .count (by decide)
    have hfill : _ = (s.upTo d).fill.dropped s.station c := honly .fill (by decide)
    have hport : _ = s.port.raise (max s.count d) (.claimResult c.slot c.hold c.pass c.target (some reason)) :=
      honly .port (by decide)
    refine ⟨_, rfl, ?_, hcount, congrArg Fill.claim hfill, congrArg Fill.claimTimer hfill, State.unclaimed_dropped hfill,
      honly .pour (by decide), ?_⟩
    · exact ((State.onlyIn_upTo s d).mono (by decide)).trans
        (((State.onlyIn_claimLost (s.upTo d) _ _).mono (by decide)).trans (honly.mono (by decide)))
    · exact hport.trans (by rw [hcount])
  · have hcases : ((s.upTo d).granted c).positioningCases = (s.upTo d).sent c s.travel [] true := State.positioningCases_faulted hf
    obtain ⟨t, hexec, honly, hcount, hclaim, htimer, hold, hpour, htravel, hport⟩ :=
      State.granted_out hs ht hc hdec hhold hcases hcons
    refine ⟨t, hexec, honly.drop fun b hb => ?_, hcount, hclaim, htimer, hold, hpour, hport⟩
    cases b <;> first | exact .inl (by decide) | exact .inr htravel | simp at hb
  · intro win tip p hwin htip hpoint
    refine ⟨fun hwait => ?_, fun pos r hstate hmove hp hr hfar => ?_⟩
    · have hpoint' : ((s.upTo d).granted c).pourPoint = some p := by
        rw [State.pourPoint_eq (s := (s.upTo d).granted c) (c := { c with phase := .active }) (win := win) rfl
          ((State.granted_window (s.upTo d) c c.slot c.hold rfl).trans hwin) htip, hpoint]
        rfl
      have hcases : ((s.upTo d).granted c).positioningCases = (s.upTo d).sent c (s.travel.ordered p .position) [] true :=
        State.positioningCases_places (by show s.travel.state ≠ _; rcases hwait with h | h <;> rw [h] <;> nofun)
          (by rintro ⟨h1, -⟩; rcases hwait with h | h <;> cases h.symm.trans h1) hpoint'
          (State.placeOrder_waits (s := ((s.upTo d).granted c).aimed) p .position hwait.symm)
      obtain ⟨t, hexec, honly, hcount, hclaim, htimer, hold, hpour, htravel, hport⟩ :=
        State.granted_out hs ht hc hdec hhold hcases hcons
      exact ⟨t, hexec, honly, hcount, hclaim, htimer, hold, hpour, htravel, hport⟩
    · obtain ⟨v, due, hcases, htakes⟩ := State.granted_orders (d := d) (c := c) hwin hp hr htip hpoint
        (by rcases hstate with h | h | h <;> rw [h] <;> nofun) hmove (.inl hfar)
      obtain ⟨t, hexec, honly, hcount, hclaim, htimer, hold, hpour, htravel, hport⟩ :=
        State.granted_out hs ht hc hdec hhold hcases hcons
      refine ⟨t, hexec, honly, hcount, hclaim, htimer, hold, hpour, htakes t htravel, ?_⟩
      rw [htravel]
      exact hport
  · intro s d c _ hs ht hc
    obtain ⟨v, hv⟩ : ∃ v, v = if s.travel.source = some .position then (s.upTo d).travelStopped else s.travel := ⟨_, rfl⟩
    have hexec : exec .positioningTimerExpiry s = .next ((s.upTo d).ended c v
        { s.pour with state := .idle, positioningTimer := none } s.bills
        [.claimWithdrawn c.slot c.hold .positionTimeout c.pass c.target]).finish := by
      rw [exec_positioningTimer ht hs, State.withdrawClaim_eq (s := s.upTo d) hc (by show s.pour.state ≠ _; rw [hs]; nofun), hv]
      rfl
    have honly := State.onlyIn_finish ((s.upTo d).ended c v { s.pour with state := .idle, positioningTimer := none } s.bills
      [.claimWithdrawn c.slot c.hold .positionTimeout c.pass c.target])
    have hcount : _ = max s.count d := honly .count (by decide)
    have hstop : ∀ n, n = max s.count d → (s.upTo d).travelStopped = ({ s with count := n } : State).travelStopped := by
      rintro n rfl
      rfl
    have hfill : _ = (s.upTo d).fill.dropped s.station c := honly .fill (by decide)
    have htravel : _ = v := honly .travel (by decide)
    have hport : _ = s.port.raise (max s.count d) (.claimWithdrawn c.slot c.hold .positionTimeout c.pass c.target) :=
      honly .port (by decide)
    refine ⟨_, hexec, ?_, hcount, congrArg Fill.claim hfill,
      fun hd hhd => State.hold_unmarked (s := s.upTo d) (honly .berths (by decide)) hhd, fun hsrc => ?_, fun hsrc => ?_,
      State.unclaimed_dropped hfill, honly .pour (by decide), by rw [hport, hcount]⟩
    · refine (((State.onlyIn_upTo s d).mono (by decide)).trans (((State.onlyIn_ended _ _ _ _ _ _).mono (by decide)).trans
        (honly.mono (by decide)))).drop (l := [.count, .travel, .port, .line, .fill, .pour, .berths, .bills]) fun b hb => ?_
      cases b <;> first | exact .inl (by decide) | exact .inr (honly .bills (by decide)) | simp at hb
    · rw [htravel, hv, if_neg hsrc]
    · exact htravel.trans ((hv.trans (if_pos hsrc)).trans (hstop _ hcount))

end

section
/-! The first entry of a pass to STARTING (section 7.5). -/

namespace Sys2Proof.Machine

variable {s t u w : State}

/-! ## The entry with nothing to suspend the pass (R130) -/

/-- The pour record of a pass that begins: BELT_WAIT, the belt commanded ON, no cause and no failure counted. -/
def Pour.passBegun (p : Pour) (now : Nat) : Pour :=
  { p with
    state := .starting, phase := some .beltWait, causes := CauseSet.empty, passSuspended := false, failures := 0
    positioningTimer := none, beltOn := true, watch := .waiting, beltStartTimer := some (now + 10000) }

/-- The state in which the pass of claim `c` has begun. -/
def State.passBegun (s : State) (c : OwnClaim) : State :=
  { s with
    travel := (s.lineStarted c).recompute.travel
    bills := s.bills.takeLine (s.billNumber c.slot) c s.count
    pour := s.pour.passBegun s.count
    line := { s.line with statusDue := true } }

theorem State.lineStarted_eq (h : s.pour.state ≠ .starting) (c : OwnClaim) : s.lineStarted c
    = s.poured { s.pour with
        state := .starting, phase := some .beltWait, causes := CauseSet.empty, passSuspended := false, failures := 0
        positioningTimer := none } [] (s.bills.takeLine (s.billNumber c.slot) c s.count) true := by
  unfold State.lineStarted
  rw [State.setPour_of_ne (by exact h)]
  rfl

/-- No condition of a suspend cause holds. -/
theorem State.formedCauses_empty {c : OwnClaim} (hc : s.fill.claim = some c) (hclear : s.clearToStart c) :
    s.formedCauses = CauseSet.empty := by
  obtain ⟨htrans, hdust, hpeers, htravel, hscale, hgate, -⟩ := hclear
  have hmap : s.onClaimHold = true := (State.onClaimHold_iff hc).2 htrans
  unfold State.formedCauses
  rw [State.dustOwn_clear.2 hdust, State.peerReports_none (fun q hq _ => hpeers q hq), hmap, hgate]
  have h1 : (s.travel.state == .faulted) = false := beq_eq_false_iff_ne.2 htravel
  have h2 : (s.scale.status == .fault) = false := beq_eq_false_iff_ne.2 hscale
  rw [h1, h2]
  rfl

/-- The conditions of the entry are said of these fields alone. -/
theorem State.clearToStart_congr {c : OwnClaim} (h : s.clearToStart c) (hcfg : t.cfg = s.cfg)
    (hpos : t.travel.position = s.travel.position) (hberths : t.berths = s.berths) (hdust : t.dust = s.dust)
    (htravel : t.travel.state ≠ .faulted) (hscale : t.scale = s.scale) (hgate : t.pour.gate = s.pour.gate)
    (hbelt : t.pour.beltOn = s.pour.beltOn) (hinputs : t.inputs = s.inputs) (hbills : t.bills = s.bills) : t.clearToStart c := by
  obtain ⟨h1, h2, h3, -, h5, h6, h7, h8, h9, ses, b, h10, h11⟩ := h
  refine ⟨?_, ?_, ?_, htravel, ?_, ?_, ?_, ?_, ?_, ses, b, ?_, ?_⟩
  · rw [State.translate_congr hcfg hpos hberths, h1]
  · rw [hdust]; exact h2
  · rw [hdust]; exact h3
  · rw [hscale]; exact h5
  · rw [hgate]; exact h6
  · rw [hbelt]; exact h7
  · rw [hinputs]; exact h8
  · rw [hbills]; exact h9
  · unfold State.session
    rw [State.berth_congr hberths]
    exact h10
  · rw [hbills]; exact h11

theorem State.enterStarting_begins {c : OwnClaim} (hc : s.fill.claim = some c) (hs : s.pour.state ≠ .starting) (hclear : s.clearToStart c) :
    s.enterStarting = s.passBegun c := by
  obtain ⟨-, -, -, htravel, -, -, hbelt, hrunning, -⟩ := id hclear
  obtain ⟨v, hv⟩ : ∃ v, v = (s.lineStarted c).recompute := ⟨_, rfl⟩
  have hline := State.lineStarted_eq hs c
  have hformed : v.formedCauses = CauseSet.empty := by
    have same : v.formedCauses = s.formedCauses := by
      rw [hv, hline]
      rfl
    rw [same, State.formedCauses_empty hc hclear]
  have hcauses : (s.lineStarted c).causesFormed = v := by
    unfold State.causesFormed
    rw [← hv, hformed]
    exact State.setCauses_same (by rw [hv, hline]; rfl)
  rw [State.enterStarting_of_claim hc, hcauses, if_pos (by rw [hv, hline]; rfl),
    State.beltWait_starts (by rw [hv, hline]; exact hbelt) (by rw [hv, hline]; exact hrunning), hv]
  unfold State.passBegun
  rw [hline]
  rfl

theorem State.onlyIn_passBegun (s : State) (c : OwnClaim) : s.onlyIn (s.passBegun c) [.travel, .bills, .pour, .line] := by
  intro b hb
  cases b <;> first | rfl | simp at hb

theorem State.rangeWindow_congr (hopen : t.lineOpen = s.lineOpen) (hfill : t.fill = s.fill) (hberths : t.berths = s.berths)
    (hcfg : t.cfg = s.cfg) : t.rangeWindow = s.rangeWindow := by
  unfold State.rangeWindow State.windowTerms State.loaderWindow State.block
  rw [hopen, hfill, hcfg]
  split
  · split
    · rw [State.window_congr hberths]
    · rfl
  · rfl

/-- The edges after the entry are those of the state it leaves. -/
theorem State.passBegun_edges {c : OwnClaim} (hs : s.pour.state ≠ .starting) (h : (s.passBegun c).onlyIn t [.line, .port])
    (hend : ∀ side, (t.line.port side).chainEnd = (s.line.port side).chainEnd) :
    t.travel = { s.travel with edgeUp := t.computeEdge .up t.rangeWindow, edgeDown := t.computeEdge .down t.rangeWindow } := by
  have htravel : t.travel = (s.lineStarted c).recompute.travel := h .travel (by decide)
  have hpour : t.pour = s.pour.passBegun s.count := h .pour (by decide)
  have hcfg : t.cfg = s.cfg := h .cfg (by decide)
  have hpeers : t.peers = s.peers := h .peers (by decide)
  rw [State.lineStarted_eq hs] at htravel
  have hwindow : t.rangeWindow = (s.lineStarted c).rangeWindow := by
    rw [State.lineStarted_eq hs]
    exact State.rangeWindow_congr (by unfold State.lineOpen; rw [hpour]; rfl) (h .fill (by decide)) (h .berths (by decide)) hcfg
  have hedge : ∀ side, t.computeEdge side t.rangeWindow = (s.lineStarted c).computeEdge side (s.lineStarted c).rangeWindow := by
    intro side
    rw [hwindow, State.lineStarted_eq hs]
    exact State.computeEdge_congr hcfg (by rw [htravel]; rfl) hpeers hend side _
  rw [hedge, hedge, htravel, State.lineStarted_eq hs]
  rfl

/-- The line opened for the claim, the next of its bill. -/
theorem Bills.takeLine_bill {bs : Bills} {n : Nat} {b : Bill} (hb : bs.bill n = some b) (hfree : 0 < bs.free) (c : OwnClaim) (now : Nat) :
    (bs.takeLine n c now).free + 1 = bs.free ∧ (bs.takeLine n c now).spill = bs.spill
      ∧ (bs.takeLine n c now).bill n = some { b with lines := b.lines ++ [
        ⟨b.lines.length + 1, c.slot, c.hold, c.pass, c.target, (now - b.opening) / 1000, none, 0, 0, 0, none, none, none⟩] } := by
  obtain ⟨hn, hrecord⟩ := Bills.bill_eq_some hb
  unfold Bills.takeLine
  rw [hb]
  dsimp only
  rw [if_neg (by omega)]
  refine ⟨by dsimp only; omega, Bills.setRecord_spill _ _ _, ?_⟩
  refine (Bills.bill_setRecord hn hrecord n).trans ?_
  rw [if_pos rfl]
  rfl

theorem State.billNumber_of {x : Slot} {ses : Session} (h : s.session x = some ses) : s.billNumber x = ses.bill := by
  unfold State.billNumber
  rw [h]

/-- A pass that has begun, seen from a state whose pour begins it alike, but for the re-aimed mark, and of the same bills. -/
theorem State.passStarted_of {c : OwnClaim} (hclear : s.clearToStart c) (hsession : u.session c.slot = s.session c.slot)
    (hbills : u.bills = s.bills) {b : Bool} (hpour : ∀ n, u.pour.passBegun n = { s.pour.passBegun n with reAimed := b }) (hcount : t.count = u.count)
    (htpour : t.pour = u.pour.passBegun u.count) (htbills : t.bills = (u.passBegun c).bills) : s.passStarted t c := by
  obtain ⟨-, -, -, -, -, -, -, -, hfree, ses, bill, hses, hbill⟩ := hclear
  have hnumber : u.billNumber c.slot = ses.bill := State.billNumber_of (hsession.trans hses)
  obtain ⟨hless, hspill, -⟩ := Bills.takeLine_bill hbill hfree c u.count
  have ht : t.bills = s.bills.takeLine ses.bill c u.count := by
    rw [htbills, ← hnumber, ← hbills]
    rfl
  refine ⟨?_, by rw [ht, hless], by rw [ht, hspill], fun ses' b' hs' hb' => ?_⟩
  · rw [htpour, hpour, hcount]
    rfl
  · rw [hses] at hs'
    obtain rfl := Option.some.inj hs'
    rw [ht, hcount]
    exact (Bills.takeLine_bill hb' hfree c u.count).2.2

end Sys2Proof.Machine

end

section
/-! POSITIONING left for STARTING, or its order placed anew (sections 5.7, 5.10, 1.3.4, 7.3): O40. -/

namespace Sys2Proof.Machine

variable {s t u w : State}

/-! ## The tip in the window of the claim's hold -/

theorem State.tipInside_of_translate {c : OwnClaim} (hc : s.fill.claim = some c) (h : s.translate = .ok c.slot c.hold) : s.tipInside = true := by
  obtain ⟨tip, ses, d, p, htip, -, -, -, -, -, -, -, hwin, hin⟩ := translationFindsThePourableHoldUnderTheTip.1 s c.slot c.hold h
  unfold State.tipInside
  rw [State.claimWindow_eq hc hwin, htip]
  exact hin

theorem State.tipOutside {c : OwnClaim} {win : Int × Int} {tip : Int} (hc : s.fill.claim = some c) (hwin : s.window c.slot c.hold = some win)
    (htip : s.tip = some tip) (h : tip < win.1 ∨ win.2 < tip) : s.tipInside = false := by
  rw [Bool.eq_false_iff]
  intro hin
  have := (State.tipInside_iff hc hwin htip).1 hin
  omega

theorem State.onSession_congr {x : Slot} {f g : Session → Session} (h : ∀ ses, s.session x = some ses → f ses = g ses) :
    s.onSession x f = s.onSession x g := by
  have key : (s.berth x).session.map f = (s.berth x).session.map g := Option.map_congr fun ses hses => h ses hses
  unfold State.onSession State.onBerth State.onBerths
  cases x with
  | a => exact congrArg (fun o => ({ s with berths := { s.berths with a := { s.berths.a with session := o } } } : State)) key
  | b => exact congrArg (fun o => ({ s with berths := { s.berths with b := { s.berths.b with session := o } } } : State)) key

theorem State.onSession_id (s : State) (x : Slot) : s.onSession x id = s := by
  have key : (s.berth x).session.map id = (s.berth x).session := Option.map_id_apply
  unfold State.onSession State.onBerth State.onBerths
  cases x with
  | a => exact congrArg (fun o => ({ s with berths := { s.berths with a := { s.berths.a with session := o } } } : State)) key
  | b => exact congrArg (fun o => ({ s with berths := { s.berths with b := { s.berths.b with session := o } } } : State)) key

/-- A descriptor written as it stood leaves the state as it was. -/
theorem State.onHold_fixed {x : Slot} {h : Nat} {f : Hold → Hold} (hf : ∀ d, s.hold x h = some d → f d = d) : s.onHold x h f = s := by
  by_cases h0 : h = 0
  · exact if_pos h0
  · have same : ∀ ses, s.session x = some ses → ({ ses with holds := ses.holds.modify (h - 1) f } : Session) = ses := by
      intro ses hses
      have hholds : ses.holds.modify (h - 1) f = ses.holds := by
        refine List.ext_getElem? fun i => ?_
        rw [List.getElem?_modify]
        split
        · next hi =>
          subst hi
          cases hd : ses.holds[h - 1]? with
          | none => rfl
          | some d =>
            refine congrArg some (hf d ?_)
            unfold State.hold Session.hold
            rw [hses]
            exact (if_neg h0).trans hd
        · exact congrFun (Option.map_id (α := Hold)) _
      rw [hholds]
    unfold State.onHold
    rw [if_neg h0]
    exact (State.onSession_congr (g := id) same).trans (State.onSession_id s x)

/-- A hold whose permission is OPENED has no token to consume. -/
theorem State.granted_berths {c : OwnClaim} (h : ∀ hd, s.hold c.slot c.hold = some hd → hd.permission = .opened) :
    (s.granted c).berths = s.berths := by
  have hfix : s.onHold c.slot c.hold Hold.consume = s := by
    refine State.onHold_fixed fun d hd => if_neg ?_
    rw [h d hd]
    rintro ⟨h1, -⟩
    cases h1
  exact (congrArg State.berths hfix :)

/-! ## The end of settling in POSITIONING (R92, R127) -/

/-- Travel PARKED with the sequencer's order at its end, as the settling timer leaves it. -/
def State.landed (s : State) (d : Nat) (pos target : Int) : State :=
  (s.upTo d).traveled s.travel.parked [.arrived pos target .position] true

theorem exec_settleTimer_lands {d : Nat} {pos target : Int} {r : Range} (hs : s.pour.state = .positioning) (hst : s.travel.state = .settling)
    (hd : s.travel.settleTimer = some d) (hb : s.inputs.brakeReleased = false) (hp : s.travel.position = some pos)
    (ht : s.travel.target = some target) (hsrc : s.travel.source = some .position) (hr : s.travel.range = some r)
    (hnear : ¬fartherThan s.block.tolerance pos target) :
    exec .settleTimerExpiry s = .next ((s.landed d pos target).arrivalPositioning .position).finish := by
  have hsettled := State.settled_eq (s := (s.upTo d).onTravel (fun v => { v with settleTimer := none })) (src := .position) hp hr ht hsrc
  replace hsettled := hsettled.trans (if_pos hnear)
  rw [if_neg (by show ¬s.travel.state = .parked; rw [hst]; nofun)] at hsettled
  rw [exec_settleTimer hd hst, if_neg (by rw [hb]; nofun), hsettled]
  refine congrArg (fun v => Host.Outcome.next (State.finish v)) ?_
  unfold State.tellArrival
  dsimp only
  rw [if_neg (by nofun), if_pos (by exact hs)]
  rfl

/-! ## SHIFT VESSEL on the claim's slot (R87, R126) -/

theorem exec_shiftVessel_moves {slot bow : Nat} {x : Slot} (hm : s.port.mode ≠ .config) (hpost : s.port.mailbox = .posted (.shiftVessel slot bow))
    (hx : Slot.ofCode? slot = some x) (hpass : firstFailure (s.mapChecks (.shiftVessel slot bow)) = none) :
    exec .shiftVessel s = .next ((s.shiftVessel x bow).done []).finish := by
  refine (exec_row hpost).trans (congrArg (fun v => Host.Outcome.next (State.finish v)) ?_)
  refine (State.whenMode_allowed (PartMode.mem_runBypass hm) _).trans ?_
  rw [State.judged_passed hpass, slotOf_of hx]

/-- The session with the bow mark it is shifted to. -/
def State.rebowed (s : State) (x : Slot) (moved : Session) : State := s.onSession x (fun _ => moved)

theorem State.shiftVessel_claimed {c : OwnClaim} {ses : Session} {bow : Nat} (hc : s.fill.claim = some c)
    (hs : s.session c.slot = some ses) : s.shiftVessel c.slot bow = (s.rebowed c.slot { ses with bowMark := (bow : Int) }).shiftPour := by
  have hon : s.claimOnSlot c.slot = true := by
    unfold State.claimOnSlot
    rw [hc]
    exact beq_self_eq_true _
  unfold State.shiftVessel
  dsimp only
  rw [if_pos hon]
  refine congrArg State.shiftPour (State.onSession_congr fun k hk => ?_)
  rw [hs] at hk
  obtain rfl := Option.some.inj hk
  rfl

theorem State.rebowed_session {x : Slot} {ses : Session} (h : s.session x = some ses) (moved : Session) :
    (s.rebowed x moved).session x = some moved := by
  unfold State.rebowed
  rw [State.onSession_session, h]
  rfl

theorem State.rebowed_window {x : Slot} {ses moved : Session} {g : Nat} {hp : HoldPlan} (h : s.session x = some ses)
    (hholds : moved.holds = ses.holds) (hplan : s.plan x g = some hp) : (s.rebowed x moved).window x g = some (moved.pourWindow hp) := by
  have hses := State.rebowed_session h moved
  have hhold : (s.rebowed x moved).plan x g = s.plan x g := by
    unfold State.plan State.hold
    rw [hses, h]
    dsimp only
    unfold Session.hold
    rw [hholds]
  unfold State.window
  rw [hses, hhold, hplan]

theorem State.onlyIn_rebowed (s : State) (x : Slot) (moved : Session) : s.onlyIn (s.rebowed x moved) [.berths] := State.onlyIn_onBerths s _

theorem State.rebowed_other (s : State) (x : Slot) (moved : Session) : (s.rebowed x moved).berth x.other = s.berth x.other :=
  State.onSession_other x _

theorem State.shiftPour_positioning (h : s.pour.state = .positioning) :
    s.shiftPour = if s.travel.state ≠ .faulted then s.positioningCases else s := by
  unfold State.shiftPour State.lineOpen
  rw [h]
  simp only [PourState.lineOpen, Bool.false_eq_true, if_false, true_and]

end Sys2Proof.Machine

end

section
/-! The entries from POSITIONING to STARTING, and what POSITIONING does otherwise: O40. -/

namespace Sys2Proof.Machine

variable {s t u w : State}

/-- The end of an entry to STARTING with its reply or without. -/
theorem State.passBegun_ends {c : OwnClaim} (hs : s.pour.state ≠ .starting) (v : State) (hv : v = s.passBegun c ∨ v = (s.passBegun c).done []) :
    (s.passBegun c).onlyIn v.finish [.line, .port]
      ∧ v.finish.travel = { s.travel with
          edgeUp := v.finish.computeEdge .up v.finish.rangeWindow, edgeDown := v.finish.computeEdge .down v.finish.rangeWindow } := by
  have honly : (s.passBegun c).onlyIn v.finish [.line, .port] := by
    rcases hv with rfl | rfl
    · exact (State.onlyIn_finish _).mono (by decide)
    · exact (State.finish_done (s.passBegun c) []).1.mono (by decide)
  refine ⟨honly, State.passBegun_edges hs honly fun side => ?_⟩
  rw [State.finish_chainEnd]
  rcases hv with rfl | rfl <;> cases side <;> rfl

theorem State.recompute_range {pos : Int} (h : s.travel.position = some pos) : ∃ r, s.recompute.travel.range = some r := by
  obtain ⟨lo, hlo⟩ := Option.isSome_iff_exists.1 (State.computeEdge_isSome s .up s.rangeWindow (by rw [h]; rfl))
  obtain ⟨hi, hhi⟩ := Option.isSome_iff_exists.1 (State.computeEdge_isSome s .down s.rangeWindow (by rw [h]; rfl))
  exact ⟨_, congrArg₂ Range.of hlo hhi⟩

/-! ## Every clause of O40 -/

/-- The grant over the window starts the pass at once (R126, R130). -/
theorem grant_starts {d : Nat} {c : OwnClaim} {ses : Session} {b : Bill} (hs : s.pour.state = .claiming)
    (ht : s.fill.claimTimer = some d) (hc : s.fill.claim = some c) (hdec : (s.decisionTable c).holds)
    (hses : s.session c.slot = some ses) (hbill : s.bills.bill ses.bill = some b) (hfree : 0 < s.bills.free)
    (hpark : s.travel.state = .parked) (htrans : s.translate = .ok c.slot c.hold)
    (hopen : ∀ hd, s.hold c.slot c.hold = some hd → hd.permission = .opened) (hdust : s.dustOwn = false)
    (hpeers : ∀ q ∈ s.dust.peers, q.spout ≠ .trip) (hscale : s.scale.status ≠ .fault) (hgate : s.pour.gate = .closed)
    (hbelt : s.pour.beltOn = false) (hrunning : s.inputs.beltRunning = false) :
    ∃ t, exec .claimWindowExpiry s = .next t ∧ s.passStarted t { c with phase := .active } := by
  have hclear : s.clearToStart { c with phase := .active } := ⟨htrans, State.dustOwn_clear.1 hdust, hpeers, by rw [hpark]; nofun,
    hscale, hgate, hbelt, hrunning, hfree, ses, b, hses, hbill⟩
  have hberths := (State.granted_berths (s := s.upTo d) (c := c) hopen : _ = s.berths)
  obtain ⟨v, hv⟩ : ∃ v, v = ((s.upTo d).granted c) := ⟨_, rfl⟩
  have hclear' : v.clearToStart { c with phase := .active } := State.clearToStart_congr hclear (by rw [hv]; rfl) (by rw [hv]; rfl)
    (by rw [hv]; exact hberths) (by rw [hv]; rfl) (by rw [hv]; exact (by rw [hpark]; nofun : s.travel.state ≠ .faulted)) (by rw [hv]; rfl)
    (by rw [hv]; rfl) (by rw [hv]; rfl) (by rw [hv]; rfl) (by rw [hv]; rfl)
  have hinside : v.tipInside = true := State.tipInside_of_translate (c := { c with phase := .active }) (by rw [hv]; rfl) hclear'.1
  have hne : v.aimed.pour.state ≠ .starting := by rw [hv]; nofun
  have hstart : v.positioningCases = v.aimed.passBegun { c with phase := .active } := by
    rw [State.positioningCases_starts (by rw [hv]; exact hpark) hinside]
    exact State.enterStarting_begins (by rw [hv]; rfl) hne
      (State.clearToStart_congr hclear' rfl rfl rfl rfl hclear'.2.2.2.1 rfl rfl rfl rfl rfl)
  obtain ⟨honly, -⟩ := State.passBegun_ends hne _ (.inl rfl)
  refine ⟨_, (exec_claimWindow_granted hs ht hc hdec).trans (by rw [← hv, hstart]), ?_⟩
  have hsession : v.aimed.session c.slot = s.session c.slot := by
    unfold State.session
    rw [State.berth_congr (s := s) (by rw [hv]; exact hberths)]
  refine State.passStarted_of (u := v.aimed) (b := false) hclear hsession (by rw [hv]; rfl) ?_ (honly .count (by decide))
    (honly .pour (by decide)) (honly .bills (by decide))
  rw [hv]
  exact fun _ => rfl

/-- The order that the end of settling finds arrived (R127). -/
theorem settle_lands {s : State} {d : Nat} {k : OwnClaim} {pos target : Int} {r : Range} (hs : s.pour.state = .positioning)
    (hk : s.fill.claim = some k) (hst : s.travel.state = .settling) (hd : s.travel.settleTimer = some d)
    (hb : s.inputs.brakeReleased = false) (hp : s.travel.position = some pos) (ht : s.travel.target = some target)
    (hsrc : s.travel.source = some .position) (hr : s.travel.range = some r) (hnear : ¬fartherThan s.block.tolerance pos target)
    {now : Nat} {port : LocalPort} (hnow : now = max s.count d) (hport : port = s.port.raise now (.arrived pos target .position)) :
    (s.clearToStart k →
      ∃ t, exec .settleTimerExpiry s = .next t ∧ s.onlyIn t [.count, .travel, .port, .line, .pour, .bills] ∧ t.count = now
        ∧ t.travel.state = .parked ∧ t.travel.target = none ∧ t.travel.source = none ∧ t.travel.position = some pos
        ∧ t.travel.edgeUp = t.computeEdge .up t.rangeWindow ∧ t.travel.edgeDown = t.computeEdge .down t.rangeWindow
        ∧ s.passStarted t k ∧ t.port = port)
    ∧ (∀ w tip, s.window k.slot k.hold = some w → tip = pos + s.block.spoutOffset → (tip < w.1 ∨ w.2 < tip) →
      (s.pour.reAimed = true →
        ∃ t, exec .settleTimerExpiry s = .next t ∧ s.onlyIn t [.count, .travel, .port, .line] ∧ t.count = now
          ∧ t.travel.state = .parked ∧ t.travel.target = none ∧ t.travel.source = none ∧ t.port = port)
      ∧ (∀ a, s.pour.reAimed = false →
        a = (if 2 * (s.block.tolerance : Int) ≤ w.2 - w.1 then
            (if tip < w.1 then w.1 + s.block.tolerance else w.2 - s.block.tolerance) else (w.1 + w.2) / 2) - s.block.spoutOffset →
        fartherThan s.block.tolerance pos a →
        ∃ t, exec .settleTimerExpiry s = .next t ∧ s.onlyIn t [.count, .travel, .port, .line, .pour] ∧ t.count = now
          ∧ t.pour = { s.pour with reAimed := true } ∧ t.travel.target = some a ∧ t.travel.source = some .position
          ∧ (if fartherThan s.block.tolerance pos (stopPointOf r.lower r.upper pos a) then
              t.travel.state = .releasing ∧ t.port = port
            else t.travel.state = .held
              ∧ t.port = port.raise now (.travelHeld (if a < pos then r.lowerTerm else r.upperTerm) pos a)))) := by
  obtain ⟨v, hv⟩ : ∃ v, v = s.landed d pos target := ⟨_, rfl⟩
  have hexec := exec_settleTimer_lands hs hst hd hb hp ht hsrc hr hnear
  rw [← hv] at hexec
  have hvonly : s.onlyIn v [.count, .travel, .port, .line] := by
    intro b hb
    rw [hv]
    cases b <;> first | rfl | simp at hb
  have hvport : v.port = port := by rw [hv, hport, hnow]; rfl
  have hvcount : v.count = now := by rw [hv, hnow]; rfl
  have hvk : v.fill.claim = some k := by rw [hv]; exact hk
  have hne : v.pour.state ≠ .starting := by rw [hv]; show s.pour.state ≠ _; rw [hs]; nofun
  refine ⟨fun hclear => ?_, fun win tip hwin htip hout => ?_⟩
  · have hclear' : v.clearToStart k := by
      rw [hv]
      exact State.clearToStart_congr hclear rfl rfl rfl rfl nofun rfl rfl rfl rfl rfl
    have hstart : v.arrivalPositioning .position = v.passBegun k :=
      (if_pos (State.tipInside_of_translate hvk hclear'.1)).trans (State.enterStarting_begins hvk hne hclear')
    obtain ⟨-, htravel⟩ := State.passBegun_ends (c := k) hne _ (.inl rfl)
    have honly := State.onlyIn_finish (v.passBegun k)
    have hcount : _ = v.count := honly .count (by decide)
    have hend : _ = v.port := honly .port (by decide)
    obtain ⟨e, he⟩ : ∃ e, e = (v.passBegun k).finish := ⟨_, rfl⟩
    rw [← he] at htravel honly hcount hend
    have hparked : v.travel = s.travel.parked := by rw [hv]; rfl
    rw [hparked] at htravel
    refine ⟨e, by rw [hexec, hstart, he], ?_, hcount.trans hvcount, by rw [htravel]; rfl, by rw [htravel]; rfl, by rw [htravel]; rfl,
      by rw [htravel]; exact hp, (congrArg Travel.edgeUp htravel :), (congrArg Travel.edgeDown htravel :), ?_, hend.trans hvport⟩
    · exact (hvonly.mono (by decide)).trans (((State.onlyIn_passBegun v k).mono (by decide)).trans (honly.mono (by decide)))
    · refine State.passStarted_of (u := v) (b := s.pour.reAimed) hclear ?_ (by rw [hv]; rfl) (by rw [hv]; exact fun _ => rfl) hcount
        (honly .pour (by decide)) (honly .bills (by decide))
      rw [hv]
      rfl
  · have hwin' : v.window k.slot k.hold = some win := by rw [hv]; exact hwin
    have htip' : v.tip = some tip := by rw [hv, htip]; exact State.tip_of hp
    have hreaim : v.arrivalPositioning .position = v.reAim .position :=
      if_neg (by rw [State.tipOutside hvk hwin' htip' hout]; exact Bool.false_ne_true)
    refine ⟨fun hre => ?_, fun a hre ha hfar => ?_⟩
    · have hstay : v.reAim .position = v := if_pos (by rw [hv]; exact hre)
      have honly := State.onlyIn_finish v
      have htravel : _ = v.travel := honly .travel (by decide)
      have hcount : _ = v.count := honly .count (by decide)
      have hend : _ = v.port := honly .port (by decide)
      refine ⟨_, by rw [hexec, hreaim, hstay], hvonly.trans (honly.mono (by decide)), hcount.trans hvcount,
        ?_, ?_, ?_, hend.trans hvport⟩
      all_goals rw [htravel, hv]; rfl
    · obtain ⟨q, hq⟩ : ∃ q, q = v.onPour (fun p => { p with reAimed := true }) := ⟨_, rfl⟩
      have haim : v.aimPoint = some a := by
        unfold State.aimPoint
        rw [State.claimWindow_eq hvk hwin', htip', ha, hv]
        rfl
      have hplace : v.reAim .position = (q.placeOrder a .position).1 := by
        unfold State.reAim
        rw [if_neg (by rw [hv]; exact ne_true_of_eq_false hre)]
        dsimp only
        rw [← hq, haim]
      have hqpark : q.travel.state = .parked := by rw [hq, hv]; rfl
      obtain ⟨z, due, horder, -, htakes⟩ := q.placeOrder_takes (pos := pos) (r := r) a .position (by rw [hqpark]; nofun)
        (by rw [hqpark]; nofun) (by rw [hq, hv]; exact hp) (by rw [hq, hv]; exact hr) (.inl (by rw [hq, hv]; exact hfar))
      obtain ⟨e, he⟩ : ∃ e, e = (q.traveled z (heldNotice q.travel.state z.state r pos a) due).finish := ⟨_, rfl⟩
      have honly : (q.traveled z (heldNotice q.travel.state z.state r pos a) due).onlyIn e [.line] := he ▸ State.onlyIn_finish _
      have hz : e.travel = z := honly .travel (by decide)
      have hep : e.port = q.port.raiseAll q.count (heldNotice q.travel.state z.state r pos a) := honly .port (by decide)
      obtain ⟨htarget, hsource, -, hstate⟩ := htakes e hz
      rw [hqpark] at hstate hep
      have hqv : v.onlyIn q [.pour] := hq ▸ State.onlyIn_onPour v _
      have hcount : e.count = q.count := honly .count (by decide)
      have hqcount : q.count = v.count := hqv .count (by decide)
      have hpour : e.pour = q.pour := honly .pour (by decide)
      refine ⟨e, by rw [hexec, hreaim, hplace, horder, he], ?_, (hcount.trans hqcount).trans hvcount,
        ?_, htarget, hsource, ?_⟩
      · exact (hvonly.mono (by decide)).trans ((hqv.mono (by decide)).trans
          (((State.onlyIn_traveled q z _ due).mono (by decide)).trans (honly.mono (by decide))))
      · rw [hpour, hq, hv]
        rfl
      · have hport' : e.port = port.raiseAll now (heldNotice .parked z.state r pos a) := by
          rw [hep, show q.port = v.port from hqv .port (by decide), show q.count = v.count from hqv .count (by decide), hvport, hvcount]
        have hblock : q.block = s.block := by rw [hq, hv]; rfl
        rw [hblock] at hstate
        rw [hport', ← hz]
        dsimp only at hstate
        unfold heldNotice
        by_cases hedge : fartherThan s.block.tolerance pos (stopPointOf r.lower r.upper pos a)
        · rw [if_pos hedge] at hstate ⊢
          exact ⟨hstate, by rw [hstate]; rfl⟩
        · rw [if_neg hedge] at hstate ⊢
          exact ⟨hstate, by rw [hstate]; rfl⟩

end Sys2Proof.Machine

end

section
/-! FAULT CLEAR and SHIFT VESSEL in POSITIONING (sections 5.10 and 1.3.4): O40. -/

namespace Sys2Proof.Machine

variable {s t u w : State}

/-! ## The end of an order placed in POSITIONING, answered DONE -/

theorem State.aimed_done (s : State) (v : Travel) (bodies : List NoticeBody) (due : Bool) :
    s.onlyIn ((s.aimed.traveled v bodies due).done []).finish [.travel, .port, .line, .pour]
      ∧ ((s.aimed.traveled v bodies due).done []).finish.port = { s.port.raiseAll s.count bodies with mailbox := doneReply [] }
      ∧ ((s.aimed.traveled v bodies due).done []).finish.travel = v
      ∧ ((s.aimed.traveled v bodies due).done []).finish.pour = { s.pour with reAimed := false } := by
  obtain ⟨honly, hport, htravel⟩ := s.aimed.traveled_done v bodies due
  exact ⟨((State.onlyIn_onPour s _).mono (by decide)).trans (honly.mono (by decide)), hport, htravel, honly .pour (by decide)⟩

/-- The pass begun with its command answered DONE. -/
theorem State.passBegun_done {c : OwnClaim} (hs : s.pour.state ≠ .starting) (hclear : s.clearToStart c) :
    ∃ t, ((s.aimed.passBegun c).done []).finish = t ∧ s.onlyIn t [.travel, .port, .line, .pour, .bills] ∧ s.passStarted t c
      ∧ t.travel = { s.travel with edgeUp := t.computeEdge .up t.rangeWindow, edgeDown := t.computeEdge .down t.rangeWindow }
      ∧ t.port = { s.port with mailbox := doneReply [] } := by
  obtain ⟨-, htravel⟩ := State.passBegun_ends (s := s.aimed) (c := c) hs _ (.inr rfl)
  obtain ⟨honly, hport⟩ := State.finish_done (s.aimed.passBegun c) []
  refine ⟨_, rfl, ?_, ?_, htravel, hport⟩
  · exact ((State.onlyIn_onPour s _).mono (by decide)).trans (((State.onlyIn_passBegun s.aimed c).mono (by decide)).trans (honly.mono (by decide)))
  · exact State.passStarted_of (u := s.aimed) (b := false) hclear rfl rfl (fun _ => rfl) (honly .count (by decide))
      (honly .pour (by decide)) (honly .bills (by decide))

/-- Nothing stands against the pass, so that POSITIONING is left at once. -/
theorem State.positioningCases_begins {c : OwnClaim} (hc : s.fill.claim = some c) (hs : s.pour.state ≠ .starting)
    (hpark : s.travel.state = .parked) (hclear : s.clearToStart c) : s.positioningCases = s.aimed.passBegun c := by
  rw [State.positioningCases_starts hpark (State.tipInside_of_translate hc hclear.1)]
  exact State.enterStarting_begins hc hs (State.clearToStart_congr hclear rfl rfl rfl rfl hclear.2.2.2.1 rfl rfl rfl rfl rfl)

/-! ## FAULT CLEAR in POSITIONING -/

theorem faultClear_positions {s u : State} {k : OwnClaim} {pos : Int} (hm : s.port.mode ≠ .config) (hpost : s.port.mailbox = .posted .faultClear)
    (hf : s.travel.state = .faulted) (hb : s.inputs.brakeReleased = false) (hs : s.pour.state = .positioning) (hk : s.fill.claim = some k)
    (hsample : s.travel.encoderFault = true ∧ s.travel.recovery = some pos
      ∨ s.travel.encoderFault = false ∧ s.travel.sampleSince = true ∧ s.travel.position = some pos)
    (hu : u = { s with travel := { s.travel with
      state := .parked, position := some pos, cause := none, recovery := none, sampleSince := false } }) :
    (u.clearToStart k →
      ∃ t, exec .faultClear s = .next t ∧ s.onlyIn t [.travel, .port, .line, .pour, .bills] ∧ s.passStarted t k
        ∧ t.travel = { u.travel with
            edgeUp := t.computeEdge .up t.rangeWindow, edgeDown := t.computeEdge .down t.rangeWindow }
        ∧ t.port = { s.port with mailbox := doneReply [] })
    ∧ (∀ w tip p, s.window k.slot k.hold = some w → tip = pos + s.block.spoutOffset → (tip < w.1 ∨ w.2 < tip) →
      p = (if tip < w.1 then w.1 else w.2) - s.block.spoutOffset → fartherThan s.block.tolerance pos p →
      ∃ t r, exec .faultClear s = .next t ∧ s.onlyIn t [.travel, .port, .line, .pour] ∧ t.travel.range = some r
        ∧ t.pour = { s.pour with reAimed := false } ∧ u.takesOrder t pos p .position r ∧ t.travel.cause = none
        ∧ t.port = { s.port.raiseAll s.count (if t.travel.state = .held then
            [.travelHeld (if p < pos then r.lowerTerm else r.upperTerm) pos p] else []) with mailbox := doneReply [] }) := by
  have hsampled : s.travel.sampled = true := by
    rw [Travel.sampled_iff]
    rcases hsample with ⟨h1, h2⟩ | ⟨h1, h2, -⟩
    · exact .inl ⟨h1, by rw [h2]; nofun⟩
    · exact .inr ⟨h1, h2⟩
  have hposition : (if s.travel.encoderFault then s.travel.recovery else s.travel.position) = some pos := by
    rcases hsample with ⟨h1, h2⟩ | ⟨h1, -, h2⟩ <;> rw [h1, h2] <;> rfl
  have htravel := State.refreshed_travel hsampled
  rw [hposition] at htravel
  have hpark : s.refreshed.travel.state = .parked := rfl
  have hexec : exec .faultClear s = .next (s.refreshed.positioningCases.done []).finish := by
    rw [exec_faultClear hm hpost, State.judged_passed (State.clearChecks_pass hf hsampled hb)]
    refine congrArg (fun v : State => Host.Outcome.next (v.done []).finish) ?_
    exact if_pos hs
  refine ⟨fun hclear => ?_, fun win tip p hwin htip hout hpoint hfar => ?_⟩
  · have hclear' : s.refreshed.clearToStart k := by
      rw [hu] at hclear
      exact State.clearToStart_congr hclear rfl (by rw [htravel]) rfl rfl (by rw [hpark]; nofun) rfl rfl rfl rfl rfl
    have hne : s.refreshed.pour.state ≠ .starting := by show s.pour.state ≠ _; rw [hs]; nofun
    obtain ⟨t, ht, honly, hstarted, hedges, hport⟩ := State.passBegun_done hne hclear'
    refine ⟨t, by rw [hexec, State.positioningCases_begins (s := s.refreshed) hk hne hpark hclear', ht], ?_, ?_, ?_, hport⟩
    · exact ((State.onlyIn_refreshed s).mono (by decide)).trans honly
    · exact hstarted
    · rw [htravel] at hedges
      rw [hedges, hu]
  · obtain ⟨r, hr⟩ := State.recompute_range (s := (s.onTravel Travel.cleared).markStatus) (pos := pos) (by
      have := congrArg Travel.position htravel
      exact this)
    have hpos : s.refreshed.travel.position = some pos := by rw [htravel]
    obtain ⟨v, due, hcases, ⟨-, hrange, hcause⟩, htakes⟩ := State.positioningCases_orders (s := s.refreshed) (c := k) (win := win) (pos := pos)
      (p := p) (r := r) hk hwin hpos hr (by rw [hpoint, htip, ← clampTo_outside (i := win) (by rw [← htip]; exact hout)]; rfl)
      (by rw [hpark]; nofun) (by rw [hpark]; nofun) (.inl hfar)
    obtain ⟨honly, hport, hv, hpour⟩ := s.refreshed.aimed_done v (heldNotice s.refreshed.travel.state v.state r pos p) due
    refine ⟨_, r, by rw [hexec, hcases], ?_, ?_, hpour, ?_, ?_, ?_⟩
    · exact ((State.onlyIn_refreshed s).mono (by decide)).trans honly
    · rw [hv, hrange]
      exact hr
    · have h := htakes _ hv
      unfold State.takesOrder at h ⊢
      rw [htravel] at h
      rw [hu]
      exact h
    · rw [hv, hcause]
      rfl
    · rw [hport, hv]
      unfold heldNotice
      rw [hpark]
      simp only [true_and]
      rfl

/-! ## SHIFT VESSEL in POSITIONING -/

/-- A pass begun at a session that is moved has begun at the session as it was. -/
theorem State.passStarted_moved {c : OwnClaim} {ses moved : Session} (h : u.passStarted t c) (hpour : u.pour = s.pour) (hbills : u.bills = s.bills)
    (hu : u.session c.slot = some moved) (hs : s.session c.slot = some ses) (hbill : moved.bill = ses.bill) : s.passStarted t c := by
  obtain ⟨h1, h2, h3, h4⟩ := h
  rw [hpour] at h1
  rw [hbills] at h2 h3 h4
  refine ⟨h1, h2, h3, fun m b hm hb => ?_⟩
  rw [hs] at hm
  obtain rfl := Option.some.inj hm
  rw [← hbill] at hb ⊢
  exact h4 moved b hu hb

theorem shiftVessel_positions {s : State} {k : OwnClaim} {ses moved : Session} {slot bow : Nat} (hq : s.quiet) (hm : s.port.mode ≠ .config)
    (hpost : s.port.mailbox = .posted (.shiftVessel slot bow)) (hx : Slot.ofCode? slot = some k.slot) (hses : s.session k.slot = some ses)
    (htable : (s.mapTable (.shiftVessel slot bow)).holds) (hk : s.fill.claim = some k) (hs : s.pour.state = .positioning)
    (hmoved : moved = { ses with bowMark := (bow : Int) }) :
    (s.travel.state = .faulted →
      ∃ t, exec .shiftVessel s = .next t ∧ s.onlyIn t [.berths, .port] ∧ t.session k.slot = some moved
        ∧ t.berth k.slot.other = s.berth k.slot.other ∧ t.port = { s.port with mailbox := doneReply [] })
    ∧ (∀ u, s.travel.state = .parked → u = s.onSession k.slot (fun _ => moved) → u.clearToStart k →
      ∃ t, exec .shiftVessel s = .next t ∧ s.onlyIn t [.berths, .travel, .port, .line, .pour, .bills]
        ∧ t.session k.slot = some moved ∧ t.travel.state = .parked ∧ s.passStarted t k
        ∧ t.port = { s.port with mailbox := doneReply [] })
    ∧ (∀ hp w pos tip p r, s.plan k.slot k.hold = some hp → w = moved.pourWindow hp → s.travel.position = some pos →
      tip = pos + s.block.spoutOffset → p = (if tip < w.1 then w.1 else if w.2 < tip then w.2 else tip) - s.block.spoutOffset →
      s.travel.range = some r → s.travel.state ≠ .faulted → (s.travel.state = .moving → s.travel.direction.isSome) →
      (fartherThan s.block.tolerance pos p ∨ s.travel.state = .releasing ∨ s.travel.state = .settling) →
      ∃ t, exec .shiftVessel s = .next t ∧ s.onlyIn t [.berths, .travel, .port, .line, .pour]
        ∧ t.session k.slot = some moved ∧ t.berth k.slot.other = s.berth k.slot.other
        ∧ t.pour = { s.pour with reAimed := false } ∧ s.takesOrder t pos p .position r
        ∧ t.port = { s.port.raiseAll s.count (if s.travel.state = .parked ∧ t.travel.state = .held then
            [.travelHeld (if p < pos then r.lowerTerm else r.upperTerm) pos p] else []) with mailbox := doneReply [] }) := by
  obtain ⟨v, hv⟩ : ∃ v, v = s.rebowed k.slot moved := ⟨_, rfl⟩
  have hvonly : s.onlyIn v [.berths] := hv ▸ State.onlyIn_rebowed s _ _
  have hvses : v.session k.slot = some moved := hv ▸ State.rebowed_session hses moved
  have hvother : v.berth k.slot.other = s.berth k.slot.other := hv ▸ State.rebowed_other s _ _
  have hvpour : v.pour = s.pour := hvonly .pour (by decide)
  have hvtravel : v.travel = s.travel := hvonly .travel (by decide)
  have hvline : v.line = s.line := hvonly .line (by decide)
  have hvport : v.port = s.port := hvonly .port (by decide)
  have hvcount : v.count = s.count := hvonly .count (by decide)
  have hvk : v.fill.claim = some k := (congrArg Fill.claim (hvonly .fill (by decide)) : _ = s.fill.claim).trans hk
  have hvcfg : v.cfg = s.cfg := hvonly .cfg (by decide)
  have hpass : firstFailure (s.mapChecks (.shiftVessel slot bow)) = none := (s.mapTable_matches _).holds_iff.1 htable
  have hexec : exec .shiftVessel s = .next ((if v.travel.state ≠ .faulted then v.positioningCases else v).done []).finish := by
    rw [exec_shiftVessel_moves hm hpost hx hpass, State.shiftVessel_claimed hk hses, ← hmoved, ← hv,
      State.shiftPour_positioning (by rw [hvpour, hs])]
  have hkept : ∀ {t : State}, t.berths = v.berths → t.session k.slot = some moved ∧ t.berth k.slot.other = s.berth k.slot.other := by
    intro t ht
    exact ⟨(congrArg Berth.session (State.berth_congr ht k.slot)).trans hvses, (State.berth_congr ht _).trans hvother⟩
  refine ⟨fun hf => ?_, fun u hpark hu hclear => ?_, fun hp win pos tip p r hplan hwin hpos htip hpoint hr hf hmove hfar => ?_⟩
  · rw [hexec, if_neg (by rw [hvtravel]; exact not_not.2 hf), State.finish_done_quiet (s := v) (by unfold State.quiet; rw [hvline]; exact hq)]
    obtain ⟨h1, h2⟩ := hkept (t := v.withMailbox (doneReply [])) rfl
    refine ⟨_, rfl, (hvonly.mono (by decide)).trans ((State.onlyIn_onPort v (fun q => { q with mailbox := doneReply [] })).mono (by decide)), h1, h2, ?_⟩
    rw [← hvport]
    rfl
  · obtain rfl : u = v := hu.trans hv.symm
    have hne : u.pour.state ≠ .starting := by rw [hvpour, hs]; nofun
    have hupark : u.travel.state = .parked := by rw [hvtravel, hpark]
    obtain ⟨t, ht, honly, hstarted, htravel, hport⟩ := State.passBegun_done hne hclear
    obtain ⟨h1, -⟩ := hkept (t := t) (honly .berths (by decide))
    refine ⟨t, ?_, (hvonly.mono (by decide)).trans (honly.mono (by decide)), h1, by rw [htravel]; exact hupark, ?_, hport.trans (by rw [hvport])⟩
    · rw [hexec, if_pos (by rw [hupark]; nofun), State.positioningCases_begins hvk hne hupark hclear, ht]
    · exact State.passStarted_moved hstarted hvpour (hvonly .bills (by decide)) hvses hses (by rw [hmoved])
  · have hvwin : v.window k.slot k.hold = some win := by
      rw [hv, hwin]
      exact State.rebowed_window hses (by rw [hmoved]) hplan
    have hvblock : v.block = s.block := by unfold State.block; rw [hvcfg]
    obtain ⟨z, due, hcases, -, htakes⟩ := State.positioningCases_orders (s := v) (c := k) (win := win) (pos := pos) (p := p) (r := r) hvk hvwin
      (by rw [hvtravel, hpos]) (by rw [hvtravel, hr]) (by rw [hpoint, htip, hvblock]; rfl) (by rw [hvtravel]; exact hf)
      (by rw [hvtravel]; exact hmove) (by rw [hvtravel, hvblock]; exact hfar)
    obtain ⟨honly, hport, hz, hpour⟩ := v.aimed_done z (heldNotice v.travel.state z.state r pos p) due
    obtain ⟨h1, h2⟩ := hkept (honly .berths (by decide))
    refine ⟨_, by rw [hexec, if_pos (by rw [hvtravel]; exact hf), hcases], (hvonly.mono (by decide)).trans (honly.mono (by decide)), h1, h2,
      by rw [hpour, hvpour], (State.takesOrder_congr hvtravel hvcfg rfl).1 (htakes _ hz), ?_⟩
    rw [hport, hz, hvport, hvcount, hvtravel]
    rfl

end Sys2Proof.Machine

open Sys2Proof Sys2Proof.Machine

/-- Settles O40. The entry to STARTING is the same from each of its places: the line taken, the causes formed afresh and found empty,
the belt commanded ON; where the tip is outside the window, the order is placed to the pour point or the aim point. -/
theorem startingOpensTheLineAndTheBelt : Obligations.StartingOpensTheLineAndTheBelt := by
  unfold Obligations.StartingOpensTheLineAndTheBelt
  refine ⟨fun s d c ses b _ hs ht hc hdec hses hbill hfree _ hpark _ htrans hopen hdust hpeers hscale hgate hbelt hrunning hcauses => ?_,
    fun s d k pos target r _ hs hk hst hd hb hp ht hsrc hr hnear now port hnow hport =>
      settle_lands hs hk hst hd hb hp ht hsrc hr hnear hnow hport,
    fun s u k pos _ hm hpost hf hb hs hk hsample hu => faultClear_positions hm hpost hf hb hs hk hsample hu,
    fun s k ses moved slot bow hq hm hpost hx hses htable hk hs hmoved => ?_⟩
  · obtain ⟨t, hexec, hpour, hless, hspill, hline⟩ := grant_starts hs ht hc hdec hses hbill hfree hpark htrans hopen hdust hpeers hscale hgate
      hbelt hrunning
    refine ⟨t, hexec, ?_, ?_, ?_, ?_, ?_, ?_, ?_, ?_, ?_, ?_, ?_, hless, hspill, hline ses b hses hbill⟩
    all_goals rw [hpour]
    exact hgate
  · exact shiftVessel_positions hq hm hpost hx hses htable hk hs hmoved

end

section
/-! Suspend cause MAP and the RETURN order (section 7.6). -/

namespace Sys2Proof.Machine

variable {s t u w : State}

/-! ## A hatch closed under the tip (R16) -/

/-- The descriptor with its hatch closed. -/
def Hold.hatchShut (d : Hold) : Hold := { d with hatchOpen := false }

theorem Hold.found_hatchShut {d : Hold} {p : HoldPlan} {q : Int} {x y : Slot} {n h : Nat} (k : d.found x n p q = .ok y h) :
    d.hatchShut.found x n p q = .fault .hatchClosed := by
  have hcheck : d.check p q = none := by
    unfold Hold.found at k
    split at k
    · cases k
    · assumption
  obtain ⟨⟨htargets, -⟩, -⟩ := (Hold.check_eq_none d p q).1 hcheck
  have hnonempty : p.targets.isEmpty = false := by simpa using htargets
  have hshut : d.hatchShut.check p q = some .hatchClosed := by
    unfold Hold.check Hold.hatchShut
    rw [hnonempty]
    rfl
  unfold Hold.found
  rw [hshut]

theorem searchHold_hatchShut {holds : List Hold} {q : Int} {x y : Slot} {n i : Nat} (k : searchHold x q n holds = .ok y (n + i)) :
    searchHold x q n (holds.modify i Hold.hatchShut) = .fault .hatchClosed := by
  induction holds generalizing n i with
  | nil => cases k
  | cons a rest ih =>
    by_cases hs : a.spans q
    · obtain ⟨p, hp, hin⟩ := hs
      rw [searchHold_here hp hin] at k
      have hi : i = 0 := by
        unfold Hold.found at k
        split at k
        · cases k
        · injection k with _ h
          omega
      subst hi
      rw [List.modify_zero_cons, searchHold_here (d := a.hatchShut) hp hin]
      exact Hold.found_hatchShut k
    · rw [searchHold_cons hs] at k
      obtain ⟨-, j, -, -, hj, -⟩ := searchHold_ok k
      obtain rfl : i = j + 1 := by omega
      rw [List.modify_succ_cons, searchHold_cons hs]
      exact ih (k.trans (congrArg (Translation.ok y) (by omega)))

theorem State.found_hatchShut (y : Slot) (tip : Int) (x : Slot) {i : Nat} (hi : i ≠ 0) : (s.onHold x i Hold.hatchShut).found y tip
    = (s.found y tip).map (fun ses => if y = x then { ses with holds := ses.holds.modify (i - 1) Hold.hatchShut } else ses) := by
  have hses : (s.onHold x i Hold.hatchShut).session y
      = (s.session y).map (fun ses => if y = x then { ses with holds := ses.holds.modify (i - 1) Hold.hatchShut } else ses) := by
    unfold State.onHold
    rw [if_neg hi]
    by_cases hyx : y = x
    · subst hyx
      rw [State.onSession_session]
      simp only [if_true]
    · rw [State.onSession_session_of_ne _ hyx]
      simp only [if_neg hyx, Option.map_id']
  unfold State.found
  rw [hses]
  cases s.session y with
  | none => rfl
  | some ses =>
    have hspan : (if y = x then { ses with holds := ses.holds.modify (i - 1) Hold.hatchShut } else ses : Session).span = ses.span := by
      split <;> rfl
    simp only [Option.map_some, hspan]
    split <;> rfl

/-- The hatch of the hold under the tip closed, the translation is HATCH_CLOSED. -/
theorem State.translate_hatchShut {x : Slot} {i : Nat} (h : s.translate = .ok x i) :
    (s.onHold x i Hold.hatchShut).translate = .fault .hatchClosed := by
  obtain ⟨tip, _, _, _, htip, _, _, hhold, -⟩ := translationFindsThePourableHoldUnderTheTip.1 s x i h
  have hi := State.hold_ne_zero hhold
  have htip' : (s.onHold x i Hold.hatchShut).tip = some tip := by
    rw [← htip]
    unfold State.tip State.block
    rw [State.onHold_travel, State.onHold_cfg]
  have one : ∀ (y : Slot) (ses : Session), searchHold y (ses.fromBow tip) 1 ses.holds = .ok x i →
      y = x ∧ searchHold y (ses.fromBow tip) 1 (ses.holds.modify (i - 1) Hold.hatchShut) = .fault .hatchClosed := by
    intro y ses k
    refine ⟨(searchHold_ok k).1.symm, searchHold_hatchShut (y := x) (k.trans (congrArg (Translation.ok x) (by omega)))⟩
  unfold State.translate at h ⊢
  rw [htip] at h
  rw [htip']
  dsimp only at h ⊢
  rw [State.found_hatchShut .a tip x hi, State.found_hatchShut .b tip x hi]
  cases ha : s.found .a tip with
  | some ses =>
    rw [ha] at h
    obtain ⟨rfl, hsearch⟩ := one .a ses h
    exact hsearch
  | none =>
    rw [ha] at h
    cases hb : s.found .b tip with
    | some ses =>
      rw [hb] at h
      obtain ⟨rfl, hsearch⟩ := one .b ses h
      exact hsearch
    | none => rw [hb] at h; cases h

/-! ## MAP judged by the translation (R137) -/

/-- The cause set of MAP alone. -/
def CauseSet.mapOnly : CauseSet := { CauseSet.empty with map := true }

/-- The pour suspended by MAP, before a RETURN order is placed. -/
def State.mapSuspended (s : State) (k : OwnClaim) : State :=
  s.poured (s.stoppedBy .map) [.pourSuspended k.slot k.hold CauseSet.mapOnly] s.bills.countSuspension true

theorem State.mapTest_suspends {k : OwnClaim} (hs : s.pour.state = .pouring ∨ s.pour.state = .throttled) (hg : s.pour.gate = .opened)
    (hc : s.pour.causes = CauseSet.empty) (hk : s.fill.claim = some k) (ht : s.translate ≠ .ok k.slot k.hold) :
    s.mapTest = (s.mapSuspended k).placeReturn := by
  have hflow : s.pour.state.flowing = true := by rcases hs with h | h <;> rw [h] <;> rfl
  have hopen := PourState.lineOpen_of_flowing hflow
  have hoff : s.onClaimHold = false := Bool.eq_false_iff.2 (mt (State.onClaimHold_iff hk).1 ht)
  have hclear : s.pour.causes.has .map = false := by rw [hc]; rfl
  have htest : s.mapTest = s.addCause .map := by
    unfold State.mapTest State.syncCause
    rw [hoff]
    exact if_pos hopen
  rw [htest, State.addCause_of_clear hclear hopen, if_pos rfl, State.causes_suspend hflow hclear hk, Pour.suspended_stoppedBy hc hg rfl, hc]
  rfl

theorem State.mapTest_resumes {k : OwnClaim} (hs : s.pour.state = .suspended) (hc : s.pour.causes = CauseSet.mapOnly)
    (hk : s.fill.claim = some k) (ht : s.translate = .ok k.slot k.hold) (hb : s.pour.beltOn = false) (hr : s.inputs.beltRunning = false) :
    s.mapTest = s.poured s.resumed [.pourSuspended k.slot k.hold CauseSet.empty] s.bills true := by
  have htest : s.mapTest = s.removeCause .map := by
    unfold State.mapTest State.syncCause
    rw [(State.onClaimHold_iff hk).2 ht]
    exact if_pos (State.lineOpen_of hs rfl)
  rw [htest, State.removeCause_resumes (c := .map) hs hc hk ht hb hr]
  rfl

theorem State.mapTest_holds {k : OwnClaim} (hs : s.pour.state = .suspended) (hc : s.pour.causes.map = true)
    (hk : s.fill.claim = some k) (ht : s.translate ≠ .ok k.slot k.hold) : s.mapTest = s := by
  have htest : s.mapTest = s.addCause .map := by
    unfold State.mapTest State.syncCause
    rw [Bool.eq_false_iff.2 (mt (State.onClaimHold_iff hk).1 ht)]
    exact if_pos (State.lineOpen_of hs rfl)
  rw [htest]
  exact State.addCause_of_held hc

/-! ## The RETURN order (R137) -/

theorem State.placeReturn_inside (h : s.tipInside = true) : s.placeReturn = s := by
  unfold State.placeReturn
  rw [h]
  exact if_neg (by simp)

/-- Cause MAP held, the tip outside the pour window: the order to the pour point. -/
theorem State.placeReturn_orders {c : OwnClaim} {win : Int × Int} {pos tip p : Int} {r : Range} (hc : s.fill.claim = some c)
    (hwin : s.window c.slot c.hold = some win) (hp : s.travel.position = some pos) (hr : s.travel.range = some r)
    (hmap : s.pour.causes.map = true) (hpark : s.travel.state = .parked) (htip : tip = pos + s.block.spoutOffset)
    (hout : tip < win.1 ∨ win.2 < tip) (hpoint : p = (if tip < win.1 then win.1 else win.2) - s.block.spoutOffset)
    (hfar : fartherThan s.block.tolerance pos p) :
    ∃ v due, s.placeReturn = s.aimed.traveled v (heldNotice .parked v.state r pos p) due ∧ s.travel.Steered v
      ∧ v.target = some p ∧ v.source = some .returning
      ∧ v.state = (if fartherThan s.block.tolerance pos (stopPointOf r.lower r.upper pos p) then .releasing else .held) := by
  have htip' : s.tip = some tip := by rw [htip]; exact State.tip_of hp
  have hpoint' : s.pourPoint = some p := by rw [State.pourPoint_eq hc hwin htip', clampTo_outside hout, hpoint]
  obtain ⟨v, due, hplace, hsteer, htakes⟩ := s.aimed.placeOrder_takes p .returning (pos := pos) (r := r) (by show s.travel.state ≠ _; rw [hpark]; nofun)
    (by show s.travel.state = _ → _; rw [hpark]; nofun) hp hr (.inl hfar)
  rw [show s.aimed.travel.state = .parked from hpark] at hplace
  obtain ⟨htarget, hsource, -, hstate⟩ := htakes (s.traveled v [] due) rfl
  rw [show s.aimed.travel.state = .parked from hpark] at hstate
  refine ⟨v, due, ?_, hsteer, htarget, hsource, hstate⟩
  unfold State.placeReturn
  rw [if_pos (by rw [hmap, State.tipOutside hc hwin htip' hout, hpark]; rfl), hpoint']
  dsimp only
  rw [show s.onPour (fun q => { q with reAimed := false }) = s.aimed from rfl, hplace]

end Sys2Proof.Machine

end

section
/-! Cause MAP at SET HATCH and at a position sample (sections 7.6, 1.3 and 5.2): O45. -/

namespace Sys2Proof.Machine

variable {s t u w : State}

theorem State.tipInside_congr {c : OwnClaim} (hs : s.fill.claim = some c) (ht : t.fill.claim = some c)
    (hwin : t.window c.slot c.hold = s.window c.slot c.hold) (htip : t.tip = s.tip) : t.tipInside = s.tipInside := by
  have hwindow : t.claimWindow = s.claimWindow := by
    unfold State.claimWindow
    rw [hs, ht]
    exact hwin
  unfold State.tipInside
  rw [hwindow, htip]

/-! ## SET HATCH on the claim's hold -/

theorem exec_setHatch {slot hold state : Nat} {x : Slot} {ses : Session} {d : Hold} (hm : s.port.mode ≠ .config)
    (hpost : s.port.mailbox = .posted (.setHatch slot hold state)) (hx : Slot.ofCode? slot = some x) (hs : s.session x = some ses)
    (hcount : hold ≤ ses.holdCount) (hd : s.hold x hold = some d) (hstate : state ≤ 1) :
    exec .setHatch s = .next ((s.onHold x hold (fun d => { d with hatchOpen := state == 1 })).mapTest.done []).finish := by
  have hpos : 1 ≤ hold := Nat.one_le_iff_ne_zero.2 (State.hold_ne_zero hd)
  have hpass : firstFailure (s.mapChecks (.setHatch slot hold state)) = none := by
    simp [State.mapChecks, State.holdChecks, State.slotChecks, firstFailure, fieldOk, orElse, fieldIn, hx, slotOf_of hx, hs, hpos, hcount,
      hstate, State.holdCount]
  refine (exec_row hpost).trans (congrArg (fun v => Host.Outcome.next (State.finish v)) ?_)
  refine (State.whenMode_allowed (PartMode.mem_runBypass hm) _).trans ?_
  rw [State.judged_passed hpass, slotOf_of hx]

/-- The hatch closed under a flowing pour. -/
theorem setHatch_suspends {s : State} {slot : Nat} {k : OwnClaim} {ses : Session} {d : Hold} (hm : s.port.mode ≠ .config)
    (hx : Slot.ofCode? slot = some k.slot) (hses : s.session k.slot = some ses) (hcount : k.hold ≤ ses.holdCount)
    (hd : s.hold k.slot k.hold = some d) (hk : s.fill.claim = some k) (hpost : s.port.mailbox = .posted (.setHatch slot k.hold 0))
    (hs : s.pour.state = .pouring ∨ s.pour.state = .throttled) (hg : s.pour.gate = .opened) (hc : s.pour.causes = CauseSet.empty)
    (htrans : s.translate = .ok k.slot k.hold) :
    ∃ t, exec .setHatch s = .next t ∧ s.onlyIn t [.port, .berths, .pour, .bills, .line] ∧ t.pour = s.stoppedBy .map
      ∧ t.hold k.slot k.hold = some { d with hatchOpen := false } ∧ t.translate = .fault .hatchClosed
      ∧ t.bills = s.bills.countSuspension
      ∧ t.port = { s.port.raise s.count (.pourSuspended k.slot k.hold { CauseSet.empty with map := true }) with
          mailbox := doneReply [] } := by
  obtain ⟨v, hv⟩ : ∃ v, v = s.onHold k.slot k.hold Hold.hatchShut := ⟨_, rfl⟩
  have hvform : v = { s with berths := v.berths } := by rw [hv]; exact State.onHold_form ..
  have hvonly : s.onlyIn v [.berths] := hv ▸ State.onlyIn_onHold s _ _ _
  have hvhold : v.hold k.slot k.hold = some { d with hatchOpen := false } := by
    rw [hv, State.onHold_hold (State.hold_ne_zero hd), if_pos rfl, hd]
    rfl
  have hshut : v.translate = .fault .hatchClosed := hv ▸ State.translate_hatchShut htrans
  have hinside : v.tipInside = true := by
    rw [← State.tipInside_of_translate hk htrans]
    refine State.tipInside_congr hk (by rw [hvform]; exact hk) ?_ (by rw [hvform]; rfl)
    rw [hv]
    exact State.window_onHold (f := Hold.hatchShut) (fun _ => rfl) ..
  have htest : v.mapTest = v.mapSuspended k := by
    rw [State.mapTest_suspends (s := v) (k := k) (by rw [hvform]; exact hs) (by rw [hvform]; exact hg) (by rw [hvform]; exact hc)
      (by rw [hvform]; exact hk) (by rw [hshut]; nofun)]
    exact State.placeReturn_inside hinside
  have hexec : exec .setHatch s = .next (v.mapTest.done []).finish := by
    rw [exec_setHatch hm hpost hx hses hcount hd (by omega), hv]
    rfl
  obtain ⟨honly, hport⟩ := State.finish_done (v.mapSuspended k) []
  have hpour : _ = v.stoppedBy .map := honly .pour (by decide)
  have hbills : _ = v.bills.countSuspension := honly .bills (by decide)
  have hberths : _ = v.berths := honly .berths (by decide)
  refine ⟨_, by rw [hexec, htest], ?_, ?_, ?_, ?_, ?_, ?_⟩
  · exact (hvonly.mono (by decide)).trans (((State.onlyIn_poured v _ _ _ _).mono (by decide)).trans (honly.mono (by decide)))
  · rw [hpour, hvform]
    rfl
  · rw [State.hold_same hberths, hvhold]
  · rw [← hshut]
    exact State.translate_congr (honly .cfg (by decide)) (congrArg Travel.position (honly .travel (by decide))) hberths
  · rw [hbills, hvform]
  · rw [hport, hvform]
    rfl

/-- The hatch opened again under a pour SUSPENDED by MAP alone. -/
theorem setHatch_resumes {s : State} {slot : Nat} {k : OwnClaim} {ses : Session} {d : Hold} (hm : s.port.mode ≠ .config)
    (hx : Slot.ofCode? slot = some k.slot) (hses : s.session k.slot = some ses) (hcount : k.hold ≤ ses.holdCount)
    (hd : s.hold k.slot k.hold = some d) (hk : s.fill.claim = some k) (hpost : s.port.mailbox = .posted (.setHatch slot k.hold 1))
    (hs : s.pour.state = .suspended) (hc : s.pour.causes = CauseSet.mapOnly) (hb : s.pour.beltOn = false)
    (hr : s.inputs.beltRunning = false) :
    ∃ t, exec .setHatch s = .next t ∧ t.hold k.slot k.hold = some { d with hatchOpen := true }
      ∧ (t.translate = .ok k.slot k.hold → s.onlyIn t [.port, .berths, .pour, .line] ∧ t.pour = s.resumed
        ∧ t.port = { s.port.raise s.count (.pourSuspended k.slot k.hold CauseSet.empty) with mailbox := doneReply [] })
      ∧ (t.translate ≠ .ok k.slot k.hold → t.pour = s.pour ∧ t.port = { s.port with mailbox := doneReply [] }) := by
  obtain ⟨v, hv⟩ : ∃ v, v = s.onHold k.slot k.hold (fun d => { d with hatchOpen := true }) := ⟨_, rfl⟩
  have hvform : v = { s with berths := v.berths } := by rw [hv]; exact State.onHold_form ..
  have hvonly : s.onlyIn v [.berths] := hv ▸ State.onlyIn_onHold s _ _ _
  have hvhold : v.hold k.slot k.hold = some { d with hatchOpen := true } := by
    rw [hv, State.onHold_hold (State.hold_ne_zero hd), if_pos rfl, hd]
    rfl
  have hvs : v.pour.state = .suspended := by rw [hvform]; exact hs
  have hvc : v.pour.causes = CauseSet.mapOnly := by rw [hvform]; exact hc
  have hvk : v.fill.claim = some k := by rw [hvform]; exact hk
  have hexec : exec .setHatch s = .next (v.mapTest.done []).finish := by
    rw [exec_setHatch hm hpost hx hses hcount hd (by omega), hv]
    rfl
  have kept : ∀ z : State, z.cfg = v.cfg → z.travel = v.travel → z.berths = v.berths →
      (z.done []).finish.hold k.slot k.hold = some { d with hatchOpen := true } ∧ (z.done []).finish.translate = v.translate := by
    intro z h1 h2 h3
    obtain ⟨honly, -⟩ := State.finish_done z []
    have hberths : _ = z.berths := honly .berths (by decide)
    have hcfg : _ = z.cfg := honly .cfg (by decide)
    have htravel : _ = z.travel := honly .travel (by decide)
    exact ⟨(State.hold_same (hberths.trans h3)).trans hvhold,
      State.translate_congr (hcfg.trans h1) (congrArg Travel.position (htravel.trans h2)) (hberths.trans h3)⟩
  by_cases ht : v.translate = .ok k.slot k.hold
  · have htest := State.mapTest_resumes (s := v) hvs hvc hvk ht (by rw [hvform]; exact hb) (by rw [hvform]; exact hr)
    obtain ⟨v', hv'⟩ : ∃ v', v' = v.poured v.resumed [.pourSuspended k.slot k.hold CauseSet.empty] v.bills true := ⟨_, rfl⟩
    obtain ⟨honly, hport⟩ := State.finish_done v' []
    obtain ⟨hhold, htrans⟩ := kept v' (by rw [hv']; rfl) (by rw [hv']; rfl) (by rw [hv']; rfl)
    have hpour : _ = v'.pour := honly .pour (by decide)
    refine ⟨_, by rw [hexec, htest, ← hv'], hhold, fun _ => ⟨?_, ?_, ?_⟩, fun hn => absurd (htrans.trans ht) hn⟩
    · refine (hvonly.mono (by decide)).trans (((?_ : v.onlyIn v' [.port, .pour, .line]).mono (by decide)).trans (honly.mono (by decide)))
      rw [hv']
      exact (State.onlyIn_poured_pour v _ _ _).mono (by decide)
    · rw [hpour, hv', hvform]
      rfl
    · rw [hport, hv', hvform]
      rfl
  · have htest := State.mapTest_holds (s := v) hvs (by rw [hvc]; rfl) hvk ht
    obtain ⟨honly, hport⟩ := State.finish_done v []
    obtain ⟨hhold, htrans⟩ := kept v rfl rfl rfl
    have hpour : _ = v.pour := honly .pour (by decide)
    refine ⟨_, by rw [hexec, htest], hhold, fun h => absurd (htrans.symm.trans h) ht, fun _ => ⟨?_, ?_⟩⟩
    · rw [hpour, hvform]
    · rw [hport, hvform]

end Sys2Proof.Machine

end

section
/-! Cause MAP at a position sample, at SHIFT VESSEL and at FAULT CLEAR (sections 7.6, 5.2, 1.3.4 and 5.10): O45. -/

namespace Sys2Proof.Machine

variable {s t u w : State}

/-! ## Travel at a sample with no order to end -/

theorem State.movingAct_keeps (s : State) : ∃ v due, s.movingAct = s.traveled v [] due ∧ v.position = s.travel.position
    ∧ v.target = s.travel.target ∧ v.source = s.travel.source := by
  unfold State.movingAct
  split
  · split
    · exact ⟨_, _, State.enterSettling_eq _, rfl, rfl, rfl⟩
    · split
      · exact ⟨_, _, State.enterSettling_eq _, rfl, rfl, rfl⟩
      · exact ⟨_, s.line.statusDue, rfl, rfl, rfl, rfl⟩
  · exact ⟨s.travel, s.line.statusDue, rfl, rfl, rfl, rfl⟩

/-- Travel that is not HELD keeps its order at a sample. -/
theorem State.travelAct_keeps (h : s.travel.state ≠ .held) : ∃ v due, s.travelAct = (s.traveled v [] due, none)
    ∧ v.position = s.travel.position ∧ v.target = s.travel.target ∧ v.source = s.travel.source := by
  by_cases hm : s.travel.state = .moving
  · obtain ⟨v, due, hact, hp, ht, hs⟩ := s.movingAct_keeps
    refine ⟨v, due, ?_, hp, ht, hs⟩
    unfold State.travelAct
    rw [hm]
    exact congrArg (fun z => (z, none)) hact
  · exact ⟨s.travel, s.line.statusDue, State.travelAct_rests hm h, rfl, rfl, rfl⟩

/-- The tip outside the window, the translation is not that of the claim's hold. -/
theorem State.translate_outside {c : OwnClaim} {win : Int × Int} {tip : Int} (hc : s.fill.claim = some c)
    (hwin : s.window c.slot c.hold = some win) (htip : s.tip = some tip) (hout : tip < win.1 ∨ win.2 < tip) :
    s.translate ≠ .ok c.slot c.hold := by
  intro h
  have hin := State.tipInside_of_translate hc h
  rw [State.tipOutside hc hwin htip hout] at hin
  cases hin

/-! ## A flowing pour whose tip has left the window, travel PARKED -/

/-- MAP suspends the pour, and the loader is sent back to the pour point (R137). -/
theorem State.mapTest_sendsBack {k : OwnClaim} {win : Int × Int} {pos tip p : Int} {r : Range}
    (hs : s.pour.state = .pouring ∨ s.pour.state = .throttled) (hg : s.pour.gate = .opened) (hc : s.pour.causes = CauseSet.empty)
    (hk : s.fill.claim = some k) (hwin : s.window k.slot k.hold = some win) (hp : s.travel.position = some pos) (hr : s.travel.range = some r)
    (hpark : s.travel.state = .parked) (htip : tip = pos + s.block.spoutOffset) (hout : tip < win.1 ∨ win.2 < tip)
    (hpoint : p = (if tip < win.1 then win.1 else win.2) - s.block.spoutOffset) (hfar : fartherThan s.block.tolerance pos p) :
    ∃ v due, s.mapTest = (s.mapSuspended k).aimed.traveled v (heldNotice .parked v.state r pos p) due ∧ s.travel.Steered v
      ∧ v.target = some p ∧ v.source = some .returning
      ∧ v.state = (if fartherThan s.block.tolerance pos (stopPointOf r.lower r.upper pos p) then .releasing else .held) := by
  have htip' : s.tip = some tip := by rw [htip]; exact State.tip_of hp
  rw [State.mapTest_suspends hs hg hc hk (State.translate_outside hk hwin htip' hout)]
  exact State.placeReturn_orders (s := s.mapSuspended k) hk hwin hp hr rfl hpark htip hout hpoint hfar

/-- The block fields a suspension with its RETURN order leaves. -/
theorem State.sentBack_facts (s : State) (k : OwnClaim) (v : Travel) (bodies : List NoticeBody) (due : Bool) :
    s.onlyIn ((s.mapSuspended k).aimed.traveled v bodies due) [.travel, .port, .pour, .bills, .line]
      ∧ ((s.mapSuspended k).aimed.traveled v bodies due).pour = { s.stoppedBy .map with reAimed := false }
      ∧ ((s.mapSuspended k).aimed.traveled v bodies due).bills = s.bills.countSuspension
      ∧ ((s.mapSuspended k).aimed.traveled v bodies due).port
        = (s.port.raise s.count (.pourSuspended k.slot k.hold CauseSet.mapOnly)).raiseAll s.count bodies
      ∧ ((s.mapSuspended k).aimed.traveled v bodies due).travel = v := by
  refine ⟨?_, rfl, rfl, rfl, rfl⟩
  intro b hb
  cases b <;> first | rfl | simp at hb

/-- An order that finds travel PARKED is told of by TRAVEL_HELD, or not at all. -/
theorem heldNotice_parked {P : Prop} [Decidable P] {x : TravelState} {q q' : LocalPort} {now : Nat} {r : Range} {pos p : Int}
    (hx : x = if P then .releasing else .held) (hq : q' = q.raiseAll now (heldNotice .parked x r pos p)) :
    if P then x = .releasing ∧ q' = q
    else x = .held ∧ q' = q.raise now (.travelHeld (if p < pos then r.lowerTerm else r.upperTerm) pos p) := by
  unfold heldNotice at hq
  split
  · next h =>
    rw [if_pos h] at hx
    rw [hx] at hq
    exact ⟨hx, hq⟩
  · next h =>
    rw [if_neg h] at hx
    rw [hx] at hq
    exact ⟨hx, hq⟩

/-- A pour SUSPENDED by MAP alone, its belt at rest: MAP goes where the translation is that of the claim's hold, and stays elsewhere. -/
theorem State.mapTest_suspended {k : OwnClaim} (hs : s.pour.state = .suspended) (hc : s.pour.causes = CauseSet.mapOnly)
    (hk : s.fill.claim = some k) (hb : s.pour.beltOn = false) (hr : s.inputs.beltRunning = false) :
    s.onlyIn s.mapTest [.port, .line, .pour]
      ∧ (s.translate = .ok k.slot k.hold → s.mapTest = s.poured s.resumed [.pourSuspended k.slot k.hold CauseSet.empty] s.bills true)
      ∧ (s.translate ≠ .ok k.slot k.hold → s.mapTest = s) := by
  have hok := fun ht => State.mapTest_resumes hs hc hk ht hb hr
  have hoff := fun ht => State.mapTest_holds hs (by rw [hc]; rfl) hk ht
  refine ⟨?_, hok, hoff⟩
  by_cases ht : s.translate = .ok k.slot k.hold
  · rw [hok ht]
    exact State.onlyIn_poured_pour s _ _ _
  · rw [hoff ht]
    exact .refl s _

/-! ## Position samples (O45) -/

theorem positionSample_suspends {s : State} {v : BitVec 20} {x pos tip p : Int} {k : OwnClaim} {win : Int × Int} (hx : x = v.toNat)
    (hm : s.port.mode ≠ .config) (hmax : x ≤ 1000000) (hp : s.travel.position = some pos) (hnear : ¬fartherThan 300 x pos)
    (hk : s.fill.claim = some k) (hs : s.pour.state = .pouring ∨ s.pour.state = .throttled) (hg : s.pour.gate = .opened)
    (hc : s.pour.causes = CauseSet.empty) (hpark : s.travel.state = .parked) (hwin : s.window k.slot k.hold = some win)
    (htip : tip = x + s.block.spoutOffset) (hout : tip < win.1 ∨ win.2 < tip)
    (hpoint : p = (if tip < win.1 then win.1 else win.2) - s.block.spoutOffset) (hfar : fartherThan s.block.tolerance x p) :
    ∃ t r port, exec (.positionSample v) s = .next t ∧ s.onlyIn t [.travel, .port, .pour, .bills, .line]
      ∧ t.travel.range = some r ∧ t.travel.position = some x ∧ t.travel.target = some p ∧ t.travel.source = some .returning
      ∧ t.pour = { s.stoppedBy .map with reAimed := false } ∧ t.bills = s.bills.countSuspension
      ∧ port = s.port.raise s.count (.pourSuspended k.slot k.hold { CauseSet.empty with map := true })
      ∧ (if fartherThan s.block.tolerance x (stopPointOf r.lower r.upper x p) then t.travel.state = .releasing ∧ t.port = port
        else t.travel.state = .held
          ∧ t.port = port.raise s.count (.travelHeld (if p < x then r.lowerTerm else r.upperTerm) x p)) := by
  obtain ⟨r, hr⟩ := s.resampled_range x
  obtain ⟨lo, hi, hform⟩ := s.resampled_form x
  have hact : (s.resampled x).travelAct = (s.resampled x, none) :=
    State.travelAct_rests (s := s.resampled x) (by show s.travel.state ≠ _; rw [hpark]; nofun) (by show s.travel.state ≠ _; rw [hpark]; nofun)
  have hexec := exec_positionSample_accepted hm hx hmax (Travel.encoderFault_of_ne (by rw [hpark]; nofun))
    (fun q h => by rw [hp] at h; cases h; exact hnear)
  rw [hact, State.tellArrival_none] at hexec
  obtain ⟨z, due, htest, ⟨hpos, hrange, -⟩, htarget, hsource, hstate⟩ := State.mapTest_sendsBack (s := s.resampled x) (k := k) (win := win) (pos := x)
    (tip := tip) (p := p) (r := r) hs hg hc hk hwin rfl hr hpark htip hout hpoint hfar
  obtain ⟨honly, hpour, hbills, hport, htravel⟩ := (s.resampled x).sentBack_facts k z (heldNotice .parked z.state r x p) due
  rw [htest] at hexec
  generalize (State.aimed _).traveled _ _ _ = e at hexec honly hpour hbills hport htravel
  have hend := State.onlyIn_finish e
  have hendTravel : e.finish.travel = z := (State.finish_travel e).trans htravel
  have hendPour : e.finish.pour = e.pour := hend .pour (by decide)
  have hendBills : e.finish.bills = e.bills := hend .bills (by decide)
  have hendPort : e.finish.port = e.port := State.finish_port e
  refine ⟨e.finish, r, _, hexec, ?_, ?_, ?_, ?_, ?_, hendPour.trans hpour, hendBills.trans hbills, rfl, ?_⟩
  · have hsample : s.onlyIn (s.resampled x) [.travel, .line] := by
      rw [hform]
      exact State.onlyIn_traveled_silent s _ _
    exact (hsample.mono (by decide)).trans (honly.trans (hend.mono (by decide)))
  · rw [hendTravel, hrange, hr]
  · rw [hendTravel, hpos]
    rfl
  · rw [hendTravel, htarget]
  · rw [hendTravel, hsource]
  · rw [hendTravel]
    exact heldNotice_parked hstate (hendPort.trans hport)

theorem positionSample_resumes {s : State} {v : BitVec 20} {x pos : Int} {k : OwnClaim} (hx : x = v.toNat)
    (hm : s.port.mode ≠ .config) (hmax : x ≤ 1000000) (hp : s.travel.position = some pos) (hnear : ¬fartherThan 300 x pos)
    (hk : s.fill.claim = some k) (hs : s.pour.state = .suspended) (hc : s.pour.causes = CauseSet.mapOnly) (hb : s.pour.beltOn = false)
    (hrun : s.inputs.beltRunning = false) (hheld : s.travel.state ≠ .held) (hf : s.travel.state ≠ .faulted) :
    ∃ t, exec (.positionSample v) s = .next t ∧ s.onlyIn t [.travel, .port, .pour, .line] ∧ t.travel.position = some x
      ∧ t.travel.target = s.travel.target ∧ t.travel.source = s.travel.source
      ∧ (t.translate = .ok k.slot k.hold → t.pour = s.resumed
        ∧ t.port = s.port.raise s.count (.pourSuspended k.slot k.hold CauseSet.empty))
      ∧ (t.translate ≠ .ok k.slot k.hold → t.pour = s.pour ∧ t.port = s.port) := by
  obtain ⟨lo, hi, hform⟩ := s.resampled_form x
  obtain ⟨z, due, hact, hpos, htarget, hsource⟩ := (s.resampled x).travelAct_keeps hheld
  have hexec := exec_positionSample_accepted hm hx hmax (Travel.encoderFault_of_ne hf) (fun q h => by rw [hp] at h; cases h; exact hnear)
  rw [hact, State.tellArrival_none] at hexec
  obtain ⟨e, he⟩ : ∃ e, e = (s.resampled x).traveled z [] due := ⟨_, rfl⟩
  rw [← he] at hexec
  have honly : s.onlyIn e [.travel, .line] := by
    rw [he, hform, State.traveled_traveled]
    exact State.onlyIn_traveled_silent s _ _
  have hek : e.fill.claim = some k := (congrArg Fill.claim (honly .fill (by decide)) : _ = s.fill.claim).trans hk
  have hepour : e.pour = s.pour := honly .pour (by decide)
  have hecount : e.count = s.count := honly .count (by decide)
  have heport : e.port = s.port := honly .port (by decide)
  have heinputs : e.inputs = s.inputs := honly .inputs (by decide)
  have hetravel : e.travel = z := by rw [he]; rfl
  obtain ⟨hqonly, hok, hoff⟩ := State.mapTest_suspended (s := e) (by rw [hepour, hs]) (by rw [hepour, hc]) hek (by rw [hepour, hb])
    (by rw [heinputs, hrun])
  have hend := State.onlyIn_finish e.mapTest
  have hqtravel : e.mapTest.travel = e.travel := hqonly .travel (by decide)
  have hendTravel : e.mapTest.finish.travel = z := (State.finish_travel _).trans (hqtravel.trans hetravel)
  have hendPour : e.mapTest.finish.pour = e.mapTest.pour := hend .pour (by decide)
  have hendPort : e.mapTest.finish.port = e.mapTest.port := State.finish_port _
  have hrest : e.onlyIn e.mapTest.finish [.port, .line, .pour] := hqonly.trans (hend.mono (by decide))
  have htrans : e.mapTest.finish.translate = e.translate := State.translate_congr (hrest .cfg (by decide))
    (congrArg Travel.position (hrest .travel (by decide))) (hrest .berths (by decide))
  refine ⟨_, hexec, (honly.mono (by decide)).trans (hrest.mono (by decide)), ?_, ?_, ?_, fun ht => ?_, fun ht => ?_⟩
  · rw [hendTravel, hpos]
    rfl
  · rw [hendTravel, htarget]
    rfl
  · rw [hendTravel, hsource]
    rfl
  · have hq := hok (htrans.symm.trans ht)
    rw [hendPour, hendPort, hq]
    refine ⟨?_, ?_⟩
    · show e.resumed = s.resumed
      unfold State.resumed
      rw [hepour, hecount]
    · show e.port.raise e.count _ = _
      rw [heport, hecount]
  · have hq := hoff fun h => ht (htrans.trans h)
    rw [hendPour, hendPort, hq]
    exact ⟨hepour, heport⟩

end Sys2Proof.Machine

end

section
/-! SHIFT VESSEL with a line open, and FAULT CLEAR with MAP held (sections 7.6, 1.3.4 and 5.10): O45. -/

namespace Sys2Proof.Machine

variable {s t u w : State}

/-! ## SHIFT VESSEL that leaves the tip outside the window (assumption 33) -/

/-- The checks of SHIFT VESSEL pass. -/
theorem State.shiftVessel_checks {slot bow : Nat} {x : Slot} {ses moved : Session} (hx : Slot.ofCode? slot = some x)
    (hs : s.session x = some ses) (hbow : bow ≤ 1000000) (hmoved : moved = { ses with bowMark := (bow : Int) }) (hlo : 0 ≤ moved.span.1)
    (hhi : moved.span.2 ≤ 1000000) (hclear : ∀ o, s.session x.other = some o → overlap moved.span o.span = false) :
    firstFailure (s.mapChecks (.shiftVessel slot bow)) = none := by
  subst hmoved
  have hspan : s.shiftedSpan x bow = ({ ses with bowMark := (bow : Int) } : Session).span := by simp [State.shiftedSpan, hs]
  have hrail : onRail ({ ses with bowMark := (bow : Int) } : Session).span = true := by simp [onRail, Config.railMax, hlo, hhi]
  have hapart : s.clearOfOther x ({ ses with bowMark := (bow : Int) } : Session).span = true := by
    unfold State.clearOfOther
    split
    · next o ho => rw [hclear o ho]; rfl
    · rfl
  refine (firstFailure_passed (State.slotChecks_passed hx hs) _).trans ?_
  rw [slotOf_of hx, hspan, hrail, hapart]
  exact firstFailure_eq_none.2 (by simp [fieldIn, fieldOk, orElse, hbow])

/-- The shift with a line open, the new window away from the tip: MAP is held after it, and the order goes to the new pour point. -/
theorem State.shiftPour_sendsBack {k : OwnClaim} {win : Int × Int} {pos tip p : Int} (hk : s.fill.claim = some k)
    (hwin : s.window k.slot k.hold = some win) (hp : s.travel.position = some pos) (hpark : s.travel.state = .parked)
    (htip : tip = pos + s.block.spoutOffset) (hout : tip < win.1 ∨ win.2 < tip)
    (hpoint : p = (if tip < win.1 then win.1 else win.2) - s.block.spoutOffset) (hfar : fartherThan s.block.tolerance pos p)
    (hpour : (s.pour.state = .pouring ∨ s.pour.state = .throttled) ∧ s.pour.gate = .opened ∧ s.pour.causes = CauseSet.empty
      ∨ s.pour.state = .suspended ∧ s.pour.causes = CauseSet.mapOnly) :
    ∃ r, s.onlyIn s.shiftPour [.travel, .port, .pour, .bills, .line] ∧ s.shiftPour.travel.range = some r
      ∧ s.shiftPour.travel.target = some p ∧ s.shiftPour.travel.source = some .returning
      ∧ s.shiftPour.travel.state = (if fartherThan s.block.tolerance pos (stopPointOf r.lower r.upper pos p) then .releasing else .held)
      ∧ (s.pour.causes = CauseSet.empty →
          s.shiftPour.pour = { s.stoppedBy .map with reAimed := false } ∧ s.shiftPour.bills = s.bills.countSuspension)
      ∧ (s.pour.state = .suspended → s.shiftPour.pour = { s.pour with reAimed := false } ∧ s.shiftPour.bills = s.bills) := by
  obtain ⟨r, hr⟩ := State.recompute_range hp
  have hopen : s.lineOpen = true := by
    rcases hpour with ⟨h | h, -⟩ | ⟨h, -⟩ <;> exact State.lineOpen_of h rfl
  have hshift : s.shiftPour
      = if s.pour.causes.map && s.recompute.mapTest.pour.causes.map then s.recompute.mapTest.placeReturn else s.recompute.mapTest := by
    unfold State.shiftPour
    rw [if_pos hopen, State.travelEvent_rests (by rw [hpark]; nofun) (by rw [hpark]; nofun)]
  have honly : s.onlyIn s.recompute [.travel] := by
    intro b hb
    cases b <;> first | rfl | simp at hb
  rcases hpour with ⟨hs, hg, hc⟩ | ⟨hs, hc⟩
  · obtain ⟨v, due, htest, ⟨-, hrange, -⟩, htarget, hsource, hstate⟩ := State.mapTest_sendsBack (s := s.recompute) (k := k) (win := win)
      (pos := pos) (tip := tip) (p := p) (r := r) hs hg hc hk hwin hp hr hpark htip hout hpoint hfar
    obtain ⟨hback, hbpour, hbbills, -, hbtravel⟩ := s.recompute.sentBack_facts k v (heldNotice .parked v.state r pos p) due
    have hresult : s.shiftPour = s.recompute.mapTest := hshift.trans (by rw [hc]; rfl)
    rw [hresult, htest]
    refine ⟨r, (honly.mono (by decide)).trans hback, hrange.trans hr, htarget, hsource, hstate, fun _ => ⟨hbpour, hbbills⟩, fun h => ?_⟩
    rcases hs with hs | hs <;> rw [hs] at h <;> cases h
  · have hwait : s.recompute.mapTest = s.recompute := State.mapTest_holds (s := s.recompute) hs (by rw [show s.recompute.pour = s.pour from rfl, hc]; rfl) hk
      (State.translate_outside (s := s.recompute) hk hwin (by rw [htip]; exact State.tip_of hp) hout)
    obtain ⟨v, due, hplace, ⟨-, hrange, -⟩, htarget, hsource, hstate⟩ := State.placeReturn_orders (s := s.recompute) (c := k) (win := win)
      (pos := pos) (tip := tip) (p := p) (r := r) hk hwin hp hr (by rw [show s.recompute.pour = s.pour from rfl, hc]; rfl) hpark htip hout hpoint hfar
    have hresult : s.shiftPour = s.recompute.placeReturn :=
      hshift.trans (by rw [hwait, show s.recompute.pour = s.pour from rfl, hc]; rfl)
    rw [hresult, hplace]
    refine ⟨r, ?_, hrange.trans hr, htarget, hsource, hstate, fun h => ?_, fun _ => ⟨rfl, rfl⟩⟩
    · intro b hb
      cases b <;> first | rfl | simp at hb
    · rw [hc] at h
      cases h

theorem shiftVessel_sendsBack {s : State} {k : OwnClaim} {ses moved : Session} {slot bow : Nat} {hp : HoldPlan} {win : Int × Int} {pos tip p : Int}
    (hm : s.port.mode ≠ .config) (hpost : s.port.mailbox = .posted (.shiftVessel slot bow)) (hx : Slot.ofCode? slot = some k.slot)
    (hses : s.session k.slot = some ses) (hk : s.fill.claim = some k) (hbow : bow ≤ 1000000)
    (hmoved : moved = { ses with bowMark := (bow : Int) }) (hlo : 0 ≤ moved.span.1) (hhi : moved.span.2 ≤ 1000000)
    (hclear : ∀ o, s.session k.slot.other = some o → overlap moved.span o.span = false) (hplan : s.plan k.slot k.hold = some hp)
    (hwin : win = moved.pourWindow hp) (hpos : s.travel.position = some pos) (htip : tip = pos + s.block.spoutOffset)
    (hout : tip < win.1 ∨ win.2 < tip) (hpoint : p = (if tip < win.1 then win.1 else win.2) - s.block.spoutOffset)
    (hfar : fartherThan s.block.tolerance pos p) (hpark : s.travel.state = .parked)
    (hpour : (s.pour.state = .pouring ∨ s.pour.state = .throttled) ∧ s.pour.gate = .opened ∧ s.pour.causes = CauseSet.empty
      ∨ s.pour.state = .suspended ∧ s.pour.causes = CauseSet.mapOnly) :
    ∃ t r, exec .shiftVessel s = .next t ∧ s.onlyIn t [.berths, .travel, .port, .pour, .bills, .line]
      ∧ t.session k.slot = some moved ∧ t.travel.range = some r ∧ t.travel.target = some p ∧ t.travel.source = some .returning
      ∧ t.travel.state = (if fartherThan s.block.tolerance pos (stopPointOf r.lower r.upper pos p) then .releasing else .held)
      ∧ t.port.mailbox = doneReply []
      ∧ (s.pour.causes = CauseSet.empty →
          t.pour = { s.stoppedBy .map with reAimed := false } ∧ t.bills = s.bills.countSuspension)
      ∧ (s.pour.state = .suspended → t.pour = { s.pour with reAimed := false } ∧ t.bills = s.bills) := by
  obtain ⟨v, hv⟩ : ∃ v, v = s.rebowed k.slot moved := ⟨_, rfl⟩
  have hvform : v = { s with berths := v.berths } := by rw [hv]; rfl
  have hvwin : v.window k.slot k.hold = some win := by
    rw [hv, hwin]
    exact State.rebowed_window hses (by rw [hmoved]) hplan
  have hexec : exec .shiftVessel s = .next (v.shiftPour.done []).finish := by
    rw [exec_shiftVessel_moves hm hpost hx (State.shiftVessel_checks hx hses hbow hmoved hlo hhi hclear), State.shiftVessel_claimed hk hses,
      ← hmoved, ← hv]
  obtain ⟨r, honly, hrange, htarget, hsource, hstate, hempty, hsusp⟩ := State.shiftPour_sendsBack (s := v) (k := k) (win := win) (pos := pos) (tip := tip)
    (p := p) (by rw [hvform]; exact hk) hvwin (by rw [hvform]; exact hpos) (by rw [hvform]; exact hpark) (by rw [hvform]; exact htip) hout
    (by rw [hvform]; exact hpoint) (by rw [hvform]; exact hfar) (by rw [hvform]; exact hpour)
  obtain ⟨hend, hport⟩ := State.finish_done v.shiftPour []
  have hendTravel : _ = v.shiftPour.travel := hend .travel (by decide)
  have hendPour : _ = v.shiftPour.pour := hend .pour (by decide)
  have hendBills : _ = v.shiftPour.bills := hend .bills (by decide)
  have hberths : _ = v.berths := (honly.trans (hend.mono (by decide))) .berths (by decide)
  refine ⟨_, r, hexec, ?_, ?_, by rw [hendTravel, hrange], by rw [hendTravel, htarget], by rw [hendTravel, hsource], ?_, by rw [hport],
    fun h => ?_, fun h => ?_⟩
  · have hvonly : s.onlyIn v [.berths] := hv ▸ State.onlyIn_rebowed s _ _
    exact (hvonly.mono (by decide)).trans ((honly.mono (by decide)).trans (hend.mono (by decide)))
  · refine (congrArg Berth.session (State.berth_congr hberths k.slot)).trans ?_
    rw [hv]
    exact State.rebowed_session hses moved
  · rw [hendTravel, hstate, hvform]
    rfl
  · obtain ⟨h1, h2⟩ := hempty (by rw [hvform]; exact h)
    rw [hendPour, hendBills, h1, h2, hvform]
    exact ⟨rfl, rfl⟩
  · obtain ⟨h1, h2⟩ := hsusp (by rw [hvform]; exact h)
    rw [hendPour, hendBills, h1, h2, hvform]
    exact ⟨rfl, rfl⟩

end Sys2Proof.Machine

end

section
/-! FAULT CLEAR with MAP held (section 5.10): O45. -/

namespace Sys2Proof.Machine

variable {s t u w : State}

/-! ## FAULT CLEAR with MAP and TRAVEL held (assumption 34) -/

theorem Pour.belted_state (p : Pour) (running : Bool) (timer : Timer) (on : Bool) :
    (p.belted running timer on).state = p.state ∧ (p.belted running timer on).reAimed = p.reAimed := by
  unfold Pour.belted
  repeat' split
  all_goals exact ⟨rfl, rfl⟩

/-- TRAVEL goes and MAP stays: the pour stays SUSPENDED, its belt by the cause left. -/
theorem State.removeCause_leavesMap {k : OwnClaim} (hs : s.pour.state = .suspended)
    (hc : s.pour.causes = { CauseSet.empty with map := true, travel := true }) (hk : s.fill.claim = some k) :
    ∃ q, s.removeCause .travel = s.poured q [.pourSuspended k.slot k.hold CauseSet.mapOnly] s.bills s.line.statusDue
      ∧ q.state = .suspended ∧ q.causes = CauseSet.mapOnly ∧ q.reAimed = s.pour.reAimed := by
  have hopen : s.lineOpen = true := State.lineOpen_of hs rfl
  have hput : s.pour.causes.put false .travel = CauseSet.mapOnly := by rw [hc]; rfl
  have hset := State.setCauses_lineOpen (s := s) (c := CauseSet.mapOnly) (by rw [hc]; exact fun h => by cases h) hk hopen
  obtain ⟨p, hp⟩ : ∃ p, p = { s.pour with
      causes := CauseSet.mapOnly, passSuspended := s.pour.passSuspended || !CauseSet.mapOnly.isEmpty } := ⟨_, rfl⟩
  have hform : s.removeCause .travel = (s.poured p [.pourSuspended k.slot k.hold CauseSet.mapOnly] s.bills s.line.statusDue).beltByCauses := by
    have hafter : ((s.onPour (fun p => { p with causes := CauseSet.mapOnly, passSuspended := p.passSuspended || !CauseSet.mapOnly.isEmpty })).notify
        (.pourSuspended k.slot k.hold CauseSet.mapOnly)).onPour (fun p => { p with beltRetryTimer := if SuspendCause.travel = .belt then none else p.beltRetryTimer })
        = s.poured p [.pourSuspended k.slot k.hold CauseSet.mapOnly] s.bills s.line.statusDue := by
      rw [hp]
      rfl
    unfold State.removeCause
    rw [if_pos (by rw [hopen, hc]; rfl), hput, hset]
    dsimp only
    rw [hafter, State.poured_pour, show p.state = .suspended by rw [hp]; exact hs]
    exact if_neg (by rw [hp]; exact Bool.false_ne_true)
  obtain ⟨-, hcauses⟩ := p.belted_kept s.inputs.beltRunning (s.timer Config.beltStartMs) (!p.causes.stopsBelt)
  obtain ⟨hstate, haim⟩ := p.belted_state s.inputs.beltRunning (s.timer Config.beltStartMs) (!p.causes.stopsBelt)
  refine ⟨p.belted s.inputs.beltRunning (s.timer Config.beltStartMs) (!p.causes.stopsBelt), ?_, ?_, ?_, ?_⟩
  · rw [hform]
    rfl
  · rw [hstate, hp]
    exact hs
  · rw [hcauses, hp]
  · rw [haim, hp]

/-- The order placed again, before TRAVEL is removed. -/
theorem State.refreshed_sendsBack {k : OwnClaim} {win : Int × Int} {pos tip p : Int} (hcause : s.travel.cause = some .brake)
    (hsince : s.travel.sampleSince = true) (hc : s.pour.causes.map = true) (hk : s.fill.claim = some k)
    (hp : s.travel.position = some pos) (hwin : s.window k.slot k.hold = some win) (htip : tip = pos + s.block.spoutOffset)
    (hout : tip < win.1 ∨ win.2 < tip) (hpoint : p = (if tip < win.1 then win.1 else win.2) - s.block.spoutOffset)
    (hfar : fartherThan s.block.tolerance pos p) :
    s.travel.sampled = true ∧ ∃ v due r, s.refreshed.placeReturn = s.refreshed.aimed.traveled v (heldNotice .parked v.state r pos p) due
      ∧ v.range = some r ∧ v.cause = none ∧ v.target = some p ∧ v.source = some .returning
      ∧ v.state = (if fartherThan s.block.tolerance pos (stopPointOf r.lower r.upper pos p) then .releasing else .held) := by
  have hnofault : s.travel.encoderFault = false := by
    unfold Travel.encoderFault
    rw [hcause]
    cases s.travel.state <;> rfl
  have hsampled : s.travel.sampled = true := (Travel.sampled_iff _).2 (.inr ⟨hnofault, hsince⟩)
  have htravel := State.refreshed_travel hsampled
  rw [hnofault] at htravel
  have hposition : s.refreshed.travel.position = some pos := by rw [htravel]; exact hp
  obtain ⟨r, hr⟩ := State.recompute_range (s := (s.onTravel Travel.cleared).markStatus) (pos := pos) hposition
  obtain ⟨v, due, hplace, ⟨-, hrange, hvcause⟩, htarget, hsource, hstate⟩ := State.placeReturn_orders (s := s.refreshed) (c := k) (win := win)
    (pos := pos) (tip := tip) (p := p) (r := r) hk hwin hposition hr hc rfl htip hout hpoint hfar
  exact ⟨hsampled, v, due, r, hplace, hrange.trans hr, hvcause, htarget, hsource, hstate⟩

/-- The order's notice before that of the cause removed. -/
theorem heldNotice_then {P : Prop} [Decidable P] {x : TravelState} {q q' : LocalPort} {now : Nat} {r : Range} {pos p : Int} {n : NoticeBody}
    {m : Mailbox} (hx : x = if P then .releasing else .held)
    (hq : q' = { (q.raiseAll now (heldNotice .parked x r pos p)).raise now n with mailbox := m }) :
    if P then x = .releasing ∧ q' = { q.raise now n with mailbox := m }
    else x = .held ∧ q' = { (q.raise now (.travelHeld (if p < pos then r.lowerTerm else r.upperTerm) pos p)).raise now n with mailbox := m } := by
  have told := heldNotice_parked (q := q) (now := now) (r := r) (pos := pos) (p := p) hx rfl
  split
  · next h =>
    rw [if_pos h] at told
    exact ⟨told.1, by rw [hq, told.2]⟩
  · next h =>
    rw [if_neg h] at told
    exact ⟨told.1, by rw [hq, told.2]⟩

theorem faultClear_sendsBack {s : State} {k : OwnClaim} {win : Int × Int} {pos tip p : Int} (hm : s.port.mode ≠ .config)
    (hpost : s.port.mailbox = .posted .faultClear) (hf : s.travel.state = .faulted) (hcause : s.travel.cause = some .brake)
    (hsince : s.travel.sampleSince = true) (hb : s.inputs.brakeReleased = false) (hs : s.pour.state = .suspended)
    (hc : s.pour.causes = { CauseSet.empty with map := true, travel := true }) (hk : s.fill.claim = some k)
    (hp : s.travel.position = some pos) (hwin : s.window k.slot k.hold = some win) (htip : tip = pos + s.block.spoutOffset)
    (hout : tip < win.1 ∨ win.2 < tip) (hpoint : p = (if tip < win.1 then win.1 else win.2) - s.block.spoutOffset)
    (hfar : fartherThan s.block.tolerance pos p) :
    ∃ t r, exec .faultClear s = .next t ∧ s.onlyIn t [.travel, .port, .pour, .line] ∧ t.travel.range = some r
      ∧ t.travel.cause = none ∧ t.travel.target = some p ∧ t.travel.source = some .returning
      ∧ t.pour.state = .suspended ∧ t.pour.causes = { CauseSet.empty with map := true } ∧ t.pour.reAimed = false
      ∧ (if fartherThan s.block.tolerance pos (stopPointOf r.lower r.upper pos p) then
          t.travel.state = .releasing
            ∧ t.port = { s.port.raise s.count (.pourSuspended k.slot k.hold { CauseSet.empty with map := true }) with
                mailbox := doneReply [] }
        else t.travel.state = .held
          ∧ t.port = { (s.port.raise s.count (.travelHeld (if p < pos then r.lowerTerm else r.upperTerm) pos p)).raise s.count
                (.pourSuspended k.slot k.hold { CauseSet.empty with map := true }) with mailbox := doneReply [] }) := by
  have hmap : s.pour.causes.map = true := by rw [hc]
  obtain ⟨hsampled, v, due, r, hplace, hrange, hvcause, htarget, hsource, hstate⟩ :=
    State.refreshed_sendsBack hcause hsince hmap hk hp hwin htip hout hpoint hfar
  obtain ⟨e, he⟩ : ∃ e, e = s.refreshed.aimed.traveled v (heldNotice .parked v.state r pos p) due := ⟨_, rfl⟩
  have hepour : e.pour = { s.pour with reAimed := false } := by rw [he]; rfl
  have hefill : e.fill = s.fill := by rw [he]; rfl
  have hecount : e.count = s.count := by rw [he]; rfl
  have heport : e.port = s.port.raiseAll s.count (heldNotice .parked v.state r pos p) := by rw [he]; rfl
  have hetravel : e.travel = v := by rw [he]; rfl
  have heonly : s.onlyIn e [.travel, .port, .pour, .line] := by
    rw [he]
    exact ((State.onlyIn_refreshed s).mono (by decide)).trans (((State.onlyIn_onPour s.refreshed _).mono (by decide)).trans
      ((State.onlyIn_traveled s.refreshed.aimed _ _ _).mono (by decide)))
  obtain ⟨q, hremove, hqstate, hqcauses, hqaim⟩ := State.removeCause_leavesMap (s := e) (k := k) (by rw [hepour]; exact hs)
    (by rw [hepour]; exact hc) (by rw [hefill, hk])
  have hexec : exec .faultClear s
      = .next ((e.poured q [.pourSuspended k.slot k.hold CauseSet.mapOnly] e.bills e.line.statusDue).done []).finish := by
    rw [exec_faultClear hm hpost, State.judged_passed (State.clearChecks_pass hf hsampled hb)]
    refine congrArg (fun v : State => Host.Outcome.next (v.done []).finish) ?_
    show State.pourAfterClear s.refreshed = _
    unfold State.pourAfterClear
    rw [if_neg (by show ¬s.pour.state = _; rw [hs]; nofun), hplace, ← he, hremove]
  obtain ⟨hend, hport⟩ := State.finish_done (e.poured q [.pourSuspended k.slot k.hold CauseSet.mapOnly] e.bills e.line.statusDue) []
  have hendTravel : _ = e.travel := hend .travel (by decide)
  have hendPour : _ = q := hend .pour (by decide)
  rw [hetravel] at hendTravel
  refine ⟨_, r, hexec, ?_, by rw [hendTravel, hrange], by rw [hendTravel, hvcause], by rw [hendTravel, htarget], by rw [hendTravel, hsource],
    by rw [hendPour, hqstate], by rw [hendPour, hqcauses]; rfl, by rw [hendPour, hqaim, hepour], ?_⟩
  · exact heonly.trans (((State.onlyIn_poured_pour e _ _ _).mono (by decide)).trans (hend.mono (by decide)))
  · rw [hendTravel]
    refine heldNotice_then hstate (hport.trans ?_)
    rw [State.poured_port, heport, hecount]
    rfl

end Sys2Proof.Machine

open Sys2Proof Sys2Proof.Machine

/-- Settles O45. MAP follows the translation at each of its events; where it is held with the tip outside the window and travel PARKED,
the RETURN order goes to the pour point. -/
theorem mapSuspendsThePourAndSendsTheLoaderBack : Obligations.MapSuspendsThePourAndSendsTheLoaderBack := by
  unfold Obligations.MapSuspendsThePourAndSendsTheLoaderBack
  refine ⟨fun s slot k ses d _ hm hx hses hcount hd hk => ⟨fun hpost hs hg hc ht => ?_, fun hpost hs hc hb hr => ?_⟩,
    fun s v x pos k _ hx hm hmax hp hnear hk => ⟨fun win tip p hs hg hc hpark hwin htip hout hpoint hfar => ?_, fun hs hc hb hr hheld hf => ?_⟩,
    fun s k ses moved slot bow hp win pos tip p _ hm hpost hx hses hk hbow hmoved hlo hhi hclear hplan hwin hpos htip hout hpoint hfar hpark
      hpour => ?_,
    fun s k win pos tip p _ hm hpost hf hcause hsince hb hs hc hk hpos hwin htip hout hpoint hfar => ?_⟩
  · exact setHatch_suspends hm hx hses hcount hd hk hpost hs hg hc ht
  · exact setHatch_resumes hm hx hses hcount hd hk hpost hs hc hb hr
  · exact positionSample_suspends hx hm hmax hp hnear hk hs hg hc hpark hwin htip hout hpoint hfar
  · exact positionSample_resumes hx hm hmax hp hnear hk hs hc hb hr hheld hf
  · exact shiftVessel_sendsBack hm hpost hx hses hk hbow hmoved hlo hhi hclear hplan hwin hpos htip hout hpoint hfar hpark hpour
  · exact faultClear_sendsBack hm hpost hf hcause hsince hb hs hc hk hpos hwin htip hout hpoint hfar

end
